-- ==== Sys2Proof/Word.lean ====
section
/-! DEFINITION. The word types: a byte and a 32-bit register (R9). Addresses, counts, times and
identifiers are natural numbers; only what the manual treats as a word of bits is a bit vector. -/

namespace Sys2Proof

/-- One byte of memory, of an image or of a packet. -/
abbrev Byte := BitVec 8

/-- A run of bytes, lowest address first. -/
abbrev Bytes := List Byte

/-- A register of BAR0: all registers are 32 bits wide (R9). -/
abbrev Word := BitVec 32

/-- Plain natural number as a register word; the bits above 31 are dropped. -/
abbrev word (n : Nat) : Word := BitVec.ofNat 32 n

end Sys2Proof
end

