-- ==== Sys2Proof/Machine/Bits.lean ====
section
/-! DEFINITION. Bit ranges, little-endian byte strings (R8), the pseudocode operators of R13, and
rounding of exact quotients (R173). -/

namespace Sys2Proof.Machine

/-- `x[lo + n − 1 : lo]` as an unsigned value (R13). -/
def bits (x lo n : Nat) : Nat := (x >>> lo) % 2 ^ n

/-- Bit `i` of `x`. -/
def bit (x i : Nat) : Bool := bits x i 1 == 1

/-- A flag as a register bit. -/
def b2n (b : Bool) : Nat := if b then 1 else 0

/-- A register value from its fields, each (lowest bit, width, value); a value is cut to its width. -/
def packFields (fs : List (Nat × Nat × Nat)) : Nat :=
  fs.foldl (fun acc f => acc ||| ((f.2.2 % 2 ^ f.2.1) <<< f.1)) 0

/-- A register word from its fields. -/
def packWord (fs : List (Nat × Nat × Nat)) : Word := word (packFields fs)

/-- `x` with bits [lo + n − 1 : lo] replaced by `v`. -/
def setBits (x lo n v : Nat) : Nat :=
  (x - ((bits x lo n) <<< lo)) + ((v % 2 ^ n) <<< lo)

/-- The value of a little-endian byte string (R8). -/
def leNat : Bytes → Nat
  | [] => 0
  | b :: bs => b.toNat + 256 * leNat bs

/-- `n` bytes of `v`, little-endian (R8). -/
def leBytes : Nat → Nat → Bytes
  | 0, _ => []
  | n + 1, v => BitVec.ofNat 8 v :: leBytes n (v / 256)

/-- The value of a big-endian byte string (digests and protocol headers). -/
def beNat (bs : Bytes) : Nat := bs.foldl (fun acc b => acc * 256 + b.toNat) 0

/-- `n` bytes of `v`, big-endian. -/
def beBytes (n v : Nat) : Bytes := (leBytes n v).reverse

/-- The `n` bytes of `bs` from offset `off`, as a little-endian value. -/
def field (bs : Bytes) (off n : Nat) : Nat := leNat ((bs.drop off).take n)

/-- The `n` bytes of `bs` from offset `off`. -/
def slice (bs : Bytes) (off n : Nat) : Bytes := (bs.drop off).take n

/-- True when the `n` bytes from `off` are all 0. -/
def zeroAt (bs : Bytes) (off n : Nat) : Bool := (slice bs off n).all (· == 0)

/-- `n` bytes of 0. -/
def zeros (n : Nat) : Bytes := List.replicate n 0

/-- Smallest multiple of `k` at or above `n`. -/
def roundUp (n k : Nat) : Nat := (n + k - 1) / k * k

/-- Ceiling of a / b. -/
def ceilDiv (a b : Nat) : Nat := (a + b - 1) / b

/-- Saturation at 2^n − 1, as for the saturating counters. -/
def satTo (n v : Nat) : Nat := min v (2 ^ n - 1)

/-- `a div b` rounded to the nearest integer, halves away from zero (R173), for b > 0. -/
def rha (a b : Int) : Int :=
  if a ≥ 0 then (2 * a + b) / (2 * b) else -((2 * (-a) + b) / (2 * b))

/-- `x` limited to lo … hi. -/
def clampInt (x lo hi : Int) : Int := if x < lo then lo else if hi < x then hi else x

/-- The signed value of the low `n` bits of `x`. -/
def signed (n x : Nat) : Int :=
  let v := x % 2 ^ n
  if v < 2 ^ (n - 1) then (v : Int) else (v : Int) - (2 ^ n : Nat)

/-- The `n`-bit two's-complement code of `x`. -/
def unsigned (n : Nat) (x : Int) : Nat := (x % (2 ^ n : Nat)).toNat

/-- Rotation of the w-bit value x right by n bits. -/
def rotr (w x n : Nat) : Nat := ((x >>> n) ||| (x <<< (w - n))) % 2 ^ w

/-- `f` applied to the indices 0 … n − 1. -/
def tabulate {α : Type} (n : Nat) (f : Nat → α) : List α := (List.range n).map f

/-- Sum of a list of natural numbers. -/
def sumNat (xs : List Nat) : Nat := xs.foldl (· + ·) 0

/-- Sum of a list of integers. -/
def sumInt (xs : List Int) : Int := xs.foldl (· + ·) 0

/-- Largest of a list, 0 for the empty one. -/
def maxNat (xs : List Nat) : Nat := xs.foldl max 0

/-- True when no value occurs twice. -/
def distinct {α : Type} [BEq α] : List α → Bool
  | [] => true
  | x :: xs => !xs.contains x && distinct xs

/-- `x` put into an ascending list without repeats. -/
def insertNat (x : Nat) : List Nat → List Nat
  | [] => [x]
  | y :: ys => if x < y then x :: y :: ys else if x = y then y :: ys else y :: insertNat x ys

/-- The values of a list, ascending and without repeats. -/
def sortNat (xs : List Nat) : List Nat := xs.foldl (fun acc x => insertNat x acc) []

/-- `xs` with element `i` replaced by `v`; unchanged when there is no element `i`. -/
def setAt {α : Type} (xs : List α) (i : Nat) (v : α) : List α := xs.set i v

/-- Element `i`, or `d` beyond the end. -/
def nth {α : Type} (xs : List α) (i : Nat) (d : α) : α := xs.getD i d

/-- Element `i` changed by `f`. -/
def updAt {α : Type} (xs : List α) (i : Nat) (f : α → α) : List α := xs.modify i f

end Sys2Proof.Machine
end

