-- ==== Sys2Proof/Machine/CMap.lean ====
section
/-! DEFINITION. Sparse data by key: lists of (key, value) pairs with strictly rising keys. A memory
is such a list with a default value that is never listed, so equal memories are equal lists. -/

namespace Sys2Proof.Machine

/-- A sparse table: keys strictly rising. DESIGN CHOICE, log 7. -/
abbrev CMap (α : Type) := List (Nat × α)

/-- The entry at key `k`. -/
def CMap.find {α : Type} : CMap α → Nat → Option α
  | [], _ => none
  | (j, v) :: m, k => if j = k then some v else if k < j then none else CMap.find m k

/-- The table with entry `v` at key `k`. -/
def CMap.put {α : Type} : CMap α → Nat → α → CMap α
  | [], k, v => [(k, v)]
  | (j, w) :: m, k, v =>
    if j = k then (k, v) :: m else if k < j then (k, v) :: (j, w) :: m else (j, w) :: CMap.put m k v

/-- The table without an entry at key `k`. -/
def CMap.del {α : Type} : CMap α → Nat → CMap α
  | [], _ => []
  | (j, w) :: m, k => if j = k then m else if k < j then (j, w) :: m else (j, w) :: CMap.del m k

/-- What key `k` reads as when an unlisted key reads as `d`. -/
def CMap.get {α : Type} (d : α) (m : CMap α) (k : Nat) : α := (m.find k).getD d

/-- A write of `v` at key `k` when an unlisted key reads as `d`: writing `d` removes the entry. -/
def CMap.set {α : Type} [DecidableEq α] (d : α) (m : CMap α) (k : Nat) (v : α) : CMap α :=
  if v = d then m.del k else m.put k v

/-- True when key `k` has an entry. -/
def CMap.has {α : Type} (m : CMap α) (k : Nat) : Bool := (m.find k).isSome

/-- The entry at key `k` changed by `f`; nothing without an entry. -/
def CMap.upd {α : Type} (m : CMap α) (k : Nat) (f : α → α) : CMap α :=
  match m.find k with
  | some v => m.put k (f v)
  | none => m

/-- The keys, rising. -/
def CMap.keys {α : Type} (m : CMap α) : List Nat := m.map (·.1)

/-- The entries, in order of their keys. -/
def CMap.vals {α : Type} (m : CMap α) : List α := m.map (·.2)

/-- The canonical form of a table: keys strictly rising. -/
def CMap.sorted {α : Type} : CMap α → Bool
  | [] => true
  | [_] => true
  | (j, _) :: (k, w) :: m => decide (j < k) && CMap.sorted ((k, w) :: m)

/-- The canonical form of a memory whose unlisted cells read as `d`. DESIGN CHOICE, log 7. -/
def CMap.wf {α : Type} [DecidableEq α] (d : α) (m : CMap α) : Bool :=
  m.sorted && m.all (fun p => decide (p.2 ≠ d))

/-- Smallest of 0 … n − 1 that is no key. -/
def CMap.free {α : Type} (m : CMap α) (n : Nat) : Option Nat :=
  (List.range n).find? (fun k => !m.has k)

/-- The bytes from address `a`, unlisted ones 0. -/
def readMem (m : CMap Byte) (a n : Nat) : Bytes := (List.range n).map (fun i => m.get 0 (a + i))

/-- The bytes stored from address `a` upward. -/
def writeMem (m : CMap Byte) (a : Nat) : Bytes → CMap Byte
  | [] => m
  | b :: bs => writeMem (m.set 0 a b) (a + 1) bs

/-- `n` bytes of 0 stored from address `a`. -/
def clearMem (m : CMap Byte) (a n : Nat) : CMap Byte := m.filter (fun p => p.1 < a || a + n ≤ p.1)

end Sys2Proof.Machine
end

