-- ==== Sys2Proof/Machine/Packet.lean ====
section
/-! DEFINITION. Command packets and completions (R436, R437), where packets come from (R439), what a
command brings with it, and what the block sends out. -/

namespace Sys2Proof.Machine

/-- Where a forwarded packet first arrived at its forwarding device, or that device's firmware (R439). -/
inductive Origin where
  | ring (r : Nat)
  | endpoint (eid : Nat)
  | firmware
  deriving DecidableEq, Repr

/-- The source of a packet (R439): a command ring of PF1, an MCTP endpoint, or a device over fabric class 1. -/
inductive Source where
  | ring (r : Nat)
  | mctp (eid : Nat)
  | fabric (dev : Nat) (origin : Origin)
  deriving DecidableEq, Repr

/-- A command packet of Table 15-1 but for its opcode, which the command's row gives. `rsv2` is byte 2
bits [7:3], `rsv8` bits [31:30] of bytes 8–11; `params` is packet bytes 16–63, byte 16 lowest. -/
structure Packet where
  ordered : Bool := false
  urgent  : Bool := false
  retry   : Bool := false
  rsv2    : Nat := 0
  cred    : Nat := 0
  tag     : Nat := 0
  unit    : Nat := 0
  device  : Nat := 0
  remote  : Bool := false
  rsv8    : Nat := 0
  gen     : Nat := 0
  params  : BitVec 384 := 0
  deriving DecidableEq, Repr

/-- Field of `n` bytes at packet byte `off`, 16 ≤ off (R436). -/
def Packet.f (p : Packet) (off n : Nat) : Nat := bits p.params.toNat (8 * (off - 16)) (8 * n)

/-- The 64 bytes of a packet with an opcode (Table 15-1). -/
def Packet.bytes (opcode : Nat) (p : Packet) : Bytes :=
  leBytes 2 opcode
  ++ leBytes 1 (packFields [(0, 1, b2n p.ordered), (1, 1, b2n p.urgent), (2, 1, b2n p.retry), (3, 5, p.rsv2)])
  ++ leBytes 1 p.cred ++ leBytes 4 p.tag
  ++ leBytes 4 (packFields [(0, 16, p.unit), (16, 13, p.device), (29, 1, b2n p.remote), (30, 2, p.rsv8)])
  ++ leBytes 4 p.gen ++ leBytes 48 p.params.toNat

/-- The opcode and packet of 64 bytes. -/
def parsePacket (b : Bytes) : Nat × Packet :=
  let f := field b 2 1
  let w := field b 8 4
  (field b 0 2,
   { ordered := bit f 0, urgent := bit f 1, retry := bit f 2, rsv2 := bits f 3 5, cred := field b 3 1,
     tag := field b 4 4, unit := bits w 0 16, device := bits w 16 13, remote := bit w 29, rsv8 := bits w 30 2,
     gen := field b 12 4, params := BitVec.ofNat 384 (field b 16 48) })

/-- What travels with a forwarded packet (R561, R564): the verdict on the forwarding device's signature,
the Estate time of forwarding, the counter, and the digest and role of the leaf bound at the origin. -/
structure FwdProof where
  sigOk   : Bool := true
  time    : Nat := 0
  counter : Nat := 0
  leaf    : Bytes := []
  role    : Nat := 0
  deriving DecidableEq, Repr

/-- What the enclave reads from an X.509 certificate chain or key certificate (R557, R560): the SHA-384
digest of the leaf, and the validity period that every certificate shares, in ns of Estate time. DESIGN CHOICE, log 11. -/
structure CertInfo where
  leaf      : Bytes := []
  notBefore : Nat := 0
  notAfter  : Nat := 0
  deriving DecidableEq, Repr

/-- What a command row brings: the packet with its source, the bytes the device reads at the host or
namespace address the packet names, the enclave's verdict on the signature concerned, and the data an
outside unit supplies for the command (R442; each row says which it uses). DESIGN CHOICE, log 11. -/
structure CmdIn where
  src   : Source
  pkt   : Packet
  dma   : Bytes := []
  sigOk : Bool := true
  fwd   : FwdProof := {}
  /-- The write of the command's audit record to xSPI succeeds (R574). -/
  auditOk : Bool := true
  cert    : CertInfo := {}
  /-- Outcome of a physical action the command asks: a fuse reads back (R293), a read of the named
  memory succeeds. -/
  physOk  : Bool := true
  deriving DecidableEq, Repr

/-- A completion of Table 15-2 but for TAG and PHASE: STATUS, RESULT0, RESULT1. -/
structure Result where
  status : Nat
  r0     : Nat := 0
  r1     : Nat := 0
  deriving DecidableEq, Repr

/-- Class 0x00: success (R458). -/
def Result.ok (r : Result) : Bool := r.status < 0x100

/-- SUCCESS. -/
def success : Result := { status := 0 }

/-- The 16 bytes of a completion (Table 15-2). -/
def completionBytes (tag phase : Nat) (r : Result) : Bytes :=
  leBytes 4 tag ++ leBytes 2 r.status ++ leBytes 1 (phase % 2) ++ zeros 1 ++ leBytes 4 r.r0 ++ leBytes 4 r.r1

/-- What the block sends out of its pins and links, oldest first in the state's log. The log is the
model's own: the manual gives these messages, not a record of them. -/
inductive Output where
  /-- A completion written to ring r's completion queue at index `idx` (R445). -/
  | completion (ring idx : Nat) (phase : Nat) (tag : Nat) (r : Result)
  /-- A completion returned by MCTP to an endpoint (R439). -/
  | mctpCompletion (eid tag : Nat) (r : Result)
  /-- A completion returned over fabric class 1 to a device (R440). -/
  | fabricCompletion (dev : Nat) (origin : Origin) (tag : Nat) (r : Result)
  /-- A packet forwarded over fabric class 1 with its counter and Estate time (R440, R564). -/
  | forward (dev : Nat) (origin : Origin) (opcode : Nat) (pkt : Packet) (counter time : Nat)
  /-- The receipt for a forwarded packet (R441). -/
  | receipt (dev : Nat) (origin : Origin) (tag : Nat)
  /-- An MSI-X vector of PF1 or PF0. -/
  | msix (pf vector : Nat)
  /-- A register read's value on an access path: 0 PF1, 1 MCTP (R443, R538). -/
  | regValue (path addr value : Nat)
  /-- Result byte and value of an MCTP register access (R443). -/
  | mctpRegister (result value : Nat)
  /-- Bytes written to host memory through PF1 or PF0. -/
  | hostWrite (addr : Nat) (data : Bytes)
  /-- A message of a class over the fabric to a device: its kind and content. -/
  | fabric (cls dev : Nat) (kind : String) (words : List Nat) (data : Bytes)
  /-- An RDMA WRITE of a slot's bytes or a completion word (R318). -/
  | rdmaWrite (qp addr rkey : Nat) (data : Bytes)
  /-- An RDMA READ of 8 bytes (R314). -/
  | rdmaRead (qp addr rkey : Nat)
  /-- A frame or message on a front Ethernet port. -/
  | ethernet (port : Nat) (kind : String) (words : List Nat)
  /-- A message of the link itself on a fabric port: a packet in transit, a credit, a keep-alive, a quiet request. -/
  | link (port : Nat) (kind : String) (words : List Nat)
  /-- An NVMe completion on a queue: command, status and result (chapter 14). -/
  | nvmeCompletion (sq cid status result : Nat)
  /-- Data returned to PF0's host. -/
  | nvmeData (sq cid : Nat) (data : Bytes)
  /-- An MCTP message other than a completion: protocol and content. -/
  | mctp (eid : Nat) (kind : String) (words : List Nat) (data : Bytes)
  /-- A PCIe configuration response. -/
  | config (pf off value : Nat) (retry : Bool)
  deriving DecidableEq, Repr

end Sys2Proof.Machine
end

