-- ==== Sys2Proof/Machine/Hash.lean ====
section
/-! DEFINITION. CRC-32C and SHA-384, the checks the manual names for records, images and samples. -/

namespace Sys2Proof.Machine

/-- One bit of the reflected CRC-32C register. -/
def crcBit (c : Nat) : Nat := if c % 2 = 1 then (c >>> 1) ^^^ 0x82F63B78 else c >>> 1

/-- One byte of CRC-32C. -/
def crcByte (c : Nat) (b : Byte) : Nat :=
  let c := c ^^^ b.toNat
  crcBit (crcBit (crcBit (crcBit (crcBit (crcBit (crcBit (crcBit c)))))))

/-- CRC-32C of a byte string. -/
def crc32c (bs : Bytes) : Nat := (bs.foldl crcByte 0xFFFFFFFF) ^^^ 0xFFFFFFFF

/-- The round constants of SHA-384. -/
def shaK : List Nat :=
  [0x428a2f98d728ae22, 0x7137449123ef65cd, 0xb5c0fbcfec4d3b2f, 0xe9b5dba58189dbbc,
   0x3956c25bf348b538, 0x59f111f1b605d019, 0x923f82a4af194f9b, 0xab1c5ed5da6d8118,
   0xd807aa98a3030242, 0x12835b0145706fbe, 0x243185be4ee4b28c, 0x550c7dc3d5ffb4e2,
   0x72be5d74f27b896f, 0x80deb1fe3b1696b1, 0x9bdc06a725c71235, 0xc19bf174cf692694,
   0xe49b69c19ef14ad2, 0xefbe4786384f25e3, 0x0fc19dc68b8cd5b5, 0x240ca1cc77ac9c65] ++
  [0x2de92c6f592b0275, 0x4a7484aa6ea6e483, 0x5cb0a9dcbd41fbd4, 0x76f988da831153b5,
   0x983e5152ee66dfab, 0xa831c66d2db43210, 0xb00327c898fb213f, 0xbf597fc7beef0ee4,
   0xc6e00bf33da88fc2, 0xd5a79147930aa725, 0x06ca6351e003826f, 0x142929670a0e6e70,
   0x27b70a8546d22ffc, 0x2e1b21385c26c926, 0x4d2c6dfc5ac42aed, 0x53380d139d95b3df,
   0x650a73548baf63de, 0x766a0abb3c77b2a8, 0x81c2c92e47edaee6, 0x92722c851482353b] ++
  [0xa2bfe8a14cf10364, 0xa81a664bbc423001, 0xc24b8b70d0f89791, 0xc76c51a30654be30,
   0xd192e819d6ef5218, 0xd69906245565a910, 0xf40e35855771202a, 0x106aa07032bbd1b8,
   0x19a4c116b8d2d0c8, 0x1e376c085141ab53, 0x2748774cdf8eeb99, 0x34b0bcb5e19b48a8,
   0x391c0cb3c5c95a63, 0x4ed8aa4ae3418acb, 0x5b9cca4f7763e373, 0x682e6ff3d6b2b8a3,
   0x748f82ee5defb2fc, 0x78a5636f43172f60, 0x84c87814a1f0ab72, 0x8cc702081a6439ec] ++
  [0x90befffa23631e28, 0xa4506cebde82bde9, 0xbef9a3f7b2c67915, 0xc67178f2e372532b,
   0xca273eceea26619c, 0xd186b8c721c0c207, 0xeada7dd6cde0eb1e, 0xf57d4f7fee6ed178,
   0x06f067aa72176fba, 0x0a637dc5a2c898a6, 0x113f9804bef90dae, 0x1b710b35131c471b,
   0x28db77f523047d84, 0x32caab7b40c72493, 0x3c9ebe0a15c9bebc, 0x431d67c49c100d4c,
   0x4cc5d4becb3e42b6, 0x597f299cfc657e2a, 0x5fcb6fab3ad6faec, 0x6c44198c4a475817]

/-- The initial hash value of SHA-384. -/
def shaInit : List Nat :=
  [0xcbbb9d5dc1059ed8, 0x629a292a367cd507, 0x9159015a3070dd17, 0x152fecd8f70e5939,
   0x67332667ffc00b31, 0x8eb44a8768581511, 0xdb0c2e0d64f98fa7, 0x47b5481dbefa4fa4]

/-- The message schedule from the 16 latest words, newest first: one more word. -/
def shaNext (w : List Nat) : Nat :=
  let g := fun i => w.getD i 0
  let s0 := fun x => rotr 64 x 1 ^^^ rotr 64 x 8 ^^^ (x >>> 7)
  let s1 := fun x => rotr 64 x 19 ^^^ rotr 64 x 61 ^^^ (x >>> 6)
  (s1 (g 1) + g 6 + s0 (g 14) + g 15) % 2 ^ 64

/-- `n` more schedule words, newest first. -/
def shaSchedule : Nat → List Nat → List Nat
  | 0, w => w
  | n + 1, w => shaSchedule n (shaNext w :: w)

/-- One round on the working variables a … h with round constant k and schedule word w. -/
def shaRound (v : List Nat) (k w : Nat) : List Nat :=
  match v with
  | [a, b, c, d, e, f, g, h] =>
    let t1 := (h + (rotr 64 e 14 ^^^ rotr 64 e 18 ^^^ rotr 64 e 41) +
      ((e &&& f) ^^^ ((2 ^ 64 - 1 - e) &&& g)) + k + w) % 2 ^ 64
    let t2 := ((rotr 64 a 28 ^^^ rotr 64 a 34 ^^^ rotr 64 a 39) +
      ((a &&& b) ^^^ (a &&& c) ^^^ (b &&& c))) % 2 ^ 64
    [(t1 + t2) % 2 ^ 64, a, b, c, (d + t1) % 2 ^ 64, e, f, g]
  | _ => v

/-- All rounds of one block. -/
def shaRounds : List Nat → List Nat → List Nat → List Nat
  | v, k :: ks, w :: ws => shaRounds (shaRound v k w) ks ws
  | v, _, _ => v

/-- One 128-byte block, as its 16 big-endian words in order. -/
def shaBlock (h ws : List Nat) : List Nat :=
  let v := shaRounds h shaK (shaSchedule 64 ws.reverse).reverse
  List.zipWith (fun x y => (x + y) % 2 ^ 64) h v

/-- A byte string as big-endian 64-bit words; `n` words. -/
def shaWords : Nat → Bytes → List Nat
  | 0, _ => []
  | n + 1, bs => beNat (bs.take 8) :: shaWords n (bs.drop 8)

/-- The blocks of a padded message, `n` of them. -/
def shaBlocks : Nat → List Nat → Bytes → List Nat
  | 0, h, _ => h
  | n + 1, h, bs => shaBlocks n (shaBlock h (shaWords 16 (bs.take 128))) (bs.drop 128)

/-- SHA-384 of a byte string: 48 bytes. -/
def sha384 (msg : Bytes) : Bytes :=
  let n := (msg.length + 17 + 127) / 128
  let pad := n * 128 - msg.length - 17
  let m := msg ++ [0x80] ++ zeros pad ++ beBytes 16 (8 * msg.length)
  ((shaBlocks n shaInit m).take 6).flatMap (beBytes 8)

/-- The first 24 bytes of the SHA-384 digest, the form records and headers carry. -/
def sha384h (msg : Bytes) : Bytes := (sha384 msg).take 24

end Sys2Proof.Machine
end

