-- ==== Sys2Proof/Machine/Dict.lean ====
section
/-! DEFINITION. The dictionary coder: blocks (R265), the payload and its decoder (R266) and the
encoder's choice of matches (R267, Table 09-2). -/

namespace Sys2Proof.Machine

/-- Depth D of an effort level (Table 09-2). -/
def dictDepth : Nat → Nat
  | 1 => 4 | 2 => 8 | 3 => 16 | 4 => 32 | 5 => 64 | 6 => 256 | 7 => 512 | 8 => 1024
  | _ => 4096

/-- Input bytes of a dictionary block (R265). -/
def dictBlock : Nat := 1048576

/-- hash(i) of the four bytes at the head (R267). -/
def dictHash (bs : Bytes) : Nat := ((field bs 0 4 * 0x9E3779B1) % 2 ^ 32) >>> 17

/-- Length of the common prefix. -/
def commonPrefix : Bytes → Bytes → Nat
  | a :: as, b :: bs => if a = b then commonPrefix as bs + 1 else 0
  | _, _ => 0

/-- Extension bytes of a length 15 + n (R266). -/
def extBytes (n : Nat) : Bytes := List.replicate (n / 255) 255 ++ [BitVec.ofNat 8 (n % 255)]

/-- One sequence: literals, and a match (offset, length) for all but the last (R266). -/
def sequenceBytes (lits : Bytes) (m : Option (Nat × Nat)) : Bytes :=
  let ll := lits.length
  let ml := match m with
    | some p => p.2 - 4
    | none => 0
  let token := BitVec.ofNat 8 (min ll 15 * 16 + min ml 15)
  [token] ++ (if ll ≥ 15 then extBytes (ll - 15) else []) ++ lits
    ++ (match m with
        | some p => leBytes 2 (p.1 - 1) ++ (if ml ≥ 15 then extBytes (ml - 15) else [])
        | none => [])

/-- Encoder state: the chains by hash, most recent first, each with the data from its position; the
literals waiting, last first; the sequences written. -/
structure DictEnc where
  chains : CMap (List (Nat × Bytes))
  lits   : Bytes
  out    : Bytes
  deriving DecidableEq, Repr

/-- The longest match, the first of equal ones: length and offset (R267). -/
def bestMatch (i : Nat) (data : Bytes) (cands : List (Nat × Bytes)) : Nat × Nat :=
  cands.foldl (fun best c =>
    let len := commonPrefix c.2 data
    if len > best.1 then (len, i - c.1) else best) (0, 0)

/-- Position i inserted into its chain when four bytes remain (R267). -/
def insertChain (e : DictEnc) (i : Nat) (data : Bytes) : DictEnc :=
  if data.length < 4 then e else
  let h := dictHash data
  { e with chains := e.chains.put h ((i, data) :: (e.chains.find h).getD []) }

/-- The encoder's walk over a block (R267); `skip` counts the bytes of a match still to pass. -/
def dictWalk (depth : Nat) : Bytes → Nat → Nat → DictEnc → DictEnc
  | [], _, _, e => { e with lits := [], out := e.out ++ sequenceBytes e.lits.reverse none }
  | b :: bs, i, skip + 1, e => dictWalk depth bs (i + 1) skip (insertChain e i (b :: bs))
  | b :: bs, i, 0, e =>
    let data := b :: bs
    let best := if data.length < 4 then (0, 0) else
      bestMatch i data ((((e.chains.find (dictHash data)).getD []).takeWhile (fun c => i - c.1 ≤ 65536)).take depth)
    let e' := insertChain e i data
    if best.1 ≥ 4 then
      dictWalk depth bs (i + 1) (best.1 - 1)
        { e' with lits := [], out := e'.out ++ sequenceBytes e'.lits.reverse (some (best.2, best.1)) }
    else dictWalk depth bs (i + 1) 0 { e' with lits := b :: e'.lits }

/-- The coded payload of a block at a depth. -/
def dictPayload (depth : Nat) (data : Bytes) : Bytes :=
  (dictWalk depth data 0 0 { chains := [], lits := [], out := [] }).out

/-- One coded block: ULEN, STORED, CLEN, CRC and payload (R265). -/
def dictEncodeBlock (level : Nat) (data : Bytes) : Bytes :=
  let p := dictPayload (dictDepth level) data
  let stored := p.length ≥ data.length
  let payload := if stored then data else p
  leBytes 4 (data.length + (if stored then 2 ^ 31 else 0)) ++ leBytes 4 payload.length
    ++ leBytes 4 (crc32c data) ++ payload

/-! ## Decoding -/

/-- An extended length: the value added and the rest, none when the bytes end (R266). -/
def readExt : Nat → Bytes → Option (Nat × Bytes)
  | _, [] => none
  | acc, b :: bs => if b = 255 then readExt (acc + 255) bs else some (acc + b.toNat, bs)

/-- A match copied one byte at a time from `off` back; the output is held last byte first. -/
def copyMatch (off : Nat) : Nat → Bytes → Bytes
  | 0, out => out
  | n + 1, out => copyMatch off n (out.getD (off - 1) 0 :: out)

/-- The sequences of a payload: the block's bytes, last first, or none on an error of R266. `fuel`
bounds the sequences; each takes a byte at least. -/
def dictSequences (ulen : Nat) : Nat → Bytes → Bytes → Option Bytes
  | 0, _, _ => none
  | _ + 1, [], _ => none
  | fuel + 1, t :: bs, out =>
    let ll0 := t.toNat / 16
    let ml0 := t.toNat % 16
    match (if ll0 = 15 then readExt 15 bs else some (ll0, bs)) with
    | none => none
    | some (ll, bs) =>
      if bs.length < ll then none else
      let out := (bs.take ll).reverse ++ out
      let bs := bs.drop ll
      if out.length > ulen then none
      else if out.length = ulen then (if bs.isEmpty then some out else none)
      else if bs.length < 2 then none
      else
        let off := field bs 0 2 + 1
        let bs := bs.drop 2
        match (if ml0 = 15 then readExt 15 bs else some (ml0, bs)) with
        | none => none
        | some (ml, bs) =>
          if off > out.length || out.length + ml + 4 > ulen then none
          else dictSequences ulen fuel bs (copyMatch off (ml + 4) out)

/-- What the head of coded data gives: a block's bytes with the coded bytes it takes, or an error. -/
def dictDecodeBlock (bs : Bytes) : Option (Bytes × Nat) :=
  let w := field bs 0 4
  let ulen := bits w 0 21
  let clen := field bs 4 4
  let payload := (bs.drop 12).take clen
  if bs.length < 12 + clen || ulen = 0 || ulen > dictBlock || bits w 21 10 != 0 then none else
  let data := if bit w 31 then (if clen = ulen then some payload else none)
    else (dictSequences ulen (payload.length + 1) payload []).map List.reverse
  match data with
  | none => none
  | some d => if crc32c d = field bs 8 4 then some (d, 12 + clen) else none

end Sys2Proof.Machine
end

