-- ==== Sys2Proof/Machine/Frc.lean ====
section
/-! DEFINITION. Fixed-ratio coding: the block and its shift (R258, R259), the coded slot (R260), its
decoder (R261), the choice of q (R262) and escapes (R263). -/

namespace Sys2Proof.Machine

/-- FRC settings: slot bytes (128 at 2:1, 64 at 4:1), ESCAPE mode, E, SIGNED and MAX_Q. -/
structure FrcMode where
  slot   : Nat
  escape : Bool
  e      : Nat
  signed : Bool
  maxQ   : Nat
  deriving DecidableEq, Repr

/-- Bytes of an FRC block. -/
def frcBlock : Nat := 256

/-- Elements of a block, the sign bit inverted under SIGNED (R258). -/
def frcElems (m : FrcMode) (blk : Bytes) : List Nat :=
  let raw := if m.e = 16 then tabulate 128 (fun i => field blk (2 * i) 2) else blk.map (·.toNat)
  if m.signed then raw.map (fun x => x ^^^ (2 ^ (m.e - 1))) else raw

/-- Bytes of decoded elements. -/
def frcBytes (m : FrcMode) (xs : List Nat) : Bytes :=
  xs.flatMap (fun x => leBytes (m.e / 8) (if m.signed then x ^^^ (2 ^ (m.e - 1)) else x))

/-- Bit length. -/
def bitLen (n : Nat) : Nat := if n = 0 then 0 else Nat.log2 n + 1

/-- Zigzag residuals of a block at shift q; `prev` is the last reduced value (R259). -/
def frcResiduals (e q : Nat) : Nat → List Nat → List Nat
  | _, [] => []
  | prev, x :: xs =>
    let w := e - q
    let v := x >>> q
    let r := signed w (v + 2 ^ w - prev)
    (if r ≥ 0 then 2 * r.toNat else 2 * (-r).toNat - 1) :: frcResiduals e q v xs

/-- Residuals of a block: prev starts at 1 << (e − 1). -/
def frcZ (e q : Nat) (xs : List Nat) : List Nat := frcResiduals e q (2 ^ (e - q - 1)) xs

/-- Groups of 16 residuals. -/
def frcGroups (zs : List Nat) : List (List Nat) := chunks16 (zs.length / 16) zs
where
  /-- `n` groups of 16. -/
  chunks16 : Nat → List Nat → List (List Nat)
    | 0, _ => []
    | n + 1, xs => xs.take 16 :: chunks16 n (xs.drop 16)

/-- Coded size in bits (R259). -/
def frcSize (gs : List (List Nat)) : Nat :=
  8 + 5 * gs.length + sumNat (gs.map (fun g => 16 * bitLen (maxNat g)))

/-- A field list packed least significant bit first, as (width, value). -/
def packBits (fs : List (Nat × Nat)) : Nat := fs.foldr (fun f acc => acc * 2 ^ f.1 + f.2 % 2 ^ f.1) 0

/-- The coded slot of R260. -/
def frcSlot (m : FrcMode) (q : Nat) (gs : List (List Nat)) : Bytes :=
  leBytes m.slot (packBits ([(2, 0), (4, q), (2, 0)] ++ gs.map (fun g => (5, bitLen (maxNat g)))
    ++ gs.flatMap (fun g => g.map (fun z => (bitLen (maxNat g), z)))))

/-- What the encoder makes of a block: a coded slot with its q, an escape entry, or FRC_LOSS_LIMIT. -/
inductive FrcCoded where
  | coded (q : Nat) (slot : Bytes)
  | escaped (entry : Bytes)
  | lossLimit
  deriving DecidableEq, Repr

/-- A block completed with zero bytes. -/
def frcPad (blk : Bytes) : Bytes := blk ++ zeros (frcBlock - blk.length)

/-- One block coded (R262, R263). -/
def frcEncodeBlock (m : FrcMode) (blk : Bytes) : FrcCoded :=
  let b := frcPad blk
  let xs := frcElems m b
  let at' := fun q => frcGroups (frcZ m.e q xs)
  let fits := fun q => frcSize (at' q) ≤ 8 * m.slot
  if m.escape then
    (if fits 0 then .coded 0 (frcSlot m 0 (at' 0)) else .escaped (dictEncodeBlock 1 b))
  else
    match (List.range m.e).find? fits with
    | some q => if q ≤ m.maxQ then .coded q (frcSlot m q (at' q)) else .lossLimit
    | none => .lossLimit

/-- The slot of an escaped block whose entry starts at byte `off` of the escape area (R263). -/
def escapeSlot (m : FrcMode) (off len : Nat) : Bytes :=
  leBytes 1 1 ++ zeros 3 ++ leBytes 4 (off / 64) ++ leBytes 2 len ++ zeros (m.slot - 10)

/-- The blocks of an input. -/
def frcBlocks (input : Bytes) : List Bytes := go (ceilDiv input.length frcBlock) input
where
  /-- `n` blocks. -/
  go : Nat → Bytes → List Bytes
    | 0, _ => []
    | n + 1, xs => xs.take frcBlock :: go n (xs.drop frcBlock)

/-- Slots and escape area of a whole input, with the largest q, lossy and escaped block counts; none
where bounded loss exceeds MAX_Q. -/
structure FrcStream where
  slots  : Bytes
  escArea : Bytes
  qMax   : Nat
  lossy  : Nat
  escs   : Nat
  /-- Blocks coded before the first that exceeded MAX_Q; all of them when none did. -/
  blocks : Nat
  ok     : Bool
  deriving DecidableEq, Repr

/-- Coding of a stream (R258 to R263). -/
def frcEncode (m : FrcMode) (input : Bytes) : FrcStream :=
  (frcBlocks input).foldl (fun (s : FrcStream) b =>
    if !s.ok then s else
    match frcEncodeBlock m b with
    | .coded q slot => { s with slots := s.slots ++ slot, qMax := max s.qMax q,
                                lossy := s.lossy + (if q > 0 then 1 else 0), blocks := s.blocks + 1 }
    | .escaped entry =>
      { s with slots := s.slots ++ escapeSlot m s.escArea.length entry.length,
               escArea := s.escArea ++ entry ++ zeros (roundUp entry.length 64 - entry.length),
               escs := s.escs + 1, blocks := s.blocks + 1 }
    | .lossLimit => { s with ok := false })
    { slots := [], escArea := [], qMax := 0, lossy := 0, escs := 0, blocks := 0, ok := true }

/-! ## Decoding -/

/-- Elements rebuilt from their residuals (R261). -/
def frcRebuild (e q : Nat) : Nat → List Nat → List Nat
  | _, [] => []
  | prev, z :: zs =>
    let w := e - q
    let r : Int := if z % 2 = 0 then (z / 2 : Nat) else -(((z + 1) / 2 : Nat) : Int)
    let v := unsigned w ((prev : Int) + r)
    (if q = 0 then v else v * 2 ^ q + 2 ^ (q - 1)) :: frcRebuild e q v zs

/-- Values of the groups, read bit by bit: widths, then 16 values of each. -/
def frcValues (x : Nat) : Nat → List Nat → List Nat
  | _, [] => []
  | pos, w :: ws => tabulate 16 (fun i => bits x (pos + i * w) w) ++ frcValues x (pos + 16 * w) ws

/-- The 256 bytes of a coded slot; none for a header that no encoder writes. -/
def frcDecodeSlot (m : FrcMode) (slot : Bytes) : Option Bytes :=
  let x := leNat slot
  let q := bits x 2 4
  let n := 256 / (m.e / 8) / 16
  if bits x 0 2 != 0 || bits x 6 2 != 0 || q ≥ m.e then none else
  let ws := tabulate n (fun g => bits x (8 + 5 * g) 5)
  some (frcBytes m (frcRebuild m.e q (2 ^ (m.e - q - 1)) (frcValues x (8 + 5 * n) ws)))

/-- One slot decoded with the escape area behind the slot array. -/
def frcDecodeBlock (m : FrcMode) (esc slot : Bytes) : Option Bytes :=
  if field slot 0 1 % 4 = 1 then
    match dictDecodeBlock (slice esc (64 * field slot 4 4) (field slot 8 2)) with
    | some (d, _) => if d.length = frcBlock then some d else none
    | none => none
  else frcDecodeSlot m slot

/-- A stream decoded to `outLen` bytes; none on a bad slot or entry. -/
def frcDecode (m : FrcMode) (input : Bytes) (outLen : Nat) : Option Bytes :=
  let n := ceilDiv outLen frcBlock
  let esc := input.drop (n * m.slot)
  (go m esc n input []).map (fun d => d.take outLen)
where
  /-- `n` slots in order. -/
  go (m : FrcMode) (esc : Bytes) : Nat → Bytes → Bytes → Option Bytes
    | 0, _, acc => some acc
    | n + 1, bs, acc =>
      match frcDecodeBlock m esc (bs.take m.slot) with
      | some d => go m esc n (bs.drop m.slot) (acc ++ d)
      | none => none

end Sys2Proof.Machine
end

