-- ==== Sys2Proof/Machine/Feistel.lean ====
section
/-! DEFINITION. The epoch permutation: network width (R68), round keys (R69), the passes and
cycle-walking (R70). -/

namespace Sys2Proof.Machine

/-- Half width h for N: w = 2h is the smallest even number, at least 2, with 2^w ≥ N (R68). `fuel`
counts the widths tried. -/
def halfWidthFrom (n : Nat) : Nat → Nat → Nat
  | 0, h => h
  | fuel + 1, h => if n ≤ 2 ^ (2 * h) then h else halfWidthFrom n fuel (h + 1)

/-- The half width of R68, at most 22. -/
def halfWidth (n : Nat) : Nat := halfWidthFrom n 21 1

/-- The six round keys of R69. -/
def roundKeys (seed epoch n : Nat) : List Nat :=
  let tag : Bytes := [70, 76, 79, 73, 83, 75, 45, 66, 82, 77, 45, 49]
  let d := sha384 (tag ++ leBytes 16 seed ++ leBytes 4 epoch ++ leBytes 8 n)
  tabulate 6 (fun i => field d (8 * i) 8)

/-- The round function f(i, r) with key `k` at half width h (R70). -/
def feistelF (h k r : Nat) : Nat :=
  let m := 2 ^ h - 1
  let s := (h + 1) / 2
  let a := bits k 0 22 &&& m
  let b := (bits k 32 22 ||| 1) &&& m
  let t := ((r ^^^ a) * b) &&& m
  let t := t ^^^ (t >>> s)
  let t := (t * b) &&& m
  t ^^^ (t >>> s)

/-- One forward pass e(x) (R70). -/
def feistelE (h : Nat) (ks : List Nat) (x : Nat) : Nat :=
  let p := ks.foldl (fun (p : Nat × Nat) k => (p.2, p.1 ^^^ feistelF h k p.2)) (x >>> h, x &&& (2 ^ h - 1))
  (p.1 <<< h) ||| p.2

/-- One inverse pass d(y) (R70). -/
def feistelD (h : Nat) (ks : List Nat) (y : Nat) : Nat :=
  let p := ks.reverse.foldl (fun (p : Nat × Nat) k => (p.2 ^^^ feistelF h k p.1, p.1)) (y >>> h, y &&& (2 ^ h - 1))
  (p.1 <<< h) ||| p.2

/-- Passes until the value lies below n: the value and the passes beyond the first; `fuel` bounds
them (one evaluation takes at most 2^w − N + 1 passes, R71). -/
def cycleWalk (pass : Nat → Nat) (n : Nat) : Nat → Nat → Nat → Nat × Nat
  | 0, y, walks => (y, walks)
  | fuel + 1, y, walks => if y < n then (y, walks) else cycleWalk pass n fuel (pass y) (walks + 1)

/-- position(c) with its passes beyond the first (R70). -/
def positionOf (ks : List Nat) (n c : Nat) : Nat × Nat :=
  let h := halfWidth n
  cycleWalk (feistelE h ks) n (2 ^ (2 * h) - n) (feistelE h ks c) 0

/-- ordinal(p) with its passes beyond the first (R70). -/
def ordinalOf (ks : List Nat) (n p : Nat) : Nat × Nat :=
  let h := halfWidth n
  cycleWalk (feistelD h ks) n (2 ^ (2 * h) - n) (feistelD h ks p) 0

end Sys2Proof.Machine
end

