-- ==== Sys2Proof/Machine/Plan.lean ====
section
/-! DEFINITION. Catalog header and records with their checks (R64 to R67, R607, R608), buckets and
groups (R72 to R75), the order of global batches (R76, R77), drop replacement (R78, R79), the rank
mapping (R81) and the scans of a plan (R83, R84). -/

namespace Sys2Proof.Machine

/-! ## Catalog -/

/-- A catalog header (Table 03-2). -/
structure Catalog where
  n         : Nat
  catalogId : Nat
  digest    : Bytes
  counts    : List Nat
  maxLens   : List Nat
  deriving DecidableEq, Repr

/-- Bytes of a catalog header. -/
def catalogHeaderLen : Nat := 4096

/-- The header's fields. -/
def parseCatalog (b : Bytes) : Catalog :=
  { n := field b 8 8 % 2 ^ 44, catalogId := field b 16 8, digest := slice b 24 24,
    counts := tabulate 256 (fun c => field b (48 + 8 * c) 8),
    maxLens := tabulate 256 (fun c => field b (2096 + 4 * c) 4) }

/-- Byte offset of the field whose check of R608 fails first, none for a valid header. -/
def catalogFault (b : Bytes) : Option Nat :=
  let c := parseCatalog b
  if b.length < catalogHeaderLen || field b 4092 4 != crc32c (b.take 4092) then some 4092
  else if field b 0 4 != 0x54434B46 then some 0
  else if field b 4 2 != 1 then some 4
  else if !zeroAt b 6 2 then some 6
  else if field b 8 8 ≥ 2 ^ 44 then some 8
  else if !zeroAt b 3120 972 then some 3120
  else if c.n = 0 then some 8
  else if sumNat c.counts != c.n then some 48
  else ((List.range 256).find? (fun k =>
    let l := c.maxLens.getD k 0
    if c.counts.getD k 0 = 0 then l != 0 else !(1 ≤ l && l ≤ 268435456))).map (fun k => 2096 + 4 * k)

/-- The size class of an ordinal: the class whose range of R66 holds it; 256 beyond all. -/
def classOf (c : Catalog) (ord : Nat) : Nat :=
  (c.counts.foldl (fun (a : Nat × Nat × Option Nat) k =>
    (a.1 + 1, a.2.1 + k, if a.2.2.isNone && ord < a.2.1 + k then some a.1 else a.2.2)) (0, 0, none)).2.2.getD 256

/-- A catalog record (Table 03-1). -/
structure CatRecord where
  sample    : Nat
  sizeClass : Nat
  container : Nat
  ordinal   : Nat
  offset    : Nat
  nsid      : Nat
  length    : Nat
  attr      : Nat
  check     : Bytes
  deriving DecidableEq, Repr

/-- A record's fields. -/
def parseRecord (b : Bytes) : CatRecord :=
  let x := field b 0 8
  let z := field b 16 8
  { sample := bits x 0 44, sizeClass := bits x 44 8, container := bits x 52 4, ordinal := bits (field b 8 8) 0 44,
    offset := bits z 0 48, nsid := bits z 48 16, length := field b 24 4, attr := field b 28 4, check := slice b 32 24 }

/-- A record read at the place of ordinal `ord` passes R67. -/
def recordOk (c : Catalog) (ord : Nat) (b : Bytes) : Bool :=
  let r := parseRecord b
  b.length == 64 && field b 60 4 == crc32c (b.take 60) && bits (field b 0 8) 56 8 == 0
  && bits (field b 8 8) 44 20 == 0 && zeroAt b 56 4
  && 1 ≤ r.length && r.length ≤ 268435456 && r.ordinal == ord && classOf c ord == r.sizeClass

/-- Offset of ordinal `ord`'s record in its namespace for a header at `h` (R607). -/
def recordOffset (h ord : Nat) : Nat := h + 4096 + 64 * ord

/-! ## Buckets and groups -/

/-- What a recipe fixes for the plan: the bucket map, B_b and V_b, and the two policies (R72, R73). -/
structure PlanShape where
  map       : List Nat
  batch     : List Nat
  reserve   : List Nat
  shortTail : Bool
  deriving DecidableEq, Repr

/-- Bucket of a size class, none when excluded (R72). -/
def PlanShape.bucket (s : PlanShape) (cls : Nat) : Option Nat :=
  let e := s.map.getD cls 0x80
  if bit e 7 then none else some (bits e 0 6)

/-- Group size G_b (R73). -/
def PlanShape.group (s : PlanShape) (b : Nat) : Nat := s.batch.getD b 0 + s.reserve.getD b 0

/-- Groups delivered of a bucket of n samples (R75, R77). -/
def PlanShape.groups (s : PlanShape) (b n : Nat) : Nat :=
  if s.group b = 0 then 0 else n / s.group b + (if s.shortTail && n % s.group b != 0 then 1 else 0)

/-- The step count of an epoch for the bucket totals (R77). -/
def stepCount (s : PlanShape) (totals : List Nat) : Nat := sumNat (tabulate 64 (fun b => s.groups b (totals.getD b 0)))

/-- The step of a batch whose last member has position p, from cnt(b) below p and n(b) (R76). -/
def stepAt (s : PlanShape) (cnt totals : List Nat) : Nat :=
  sumNat (tabulate 64 (fun b =>
    let g := s.group b
    let c := cnt.getD b 0
    let n := totals.getD b 0
    if g = 0 then 0 else c / g + (if s.shortTail && c == n && n % g != 0 then 1 else 0)))

/-! ## Scans -/

/-- A plan record (Table 03-4). -/
structure PlanRec where
  ordinal : Nat
  bucket  : Nat
  step    : Nat
  member  : Nat
  reserve : Bool
  tail    : Bool
  deriving DecidableEq, Repr

/-- The 16 bytes of a plan record. -/
def PlanRec.bytes (r : PlanRec) : Bytes :=
  leBytes 8 (packFields [(0, 44, r.ordinal), (44, 6, r.bucket)])
  ++ leBytes 8 (packFields [(0, 44, r.step), (44, 16, r.member), (60, 1, b2n r.reserve), (61, 1, b2n r.tail)])

/-- Scanner range of plan rank d of D over N positions (R83). -/
def scanLo (n dd d : Nat) : Nat := d * n / dd

/-- The samples of a scanner range in position order: ordinal and bucket, excluded ones left out;
with the network passes taken. -/
def scanSamples (cat : Catalog) (s : PlanShape) (keys : List Nat) (lo hi : Nat) : List (Nat × Nat) × Nat :=
  (List.range (hi - lo)).foldl (fun (a : List (Nat × Nat) × Nat) i =>
    let o := ordinalOf keys cat.n (lo + i)
    let acc := match s.bucket (classOf cat o.1) with
      | some b => a.1 ++ [(o.1, b)]
      | none => a.1
    (acc, a.2 + o.2 + 1)) ([], 0)

/-- Counts per bucket of scanned samples (phase 2). -/
def bucketCounts (xs : List (Nat × Nat)) : List Nat :=
  xs.foldl (fun acc x => updAt acc x.2 (· + 1)) (List.replicate 64 0)

/-- Element-wise sum of count lists. -/
def addCounts (xs : List (List Nat)) : List Nat :=
  xs.foldl (fun acc x => tabulate 64 (fun b => acc.getD b 0 + x.getD b 0)) (List.replicate 64 0)

/-- A sample placed by the assign scan: its record without a step, its group, and the step when its
group ends in the range. -/
structure Placed where
  rec'  : PlanRec
  group : Nat
  step  : Option Nat
  deriving DecidableEq, Repr

/-- Result of an assign scan: placements, and per bucket the groups that end in the range with their
steps, in order. -/
structure Assigned where
  placed : List Placed
  ends   : List (Nat × Nat × Nat)
  deriving DecidableEq, Repr

/-- The assign scan over a range, given the prefix counts below it and the totals (phase 4; R74 to R76). -/
def assignScan (s : PlanShape) (pre totals : List Nat) (xs : List (Nat × Nat)) : Assigned :=
  let r := xs.foldl (fun (a : List Nat × List Placed × List (Nat × Nat × Nat)) x =>
    let b := x.2
    let cnt := a.1
    let q := cnt.getD b 0
    let g := s.group b
    let n := totals.getD b 0
    let j := if g = 0 then 0 else q / g
    let k := if g = 0 then 0 else q % g
    let tail := g != 0 && j == n / g
    let last := k + 1 == g || (tail && q + 1 == n)
    let cnt' := updAt cnt b (· + 1)
    if g = 0 || (tail && !s.shortTail) then (cnt', a.2.1, a.2.2) else
    let p : Placed := { rec' := { ordinal := x.1, bucket := b, step := 0, member := k,
                                  reserve := k ≥ s.batch.getD b 0, tail := tail }, group := j, step := none }
    (cnt', a.2.1 ++ [p], if last then a.2.2 ++ [(b, j, stepAt s cnt totals)] else a.2.2)) (pre, [], [])
  let stepOf := fun (p : Placed) => (r.2.2.find? (fun e => e.1 == p.rec'.bucket && e.2.1 == p.group)).map (·.2.2)
  { placed := r.2.1.map (fun p => { p with step := stepOf p }), ends := r.2.2 }

/-- A step entry: per bucket the first group ending in the range and its step, all-ones for none (Table 03-4). -/
def stepEntry (a : Assigned) : List (Nat × Nat) :=
  tabulate 64 (fun b => match a.ends.find? (fun e => e.1 == b) with
    | some e => (e.2.1, e.2.2)
    | none => (2 ^ 64 - 1, 2 ^ 64 - 1))

/-- The records whose step is known after the assign scan. -/
def recordsNow (a : Assigned) : List PlanRec :=
  a.placed.filterMap (fun p => p.step.map (fun st => { p.rec' with step := st }))

/-- The remaining records, with the steps that later ranks' entries give (phase 5); `later` holds the
step entries of the plan ranks above, in rising order. -/
def recordsLater (a : Assigned) (later : List (List (Nat × Nat))) : List PlanRec :=
  a.placed.filterMap (fun p =>
    if p.step.isSome then none else
    match later.find? (fun e => (e.getD p.rec'.bucket (0, 0)).1 == p.group
                                && (e.getD p.rec'.bucket (0, 0)).2 != 2 ^ 64 - 1) with
    | some e => some { p.rec' with step := (e.getD p.rec'.bucket (0, 0)).2 }
    | none => none)

/-! ## Replacement and ranks -/

/-- What becomes of the slots of a batch, from the verdicts of its members, `true` for keep (R78): for
each dropped primary the reserve member placed there, or none. -/
def replacements (b : Nat) (verdicts : List Bool) : List (Nat × Option Nat) :=
  let dropped := (List.range (min b verdicts.length)).filter (fun k => !verdicts.getD k true)
  let kept := (List.range verdicts.length).filter (fun k => b ≤ k && verdicts.getD k false)
  (dropped.zipIdx).map (fun p => (p.1, kept[p.2]?))

/-- Rank and index of slot k with batch B over P ranks (R81). -/
def rankOf (batch p k : Nat) : Nat × Nat := (k / (batch / p), k % (batch / p))

end Sys2Proof.Machine
end

