-- ==== Sys2Proof/Config.lean ====
section
/-! DEFINITION. What an implementation fixes and the manual does not state: constants without a
body, so that no proof can rest on a value of one. Each is named in the assumption log. -/

namespace Sys2Proof.Config

/-- The NFKC form of a run of well-formed UTF-8 under the data of a normalization section (R209,
R210): the section's format is internal to stayrc and the TXE microcode. Free. DESIGN CHOICE, log 12. -/
opaque nfkc (norm : List (BitVec 8)) (run : List (BitVec 8)) : List (BitVec 8)

/-- The single channel of an RGB source under CHANNELS = LUMA, of its R, G and B working values:
R178 defines the channel for a source with luma only. Free; the use limits it to 0–65,535 (R173). DESIGN CHOICE, log 13. -/
opaque rgbLuma (r g b : Int) : Int

/-- The 24-bit sample of a float PCM value that is a NaN (R193 states none). Free. DESIGN CHOICE, log 14. -/
opaque nanPcm (code : Nat) : Int

/-- The FP32 logits of the step program of a label model, of the model image, its input and the tokens
so far: the manual does not say how the step program reads its last token and its state (R249). Free. DESIGN CHOICE, log 15. -/
opaque labelLogits (image input : List (BitVec 8)) (tokens : List Nat) : List Nat

/-- Output value i, an FP32 code, of a model whose last layer holds fewer values than its kind reads
(no rule of chapter 08 bounds it). Free. DESIGN CHOICE, log 16. -/
opaque missingOutput (image : List (BitVec 8)) (i : Nat) : Nat

/-- Fresh bits of the Loam random bit generator: nonces, keys and window keys, one value per draw.
Free. DESIGN CHOICE, log 5. -/
opaque random (draw : Nat) : Nat

/-- Byte i of the NETWORK field of the settings image after NETWORK_SET of a kind and port wrote its
parameters over an old field (Table 17-5 does not lay the field out). Free. DESIGN CHOICE, log 26. -/
opaque netImage (old : List (BitVec 8)) (kind port params i : Nat) : BitVec 8

/-- Value i of port q as the NETWORK field of a settings image gives it: 0 IP version, 1 prefix length,
2 VLAN, 3 address, 4 and 5 multicast version and source; of port 8: 0 the PTP settings. Free. DESIGN CHOICE, log 26. -/
opaque netField (image : List (BitVec 8)) (q i : Nat) : Nat

/-- Byte i of a service's 32-byte entry of LIVE_SERVICES for the parameters of LIVE_SERVICE_SET
(Table 17-5 does not lay the entry out). Free. DESIGN CHOICE, log 26. -/
opaque serviceImage (params i : Nat) : BitVec 8

/-- Value i of the service that an entry of LIVE_SERVICES holds: 0 held, 1 port, 2 IPv6, 3 source-specific,
4 UDP port, 5 program, 6 segment duration, 7 group, 8 source. Free. DESIGN CHOICE, log 26. -/
opaque serviceField (entry : List (BitVec 8)) (i : Nat) : Nat

/-- Where the flash translation layer placed codeword c of a namespace: k = 0 the die, 1 the block, 2 the
page (R387 fixes the order of placement, not the place after folding, moves and wear levelling). Free. DESIGN CHOICE, log 18. -/
opaque place (nsid c k : Nat) : Nat

/-- Blocks per die that a NAND profile gives (the manual does not lay the profile out, R380). Free. DESIGN CHOICE, log 19. -/
opaque profileBlocks (profile : List (BitVec 8)) : Nat

/-- Byte i that a deallocated range reads as (R415 names the command, not its values). Free. DESIGN CHOICE, log 17. -/
opaque deallocated (draw i : Nat) : BitVec 8

/-- Byte i of an NVMe data structure (page 0 to 255 a log page, 256 + c the Identify structure c) where
the manual gives none. Free. DESIGN CHOICE, log 20. -/
opaque nvmeByte (page nsid i : Nat) : BitVec 8

/-- Dword of PCIe configuration space at an offset of PF0 or PF1, where the manual gives none. Free. DESIGN CHOICE, log 20. -/
opaque pciConfig (pf off : Nat) : Nat

/-- Byte i of the header of the settings image with a SEQ that the device wrote itself (R504 lays it out; BASE_SEQ
and LENGTH of such an image are not stated). Free. DESIGN CHOICE, log 21. -/
opaque settingsHeader (seq i : Nat) : BitVec 8

/-- Byte i of an SPDM response whose content the manual does not give: certificates, signatures, nonces, the
boot ROM's digest (R570). Free. DESIGN CHOICE, log 22. -/
opaque spdmByte (code arg i : Nat) : BitVec 8

/-- LENGTH − 1 as a violation's DETAIL shows it for a length outside 1 to 2^24, whose 24 bits R328 does not state. Free. DESIGN CHOICE, log 23. -/
opaque violationLength (length : Nat) : Nat

/-- SHARE of a tile that serves (Table 04-8 gives its range, no rule its value). Free. DESIGN CHOICE, log 24. -/
opaque tileShare : Nat

/-- Credits of a virtual channel when a fabric link comes up: the receiver's buffers (R345 gives no number). Free. DESIGN CHOICE, log 25. -/
opaque portCredits : Nat

end Sys2Proof.Config
end

