-- ==== Sys2Proof/Machine/Num.lean ====
section
/-! DEFINITION. The number formats of Table 06-9 and their exact arithmetic: conversion with one
rounding (R199), MX blocks (R200), packing (R201), and FP32 operations (R233, R235, R237). -/

namespace Sys2Proof.Machine

/-- A value met in a conversion: a NaN, an infinity, or the exact real ±num/den (den > 0). -/
inductive Fp where
  | nan
  | inf (neg : Bool)
  | fin (neg : Bool) (num den : Nat)
  deriving DecidableEq, Repr

/-- A binary format: exponent bits, stored significand bits, exponent bias, largest finite code,
the codes of +infinity and of the canonical NaN where the format has them. -/
structure FloatFmt where
  ebits : Nat
  mbits : Nat
  bias  : Nat
  maxCode : Nat
  infCode : Option Nat
  nanCode : Option Nat
  deriving DecidableEq, Repr

/-- The float formats of Table 06-9 by code, MX formats by their elements. -/
def floatFmt : Nat → Option FloatFmt
  | 1 => some ⟨8, 23, 127, 0x7F7FFFFF, some 0x7F800000, some 0x7FC00000⟩
  | 2 => some ⟨5, 10, 15, 0x7BFF, some 0x7C00, some 0x7E00⟩
  | 3 => some ⟨8, 7, 127, 0x7F7F, some 0x7F80, some 0x7FC0⟩
  | 4 => some ⟨4, 3, 7, 0x7E, none, some 0x7F⟩
  | 5 => some ⟨5, 2, 15, 0x7B, some 0x7C, some 0x7E⟩
  | 6 => some ⟨3, 2, 3, 0x1F, none, none⟩
  | 7 => some ⟨2, 3, 1, 0x1F, none, none⟩
  | 8 => some ⟨2, 1, 1, 0x7, none, none⟩
  | 9 => some ⟨4, 3, 7, 0x7E, none, some 0x7F⟩
  | 10 => some ⟨2, 3, 1, 0x1F, none, none⟩
  | 11 => some ⟨2, 1, 1, 0x7, none, none⟩
  | _ => none

/-- Bits of one element (Table 06-9). -/
def fmtBits : Nat → Nat
  | 1 => 32 | 2 => 16 | 3 => 16 | 4 => 8 | 5 => 8 | 6 => 6 | 7 => 6 | 8 => 4
  | 9 => 8 | 10 => 6 | 11 => 4 | 12 => 32 | 13 => 16 | 14 => 8 | 15 => 8 | 16 => 4
  | _ => 0

/-- MXFP8, MXFP6 and MXFP4. -/
def isMx (fmt : Nat) : Bool := 9 ≤ fmt && fmt ≤ 11

/-- Float formats, MX included (R232). -/
def isFloatFmt (fmt : Nat) : Bool := 1 ≤ fmt && fmt ≤ 11

/-- Integer formats. -/
def isIntFmt (fmt : Nat) : Bool := 12 ≤ fmt && fmt ≤ 16

/-- a / b rounded to nearest, ties to even; b > 0. -/
def rneDiv (a b : Nat) : Nat :=
  let n := a / b
  let r := a % b
  if 2 * r > b || (2 * r == b && n % 2 == 1) then n + 1 else n

/-- floor(log2(num / den)) for num, den > 0. -/
def floorLog2 (num den : Nat) : Int :=
  let l : Int := (Nat.log2 num : Int) - (Nat.log2 den : Int)
  let below := if l ≥ 0 then num < den * 2 ^ l.toNat else num * 2 ^ (-l).toNat < den
  if below then l - 1 else l

/-- num / den divided by 2^q, rounded to nearest even. -/
def rneScale (num den : Nat) (q : Int) : Nat :=
  if q ≥ 0 then rneDiv num (den * 2 ^ q.toNat) else rneDiv (num * 2 ^ (-q).toNat) den

/-- The magnitude code of num / den in format `f`, rounded once, before saturation. -/
def magCode (f : FloatFmt) (num den : Nat) : Nat :=
  if num = 0 then 0 else
  let qmin : Int := 1 - (f.bias : Int) - (f.mbits : Int)
  let q := max (floorLog2 num den - (f.mbits : Int)) qmin
  let n := rneScale num den q
  -- codes of one format are consecutive: the code of n · 2^q counts steps of its binade
  if q = qmin then n else (q - qmin).toNat * 2 ^ f.mbits + n

/-- The code of a value in a float format under R199: saturating, signed. -/
def encodeFloat (f : FloatFmt) : Fp → Nat
  | .nan => f.nanCode.getD 0
  | .inf neg => f.maxCode + (if neg then 2 ^ (f.ebits + f.mbits) else 0)
  | .fin neg num den =>
    min (magCode f num den) f.maxCode + (if neg then 2 ^ (f.ebits + f.mbits) else 0)

/-- Rounding half away from zero of num / den. -/
def rhaNat (num den : Nat) : Nat := (2 * num + den) / (2 * den)

/-- Largest value and whether the format is signed, for the integer formats. -/
def intFmt : Nat → Nat × Bool
  | 12 => (2 ^ 31 - 1, true)
  | 13 => (32767, true)
  | 14 => (127, true)
  | 15 => (255, false)
  | 16 => (7, true)
  | _ => (0, true)

/-- The integer a value becomes in an integer format: rounded by rha, saturated symmetrically (R199). -/
def toIntFmt (fmt : Nat) (x : Fp) : Int :=
  let (mx, sgn) := intFmt fmt
  match x with
  | .nan => 0
  | .inf neg => if neg then (if sgn then -(mx : Int) else 0) else mx
  | .fin neg num den =>
    let v := min (rhaNat num den) mx
    if neg then (if sgn then -(v : Int) else 0) else v

/-- Code of one element in a format without a block scale (R199). -/
def encodeElem (fmt : Nat) (x : Fp) : Nat :=
  match floatFmt fmt with
  | some f => encodeFloat f x
  | none => unsigned (fmtBits fmt) (toIntFmt fmt x)

/-- True when R199 saturated the value: its rounded magnitude lies beyond the largest finite one. -/
def saturates (fmt : Nat) (x : Fp) : Bool :=
  match x with
  | .nan => false
  | .inf _ => true
  | .fin neg num den =>
    match floatFmt fmt with
    | some f => magCode f num den > f.maxCode
    | none => rhaNat num den > (intFmt fmt).1 || (neg && !(intFmt fmt).2 && rhaNat num den > 0)

/-- The value of a float code. -/
def decodeFloat (f : FloatFmt) (code : Nat) : Fp :=
  let neg := bit code (f.ebits + f.mbits)
  let mag := code % 2 ^ (f.ebits + f.mbits)
  let e := mag >>> f.mbits
  let m := mag % 2 ^ f.mbits
  if mag > f.maxCode then
    (if f.infCode = some mag then .inf neg else .nan)
  else
    let sig := if e = 0 then m else m + 2 ^ f.mbits
    let x : Int := (if e = 0 then 1 else (e : Int)) - (f.bias : Int) - (f.mbits : Int)
    if x ≥ 0 then .fin neg (sig * 2 ^ x.toNat) 1 else .fin neg sig (2 ^ (-x).toNat)

/-- The value of an integer. -/
def ofInt (n : Int) : Fp := .fin (n < 0) n.natAbs 1

/-- The value of an element code of a format without a block scale. -/
def decodeElem (fmt code : Nat) : Fp :=
  match floatFmt fmt with
  | some f => decodeFloat f code
  | none => if fmt = 15 then ofInt (code % 256 : Nat) else ofInt (signed (fmtBits fmt) code)

/-- The value of an FP32 code. -/
def ofFp32 (code : Nat) : Fp := decodeElem 1 code

/-- The value 2^x. -/
def pow2 (x : Int) : Fp := if x ≥ 0 then .fin false (2 ^ x.toNat) 1 else .fin false 1 (2 ^ (-x).toNat)

namespace Fp

/-- Negation. -/
def neg : Fp → Fp
  | .nan => .nan
  | .inf s => .inf (!s)
  | .fin s n d => .fin (!s) n d

/-- Exact product; a zero times an infinity is a NaN (R235). -/
def mul : Fp → Fp → Fp
  | .nan, _ => .nan
  | _, .nan => .nan
  | .inf s, .inf t => .inf (s != t)
  | .inf s, .fin t n _ => if n = 0 then .nan else .inf (s != t)
  | .fin t n _, .inf s => if n = 0 then .nan else .inf (s != t)
  | .fin s a b, .fin t c d => .fin (s != t) (a * c) (b * d)

/-- Exact sum; opposite infinities give a NaN; an exact zero from unlike signs is +0. -/
def add : Fp → Fp → Fp
  | .nan, _ => .nan
  | _, .nan => .nan
  | .inf s, .inf t => if s = t then .inf s else .nan
  | .inf s, .fin _ _ _ => .inf s
  | .fin _ _ _, .inf s => .inf s
  | .fin s a b, .fin t c d =>
    let l := Nat.lcm b d
    let x := a * (l / b)
    let y := c * (l / d)
    if s = t then .fin s (x + y) l
    else if x > y then .fin s (x - y) l
    else if y > x then .fin t (y - x) l
    else .fin false 0 1

/-- Exact difference. -/
def sub (x y : Fp) : Fp := x.add y.neg

/-- Less than as real values, −0 equal to +0; false with a NaN (R246, R250). -/
def lt : Fp → Fp → Bool
  | .nan, _ => false
  | _, .nan => false
  | .inf s, .inf t => s && !t
  | .inf s, .fin _ _ _ => s
  | .fin _ _ _, .inf t => !t
  | .fin s a b, .fin t c d =>
    if s then (if t then c * b < a * d else (a != 0 || c != 0))
    else (if t then false else a * d < c * b)

/-- True for a NaN. -/
def isNan : Fp → Bool
  | .nan => true
  | _ => false

/-- True for a value that is neither a NaN nor an infinity. -/
def isFin : Fp → Bool
  | .fin _ _ _ => true
  | _ => false

/-- Equal as real values; false with a NaN. -/
def eqv (x y : Fp) : Bool := !x.isNan && !y.isNan && !x.lt y && !y.lt x

/-- floor of a finite value; 0 for the others. -/
def floor : Fp → Int
  | .fin s a b => if s then -((((a + b - 1) / b : Nat)) : Int) else ((a / b : Nat) : Int)
  | _ => 0

/-- Multiplication by 2^x, exact. -/
def scale (y : Fp) (x : Int) : Fp := y.mul (pow2 x)

end Fp

/-- Rounding to FP32 under IEEE 754, to nearest with ties to even: overflow gives an infinity (R235). -/
def rne32 : Fp → Fp
  | .nan => .nan
  | .inf s => .inf s
  | .fin s n d =>
    match floatFmt 1 with
    | none => .nan
    | some f =>
      let c := magCode f n d
      if c > f.maxCode then .inf s
      else match decodeFloat f c with
        | .fin _ a b => .fin s a b
        | x => x

/-- The FP32 code of a value already rounded to FP32; infinities keep their code (R235). -/
def codeFp32 : Fp → Nat
  | .nan => 0x7FC00000
  | .inf s => if s then 0xFF800000 else 0x7F800000
  | x => encodeElem 1 x

/-- FP32 addition, multiplication and subtraction, one rounding each (R237). -/
def add32 (x y : Fp) : Fp := rne32 (x.add y)
def mul32 (x y : Fp) : Fp := rne32 (x.mul y)
def sub32 (x y : Fp) : Fp := rne32 (x.sub y)

/-- The exact sum of a list, an exact zero being +0 (R233). -/
def sumFp (xs : List Fp) : Fp :=
  match xs.foldl Fp.add (.fin false 0 1) with
  | .fin s n d => if n = 0 then .fin false 0 1 else .fin s n d
  | x => x

/-- Element formats' emax of R200. -/
def mxEmax : Nat → Int
  | 9 => 8
  | _ => 2

/-- The larger of two finite magnitudes, each (num, den). -/
def maxMag (x y : Nat × Nat) : Nat × Nat := if x.1 * y.2 < y.1 * x.2 then y else x

/-- The block scale exponent X of R200, none for amax = 0. -/
def mxScale (fmt : Nat) (ys : List Fp) : Option Int :=
  let amax := ys.foldl (fun m y => match y with
    | .fin _ n d => maxMag m (n, d)
    | _ => m) (0, 1)
  if amax.1 = 0 then none else some (clampInt (floorLog2 amax.1 amax.2 - mxEmax fmt) (-127) 127)

/-- One MX block: its element codes and its scale byte (R200). DEDUCED, log 71. -/
def mxBlock (fmt : Nat) (ys : List Fp) : List Nat × Nat :=
  match mxScale fmt ys with
  | none => (ys.map (encodeElem fmt), 0)
  | some x => (ys.map (fun y => encodeElem fmt (y.scale (-x))), (x + 127).toNat)

/-- An element's value under its block's scale byte; the byte 0xFF is NaN and 0 stands for 2^−127 (R200). -/
def mxValue (fmt code scale : Nat) : Fp :=
  if scale = 255 then .nan else (decodeElem fmt code).scale ((scale : Int) - 127)

/-- Consecutive pieces of `k` elements, the last one shorter; `n` bounds their number. -/
def chunks {α : Type} (k : Nat) : Nat → List α → List (List α)
  | 0, _ => []
  | n + 1, xs => if xs.isEmpty then [] else xs.take k :: chunks k n (xs.drop k)

/-- The blocks of 32 of R200, the last completed with zero elements. -/
def mxBlocks (ys : List Fp) : List (List Fp) :=
  (chunks 32 (ys.length / 32 + 1) ys).map (fun b => b ++ List.replicate (32 - b.length) (.fin false 0 1))

/-- Codes packed from bit 0 of the lowest byte upward (R201), as `w`-bit elements. -/
def packCodes (w : Nat) (cs : List Nat) : Bytes :=
  let total := (cs.foldr (fun c acc => acc * 2 ^ w + c % 2 ^ w) 0)
  leBytes (ceilDiv (w * cs.length) 8) total

/-- `n` packed codes of `w` bits. -/
def unpackCodes (w n : Nat) (bs : Bytes) : List Nat :=
  let v := leNat (bs.take (ceilDiv (w * n) 8))
  (List.range n).map (fun i => bits v (w * i) w)

/-- A tensor in its format: element bytes, then (separately) its MX scale bytes (R199 to R201). -/
def encodeTensor (fmt : Nat) (ys : List Fp) : Bytes × Bytes :=
  if isMx fmt then
    let bl := (mxBlocks ys).map (mxBlock fmt)
    (packCodes (fmtBits fmt) (bl.flatMap (·.1)), bl.map (fun b => BitVec.ofNat 8 b.2))
  else (packCodes (fmtBits fmt) (ys.map (encodeElem fmt)), [])

/-- Bytes of the elements, and of the scales, of a tensor of `n` elements. -/
def tensorBytes (fmt n : Nat) : Nat × Nat :=
  if isMx fmt then (ceilDiv (fmtBits fmt * (32 * ceilDiv n 32)) 8, ceilDiv n 32)
  else (ceilDiv (fmtBits fmt * n) 8, 0)

/-- The values of a stored tensor of `n` elements with its scale bytes behind it (R611). -/
def decodeTensor (fmt n : Nat) (bs : Bytes) : List Fp :=
  let (eb, _) := tensorBytes fmt n
  let codes := unpackCodes (fmtBits fmt) n bs
  if isMx fmt then
    let sc := bs.drop eb
    (codes.zipIdx).map (fun p => mxValue fmt p.1 (sc.getD (p.2 / 32) 0).toNat)
  else codes.map (decodeElem fmt)

end Sys2Proof.Machine
end

