-- ==== Sys2Proof/Machine/Audio.lean ====
section
/-! DEFINITION. Audio arithmetic: PCM to signed 24 bits (R193), the resampler (R194, R195), the
output length (R196) and the conversion to the bucket's format (R199). -/

namespace Sys2Proof.Machine

/-- Clip to the signed 24-bit range (R193). -/
def clip24 (x : Int) : Int := clampInt x (-8388608) 8388607

/-- Integer PCM of `w` bits as signed 24-bit PCM: left-aligned, or rounded by rha (R193). -/
def pcmTo24 (w : Nat) (x : Int) : Int :=
  if w ≤ 24 then clip24 (x * 2 ^ (24 - w)) else clip24 (rha x (2 ^ (w - 24)))

/-- IEEE float PCM scaled by 2^23 and rounded by rha (R193); the 24-bit
value of a NaN is free, of its code. DESIGN CHOICE, log 14. -/
def floatTo24 (code : Nat) : Fp → Int
  | .fin neg n d => clip24 (if neg then -((rhaNat (n * 8388608) d : Nat) : Int) else (rhaNat (n * 8388608) d : Nat))
  | .inf neg => if neg then -8388608 else 8388607
  | .nan => clip24 (Config.nanPcm code)

/-- A resampler table (R195). -/
structure ResamplerTable where
  rate : Nat
  l    : Nat
  m    : Nat
  taps : Nat
  /-- L × T coefficients, phase-major. -/
  h    : List Int
  deriving DecidableEq, Repr

/-- Output sample n of a channel (R195): a sample outside the window is 0. -/
def resampleAudio (t : ResamplerTable) (x : List Int) (n : Nat) : Int :=
  let ph := (n * t.m) % t.l
  let b : Int := ((n * t.m) / t.l : Nat)
  let term := fun (k : Nat) =>
    let j : Int := b - (t.taps / 2 : Nat) + 1 + k
    if j < 0 then 0 else t.h.getD (ph * t.taps + k) 0 * x.getD j.toNat 0
  clip24 (rha (sumInt (tabulate t.taps term)) (2 ^ 20))

/-- One channel at the output rate: unchanged at equal rates, else (len × L) div M samples of the
table whose source rate matches; none when there is no such table (R194). -/
def audioChannel (tables : List ResamplerTable) (rate outRate : Nat) (x : List Int) : Option (List Int) :=
  if rate = outRate then some x else
  match tables.find? (fun t => t.rate == rate) with
  | none => none
  | some t => some (tabulate (x.length * t.l / t.m) (resampleAudio t x))

/-- Channels of the output: source channel c, or zero samples (R193). -/
def audioChannels (n : Nat) (src : List (List Int)) : List (List Int) :=
  let len := maxNat (src.map List.length)
  tabulate n (fun c => src.getD c (List.replicate len 0))

/-- A channel cut or padded with zeros to AUDIO_LEN samples (R196). -/
def fitAudio (len : Nat) (x : List Int) : List Int := x.take len ++ List.replicate (len - x.length) 0

/-- The value of an audio sample before rounding, y = (a / 2^23) × AUDIO_S (R199). -/
def audioValue (scale : Nat) (a : Int) : Fp :=
  (Fp.fin (a < 0) a.natAbs 8388608).mul (ofFp32 scale)

/-- Samples in delivery order: channel-major, or sample-major (R197). -/
def audioOrder (interleaved : Bool) (len : Nat) (ch : List (List Int)) : List Int :=
  if interleaved then (List.range len).flatMap (fun i => ch.map (fun c => c.getD i 0)) else ch.flatten

end Sys2Proof.Machine
end

