-- ==== Sys2Proof/Machine/Picture.lean ====
section
/-! DEFINITION. Picture arithmetic: deinterlacing (R157, R158), colour conversion (R176 to R179),
crop, resize and placement (R181 to R188), region-of-interest steering (R190) and augmentation
(R191, R192). Samples are integers; every step rounds once by rha and clips (R173). -/

namespace Sys2Proof.Machine

/-- One plane of samples, row by row. -/
structure Plane where
  w  : Nat
  h  : Nat
  px : List Int
  deriving DecidableEq, Repr

/-- A picture of working values: planes of one size (R172). -/
structure Picture where
  w  : Nat
  h  : Nat
  ch : List (List Int)
  deriving DecidableEq, Repr

/-- A decoded picture with what its stream says of it (R139, R176, R177). -/
structure Decoded where
  planes : List Plane
  depth  : Nat
  /-- matrix_coefficients of H.273, none without signalling. -/
  matrix : Option Nat
  /-- The stream's full-range flag, none when absent. -/
  full   : Option Bool
  /-- chroma_sample_loc_type, none when absent. -/
  chroma : Option Nat
  /-- The default chroma location type of the standard: 0 or 1 (R177). -/
  chromaDefault : Nat
  /-- An RGB source (R179). -/
  rgb    : Bool
  /-- JPEG with JFIF: BT.601, full range (R176). -/
  jfif   : Bool
  interlaced : Bool
  bottomFirst : Bool
  /-- CONCEALED under R147 or R148. -/
  concealed : Bool
  deriving DecidableEq, Repr

/-- Clip to a working value (R173). -/
def clipWv (x : Int) : Int := clampInt x 0 65535

/-- Sample of a plane, coordinates already inside it. -/
def Plane.at (p : Plane) (x y : Nat) : Int := p.px.getD (y * p.w + x) 0

/-- The matrix from the stream (R176). -/
def streamMatrix (f : Decoded) (height : Nat) : Nat :=
  if f.jfif then 1 else
  match f.matrix with
  | some 1 => 2
  | some 5 => 1
  | some 6 => 1
  | some 9 => 3
  | _ => if height ≤ 576 then 1 else 2

/-- The picture with its matrix written as signalled, so that a field keeps the matrix that its frame's coded height
gives (R176). -/
def fixMatrix (f : Decoded) : Decoded :=
  { f with matrix := some (match streamMatrix f ((f.planes.map (·.h)).headD 0) with
      | 1 => 5
      | 3 => 9
      | _ => 1) }

/-! ## Deinterlacing -/

/-- Median of three. -/
def median3 (a b c : Int) : Int := max (min a b) (min (max a b) c)

/-- The output sample at a line not in the kept field (R158). `parity` is the kept field's. -/
def deintSample (adaptive : Bool) (t d parity : Nat) (p : Plane) (x y : Nat) : Int :=
  if y % 2 = parity then p.at x y else
  let a := if y > 0 then p.at x (y - 1) else p.at x (y + 1)
  let c := if y + 1 < p.h then p.at x (y + 1) else p.at x (y - 1)
  let b := (a + c + 1) / 2
  if adaptive then
    let w := p.at x y
    if (w - b).natAbs ≤ t <<< (d - 8) then w else median3 a w c
  else b

/-- A full-height plane with field `parity` kept. -/
def deintPlane (adaptive : Bool) (t d parity : Nat) (p : Plane) : Plane :=
  { p with px := (List.range p.h).flatMap (fun y => (List.range p.w).map (fun x => deintSample adaptive t d parity p x y)) }

/-- One field as a half-height plane. -/
def fieldPlane (parity : Nat) (p : Plane) : Plane :=
  let rows := (List.range p.h).filter (fun y => y % 2 = parity)
  { w := p.w, h := rows.length, px := rows.flatMap (fun y => (List.range p.w).map (fun x => p.at x y)) }

/-- The pictures a coded frame gives under a DEINTERLACE method of Table 05-6. DEDUCED, log 115. -/
def deinterlace (method t : Nat) (f : Decoded) : List Decoded :=
  if !f.interlaced then [f] else
  let first := if f.bottomFirst then 1 else 0
  let withPlanes := fun g => { f with planes := f.planes.map g }
  match method with
  | 1 => [fixMatrix f, fixMatrix f].zipWith (fun g k => { g with planes := g.planes.map (fieldPlane k) }) [first, 1 - first]
  | 2 => [withPlanes (deintPlane false t f.depth first), withPlanes (deintPlane false t f.depth (1 - first))]
  | 3 => [withPlanes (deintPlane true t f.depth first)]
  | _ => [f]

/-! ## Resize -/

/-- The values of `lanczosTab` for u = 0 … 47. -/
def lanczosTab0 : List Int :=
  [16384, 16384, 16382, 16380, 16377, 16373, 16368, 16362, 16355, 16347, 16338, 16329, 16318, 16307,
     16295, 16281, 16267, 16252, 16236, 16220, 16202, 16183, 16164, 16143, 16122, 16100, 16077, 16053,
     16028, 16003, 15976, 15949, 15921, 15891, 15861, 15831, 15799, 15766, 15733, 15699, 15664, 15628,
     15591, 15554, 15515, 15476, 15436, 15395]

/-- The values of `lanczosTab` for u = 48 … 95. -/
def lanczosTab1 : List Int :=
  [15354, 15311, 15268, 15224, 15179, 15134, 15088, 15040, 14993, 14944, 14895, 14844, 14794, 14742,
     14690, 14637, 14583, 14528, 14473, 14417, 14361, 14303, 14245, 14187, 14128, 14068, 14007, 13946,
     13884, 13821, 13758, 13694, 13630, 13565, 13499, 13433, 13366, 13299, 13231, 13162, 13093, 13023,
     12953, 12882, 12811, 12739, 12667, 12594]

/-- The values of `lanczosTab` for u = 96 … 143. -/
def lanczosTab2 : List Int :=
  [12521, 12447, 12373, 12298, 12223, 12147, 12071, 11994, 11917, 11840, 11762, 11684, 11605, 11526,
     11447, 11367, 11287, 11206, 11125, 11044, 10962, 10880, 10798, 10716, 10633, 10550, 10466, 10383,
     10299, 10214, 10130, 10045, 9960, 9875, 9790, 9704, 9618, 9532, 9446, 9360, 9273, 9187, 9100, 9013,
     8926, 8839, 8751, 8664]

/-- The values of `lanczosTab` for u = 144 … 191. -/
def lanczosTab3 : List Int :=
  [8576, 8489, 8401, 8313, 8226, 8138, 8050, 7962, 7874, 7786, 7698, 7610, 7522, 7434, 7346, 7258,
     7170, 7083, 6995, 6907, 6819, 6732, 6644, 6557, 6470, 6383, 6296, 6209, 6122, 6035, 5949, 5863,
     5776, 5690, 5605, 5519, 5434, 5348, 5263, 5179, 5094, 5010, 4926, 4842, 4758, 4675, 4592, 4509]

/-- The values of `lanczosTab` for u = 192 … 239. -/
def lanczosTab4 : List Int :=
  [4427, 4345, 4263, 4181, 4100, 4019, 3938, 3858, 3778, 3698, 3619, 3540, 3462, 3383, 3306, 3228,
     3151, 3074, 2998, 2922, 2847, 2772, 2697, 2623, 2549, 2476, 2403, 2330, 2258, 2187, 2116, 2045,
     1975, 1905, 1836, 1767, 1699, 1631, 1564, 1497, 1431, 1365, 1300, 1235, 1171, 1107, 1044, 981]

/-- The values of `lanczosTab` for u = 240 … 287. -/
def lanczosTab5 : List Int :=
  [919, 858, 797, 736, 676, 617, 558, 499, 442, 385, 328, 272, 216, 161, 107, 53, 0, -53, -105, -156,
     -207, -257, -307, -356, -405, -453, -500, -547, -593, -639, -684, -728, -772, -815, -858, -900,
     -941, -982, -1022, -1062, -1101, -1139, -1177, -1214, -1251, -1287, -1322, -1357]

/-- The values of `lanczosTab` for u = 288 … 335. -/
def lanczosTab6 : List Int :=
  [-1391, -1425, -1458, -1490, -1522, -1553, -1584, -1614, -1643, -1672, -1701, -1728, -1755, -1782,
     -1808, -1833, -1858, -1882, -1906, -1929, -1951, -1973, -1994, -2015, -2035, -2055, -2074, -2093,
     -2111, -2128, -2145, -2161, -2177, -2192, -2207, -2221, -2235, -2248, -2260, -2272, -2284, -2295,
     -2305, -2315, -2325, -2334, -2342, -2350]

/-- The values of `lanczosTab` for u = 336 … 383. -/
def lanczosTab7 : List Int :=
  [-2358, -2365, -2371, -2377, -2383, -2388, -2392, -2396, -2400, -2403, -2406, -2408, -2410, -2411,
     -2412, -2413, -2413, -2412, -2412, -2410, -2409, -2407, -2404, -2402, -2398, -2395, -2391, -2386,
     -2381, -2376, -2371, -2365, -2359, -2352, -2345, -2338, -2330, -2322, -2314, -2305, -2296, -2287,
     -2277, -2267, -2257, -2247, -2236, -2225]

/-- The values of `lanczosTab` for u = 384 … 431. -/
def lanczosTab8 : List Int :=
  [-2213, -2202, -2190, -2178, -2165, -2152, -2139, -2126, -2113, -2099, -2085, -2071, -2056, -2042,
     -2027, -2012, -1996, -1981, -1965, -1949, -1933, -1917, -1901, -1884, -1867, -1850, -1833, -1816,
     -1799, -1781, -1763, -1745, -1728, -1709, -1691, -1673, -1654, -1636, -1617, -1599, -1580, -1561,
     -1542, -1523, -1504, -1484, -1465, -1446]

/-- The values of `lanczosTab` for u = 432 … 479. -/
def lanczosTab9 : List Int :=
  [-1426, -1407, -1387, -1368, -1348, -1328, -1309, -1289, -1269, -1249, -1230, -1210, -1190, -1170,
     -1150, -1131, -1111, -1091, -1071, -1051, -1032, -1012, -992, -973, -953, -933, -914, -894, -875,
     -855, -836, -817, -798, -778, -759, -740, -721, -702, -684, -665, -646, -628, -609, -591, -573,
     -555, -537, -519]

/-- The values of `lanczosTab` for u = 480 … 527. -/
def lanczosTab10 : List Int :=
  [-501, -483, -466, -448, -431, -413, -396, -379, -362, -346, -329, -313, -296, -280, -264, -248,
     -232, -216, -201, -186, -170, -155, -140, -126, -111, -97, -82, -68, -54, -40, -27, -13, 0, 13, 26,
     39, 52, 64, 76, 89, 100, 112, 124, 135, 147, 158, 169, 179]

/-- The values of `lanczosTab` for u = 528 … 575. -/
def lanczosTab11 : List Int :=
  [190, 200, 211, 221, 230, 240, 250, 259, 268, 277, 286, 294, 303, 311, 319, 327, 335, 342, 350, 357,
     364, 371, 377, 384, 390, 396, 402, 408, 414, 419, 425, 430, 435, 440, 444, 449, 453, 457, 461, 465,
     468, 472, 475, 478, 481, 484, 487, 489]

/-- The values of `lanczosTab` for u = 576 … 623. -/
def lanczosTab12 : List Int :=
  [492, 494, 496, 498, 500, 502, 503, 504, 506, 507, 508, 509, 509, 510, 510, 510, 511, 511, 510, 510,
     510, 509, 509, 508, 507, 506, 505, 504, 503, 501, 500, 498, 497, 495, 493, 491, 489, 487, 484, 482,
     479, 477, 474, 472, 469, 466, 463, 460]

/-- The values of `lanczosTab` for u = 624 … 671. -/
def lanczosTab13 : List Int :=
  [457, 454, 450, 447, 444, 440, 437, 433, 429, 426, 422, 418, 414, 410, 406, 402, 398, 394, 390, 386,
     382, 378, 373, 369, 365, 360, 356, 351, 347, 343, 338, 334, 329, 324, 320, 315, 311, 306, 302, 297,
     292, 288, 283, 279, 274, 269, 265, 260]

/-- The values of `lanczosTab` for u = 672 … 719. -/
def lanczosTab14 : List Int :=
  [256, 251, 246, 242, 237, 233, 228, 224, 219, 215, 210, 206, 202, 197, 193, 189, 184, 180, 176, 172,
     167, 163, 159, 155, 151, 147, 143, 139, 136, 132, 128, 124, 121, 117, 113, 110, 106, 103, 99, 96,
     93, 89, 86, 83, 80, 77, 74, 71]

/-- The values of `lanczosTab` for u = 720 … 767. -/
def lanczosTab15 : List Int :=
  [68, 65, 63, 60, 57, 55, 52, 50, 47, 45, 43, 40, 38, 36, 34, 32, 30, 28, 26, 25, 23, 21, 20, 18, 17,
     15, 14, 13, 12, 10, 9, 8, 7, 6, 6, 5, 4, 3, 3, 2, 2, 1, 1, 1, 0, 0, 0, 0]

/-- The values of `lanczosTab` for u = 768 … 768. -/
def lanczosTab16 : List Int :=
  [0]

/-- 16,384 × K(u / 256) of the Lanczos-3 kernel of Table 06-7, u = 0 … 768, rounded by rha. -/
def lanczosTab : List Int :=
  lanczosTab0 ++ lanczosTab1 ++ lanczosTab2 ++ lanczosTab3 ++ lanczosTab4 ++ lanczosTab5 ++ lanczosTab6 ++ lanczosTab7 ++ lanczosTab8
    ++ lanczosTab9 ++ lanczosTab10 ++ lanczosTab11 ++ lanczosTab12 ++ lanczosTab13 ++ lanczosTab14 ++ lanczosTab15 ++ lanczosTab16

/-- The kernel table of R186; filter codes of Table 06-1. -/
def ktab (filter u : Nat) : Int :=
  let v : Int := u
  match filter with
  | 2 => if u < 256 then rha (16384 * (3 * v * v * v - 1280 * v * v + 33554432)) 33554432
         else rha (16384 * (-(v * v * v) + 1280 * v * v - 524288 * v + 67108864)) 33554432
  | 3 => lanczosTab.getD u 0
  | _ => 64 * (256 - v)

/-- Kernel support of Table 06-7. -/
def ksup : Nat → Nat
  | 2 => 2
  | 3 => 3
  | _ => 1

/-- Weights c[j] from t[j] (R185): scaled to 16,384, the remainder on the largest, lowest j first. -/
def weights (ts : List (Int × Int)) : List (Int × Int) :=
  let s := sumInt (ts.map (·.2))
  let cs := ts.map (fun p => (p.1, rha (p.2 * 16384) s))
  let rest := 16384 - sumInt (cs.map (·.2))
  let best := ts.foldl (fun b p => match b with
    | none => some p
    | some q => if p.2 > q.2 then some p else some q) none
  match best with
  | none => cs
  | some b => cs.map (fun p => if p.1 = b.1 then (p.1, p.2 + rest) else p)

/-- A line of n samples, read at a clamped position (taps outside repeat the edge, R185). -/
def lineAt (n : Nat) (s : List Int) (j : Int) : Int := s.getD (clampInt j 0 ((n : Int) - 1)).toNat 0

/-- One output sample from its weights. -/
def weighted (n : Nat) (s : List Int) (cs : List (Int × Int)) : Int :=
  clipWv (rha (sumInt (cs.map (fun p => p.2 * lineAt n s p.1))) 16384)

/-- The taps of a kernel filter around position X with scale (p, q) (R185). -/
def kernelTaps (filter : Nat) (X : Int) (p q : Nat) : List (Int × Int) :=
  let r := ksup filter * q / p + 2
  let c := X / 65536
  ((List.range (2 * r + 2)).map (fun (k : Nat) => c - (r : Int) + (k : Int))).filterMap (fun j =>
    let u := rhaNat ((j * 65536 - X).natAbs * 256 * p) (65536 * q)
    if u < 256 * ksup filter then some (j, ktab filter u) else none)

/-- The position X of output i in a window of n_in samples from origin o (R185). -/
def centred (nin nout o i : Nat) : Int :=
  ((((2 * i + 1) * nin * 65536) / (2 * nout) : Nat) : Int) - 32768 + (o : Int) * 65536

/-- The taps of the area filter: overlaps of [i·n_in, (i+1)·n_in) with pixel j, in 1/n_out pixel (R186). -/
def areaTaps (nin nout o i : Nat) : List (Int × Int) :=
  ((List.range (nin / nout + 2)).map (fun k => i * nin / nout + k)).filterMap (fun j =>
    let lo := max (i * nin) (j * nout)
    let hi := min ((i + 1) * nin) ((j + 1) * nout)
    if lo < hi then some ((((j + o : Nat) : Int)), ((hi - lo : Nat) : Int)) else none)

/-- Output sample i of one axis: N-sample line `s`, window [o, o + n_in), n_out outputs (R185, R186). -/
def resample (filter : Nat) (antialias : Bool) (n nin nout o i : Nat) (s : List Int) : Int :=
  if filter = 0 then lineAt n s ((centred nin nout o i + 32768) / 65536)
  else if filter = 4 && nout ≤ nin then weighted n s (weights (areaTaps nin nout o i))
  else
    let f := if filter = 4 then 1 else filter
    let pq := if antialias && nin > nout then (nout, nin) else (1, 1)
    weighted n s (weights (kernelTaps f (centred nin nout o i) pq.1 pq.2))

/-- Rows of a plane. -/
def rowsOf (w h : Nat) (px : List Int) : List (List Int) :=
  (List.range h).map (fun y => (px.drop (y * w)).take w)

/-- Columns to rows and back: element (x, y) of the result is element (y, x). -/
def transposeRows (w : Nat) (rows : List (List Int)) : List (List Int) :=
  (List.range w).map (fun x => rows.map (fun r => r.getD x 0))

/-- Separable resize of the window (x0, y0, wc, hc) of a picture to w' × h' (R183). -/
def resizeChannel (filter : Nat) (aa : Bool) (w h x0 y0 wc hc w' h' : Nat) (px : List Int) : List Int :=
  let hor := (rowsOf w h px).map (fun r => (List.range w').map (fun i => resample filter aa w wc w' x0 i r))
  let cols := (transposeRows w' hor).map (fun c => (List.range h').map (fun i => resample filter aa h hc h' y0 i c))
  (transposeRows h' cols).flatten

/-- The bound on each axis of R184. -/
def ratioOk (nin nout : Nat) : Bool := nin ≤ 16 * nout && nout ≤ 16 * nin

/-! ## Colour -/

/-- Kr and Kb in units of 1/10,000 (Table 06-4); 1 BT.601, 2 BT.709, 3 BT.2020. -/
def matrixK : Nat → Int × Int
  | 1 => (2990, 1140)
  | 3 => (2627, 593)
  | _ => (2126, 722)

/-- Full range from the stream (R176). -/
def streamFull (f : Decoded) : Bool := f.jfif || f.full.getD false

/-- The coefficients cy, crr, cbg, crg, cbb of Table 06-3 and the offsets oy, oc of Table 06-4. -/
structure ColourCoeffs where
  cy : Int
  crr : Int
  cbg : Int
  crg : Int
  cbb : Int
  oy : Int
  oc : Int
  deriving DecidableEq, Repr

/-- Coefficients for a matrix, range and depth (Table 06-3, Table 06-4). -/
def colourCoeffs (matrix : Nat) (full : Bool) (d : Nat) : ColourCoeffs :=
  let (kr, kb) := matrixK matrix
  let kg := 10000 - kr - kb
  let base : Int := 65535 * 65536
  let syDen : Int := if full then 2 ^ d - 1 else 219 * 2 ^ (d - 8)
  let scDen : Int := if full then 2 ^ d - 1 else 224 * 2 ^ (d - 8)
  { cy := rha base syDen
    crr := rha (base * 2 * (10000 - kr)) (scDen * 10000)
    cbg := rha (base * 2 * kb * (10000 - kb)) (scDen * 10000 * kg)
    crg := rha (base * 2 * kr * (10000 - kr)) (scDen * 10000 * kg)
    cbb := rha (base * 2 * (10000 - kb)) (scDen * 10000)
    oy := if full then 0 else 16 * 2 ^ (d - 8)
    oc := 2 ^ (d - 1) }

/-- R, G and B working values of one sample (R178). -/
def yccToRgb (c : ColourCoeffs) (y cb cr : Int) : List Int :=
  [clipWv (rha (c.cy * (y - c.oy) + c.crr * (cr - c.oc)) 65536),
   clipWv (rha (c.cy * (y - c.oy) - c.cbg * (cb - c.oc) - c.crg * (cr - c.oc)) 65536),
   clipWv (rha (c.cy * (y - c.oy) + c.cbb * (cb - c.oc)) 65536)]

/-- The working value of luma alone (R178, CHANNELS = LUMA). -/
def lumaOnly (c : ColourCoeffs) (y : Int) : Int := clipWv (rha (c.cy * (y - c.oy)) 65536)

/-- Horizontal siting of a chroma location type of H.273: true when co-sited (types 0, 2, 4). -/
def chromaCosited (loc : Nat) : Bool := loc = 0 || loc = 2 || loc = 4

/-- Vertical siting of a chroma location type: 0 centred (0, 1), 1 top (2, 3), 2 bottom (4, 5). -/
def chromaVert (loc : Nat) : Nat := if loc ≤ 1 then 0 else if loc ≤ 3 then 1 else 2

/-- Position of output i on a subsampled axis: kind 0 centred, 1 co-sited or top, 2 bottom (R177). -/
def chromaPos (kind nin nout i : Nat) : Int :=
  match kind with
  | 0 => centred nin nout 0 i
  | 1 => ((i * nin * 65536 / nout : Nat) : Int)
  | _ => (((i : Int) - 1) * nin * 65536) / nout

/-- One output of the bilinear rule without antialias at position X. The sample range is the plane's own. -/
def chromaTap (n : Nat) (s : List Int) (X : Int) : Int :=
  let cs := weights (kernelTaps 1 X 1 1)
  rha (sumInt (cs.map (fun p => p.2 * lineAt n s p.1))) 16384

/-- The channel of an RGB source under CHANNELS = LUMA: R178 gives no formula; free, limited to the working range. DESIGN CHOICE, log 13. -/
def rgbToLuma (chans : List (List Int)) : List Int :=
  List.zipWith (fun (p : Int × Int) b => clipWv (Config.rgbLuma p.1 p.2 b)) (List.zip (chans.getD 0 []) (chans.getD 1 []))
    (chans.getD 2 [])

/-- A chroma plane brought to luma size (R177). -/
def upsample (loc w h : Nat) (p : Plane) : Plane :=
  let hk := if p.w = w then 0 else if chromaCosited loc then 1 else 0
  let hor := if p.w = w then rowsOf p.w p.h p.px else
    (rowsOf p.w p.h p.px).map (fun r => (List.range w).map (fun i => chromaTap p.w r (chromaPos hk p.w w i)))
  let rows := if p.h = h then hor else
    transposeRows h ((transposeRows w hor).map (fun c =>
      (List.range h).map (fun i => chromaTap p.h c (chromaPos (chromaVert loc) p.h h i))))
  { w := w, h := h, px := rows.flatten }

/-- Colour conversion of a decoded picture to working values (R176 to R179). `matrix`, `range` and
`luma` are the MATRIX, RANGE and CHANNELS fields of Table 06-1. DEDUCED, log 115. -/
def toWorking (matrix range : Nat) (luma : Bool) (f : Decoded) : Picture :=
  match f.planes with
  | [] => { w := 0, h := 0, ch := [] }
  | y :: rest =>
    let scale := fun (s : Int) => clipWv (rha (s * 65535) (2 ^ f.depth - 1))
    let m := if matrix = 0 then streamMatrix f y.h else matrix
    let full := if range = 0 then streamFull f else range = 2
    let c := colourCoeffs m full f.depth
    let up := rest.map (upsample (f.chroma.getD f.chromaDefault) y.w y.h)
    let chans : List (List Int) :=
      match f.rgb, up with
      | true, g :: b :: _ => [y.px.map scale, g.px.map scale, b.px.map scale]
      | _, [] => let v := y.px.map (if f.rgb then scale else lumaOnly c); [v, v, v]
      | false, cb :: cr :: _ =>
        let px := List.zipWith (fun (p : Int × Int) r => yccToRgb c p.1 p.2 r) (List.zip y.px cb.px) cr.px
        (List.range 3).map (fun k => px.map (fun v => v.getD k 0))
      | _, [_] => let v := y.px.map scale; [v, v, v]
    { w := y.w, h := y.h, ch := if luma then [if f.rgb then (if up.length ≤ 1 then y.px.map scale else rgbToLuma chans)
                                                   else y.px.map (lumaOnly c)] else chans }

/-! ## Window, placement, ROI -/

/-- A crop window: origin and size (R182). -/
structure Window2 where
  x0 : Nat
  y0 : Nat
  wc : Nat
  hc : Nat
  deriving DecidableEq, Repr

/-- The default window of R182 for WINDOW_W, WINDOW_H and a frame size. -/
def defaultWindow (ww wh fw fh : Nat) : Window2 :=
  let wc := min (if ww = 0 then fw else ww) fw
  let hc := min (if wh = 0 then fh else wh) fh
  { x0 := (fw - wc) / 2, y0 := (fh - hc) / 2, wc := wc, hc := hc }

/-- The window's origin clamped into a frame (R190, last line). DEDUCED, log 66. -/
def clampWindow (w : Window2) (fw fh : Nat) : Window2 :=
  { w with x0 := min w.x0 (fw - w.wc), y0 := min w.y0 (fh - w.hc) }

/-- Placed size w', h' (R187). -/
def placedSize (letterbox : Bool) (wc hc w h : Nat) : Nat × Nat :=
  if !letterbox then (w, h)
  else if wc * h ≥ hc * w then (w, max 1 (rhaNat (hc * w) wc))
  else (max 1 (rhaNat (wc * h) hc), h)

/-- The five INT32 values of an ROI result (R189). -/
structure RoiResult where
  x0 : Nat
  y0 : Nat
  x1 : Nat
  y1 : Nat
  conf : Int
  deriving DecidableEq, Repr

/-- One axis of the window move of R190. -/
def roiAxis (alpha maxStep origin size frame lo hi : Nat) (hold : Bool) : Nat :=
  let cx : Int := origin + size / 2
  let bx : Int := rha (((lo + hi) * frame : Nat) : Int) 131072
  let d : Int := if hold then 0 else bx - cx
  let step : Int := min (maxStep : Int) (((d.natAbs * alpha + 128) >>> 8 : Nat) : Int)
  let cx := if d > 0 then cx + step else if d < 0 then cx - step else cx
  (clampInt (cx - (size / 2 : Nat)) 0 ((frame : Int) - size)).toNat

/-- The window of frame k + 1 from that of frame k and its ROI result (R190). -/
def roiStep (alpha maxStep : Nat) (confMin : Int) (fw fh : Nat) (w : Window2) (r : RoiResult) : Window2 :=
  let hold := r.conf < confMin || r.x1 ≤ r.x0 || r.y1 ≤ r.y0
  { w with x0 := roiAxis alpha maxStep w.x0 w.wc fw r.x0 r.x1 hold
           y0 := roiAxis alpha maxStep w.y0 w.hc fh r.y0 r.y1 hold }

/-! ## Augmentation -/

/-- An AUG entry: op code of Table 06-6 and payload offset. -/
structure AugOp where
  op  : Nat
  off : Nat
  deriving DecidableEq, Repr

/-- Payload bytes of an op code (Table 06-6). -/
def augLen : Nat → Nat
  | 1 => 8 | 2 => 1 | 3 => 1 | 4 => 2 | 5 => 2 | 6 => 2 | 7 => 1 | 8 => 10
  | _ => 0

/-- Luminance of SATURATION and GREY (R191). -/
def augLuma (r g b : Int) : Int := rha (3483 * r + 11718 * g + 1183 * b) 16384

/-- A payload inside the ranges of Table 06-6 and R192; `fw`, `fh` the first frame's size. -/
def augValid (payload : Bytes) (fw fh : Nat) (a : AugOp) : Bool :=
  let u16 := fun k => field payload (a.off + k) 2
  let u8 := field payload a.off 1
  match a.op with
  | 1 => u16 4 ≥ 1 && u16 6 ≥ 1 && u16 0 + u16 4 ≤ fw && u16 2 + u16 6 ≤ fh
  | 2 => u8 < 4
  | 3 => u8 < 4
  | 5 => u16 0 ≤ 1024
  | 6 => u16 0 ≤ 1024
  | 7 => u8 < 2
  | _ => true

/-- Mirror of a picture (FLIP). -/
def flipPic (hor ver : Bool) (p : Picture) : Picture :=
  { p with ch := p.ch.map (fun px =>
      let rows := rowsOf p.w p.h px
      let rows := if ver then rows.reverse else rows
      (if hor then rows.map List.reverse else rows).flatten) }

/-- One quarter turn clockwise. -/
def rot90 (p : Picture) : Picture :=
  { w := p.h, h := p.w, ch := p.ch.map (fun px => (transposeRows p.w (rowsOf p.w p.h px).reverse).flatten) }

/-- A photometric operation on the channels of one pixel (R191); LUMA pixels have one channel. -/
def photoOp (payload : Bytes) (a : AugOp) (v : List Int) : List Int :=
  let u16 : Int := field payload a.off 2
  let lum := fun (r g b : Int) => augLuma r g b
  match a.op, v with
  | 4, _ => v.map (fun x => clipWv (x + signed 16 (field payload a.off 2)))
  | 5, _ => v.map (fun x => clipWv (rha ((x - 32768) * u16) 256 + 32768))
  | 6, [r, g, b] => v.map (fun x => clipWv (lum r g b + rha ((x - lum r g b) * u16) 256))
  | 7, [r, g, b] => if field payload a.off 1 = 1 then [lum r g b, lum r g b, lum r g b] else v
  | _, _ => v

/-- Pixels of a picture as channel lists, and back. -/
def pixels (p : Picture) : List (List Int) :=
  (List.range (p.w * p.h)).map (fun i => p.ch.map (fun c => c.getD i 0))
def ofPixels (w h n : Nat) (px : List (List Int)) : Picture :=
  { w := w, h := h, ch := (List.range n).map (fun k => px.map (fun v => v.getD k 0)) }

/-- BRIGHT, CONTRAST, SATURATION and GREY in AUG list order (Table 06-5, order 7). -/
def photometric (payload : Bytes) (ops : List AugOp) (p : Picture) : Picture :=
  ofPixels p.w p.h p.ch.length ((pixels p).map (fun v =>
    ops.foldl (fun v a => if 4 ≤ a.op && a.op ≤ 7 then photoOp payload a v else v) v))

/-- Placement in the H × W frame, PAD outside the placed area (R187). -/
def place (w h pad : Nat) (p : Picture) : Picture :=
  let ox := (w - p.w) / 2
  let oy := (h - p.h) / 2
  { w := w, h := h, ch := p.ch.map (fun px =>
      (List.range h).flatMap (fun y => (List.range w).map (fun x =>
        if ox ≤ x && x < ox + p.w && oy ≤ y && y < oy + p.h then px.getD ((y - oy) * p.w + (x - ox)) 0
        else (pad : Int)))) }

/-- ERASE: every channel of the rectangle, clipped to the frame, set to fill (Table 06-6). -/
def erase (payload : Bytes) (a : AugOp) (p : Picture) : Picture :=
  let u16 := fun k => field payload (a.off + k) 2
  { p with ch := p.ch.map (fun px =>
      (List.range p.h).flatMap (fun y => (List.range p.w).map (fun x =>
        if u16 0 ≤ x && x < u16 0 + u16 4 && u16 2 ≤ y && y < u16 2 + u16 6 then ((u16 8 : Nat) : Int)
        else px.getD (y * p.w + x) 0))) }

/-- The op of a code, when AUG holds it. -/
def augFind (ops : List AugOp) (op : Nat) : Option AugOp := ops.find? (fun a => a.op == op)

end Sys2Proof.Machine
end

