-- ==== Sys2Proof/Machine/SlotLayout.lean ====
section
/-! DEFINITION. The slot: its regions at multiples of 64 B (R197), the 32-byte header of Table 06-8,
picture padding (R198) and the conversion of working values (R199). -/

namespace Sys2Proof.Machine

/-- The header of Table 06-8. -/
structure SlotHeader where
  sample    : Nat
  concealed : Bool
  reserve   : Bool
  audioCut  : Bool
  validT    : Nat
  ox        : Nat
  oy        : Nat
  validW    : Nat
  validH    : Nat
  validLen  : Nat
  deriving DecidableEq, Repr

/-- The 32 bytes of a slot header. -/
def SlotHeader.bytes (h : SlotHeader) : Bytes :=
  leBytes 8 (h.sample % 2 ^ 44)
  ++ leBytes 4 (packFields [(0, 1, b2n h.concealed), (1, 1, b2n h.reserve), (2, 1, b2n h.audioCut)])
  ++ leBytes 2 h.validT ++ leBytes 2 h.ox ++ leBytes 2 h.oy ++ leBytes 2 h.validW ++ leBytes 2 h.validH
  ++ zeros 2 ++ leBytes 4 h.validLen ++ zeros 4

/-- Value of a working value before rounding: (v / 65,535 − NORM_M) × NORM_S (R199). -/
def pictureValue (normM normS : Nat) (v : Int) : Fp :=
  ((Fp.fin (v < 0) v.natAbs 65535).sub (ofFp32 normM)).mul (ofFp32 normS)

/-- A frame of PAD in every channel (R198). -/
def padPicture (w h n pad : Nat) : Picture :=
  { w := w, h := h, ch := List.replicate n (List.replicate (w * h) (pad : Int)) }

/-- The working values of a slot's frames in memory order with their channels (R197): LAYOUT 0 is
NCHW, 1 NHWC, 2 NTHWC. -/
def pictureOrder (layout : Nat) (frames : List Picture) : List (Nat × Int) :=
  frames.flatMap (fun p =>
    if layout = 0 then (p.ch.zipIdx).flatMap (fun c => c.1.map (fun v => (c.2, v)))
    else (pixels p).flatMap (fun v => (v.zipIdx).map (fun x => (x.2, x.1))))

/-- The values of the picture tensor (R199). -/
def pictureTensor (normM normS : List Nat) (layout : Nat) (frames : List Picture) : List Fp :=
  (pictureOrder layout frames).map (fun p => pictureValue (normM.getD p.1 0) (normS.getD p.1 0) p.2)

/-- Regions laid out one after the other, each from the next multiple of 64 B, gaps 0 (R197). An
absent region takes no room. -/
def layRegions (regions : List Bytes) : Bytes :=
  regions.foldl (fun acc r => if r.isEmpty then acc else acc ++ zeros (roundUp acc.length 64 - acc.length) ++ r) []

/-- Start of each region for regions of the given lengths. -/
def regionStarts (lens : List Nat) : List Nat × Nat :=
  lens.foldl (fun a n => if n = 0 then (a.1 ++ [a.2], a.2) else (a.1 ++ [roundUp a.2 64], roundUp a.2 64 + n)) ([], 0)

/-- The bytes a slot takes for regions of the given lengths. -/
def regionsEnd (lens : List Nat) : Nat := (regionStarts lens).2

end Sys2Proof.Machine
end

