-- ==== Sys2Proof/Machine/Text.lean ====
section
/-! DEFINITION. The text engine: the vocabulary image and its checks (R207, R208), documents (R206),
normalization (R210), segmentation (R211 to R214), packing (R215 to R217) and detokenization (R218, R219). -/

namespace Sys2Proof.Machine

/-! ## Vocabulary image -/

/-- A piece of Table 07-3: kind 0 NORMAL, 1 BYTE, 2 SPECIAL. -/
structure Piece where
  bytes : Bytes
  kind  : Nat
  score : Int
  deriving DecidableEq, Repr

/-- A vocabulary image as its header of Table 07-2 and its piece table give it. -/
structure Vocab where
  nfkc      : Bool
  spaceMark : Bool
  byteBase  : Nat
  bos       : Nat
  eos       : Nat
  pad       : Nat
  byteScore : Int
  pieces    : List Piece
  /-- The normalization section (R209). -/
  norm      : Bytes
  deriving DecidableEq, Repr

/-- Piece of entry `e`, 12 bytes of the piece table (Table 07-3). -/
def parsePiece (pool e : Bytes) (byteScore : Int) : Piece :=
  let kind := field e 5 1
  { bytes := slice pool (field e 0 4) (field e 4 1), kind := kind,
    score := if kind = 1 then byteScore else signed 32 (field e 8 4) }

/-- Entries of `k` bytes from an image, `n` of them from offset `off`. -/
def tableEntries (img : Bytes) (off k n : Nat) : List Bytes := chunks' k n (img.drop off)
where
  /-- `n` consecutive entries of `k` bytes. -/
  chunks' (k : Nat) : Nat → Bytes → List Bytes
    | 0, _ => []
    | n + 1, bs => bs.take k :: chunks' k n (bs.drop k)

/-- The vocabulary an image holds. -/
def parseVocab (img : Bytes) : Vocab :=
  let v := field img 8 4
  let poolOff := field img 40 4
  let normOff := field img 44 4
  let pool := slice img poolOff (normOff - poolOff)
  let bsc := signed 32 (field img 28 4)
  { nfkc := bit (field img 6 2) 0, spaceMark := bit (field img 6 2) 1, byteBase := field img 12 4,
    bos := field img 16 4, eos := field img 20 4, pad := field img 24 4, byteScore := bsc,
    pieces := (tableEntries img (field img 36 4) 12 v).map (fun e => parsePiece pool e bsc),
    norm := slice img normOff (field img 48 4) }

/-- Length of the well-formed UTF-8 sequence a byte string begins with, 0 for none (the Unicode
Standard, chapter 3; R210). -/
def utf8Len (bs : Bytes) : Nat :=
  let t := fun (i lo hi : Nat) => match bs[i]? with
    | none => false
    | some b => lo ≤ b.toNat && b.toNat ≤ hi
  match bs with
  | [] => 0
  | b :: _ =>
    let x := b.toNat
    if x < 0x80 then 1
    else if x < 0xC2 then 0
    else if x < 0xE0 then (if t 1 0x80 0xBF then 2 else 0)
    else if x < 0xF0 then
      let lo := if x = 0xE0 then 0xA0 else 0x80
      let hi := if x = 0xED then 0x9F else 0xBF
      if t 1 lo hi && t 2 0x80 0xBF then 3 else 0
    else if x < 0xF5 then
      let lo := if x = 0xF0 then 0x90 else 0x80
      let hi := if x = 0xF4 then 0x8F else 0xBF
      if t 1 lo hi && t 2 0x80 0xBF && t 3 0x80 0xBF then 4 else 0
    else 0

/-- Characters of a byte string: well-formed sequences, or single ill-formed bytes; each with its
flag. `skip` counts the bytes of the current character still to pass. -/
def characters : Nat → Bytes → List (Bool × Bytes)
  | _, [] => []
  | skip + 1, _ :: bs => characters skip bs
  | 0, b :: bs =>
    let n := utf8Len (b :: bs)
    if n = 0 then (false, [b]) :: characters 0 bs
    else (true, (b :: bs).take n) :: characters (n - 1) bs

/-- True when a byte string is well-formed UTF-8. -/
def wellFormedUtf8 (bs : Bytes) : Bool := (characters 0 bs).all (·.1)

/-- The load checks of R208 and the ranges of Table 07-2 and Table 07-3; true when the image passes. -/
def vocabOk (img : Bytes) : Bool :=
  let v := field img 8 4
  let piecesOff := field img 36 4
  let poolOff := field img 40 4
  let normOff := field img 44 4
  let normLen := field img 48 4
  let poolLen := normOff - poolOff
  let entries := tableEntries img piecesOff 12 v
  let voc := parseVocab img
  let special := fun i => match voc.pieces[i]? with
    | some p => p.kind == 2
    | none => false
  img.length ≥ 256 && field img 0 4 == 0x42564B46 && field img 4 2 == 1
  && field img 6 2 < 4 && 260 ≤ v && v ≤ 1048576
  && field img 32 4 == 0x000F0100 && field img 52 4 == img.length && img.length ≤ 268435456
  && zeroAt img 56 196 && field img 252 4 == crc32c (img.take 252)
  && 256 ≤ piecesOff && piecesOff + 12 * v ≤ poolOff && poolOff ≤ normOff && normOff + normLen ≤ img.length
  && entries.all (fun e =>
      let k := field e 5 1
      let len := field e 4 1
      zeroAt e 6 2 && k ≤ 2
      && (if k = 0 then 1 ≤ len && len ≤ 64 else if k = 1 then len == 1 else len == 0)
      && (k == 2 || field e 0 4 + len ≤ poolLen))
  && voc.byteBase + 256 ≤ v
  && (voc.pieces.zipIdx).all (fun p =>
      if voc.byteBase ≤ p.2 && p.2 < voc.byteBase + 256
      then p.1.kind == 1 && p.1.bytes == [BitVec.ofNat 8 (p.2 - voc.byteBase)]
      else p.1.kind != 1)
  && special voc.bos && special voc.eos && special voc.pad
  && voc.pieces.all (fun p => p.kind != 0 || wellFormedUtf8 p.bytes)
  && distinct ((voc.pieces.filter (fun p => p.kind == 0)).map (·.bytes))

/-! ## Documents and normalization -/

/-- Lines of a byte string, cut after each 0x0A; the 0x0A and one 0x0D before the end are removed,
empty lines dropped (R206). `acc` is the current line, reversed. -/
def textLines (acc : Bytes) : Bytes → List Bytes
  | [] => emitLine acc
  | b :: bs => if b = 0x0A then emitLine acc ++ textLines [] bs else textLines (b :: acc) bs
where
  /-- The document of a finished line, if any. -/
  emitLine (acc : Bytes) : List Bytes :=
    let l := match acc with
      | c :: r => if c = 0x0D then r else acc
      | [] => []
    if l.isEmpty then [] else [l.reverse]

/-- A caption record: START and its text (Table 05-7). -/
structure Caption where
  start : Nat
  stop  : Nat
  text  : Bytes
  deriving DecidableEq, Repr

/-- A caption put behind those with an equal or lower START. -/
def insertCaption (c : Caption) : List Caption → List Caption
  | [] => [c]
  | d :: r => if c.start < d.start then c :: d :: r else d :: insertCaption c r

/-- Captions in ascending START, equal ones in their given order (R206). -/
def sortCaptions (cs : List Caption) : List Caption := cs.foldl (fun acc c => insertCaption c acc) []

/-- The documents of a text input by SOURCE of Table 07-1 (R206). -/
def documents (source : Nat) (text : Bytes) (caps : List Caption) : List Bytes :=
  match source with
  | 0 => [text]
  | 1 => textLines [] text
  | _ => ((sortCaptions caps).filter (fun c => !c.text.isEmpty)).map (·.text)

/-- U+2581 in UTF-8. -/
def lowLine : Bytes := [0xE2, 0x96, 0x81]

/-- Maximal runs of well-formed UTF-8 and of ill-formed bytes (R210). -/
def utf8Runs (cs : List (Bool × Bytes)) : List (Bool × Bytes) :=
  cs.foldr (fun c acc => match acc with
    | (f, bs) :: r => if f = c.1 then (f, c.2 ++ bs) :: r else c :: acc
    | [] => [c]) []

/-- A normalized document (R210). DESIGN CHOICE, log 12. -/
def normalize (v : Vocab) (doc : Bytes) : Bytes :=
  let d := if v.nfkc then (utf8Runs (characters 0 doc)).flatMap (fun r => if r.1 then Config.nfkc v.norm r.2 else r.2)
           else doc
  if v.spaceMark then d.flatMap (fun b => if b = 0x20 then lowLine else [b]) else d

/-! ## Segmentation -/

/-- Longest chunk in bytes (R211). -/
def chunkLimit : Nat := 65536

/-- Bytes up to the last U+0020, U+2581 or U+000A, and up to the last character, that end within
`lim` bytes. DEDUCED, log 69. -/
def chunkEnds (lim : Nat) (cs : List (Bool × Bytes)) : Nat × Nat :=
  let r := cs.foldl (fun (a : Nat × Nat × Nat) c =>
    let e := a.2.2 + c.2.length
    if e ≤ lim then (if c.2 = [0x20] || c.2 = [0x0A] || c.2 = lowLine then e else a.1, e, e) else (a.1, a.2.1, e)) (0, 0, 0)
  (r.1, r.2.1)

/-- The chunks of a document; `fuel` bounds their number (R211). DEDUCED, log 69. -/
def textChunks (lim : Nat) : Nat → Bytes → List Bytes
  | 0, d => [d]
  | fuel + 1, d =>
    if d.length ≤ lim then [d] else
    let e := chunkEnds lim (characters 0 d)
    let n := if e.1 > 0 then e.1 else max 1 e.2
    d.take n :: textChunks lim fuel (d.drop n)

/-- The chosen segmentation of a suffix: its score, count and first piece with its length. -/
structure Best where
  score : Int
  count : Nat
  token : Nat
  len   : Nat
  deriving DecidableEq, Repr

/-- `better` of R213: higher score, then fewer tokens, then the lower token ID. -/
def Best.better (a b : Best) : Bool :=
  a.score > b.score || (a.score == b.score && (a.count < b.count || (a.count == b.count && a.token < b.token)))

/-- best[i] … best[n] of R213 for the chunk's suffix; `pieces` are the matchable pieces with their IDs. -/
def segBest (pieces : List (Nat × Piece)) : Bytes → List Best
  | [] => [{ score := 0, count := 0, token := 0, len := 0 }]
  | b :: bs =>
    let rest := segBest pieces bs
    let cands := pieces.filterMap (fun p =>
      let l := p.2.bytes.length
      if l ≥ 1 && (b :: bs).take l == p.2.bytes then
        match rest[l - 1]? with
        | some r => some { score := p.2.score + r.score, count := 1 + r.count, token := p.1, len := l }
        | none => none
      else none)
    match cands with
    | [] => { score := 0, count := 0, token := 0, len := 1 } :: rest
    | c :: cs => cs.foldl (fun m x => if x.better m then x else m) c :: rest

/-- The tokens emitted along the chosen segmentation; `skip` counts bytes still covered. -/
def segEmit : Nat → List Best → List Nat
  | _, [] => []
  | skip + 1, _ :: r => segEmit skip r
  | 0, b :: r => if b.len = 0 then [] else b.token :: segEmit (b.len - 1) r

/-- The pieces that can match, with their token IDs (R212). -/
def matchable (v : Vocab) : List (Nat × Piece) :=
  ((v.pieces.zipIdx).filter (fun p => p.1.kind != 2)).map (fun p => (p.2, p.1))

/-- The token sequence of a document (R210 to R213). -/
def tokenize (v : Vocab) (doc : Bytes) : List Nat :=
  let d := normalize v doc
  (textChunks chunkLimit d.length d).flatMap (fun c => segEmit 0 (segBest (matchable v) c))

/-! ## Packing -/

/-- A sequence being filled: its tokens with segment IDs, last placed first, and its fragments. -/
structure SeqFill where
  rev   : List (Nat × Nat)
  frags : Nat
  deriving DecidableEq, Repr

/-- The packer of R215: closed sequences, the open one, documents placed, and the overflow flag. -/
structure Packer where
  done  : List SeqFill
  cur   : SeqFill
  docs  : Nat
  spilled : Bool
  deriving DecidableEq, Repr

/-- Go on to the next sequence. -/
def Packer.advance (p : Packer) : Packer := { p with done := p.done ++ [p.cur], cur := { rev := [], frags := 0 } }

/-- Placement of one list's tokens: fragments over sequences (R215); `fuel` bounds the fragments. -/
def packList (seqLen seqCount : Nat) : Nat → List Nat → Packer → Packer
  | 0, _, p => p
  | fuel + 1, d, p =>
    if d.isEmpty || p.spilled then p else
    let p := if p.cur.rev.length = seqLen || p.cur.frags = 65535 then p.advance else p
    if p.done.length ≥ seqCount then { p with spilled := true } else
    let take := min d.length (seqLen - p.cur.rev.length)
    let f := p.cur.frags + 1
    let cur := { rev := ((d.take take).map (fun t => (t, f))).reverse ++ p.cur.rev, frags := f }
    packList seqLen seqCount fuel (d.drop take) { p with cur := cur }

/-- Packing of a document's list (R215): DOCS counts documents with a placed token (R217). -/
def packDoc (split : Bool) (seqLen seqCount : Nat) (p : Packer) (d : List Nat) : Packer :=
  if d.isEmpty || p.spilled then p else
  let pos := p.cur.rev.length
  let p := if !split && d.length ≤ seqLen && d.length > seqLen - pos && pos > 0 then p.advance else p
  let before := sumNat (p.done.map (·.rev.length)) + p.cur.rev.length
  let q := packList seqLen seqCount (d.length + 1) d p
  let after := sumNat (q.done.map (·.rev.length)) + q.cur.rev.length
  if after > before then { q with docs := q.docs + 1 } else q

/-- Result of the text stage: the fields of the header of R217 and the two arrays. -/
structure TextRegion where
  validTokens : Nat
  seqsUsed    : Nat
  docs        : Nat
  cut         : Bool
  fallback    : Bool
  tokens      : List Nat
  segments    : List Nat
  overflow    : Bool
  deriving DecidableEq, Repr

/-- Text settings of Table 07-1. -/
structure TextSettings where
  vocab    : Nat
  source   : Nat
  bos      : Bool
  eos      : Bool
  split    : Bool
  cut      : Bool
  token16  : Bool
  detokDrop : Bool
  seqLen   : Nat
  seqCount : Nat
  deriving DecidableEq, Repr

/-- Text settings from their 32 bytes. -/
def parseTextSettings (bs : Bytes) : TextSettings :=
  let f := field bs 2 1
  { vocab := field bs 0 1, source := field bs 1 1, bos := bit f 0, eos := bit f 1, split := bit f 2,
    cut := bit f 3, token16 := bit f 4, detokDrop := bit f 5, seqLen := field bs 4 4, seqCount := field bs 8 2 }

/-- The stated ranges of Table 07-1 and R205, but for VOCAB and the piece count. -/
def textSettingsOk (bs : Bytes) : Bool :=
  let t := parseTextSettings bs
  t.source ≤ 2 && field bs 2 1 < 64 && zeroAt bs 3 1 && zeroAt bs 10 22
  && 1 ≤ t.seqLen && t.seqLen ≤ 1048576 && 1 ≤ t.seqCount && t.seqCount ≤ 4096
  && t.seqLen * t.seqCount ≤ 16777216

/-- Lists of documents packed into the text region (R215 to R217). -/
def packText (t : TextSettings) (v : Vocab) (docs : List (List Nat)) : TextRegion :=
  let lists := docs.map (fun d => (if t.bos then [v.bos] else []) ++ d ++ (if t.eos then [v.eos] else []))
  let p := lists.foldl (packDoc t.split t.seqLen t.seqCount) { done := [], cur := { rev := [], frags := 0 }, docs := 0, spilled := false }
  let seqs := (p.done ++ [p.cur]).take t.seqCount
  let rows := seqs.map (fun q => q.rev.reverse)
  let padTo := fun (d : Nat) (r : List Nat) => r ++ List.replicate (t.seqLen - r.length) d
  let full := fun (d : Nat) (r : List (List Nat)) => r.flatten ++ List.replicate ((t.seqCount - r.length) * t.seqLen) d
  let placed := rows.flatten
  { validTokens := placed.length
    seqsUsed := (rows.filter (fun r => !r.isEmpty)).length
    docs := min p.docs 65535
    cut := p.spilled
    fallback := placed.any (fun x => v.byteBase ≤ x.1 && x.1 < v.byteBase + 256)
    tokens := full v.pad (rows.map (fun r => padTo v.pad (r.map (·.1))))
    segments := full 0 (rows.map (fun r => padTo 0 (r.map (·.2))))
    overflow := p.spilled && !t.cut }

/-- The bytes of the text region: header, token array, segment array, each from a multiple of 64 B (R217). -/
def TextRegion.parts (r : TextRegion) (token16 : Bool) : List Bytes :=
  [ leBytes 4 r.validTokens ++ leBytes 2 r.seqsUsed ++ leBytes 2 r.docs
      ++ leBytes 4 (packFields [(0, 1, b2n r.cut), (1, 1, b2n r.fallback)]) ++ zeros 4,
    r.tokens.flatMap (fun t => leBytes (if token16 then 2 else 4) t),
    r.segments.flatMap (fun t => leBytes 2 t) ]

/-! ## Detokenization -/

/-- Detokenizer of one stream: the held prefix (R219). -/
structure Detok where
  held : Bytes
  deriving DecidableEq, Repr

/-- True when a byte string is a proper prefix of some well-formed sequence. -/
def utf8Prefix (bs : Bytes) : Bool :=
  let x := (bs.getD 0 0).toNat
  let second := (bs.getD 1 0).toNat
  let lo2 := if x = 0xE0 then 0xA0 else if x = 0xF0 then 0x90 else 0x80
  let hi2 := if x = 0xED then 0x9F else if x = 0xF4 then 0x8F else 0xBF
  let third := (bs.getD 2 0).toNat
  match bs.length with
  | 1 => 0xC2 ≤ x && x ≤ 0xF4
  | 2 => 0xE0 ≤ x && x ≤ 0xF4 && lo2 ≤ second && second ≤ hi2
  | 3 => 0xF0 ≤ x && x ≤ 0xF4 && lo2 ≤ second && second ≤ hi2 && 0x80 ≤ third && third ≤ 0xBF
  | _ => false

/-- U+FFFD in UTF-8. -/
def replacement : Bytes := [0xEF, 0xBF, 0xBD]

/-- A replacement, or nothing under DETOK_DROP (R219). -/
def badPart (drop : Bool) : Bytes := if drop then [] else replacement

/-- One byte of output with the held prefix: emitted bytes, the new prefix, ill-formed subparts ended (R219). -/
def detokByte (drop : Bool) (held : Bytes) (b : Byte) : Bytes × Bytes × Nat :=
  let start := fun (pre : Bytes) (n : Nat) =>
    if utf8Len [b] = 1 then (pre ++ [b], ([] : Bytes), n)
    else if utf8Prefix [b] then (pre, [b], n)
    else (pre ++ badPart drop, ([] : Bytes), n + 1)
  if held.isEmpty then start [] 0
  else
    let h := held ++ [b]
    if utf8Len h = h.length then (h, [], 0)
    else if utf8Prefix h then ([], h, 0)
    else start (badPart drop) 1

/-- U+2581 back to U+0020 under SPACE_MARK (R218), on whole characters. -/
def unmark (v : Vocab) (bs : Bytes) : Bytes :=
  if v.spaceMark then (characters 0 bs).flatMap (fun c => if c.2 = lowLine then [0x20] else c.2) else bs

/-- Bytes of one token (R218). -/
def tokenBytes (v : Vocab) (t : Nat) : Bytes :=
  match v.pieces[t]? with
  | some p => if p.kind = 2 then [] else p.bytes
  | none => []

/-- One token fed to the detokenizer: emitted bytes, the new prefix, subparts replaced or dropped. -/
def detokToken (v : Vocab) (drop : Bool) (held : Bytes) (t : Nat) : Bytes × Bytes × Nat :=
  let r := (tokenBytes v t).foldl (fun (a : Bytes × Bytes × Nat) b =>
    let s := detokByte drop a.2.1 b
    (a.1 ++ s.1, s.2.1, a.2.2 + s.2.2)) ([], held, 0)
  (unmark v r.1, r.2.1, r.2.2)

/-- The end of a stream: the held prefix is one ill-formed subpart (R219). -/
def detokEnd (drop : Bool) (held : Bytes) : Bytes × Nat :=
  if held.isEmpty then ([], 0) else (badPart drop, 1)

/-- A whole token sequence detokenized: text and subparts replaced or dropped (R218, R219). -/
def detokenize (v : Vocab) (drop : Bool) (ts : List Nat) : Bytes × Nat :=
  let r := ts.foldl (fun (a : Bytes × Bytes × Nat) t =>
    let s := detokToken v drop a.2.1 t
    (a.1 ++ s.1, s.2.1, a.2.2 + s.2.2)) ([], [], 0)
  let e := detokEnd drop r.2.1
  (r.1 ++ e.1, r.2.2 + e.2)

end Sys2Proof.Machine
end

