-- ==== Sys2Proof/Machine/Grammar.lean ====
section
/-! DEFINITION. The grammar unit: the image and its checks (R220, R221), feeding a byte (R222), the
mask (R223) and the advance of a context (R224). -/

namespace Sys2Proof.Machine

/-- A transition of Table 07-5. -/
structure Trans where
  next : Nat
  ret  : Nat
  /-- 0 NONE, 1 PUSH, 2 POP, 3 REJECT. -/
  action : Nat
  reconsume : Bool
  deriving DecidableEq, Repr

/-- A grammar image as Table 07-4 gives it. -/
structure Grammar where
  kind    : Nat
  states  : Nat
  classes : Nat
  depth   : Nat
  start   : Nat
  vocabDigest : Nat
  classMap : List Nat
  trans   : List Trans
  accept  : List Bool
  deriving DecidableEq, Repr

/-- A transition entry from its 8 bytes. -/
def parseTrans (e : Bytes) : Trans :=
  let x := leNat e
  { next := bits x 0 16, ret := bits x 16 16, action := bits x 32 2, reconsume := bit x 34 }

/-- The grammar an image holds. -/
def parseGrammar (img : Bytes) : Grammar :=
  let s := field img 8 4
  let k := field img 12 2
  { kind := field img 6 1, states := s, classes := k, depth := field img 14 2, start := field img 16 4,
    vocabDigest := beNat (slice img 20 24),
    classMap := (slice img (field img 44 4) 256).map (·.toNat),
    trans := (tableEntries img (field img 48 4) 8 (s * k)).map parseTrans,
    accept := tabulate s (fun i => bit ((img.getD (field img 52 4 + i / 8) 0).toNat) (i % 8)) }

/-- The load checks of R221 and the ranges of Table 07-4. -/
def grammarOk (img : Bytes) : Bool :=
  let g := parseGrammar img
  let mapOff := field img 44 4
  let transOff := field img 48 4
  let accOff := field img 52 4
  let raw := tableEntries img transOff 8 (g.states * g.classes)
  img.length ≥ 128 && field img 0 4 == 0x4D474B46 && field img 4 2 == 1 && g.kind ≤ 1 && zeroAt img 7 1
  && 1 ≤ g.states && g.states ≤ 65536 && 1 ≤ g.classes && g.classes ≤ 256
  && (if g.kind = 0 then g.depth == 0 else 1 ≤ g.depth && g.depth ≤ 1024)
  && field img 56 4 == img.length && img.length ≤ 268435456
  && zeroAt img 60 64 && field img 124 4 == crc32c (img.take 124)
  && 128 ≤ mapOff && mapOff + 256 ≤ img.length
  && 128 ≤ transOff && transOff + 8 * (g.states * g.classes) ≤ img.length
  && 128 ≤ accOff && accOff + ceilDiv g.states 8 ≤ img.length
  && g.classMap.all (fun c => c < g.classes) && g.start < g.states
  && g.trans.all (fun t => t.next < g.states && t.ret < g.states && (g.kind == 1 || t.action == 0 || t.action == 3)
        && (!t.reconsume || t.action == 2))
  && raw.all (fun e => bits (leNat e) 35 29 == 0)

/-- A context: its state and stack, top first. -/
structure GrammarCtx where
  state : Nat
  stack : List Nat
  deriving DecidableEq, Repr

/-- The transition of a state on a class. -/
def Grammar.at (g : Grammar) (state k : Nat) : Trans :=
  g.trans.getD (state * g.classes + k) { next := 0, ret := 0, action := 3, reconsume := false }

/-- The loop of `feed` (R222): `none` is fail; it recurses on the stack, which each RECONSUME pops. -/
def feedLoop (g : Grammar) (k : Nat) (state : Nat) : List Nat → Option GrammarCtx
  | [] =>
    let t := g.at state k
    match t.action with
    | 0 => some { state := t.next, stack := [] }
    | 1 => if 0 = g.depth then none else some { state := t.next, stack := [t.ret] }
    | _ => none
  | r :: st =>
    let t := g.at state k
    match t.action with
    | 0 => some { state := t.next, stack := r :: st }
    | 1 => if (r :: st).length = g.depth then none else some { state := t.next, stack := t.ret :: r :: st }
    | 2 => if t.reconsume then feedLoop g k r st else some { state := r, stack := st }
    | _ => none

/-- One byte fed to a context (R222). -/
def feed (g : Grammar) (c : GrammarCtx) (b : Byte) : Option GrammarCtx :=
  feedLoop g (g.classMap.getD b.toNat 0) c.state c.stack

/-- The bytes of a token fed in order. -/
def feedAll (g : Grammar) (c : GrammarCtx) (bs : Bytes) : Option GrammarCtx :=
  bs.foldl (fun a b => a.bind (fun c => feed g c b)) (some c)

/-- True when a token is allowed (R223). -/
def tokenAllowed (v : Vocab) (g : Grammar) (c : GrammarCtx) (t : Nat) : Bool :=
  match v.pieces[t]? with
  | none => false
  | some p =>
    if p.kind = 2 then t == v.eos && c.stack.isEmpty && g.accept.getD c.state false
    else (feedAll g c p.bytes).isSome

/-- The mask: bit i for token i (R223). -/
def grammarMask (v : Vocab) (g : Grammar) (c : GrammarCtx) : List Bool :=
  tabulate v.pieces.length (tokenAllowed v g c)

/-- A new context. -/
def Grammar.open (g : Grammar) : GrammarCtx := { state := g.start, stack := [] }

/-- What an advance reports (R224). -/
inductive Advance where
  | running (c : GrammarCtx)
  | closed
  | reject
  deriving DecidableEq, Repr

/-- Advance of a context by a token (R224). -/
def advanceCtx (v : Vocab) (g : Grammar) (c : GrammarCtx) (t : Nat) : Advance :=
  if !tokenAllowed v g c t then .reject
  else if t = v.eos then .closed
  else match feedAll g c (tokenBytes v t) with
    | some d => .running d
    | none => .reject

end Sys2Proof.Machine
end

