-- ==== Sys2Proof/Machine/Sections.lean ====
section
/-! DEFINITION. The section table shared by recipe and model images (R101): its entries and the form
checks that both images make. -/

namespace Sys2Proof.Machine

/-- A section table entry of 16 bytes (R101). -/
structure Section where
  typ    : Nat
  flags  : Nat
  off    : Nat
  len    : Nat
  crc    : Nat
  deriving DecidableEq, Repr

/-- Section type SIGNATURE. -/
def sigType : Nat := 0x000F

/-- The section table of `n` entries behind a header of 128 bytes. -/
def sectionTable (img : Bytes) (n : Nat) : List Section :=
  tabulate n (fun i =>
    let e := slice img (128 + 16 * i) 16
    { typ := field e 0 2, flags := field e 2 2, off := field e 4 4, len := field e 8 4, crc := field e 12 4 })

/-- The bytes of a section. -/
def sectionBytes (img : Bytes) (s : Section) : Bytes := slice img s.off s.len

/-- The first section of a type. -/
def findSection (ss : List Section) (t : Nat) : Option Section := ss.find? (fun s => s.typ == t)

/-- The bytes of the first section of a type, none when the image holds none. -/
def sectionOf (img : Bytes) (t : Nat) : Option Bytes :=
  (findSection (sectionTable img (field img 14 2)) t).map (sectionBytes img)

/-- Two sections that share no byte. -/
def apart (a b : Section) : Bool := a.off + a.len ≤ b.off || b.off + b.len ≤ a.off

/-- Pairwise apart. -/
def allApart : List Section → Bool
  | [] => true
  | s :: ss => ss.all (apart s) && allApart ss

/-- Sections of a type an image may hold, as counts lowest and highest. -/
def countOk (ss : List Section) (t lo hi : Nat) : Bool :=
  let n := (ss.filter (fun s => s.typ == t)).length
  lo ≤ n && n ≤ hi

/-- The rules of R101 that every image with a section table keeps: the header's CRC, the recorded
length, the section CRCs and lengths, no overlap, FLAGS of CRITICAL alone, SIGNATURE last in both senses. -/
def sectionsOk (img : Bytes) (imageLen loCount hiCount : Nat) : Bool :=
  let n := field img 14 2
  let ss := sectionTable img n
  img.length ≥ 128 && field img 124 4 == crc32c (img.take 124)
  && imageLen == img.length && loCount ≤ n && n ≤ hiCount && 128 + 16 * n ≤ img.length
  && ss.all (fun s => s.flags < 2 && 128 + 16 * n ≤ s.off && s.off + s.len ≤ img.length
        && s.crc == crc32c (sectionBytes img s))
  && allApart ss
  && (ss.filter (fun s => s.typ == sigType)).length == 1
  && (match ss.getLast? with
      | some s => s.typ == sigType && s.off + s.len == img.length && ss.all (fun t => t.off ≤ s.off)
      | none => false)

/-- The bytes a signature covers: those below the SIGNATURE section, with the CRC field of its own
table entry taken as 0 (R101). -/
def signedBytes (img : Bytes) : Bytes :=
  let n := field img 14 2
  let body := match findSection (sectionTable img n) sigType with
    | some s => img.take s.off
    | none => img
  let at' := 128 + 16 * (n - 1) + 12
  body.take at' ++ zeros 4 ++ body.drop (at' + 4)

/-- The signer index a SIGNATURE section names (Table 04-3). -/
def signerOf (img : Bytes) : Nat := match sectionOf img sigType with
  | some b => field b 0 2
  | none => 0

end Sys2Proof.Machine
end

