-- ==== Sys2Proof/Machine/Tensor.lean ====
section
/-! DEFINITION. In-line models: accumulation (R233 to R236), elementwise layers and function tables
(R237, R238), the model image and its checks (R239, R240, R611), the ROI outputs (R245), filter and
duplicate rules (R246, R247) and label generation (R249, R250). -/

namespace Sys2Proof.Machine

/-! ## Accumulation -/

/-- One float output element: block sums of 128, each rounded, added in order (R233, R235). -/
def floatAcc (bias : Fp) (as bs : List Fp) : Fp :=
  let prods := List.zipWith Fp.mul as bs
  (chunks 128 (prods.length / 128 + 1) prods).foldl (fun acc blk => rne32 (acc.add (rne32 (sumFp blk)))) bias

/-- An INT32 accumulator: the exact sum modulo 2^32 (R234). -/
def intAcc (as bs : List Int) : Int := signed 32 (unsigned 32 (sumInt (List.zipWith (· * ·) as bs)))

/-- The SUM reduction of R237, by the block rule of R233. -/
def sumReduce (xs : List Fp) : Fp :=
  (chunks 128 (xs.length / 128 + 1) xs).foldl (fun acc blk => rne32 (acc.add (rne32 (sumFp blk)))) (.fin false 0 1)

/-- The larger of two values for MAX: +0 above −0, NaN if either is (R237). -/
def maxFp (x y : Fp) : Fp :=
  if x.isNan || y.isNan then .nan
  else if x.lt y then y
  else if y.lt x then x
  else match x with
    | .fin true _ _ => y
    | _ => x

/-- The MAX reduction of R237. -/
def maxReduce : List Fp → Fp
  | [] => .inf true
  | x :: xs => xs.foldl maxFp x

/-- A function table: FP32 codes lo, hi, inv_step and T[0..1024] (R238). -/
structure FuncTable where
  lo  : Nat
  hi  : Nat
  inv : Nat
  t   : List Nat
  deriving DecidableEq, Repr

/-- A table is valid when lo, hi, inv_step are finite, lo < hi and inv_step > 0 (R238). -/
def FuncTable.ok (f : FuncTable) : Bool :=
  (ofFp32 f.lo).isFin && (ofFp32 f.hi).isFin && (ofFp32 f.inv).isFin
  && (ofFp32 f.lo).lt (ofFp32 f.hi) && (Fp.fin false 0 1).lt (ofFp32 f.inv)

/-- FUNC on one FP32 value (R238). -/
def funcEval (f : FuncTable) (x : Fp) : Fp :=
  if x.isNan then .nan else
  let lo := ofFp32 f.lo
  let hi := ofFp32 f.hi
  let x := if x.lt lo then lo else if hi.lt x then hi else x
  let lim := Fp.fin false 1024 1
  let u := mul32 (sub32 x lo) (ofFp32 f.inv)
  let t := if u.lt lim then u else lim
  let i := min t.floor 1023
  let fr := sub32 t (ofInt i)
  let at' := fun (k : Int) => ofFp32 (f.t.getD k.toNat 0)
  add32 (at' i) (mul32 fr (sub32 (at' (i + 1)) (at' i)))

/-! ## Tensors and layers -/

/-- A stored tensor: element codes in row-major order, MX scale bytes, and the picture positions its
rows stand for (frames, height, width). Format 0 holds token IDs (R611). A scale byte serves `per`
elements: 32, or 1 in the output of GATHER, whose rows stay exact (Table 08-4). DEDUCED, log 71. -/
structure Tensor where
  fmt    : Nat
  rows   : Nat
  cols   : Nat
  codes  : List Nat
  scales : List Nat
  pos    : Nat × Nat × Nat
  per    : Nat := 32
  deriving DecidableEq, Repr

/-- Values of a stored tensor (R200, R611). -/
def Tensor.values (t : Tensor) : List Fp :=
  if isMx t.fmt then
    (t.codes.zipIdx).map (fun p => mxValue t.fmt p.1 (t.scales.getD (p.2 / t.per) 0))
  else t.codes.map (decodeElem t.fmt)

/-- A tensor of values in a format (R199, R200). -/
def mkTensor (fmt rows cols : Nat) (pos : Nat × Nat × Nat) (ys : List Fp) : Tensor :=
  if isMx fmt then
    let bl := (mxBlocks ys).map (mxBlock fmt)
    { fmt := fmt, rows := rows, cols := cols, codes := (bl.flatMap (·.1)).take ys.length, scales := bl.map (·.2), pos := pos }
  else { fmt := fmt, rows := rows, cols := cols, codes := ys.map (encodeElem fmt), scales := [], pos := pos }

/-- The integer a code stands for: a token ID exactly, an integer format's value (R611). -/
def codeInt (fmt c : Nat) : Int :=
  if fmt = 0 then (c : Int) else if fmt = 15 then ((c % 256 : Nat) : Int) else signed (fmtBits fmt) c

/-- A layer entry of Table 08-3. -/
structure Layer where
  op    : Nat
  fmtA  : Nat
  fmtB  : Nat
  fmtOut : Nat
  bias  : Bool
  scale : Bool
  bWeight : Bool
  flagsRsv : Nat
  table : Nat
  m     : Nat
  k     : Nat
  n     : Nat
  srcA  : Nat
  srcB  : Nat
  wOff  : Nat
  wLen  : Nat
  geom  : List Nat
  bOff  : Nat
  rsv   : Nat
  deriving DecidableEq, Repr

/-- A layer entry from its 64 bytes. -/
def parseLayer (e : Bytes) : Layer :=
  let f := field e 5 1
  { op := field e 0 2, fmtA := field e 2 1, fmtB := field e 3 1, fmtOut := field e 4 1, bias := bit f 0,
    scale := bit f 1, bWeight := bit f 2, flagsRsv := bits f 3 5, table := field e 6 2, m := field e 8 4,
    k := field e 12 4, n := field e 16 4, srcA := field e 20 2, srcB := field e 22 2, wOff := field e 24 8,
    wLen := field e 32 8, geom := (slice e 40 8).map (·.toNat), bOff := field e 48 8, rsv := field e 56 8 }

/-- A model as its image gives it. -/
structure Model where
  kind    : Nat
  inKind  : Nat
  inFmt   : Nat
  inC     : Nat
  inT     : Nat
  inH     : Nat
  inW     : Nat
  inLen   : Nat
  normM   : List Nat
  normS   : List Nat
  outCount : Nat
  outDim  : Nat
  vocabDigest : Nat
  stateBytes : Nat
  stepLayer : Nat
  layers  : List Layer
  weights : Bytes
  tables  : List FuncTable
  refFmt  : Nat
  refs    : List (List Fp)
  deriving DecidableEq, Repr

/-- `n` values of 4 bytes from offset `off`. -/
def u32s (bs : Bytes) (off n : Nat) : List Nat := tabulate n (fun i => field bs (off + 4 * i) 4)

/-- A function table of 4,112 bytes. -/
def parseFunc (b : Bytes) : FuncTable := { lo := field b 0 4, hi := field b 4 4, inv := field b 8 4, t := u32s b 12 1025 }

/-- The model an image holds (Table 08-1, Table 08-2). -/
def parseModel (img : Bytes) : Model :=
  let sec := fun t => (sectionOf img t).getD []
  let dim := field img 56 4
  let tb := sec 0x0103
  let rb := sec 0x0104
  let rf := field rb 4 1
  let rbytes := (fmtBits rf / 8) * dim
  { kind := field img 6 1, inKind := field img 7 1, inFmt := field img 16 1, inC := field img 17 1,
    inT := field img 18 2, inH := field img 20 2, inW := field img 22 2, inLen := field img 24 4,
    normM := u32s img 28 3, normS := u32s img 40 3, outCount := field img 52 1, outDim := dim,
    vocabDigest := beNat (slice img 60 24), stateBytes := field img 84 4, stepLayer := field img 88 4,
    layers := (tableEntries (sec 0x0101) 0 64 (field img 12 2)).map parseLayer,
    weights := sec 0x0102,
    tables := (tableEntries tb 0 4112 (tb.length / 4112)).map parseFunc,
    refFmt := rf,
    refs := (tableEntries rb 8 rbytes (field rb 0 4)).map (decodeTensor rf dim) }

/-- Operand source index of the model input (Table 08-3). -/
def srcInput : Nat := 0xFFFF

/-- Operand shape (rows, columns) of an operand from WEIGHTS (Table 08-12). -/
def bShape (l : Layer) : Nat × Nat :=
  match l.op with
  | 3 => (l.m, l.n)
  | 4 => (l.m, l.n)
  | 9 => (l.m, l.n - l.k)
  | _ => (l.k, l.n)

/-- Bytes a weight operand of `n` elements takes, scale bytes included (R611). -/
def weightBytes (fmt n : Nat) : Nat := (tensorBytes fmt n).1 + (tensorBytes fmt n).2

/-- True when ADD or MUL takes N elements applied to every row: its W_LEN is that of N elements, or
its source holds N elements (Table 08-12). -/
def rowOperand (l : Layer) (srcCount : Nat) : Bool :=
  if l.bWeight then l.wLen == weightBytes l.fmtB l.n && l.m != 1 else srcCount == l.n

/-- A weight tensor read from WEIGHTS. -/
def weightTensor (w : Bytes) (l : Layer) (rows cols : Nat) : Tensor :=
  let n := rows * cols
  let bs := slice w l.wOff l.wLen
  let eb := (tensorBytes l.fmtB n).1
  { fmt := l.fmtB, rows := rows, cols := cols, codes := unpackCodes (fmtBits l.fmtB) n bs,
    scales := if isMx l.fmtB then ((bs.drop eb).take (ceilDiv n 32)).map (·.toNat) else [], pos := (1, 1, rows) }

/-- The bias or scale vector of a layer, FP32 (Table 08-3). -/
def colVector (w : Bytes) (off n : Nat) : List Fp := (u32s w off n).map ofFp32

/-- Output height or width of a convolution axis. -/
def convOut (size k stride pad dil : Nat) : Nat :=
  if size + 2 * pad < dil * (k - 1) + 1 then 0 else (size + 2 * pad - (dil * (k - 1) + 1)) / max 1 stride + 1

/-- Positions of a CONV2D output for a source of the given positions. DESIGN CHOICE, log 70. -/
def convPos (g : List Nat) (pos : Nat × Nat × Nat) : Nat × Nat × Nat :=
  let v := fun i => g.getD i 0
  (pos.1, convOut pos.2.1 (v 0) (v 2) (v 4) (v 6), convOut pos.2.2 (v 1) (v 3) (v 5) (v 7))

/-- Indices into the source's elements of the taps of one output position, none outside the input;
K ordered by ((ky × KW) + kx) × C_in + c_in ascending (Table 08-4). DESIGN CHOICE, log 70. -/
def convTaps (g : List Nat) (pos out : Nat × Nat × Nat) (cin p : Nat) : List (Option Nat) :=
  let v := fun i => g.getD i 0
  let hw := out.2.1 * out.2.2
  let fr := p / max 1 hw
  let oy := (p % max 1 hw) / max 1 out.2.2
  let ox := p % max 1 out.2.2
  (List.range (v 0)).flatMap (fun ky => (List.range (v 1)).flatMap (fun kx => (List.range cin).map (fun c =>
    let y := oy * v 2 + ky * v 6
    let x := ox * v 3 + kx * v 7
    if v 4 ≤ y && y - v 4 < pos.2.1 && v 5 ≤ x && x - v 5 < pos.2.2
    then some (((fr * pos.2.1 + (y - v 4)) * pos.2.2 + (x - v 5)) * cin + c) else none)))

/-- A column of a K × N operand, row-major. -/
def columnOf {α : Type} (n j : Nat) (k : Nat) (d : α) (xs : List α) : List α := tabulate k (fun i => xs.getD (i * n + j) d)

/-- FP32 results of a MATMUL on rows of A (already formed) by columns of B (R233 to R236). -/
def matmul32 (w : Bytes) (l : Layer) (fmtA : Nat) (as bs : List Fp) : List Fp :=
  let bias := if l.bias then colVector w l.bOff l.n else []
  let scl := if l.scale then colVector w (if l.bias then l.bOff + 4 * l.n else l.bOff) l.n else []
  let zero := Fp.fin false 0 1
  let cols := tabulate l.n (fun j => columnOf l.n j l.k zero bs)
  let asInt := fun (x : Fp) => match x with
    | .fin s a d => if s then -((a / d : Nat) : Int) else ((a / d : Nat) : Int)
    | _ => 0
  (List.range l.m).flatMap (fun r =>
    let row := (as.drop (r * l.k)).take l.k
    (cols.zipIdx).map (fun c =>
      if isFloatFmt fmtA then floatAcc (if l.bias then bias.getD c.2 zero else zero) row c.1
      else
        let acc := intAcc (row.map asInt) (c.1.map asInt)
        if l.fmtOut = 12 && !l.scale && !l.bias then ofInt acc else
        let x := rne32 (ofInt acc)
        let x := if l.scale then mul32 x (scl.getD c.2 zero) else x
        if l.bias then add32 x (bias.getD c.2 zero) else x))

/-- The conversion that ends a layer (R236): the accumulator of an integer layer passed on unchanged
may hold −2^31, which the symmetric saturation of R199 would not give. -/
def layerOut (l : Layer) (intLayer : Bool) (pos : Nat × Nat × Nat) (ys : List Fp) : Tensor :=
  if intLayer && l.fmtOut = 12 && !l.scale && !l.bias then
    { fmt := 12, rows := l.m, cols := l.n, codes := ys.map (fun y => unsigned 32 y.floor), scales := [], pos := pos }
  else mkTensor l.fmtOut l.m l.n pos ys

/-- A source of a layer: the model input or an earlier layer's output. -/
def layerSource (input : Tensor) (outs : List Tensor) (src : Nat) : Tensor :=
  if src = srcInput then input else outs.getD src input

/-- Positions kept by a layer whose rows are those of its source. -/
def keepPos (l : Layer) (a : Tensor) : Nat × Nat × Nat := if l.m = a.rows then a.pos else (1, 1, l.m)

/-- One layer of a model: its output and the NaNs of its FP32 result (Table 08-4). DEDUCED, log 71. -/
def evalLayer (md : Model) (input : Tensor) (outs : List Tensor) (l : Layer) : Tensor × Nat :=
  let a := layerSource input outs l.srcA
  let bRaw := layerSource input outs l.srcB
  let rowB := rowOperand l bRaw.codes.length
  let b := if l.bWeight then
      (match l.op with
       | 3 => weightTensor md.weights l (if rowB then 1 else l.m) l.n
       | 4 => weightTensor md.weights l (if rowB then 1 else l.m) l.n
       | _ => weightTensor md.weights l (bShape l).1 (bShape l).2)
    else bRaw
  let nans := fun (ys : List Fp) => (ys.filter Fp.isNan).length
  let fin := fun (pos : Nat × Nat × Nat) (intL : Bool) (ys : List Fp) => (layerOut l intL pos ys, nans ys)
  let zero := Fp.fin false 0 1
  match l.op with
  | 1 => fin (keepPos l a) (isIntFmt a.fmt) (matmul32 md.weights l a.fmt a.values b.values)
  | 2 =>
    let cin := l.k / max 1 (l.geom.getD 0 0 * l.geom.getD 1 0)
    let out := convPos l.geom a.pos
    let av := a.values
    let rows := (List.range l.m).flatMap (fun p =>
      (convTaps l.geom a.pos out cin p).map (fun t => match t with
        | some i => av.getD i zero
        | none => zero))
    fin out (isIntFmt a.fmt) (matmul32 md.weights l a.fmt rows b.values)
  | 3 => let bv := b.values
         fin (keepPos l a) false ((a.values.zipIdx).map (fun p =>
           add32 (rne32 p.1) (rne32 (bv.getD (if rowB then p.2 % max 1 l.n else p.2) zero))))
  | 4 => let bv := b.values
         fin (keepPos l a) false ((a.values.zipIdx).map (fun p =>
           mul32 (rne32 p.1) (rne32 (bv.getD (if rowB then p.2 % max 1 l.n else p.2) zero))))
  | 5 => let ft := md.tables.getD l.table { lo := 0, hi := 0, inv := 0, t := [] }
         fin (keepPos l a) false (a.values.map (fun x => funcEval ft (rne32 x)))
  | 6 => let av := a.values
         fin (keepPos l a) false (tabulate l.m (fun r => sumReduce ((av.drop (r * l.k)).take l.k)))
  | 7 => let av := a.values
         fin (keepPos l a) false (tabulate l.m (fun r => rne32 (maxReduce ((av.drop (r * l.k)).take l.k))))
  | 8 =>
    let rowOf := fun (xs : List Nat) => (List.range l.m).flatMap (fun r =>
      let id := codeInt a.fmt (a.codes.getD r 0)
      if id < 0 || (l.k : Int) ≤ id then List.replicate l.n 0 else (xs.drop (id.toNat * l.n)).take l.n)
    ({ fmt := l.fmtOut, rows := l.m, cols := l.n, codes := rowOf b.codes, pos := (1, 1, l.m), per := 1,
       scales := if isMx l.fmtOut then rowOf (tabulate b.codes.length (fun j => b.scales.getD (j / b.per) 0)) else [] }, 0)
  | _ =>
    let g := leNat ((l.geom.drop 4).map (BitVec.ofNat 8))
    let reorder := fun (idx : List (Bool × Nat)) =>
      if isMx l.fmtOut then
        let av := a.values
        let bv := b.values
        mkTensor l.fmtOut l.m l.n (1, 1, l.m) (idx.map (fun i => if i.1 then bv.getD i.2 zero else av.getD i.2 zero))
      else { fmt := l.fmtOut, rows := l.m, cols := l.n, scales := [], pos := (1, 1, l.m),
             codes := idx.map (fun i => if i.1 then b.codes.getD i.2 0 else a.codes.getD i.2 0) }
    match l.geom.getD 0 0 with
    | 0 => ({ a with rows := l.m, cols := l.n, pos := (if l.m = a.rows then a.pos else (1, 1, l.m)) }, 0)
    | 1 =>
      let q := l.m / max 1 g   -- columns of a block of A; rows of a block of the output
      (reorder ((List.range l.m).flatMap (fun r => (List.range l.n).map (fun c =>
        (false, (r / max 1 q) * (l.n * q) + c * q + r % max 1 q)))), 0)
    | _ => (reorder ((List.range l.m).flatMap (fun r =>
        (List.range l.k).map (fun c => (false, r * l.k + c))
        ++ (List.range (l.n - l.k)).map (fun c => (true, r * (l.n - l.k) + c)))), 0)

/-- All layers in order: their outputs and the NaNs counted in TNS_NAN (R235). -/
def runLayers (md : Model) (input : Tensor) (ls : List Layer) : List Tensor × Nat :=
  ls.foldl (fun (a : List Tensor × Nat) l =>
    let r := evalLayer md input a.1 l
    (a.1 ++ [r.1], a.2 + r.2)) ([], 0)

/-- A PICTURE model's input: rows are the positions of the frames, columns the channels, each value
converted from (v / 65,535 − IN_NORM_M) × IN_NORM_S (R244). -/
def pictureInput (md : Model) (frames : List (List (List Int))) : Tensor :=
  let n := md.inH * md.inW
  let vals := frames.flatMap (fun ch => (List.range n).flatMap (fun i => (List.range md.inC).map (fun c =>
    let v := (ch.getD c []).getD i 0
    ((Fp.fin (v < 0) v.natAbs 65535).sub (ofFp32 (md.normM.getD c 0))).mul (ofFp32 (md.normS.getD c 0)))))
  mkTensor md.inFmt (frames.length * n) md.inC (frames.length, md.inH, md.inW) vals

/-- An AUDIO model's input: rows are samples, columns channels, y = a / 2^23 (R244). -/
def audioInput (md : Model) (ch : List (List Int)) : Tensor :=
  let vals := (List.range md.inLen).flatMap (fun i => (List.range md.inC).map (fun c =>
    let a := (ch.getD c []).getD i 0
    Fp.fin (a < 0) a.natAbs 8388608))
  mkTensor md.inFmt md.inLen md.inC (1, 1, md.inLen) vals

/-- A TOKENS model's input: the token array of R217 (R611). -/
def tokenInput (toks : List Nat) : Tensor :=
  { fmt := 0, rows := toks.length, cols := 1, codes := toks, scales := [], pos := (1, 1, toks.length) }

/-- The first `n` FP32 output values of a model, as codes, with the NaNs counted. DESIGN CHOICE, log 16. -/
def modelOutputs (img : Bytes) (md : Model) (input : Tensor) (n : Nat) : List Nat × Nat :=
  let r := runLayers md input md.layers
  let vals := match r.1.getLast? with
    | some t => t.values
    | none => []
  (tabulate n (fun i => match vals[i]? with
    | some v => codeFp32 (rne32 v)
    | none => Config.missingOutput img i), r.2)

/-! ## Image checks -/

/-- Header ranges of Table 08-1 (check 4, first two items). -/
def modelHeaderOk (img : Bytes) : Bool :=
  let m := parseModel img
  let n := field img 12 2
  m.kind ≤ 3 && m.inKind ≤ 2 && 1 ≤ n && n ≤ 4096
  && (if m.inKind = 1 then m.inFmt == 0 else 1 ≤ m.inFmt && m.inFmt ≤ 16 && m.inFmt != 12)
  && (match m.inKind with
      | 0 => (m.inC == 1 || m.inC == 3) && 1 ≤ m.inT && m.inT ≤ 1024 && 1 ≤ m.inH && m.inH ≤ 8192
             && 1 ≤ m.inW && m.inW ≤ 8192 && m.inLen == 0
             && (m.normM.drop m.inC).all (· == 0) && (m.normS.drop m.inC).all (· == 0)
      | k => (if k = 1 then m.inC == 0 else 1 ≤ m.inC && m.inC ≤ 8) && m.inT == 0 && m.inH == 0 && m.inW == 0
             && 1 ≤ m.inLen && m.inLen ≤ 16777216 && m.normM.all (· == 0) && m.normS.all (· == 0))
  && (match m.kind with
      | 0 => 1 ≤ m.outCount && m.outCount ≤ 8
      | 2 => m.outCount == 5
      | _ => m.outCount == 0)
  && (match m.kind with
      | 1 => 1 ≤ m.outDim && m.outDim ≤ 4096
      | 3 => 260 ≤ m.outDim && m.outDim ≤ 1048576   -- V of Table 07-2
      | _ => m.outDim == 0)
  && (m.inKind == 1 || m.kind == 3 || m.vocabDigest == 0)
  && (if m.kind = 3 then m.stateBytes ≤ 67108864 && m.stepLayer < n else m.stateBytes == 0 && m.stepLayer == 0)

/-- Format of a source as stored. -/
def srcFmt (m : Model) (src : Nat) : Nat :=
  if src = srcInput then m.inFmt else match m.layers[src]? with
    | some l => l.fmtOut
    | none => 0

/-- Elements of a source. -/
def srcCount (m : Model) (src : Nat) : Nat :=
  if src = srcInput then (if m.inKind = 0 then m.inT * m.inH * m.inW * m.inC else if m.inKind = 1 then m.inLen else m.inLen * m.inC)
  else match m.layers[src]? with
    | some l => l.m * l.n
    | none => 0

/-- Operations with a B operand; LAYOUT has one for CONCATENATE. -/
def takesB (l : Layer) : Bool :=
  match l.op with
  | 1 => true | 2 => true | 3 => true | 4 => true | 8 => true
  | 9 => l.geom.getD 0 0 == 2
  | _ => false

/-- The checks of check 4 on one layer (R232, R240, R611). -/
def layerOk (m : Model) (i : Nat) (l : Layer) : Bool :=
  let g := leNat ((l.geom.drop 4).map (BitVec.ofNat 8))
  let v := fun j => l.geom.getD j 0
  let gather := l.op == 8
  let operandFmt := fun f => 1 ≤ f && f ≤ 16 && f != 12
  let readsW := takesB l && l.bWeight
  let aCount := srcCount m l.srcA
  let bCount := srcCount m l.srcB
  let wBytes := if (l.op == 3 || l.op == 4) && l.wLen == weightBytes l.fmtB l.n then weightBytes l.fmtB l.n
                else weightBytes l.fmtB ((bShape l).1 * (bShape l).2)
  let biasEnd := l.bOff + 4 * l.n * (b2n l.bias + b2n l.scale)
  1 ≤ l.op && l.op ≤ 9
  && (l.srcA == srcInput || l.srcA < i)
  && (if takesB l then l.bWeight || l.srcB == srcInput || l.srcB < i else l.srcB == srcInput)
  && 1 ≤ l.fmtOut && l.fmtOut ≤ 16
  && l.fmtA == srcFmt m l.srcA
  && (if gather then (if l.srcA == srcInput then m.inKind == 1 else isIntFmt l.fmtA) else operandFmt l.fmtA)
  && (if takesB l then operandFmt l.fmtB && (gather || isFloatFmt l.fmtA == isFloatFmt l.fmtB)
        && (l.bWeight || l.fmtB == srcFmt m l.srcB)
      else l.fmtB == 0 && !l.bWeight)
  && (if readsW then l.wLen == wBytes && l.wOff + l.wLen ≤ m.weights.length else l.wOff == 0 && l.wLen == 0)
  && (if l.bias || l.scale then biasEnd ≤ m.weights.length else true)
  && (l.op != 5 || l.table < m.tables.length)
  && (match l.op with
      | 1 => aCount == l.m * l.k && (l.bWeight || bCount == l.k * l.n)
      | 2 => (l.bWeight || bCount == l.k * l.n) && 1 ≤ v 0 && 1 ≤ v 1 && 1 ≤ v 2 && 1 ≤ v 3 && 1 ≤ v 6 && 1 ≤ v 7
             && l.k % (v 0 * v 1) == 0
      | 3 => aCount == l.m * l.n && (l.bWeight || bCount == l.m * l.n || bCount == l.n)
      | 4 => aCount == l.m * l.n && (l.bWeight || bCount == l.m * l.n || bCount == l.n)
      | 5 => aCount == l.m * l.n
      | 6 => aCount == l.m * l.k && l.n == 1
      | 7 => aCount == l.m * l.k && l.n == 1
      | 8 => aCount == l.m && l.bWeight && l.fmtOut == l.fmtB
      | _ =>
        l.fmtOut == l.fmtA
        && (match v 0 with
            | 0 => aCount == l.m * l.n && g == 0
            | 1 => 1 ≤ g && l.m % g == 0 && aCount == l.m * l.n
            | 2 => 0 < l.k && l.k < l.n && g == 0 && aCount == l.m * l.k && l.fmtOut == l.fmtB
                   && (l.bWeight || bCount == l.m * (l.n - l.k))
            | _ => false))
  && (l.op == 2 || l.op == 9 || l.geom.all (· == 0))

/-- The reserved fields of a layer entry are 0 (Table 08-3; GEOM of LAYOUT, R611). -/
def layerReservedOk (l : Layer) : Bool :=
  l.flagsRsv == 0 && l.rsv == 0 && (l.op != 9 || ((l.geom.drop 1).take 3).all (· == 0))

/-- The first failing check of R240 (Table 08-11) on a model image: 0 none, 1 MALFORMED form, 2 VERSION,
3 SIGNATURE, 4 MALFORMED content. `sig` is the verdict of check 3. DEDUCED, log 119. -/
def modelCheck (img : Bytes) (sig : Bool) : Nat :=
  let n := field img 14 2
  let ss := sectionTable img n
  let known := [0x0101, 0x0102, 0x0103, 0x0104, sigType]
  let m := parseModel img
  let refs := (sectionOf img 0x0104).getD []
  let tbs := (sectionOf img 0x0103).getD []
  if !(sectionsOk img (field img 8 4) 3 8 && field img 0 4 == 0x444D4B46
       && 4096 ≤ field img 8 4 && field img 8 4 ≤ 2147483648
       && countOk ss 0x0101 1 1 && countOk ss 0x0102 1 1 && countOk ss 0x0103 0 1 && countOk ss 0x0104 0 1
       && ((sectionOf img 0x0101).getD []).length == 64 * field img 12 2
       && tbs.length % 4112 == 0 && ((findSection ss 0x0104).isNone || 8 ≤ refs.length) && zeroAt refs 5 3
       && zeroAt ((sectionOf img sigType).getD []) 2 2 && m.layers.all layerReservedOk
       && zeroAt img 53 3 && zeroAt img 92 32) then 1
  else if !(field img 4 2 == 1 && ss.all (fun s => known.contains s.typ)) then 2
  else if !sig then 3
  else if !(modelHeaderOk img && (m.layers.zipIdx).all (fun p => layerOk m p.2 p.1)
            && m.tables.all FuncTable.ok
            && ((findSection ss 0x0104).isNone
                || (m.kind == 1 && (m.refFmt == 3 || m.refFmt == 4)
                    && refs.length == 8 + field refs 0 4 * (fmtBits m.refFmt / 8 * m.outDim)))) then 4
  else 0

/-! ## Scoring -/

/-- One value of the ROI result, in 1/65,536 (R245). -/
def roiCoord (code : Nat) : Nat :=
  match ofFp32 code with
  | .fin true _ _ => 0
  | .fin false n d => min (rhaNat (n * 65536) d) 65536
  | .inf neg => if neg then 0 else 65536
  | .nan => 0

/-- CONF, saturated to the INT32 range (R245). -/
def roiConf (code : Nat) : Int :=
  match ofFp32 code with
  | .fin s n d => clampInt (if s then -((rhaNat (n * 65536) d : Nat) : Int) else (rhaNat (n * 65536) d : Nat)) (-2147483648) 2147483647
  | .inf neg => if neg then -2147483648 else 2147483647
  | .nan => 0

/-- A rule of the THRESHOLDS section (Table 08-6). -/
structure ThreshRule where
  score  : Nat
  op     : Nat
  thresh : Nat
  deriving DecidableEq, Repr

/-- A rule holds on a score; never with a NaN (R246). -/
def ThreshRule.holds (r : ThreshRule) (scores : List Nat) : Bool :=
  let x := ofFp32 (scores.getD r.score 0x7FC00000)
  let t := ofFp32 r.thresh
  !x.isNan && !t.isNan && (match r.op with
    | 0 => !x.lt t
    | 1 => !t.lt x
    | 2 => t.lt x
    | _ => x.lt t)

/-- DUP_SIM, an FP32 code: the largest dot product with the reference set (R247); −∞ for none. -/
def dupSim (embed : List Nat) (refs : List (List Fp)) : Nat :=
  let e := embed.map ofFp32
  match refs with
  | [] => 0xFF800000
  | r :: rs => codeFp32 (rs.foldl (fun m v => maxFp m (floatAcc (.fin false 0 1) e v)) (floatAcc (.fin false 0 1) e r))

/-- Rank of a logit above another: NaN lowest, −0 equal to +0 (R250). -/
def logitAbove (x y : Fp) : Bool := if x.isNan then false else if y.isNan then true else y.lt x

/-- The argmax over allowed tokens, the lowest ID on a tie (R250). -/
def argmaxAllowed (mask : List Bool) (logits : List Nat) : Option Nat :=
  (mask.zipIdx).foldl (fun best p =>
    if !p.1 then best else
    match best with
    | none => some p.2
    | some b => if logitAbove (ofFp32 (logits.getD p.2 0x7FC00000)) (ofFp32 (logits.getD b 0x7FC00000)) then some p.2 else best) none

/-- What label generation ends with: a kept label, or a drop with the tokens generated before it (R249). -/
inductive LabelResult where
  | keep (tokens : List Nat)
  | deadEnd (tokens : List Nat)
  | tooLong (tokens : List Nat)
  deriving DecidableEq, Repr

/-- The loop of R249; `fuel` counts LABEL_MAX down. -/
def labelLoop (v : Vocab) (g : Option Grammar) (img input : Bytes) : Nat → Option GrammarCtx → List Nat → LabelResult
  | 0, _, toks => .tooLong toks
  | fuel + 1, ctx, toks =>
    let logits := Config.labelLogits img input (v.bos :: toks)
    let mask := match g, ctx with
      | some g, some c => grammarMask v g c
      | _, _ => (v.pieces.zipIdx).map (fun p => p.1.kind != 2 || p.2 == v.eos)
    match argmaxAllowed mask logits with
    | none => .deadEnd toks
    | some t =>
      let toks := toks ++ [t]
      if t = v.eos then .keep toks else
      let ctx := match g, ctx with
        | some g, some c => (match advanceCtx v g c t with
            | .running d => some d
            | _ => none)
        | _, _ => none
      labelLoop v g img input fuel ctx toks

/-- A label generated greedily (R249). DESIGN CHOICE, log 15. -/
def generateLabel (v : Vocab) (g : Option Grammar) (img input : Bytes) (labelMax : Nat) : LabelResult :=
  labelLoop v g img input labelMax (g.map Grammar.open) []

end Sys2Proof.Machine
end

