-- ==== Sys2Proof/Machine/Recipe.lean ====
section
/-! DEFINITION. The recipe image: header and sections (R100 to R102, R609), the settings blocks
(Tables 05-2, 05-3, 06-1, 06-2, 07-1, 08-5), the slot size (R197, R252, R311) and the load checks of
Table 04-5 (R103, R106, R107). -/

namespace Sys2Proof.Machine

/-! ## Settings blocks -/

/-- Transform settings of Table 06-1. -/
structure TransformSettings where
  matrix    : Nat
  range     : Nat
  luma      : Bool
  filter    : Nat
  antialias : Bool
  letterbox : Bool
  header    : Bool
  roi       : Bool
  roiModel  : Nat
  roiAlpha  : Nat
  roiMaxStep : Nat
  roiConfMin : Int
  windowW   : Nat
  windowH   : Nat
  aug       : List AugOp
  audioRate : Nat
  audioChannels : Nat
  audioTables : Nat
  audioOffset : Nat
  normM     : List Nat
  normS     : List Nat
  audioS    : Nat
  deriving DecidableEq, Repr

/-- Transform settings from their 128 bytes; op code 0 ends the AUG list. -/
def parseTransform (b : Bytes) : TransformSettings :=
  let f := field b 4 1
  { matrix := field b 0 1, range := field b 1 1, luma := field b 2 1 == 1, filter := field b 3 1,
    antialias := bit f 0, letterbox := bit f 1, header := bit f 2, roi := bit f 3,
    roiModel := field b 5 1, roiAlpha := field b 6 2, roiMaxStep := field b 8 2,
    roiConfMin := signed 32 (field b 12 4), windowW := field b 16 2, windowH := field b 18 2,
    aug := (tabulate 8 (fun i => ({ op := field b (20 + 4 * i) 1, off := field b (21 + 4 * i) 1 } : AugOp))).takeWhile (fun a => a.op != 0),
    audioRate := field b 52 4, audioChannels := field b 56 1, audioTables := field b 57 1,
    audioOffset := field b 60 4, normM := u32s b 64 3, normS := u32s b 76 3, audioS := field b 88 4 }

/-- A pack shape entry of Table 06-2. -/
structure PackShape where
  t      : Nat
  h      : Nat
  w      : Nat
  layout : Nat
  interleaved : Bool
  pad    : Nat
  audioLen : Nat
  deriving DecidableEq, Repr

/-- A pack shape entry from its 16 bytes. -/
def parseShape (b : Bytes) : PackShape :=
  { t := field b 0 2, h := field b 2 2, w := field b 4 2, layout := field b 6 1, interleaved := bit (field b 7 1) 0,
    pad := field b 8 2, audioLen := field b 10 4 }

/-- Score settings of Table 08-5. -/
structure ScoreSettings where
  filterModel : Nat
  embedModel  : Nat
  labelModel  : Nat
  grammar     : Nat
  scoresOut   : Bool
  embedOut    : Bool
  tokensOut   : Bool
  textOut     : Bool
  detokDrop   : Bool
  embedFormat : Nat
  labelMax    : Nat
  deriving DecidableEq, Repr

/-- Score settings from their 16 bytes. -/
def parseScore (b : Bytes) : ScoreSettings :=
  let f := field b 4 1
  { filterModel := field b 0 1, embedModel := field b 1 1, labelModel := field b 2 1, grammar := field b 3 1,
    scoresOut := bit f 0, embedOut := bit f 1, tokensOut := bit f 2, textOut := bit f 3, detokDrop := bit f 4,
    embedFormat := field b 5 1, labelMax := field b 6 2 }

/-- A bucket descriptor of Table 04-4. -/
structure BucketDesc where
  batch   : Nat
  reserve : Nat
  pool    : Nat
  format  : Nat
  work    : Nat
  deriving DecidableEq, Repr

/-- The DELIVERY section (Table 11-1). -/
structure Delivery where
  ranks  : Nat
  dests  : Nat
  depth  : Nat
  stride : Nat
  perRank : Nat
  deriving DecidableEq, Repr

/-- Near-duplicate and score rules (Table 08-6). -/
structure Thresholds where
  dupEn  : Nat
  dupMax : Nat
  rules  : List ThreshRule
  deriving DecidableEq, Repr

/-- A recipe as its image gives it. -/
structure Recipe where
  id        : Nat
  revision  : Nat
  dl        : Nat
  live      : Bool
  dropConcealed : Bool
  shortTail : Bool
  reserveStop : Bool
  catalogId : Nat
  mask      : Nat
  demux     : Bytes
  decode    : Bytes
  transform : TransformSettings
  text      : TextSettings
  score     : ScoreSettings
  packComp  : List Nat
  shapes    : List PackShape
  tables    : List ResamplerTable
  map       : List Nat
  descs     : List BucketDesc
  delivery  : Delivery
  images    : List (Nat × Bytes)
  schema    : Nat
  paramTimeout : Nat
  hasParams : Bool
  thresholds : Thresholds
  services  : List Nat
  deriving DecidableEq, Repr

/-- Stage codes of Table 04-1 present in a mask. -/
def Recipe.holds (r : Recipe) (stage : Nat) : Bool := bit r.mask stage

/-- Resampler tables laid end to end from an offset (R195, R609). -/
def parseTables (sec : Bytes) : Nat → Nat → List ResamplerTable
  | 0, _ => []
  | n + 1, off =>
    let l := field sec (off + 4) 2
    let t := field sec (off + 8) 2
    { rate := field sec off 4, l := l, m := field sec (off + 6) 2, taps := t,
      h := tabulate (l * t) (fun i => signed 32 (field sec (off + 12 + 4 * i) 4)) }
      :: parseTables sec n (off + 12 + 4 * (l * t))

/-- End of the tables laid from an offset. -/
def tablesEnd (ts : List ResamplerTable) (off : Nat) : Nat := off + sumNat (ts.map (fun t => 12 + 4 * (t.l * t.taps)))

/-- Services a LIVE bitmap names (Table 04-3). -/
def bitmapBits (b : Bytes) (n : Nat) : List Nat :=
  (List.range n).filter (fun i => bit ((b.getD (i / 8) 0).toNat) (i % 8))

/-- The recipe an image holds. -/
def parseRecipe (img : Bytes) : Recipe :=
  let sec := fun t => (sectionOf img t).getD []
  let st := sec 0x0001
  let bk := sec 0x0003
  let dl := sec 0x0004
  let im := sec 0x0005
  let pr := sec 0x0006
  let th := sec 0x0007
  let f := field img 16 4
  let tr := parseTransform (slice st 0x040 128)
  { id := field img 8 2, revision := field img 10 2, dl := field img 12 2,
    live := bit f 0, dropConcealed := bit f 1, shortTail := bit f 2, reserveStop := bit f 3,
    catalogId := field img 24 8, mask := field st 0 2, demux := slice st 0x010 32, decode := slice st 0x030 16,
    transform := tr, text := parseTextSettings (slice st 0x0C0 32), score := parseScore (slice st 0x0E0 16),
    packComp := (slice st 0x100 64).map (·.toNat),
    shapes := tabulate 64 (fun b => parseShape (slice st (0x140 + 16 * b) 16)),
    tables := if tr.audioTables = 0 then [] else parseTables st (min tr.audioTables 8) tr.audioOffset,
    map := (bk.take 256).map (·.toNat),
    descs := tabulate 64 (fun b =>
      let e := slice bk (256 + 16 * b) 16
      { batch := field e 0 4, reserve := field e 4 4, pool := field e 8 1, format := field e 9 1, work := field e 12 4 }),
    delivery := { ranks := field dl 0 4, dests := field dl 4 1, depth := field dl 6 2, stride := field dl 8 4, perRank := field dl 12 4 },
    images := tabulate (im.length / 28) (fun i => (field im (28 * i) 2, slice im (28 * i + 4) 24)),
    schema := field pr 0 2, paramTimeout := field pr 2 4, hasParams := (sectionOf img 0x0006).isSome,
    thresholds := { dupEn := field th 1 1, dupMax := field th 4 4,
                    rules := tabulate (min (field th 0 1) 8) (fun r =>
                      { score := field th (8 + 8 * r) 1, op := field th (9 + 8 * r) 1, thresh := field th (12 + 8 * r) 4 }) },
    services := bitmapBits (sec 0x0008) 512 }

/-- The buckets in use: those to which the bucket map sends a class (R72). DEDUCED, log 50. -/
def Recipe.buckets (r : Recipe) : List Nat :=
  (List.range 64).filter (fun b => r.map.any (fun e => !bit e 7 && bits e 0 6 == b))

/-- What the recipe fixes for a plan (R72, R73). -/
def Recipe.shape (r : Recipe) : PlanShape :=
  { map := r.map, batch := r.descs.map (·.batch), reserve := r.descs.map (·.reserve), shortTail := r.shortTail }

/-- A bucket's descriptor and pack shape. -/
def Recipe.desc (r : Recipe) (b : Nat) : BucketDesc := r.descs.getD b { batch := 0, reserve := 0, pool := 0, format := 0, work := 0 }
def Recipe.packShape (r : Recipe) (b : Nat) : PackShape :=
  r.shapes.getD b { t := 0, h := 0, w := 0, layout := 0, interleaved := false, pad := 0, audioLen := 0 }

/-- Channels of a picture: CHANNELS of Table 06-1; RGB without the transform stage. -/
def Recipe.channels (r : Recipe) : Nat := if r.holds 4 && r.transform.luma then 1 else 3

/-- Audio channels of the slot; none without the transform stage, whose block gives them. -/
def Recipe.audioCh (r : Recipe) : Nat := if r.holds 4 then r.transform.audioChannels else 0

/-- FRC settings of the pack stage for a bucket, none without compression (R264). -/
def Recipe.packFrc (r : Recipe) (b : Nat) : Option FrcMode :=
  let c := r.packComp.getD b 0
  let fmt := (r.desc b).format
  if bits c 0 2 = 0 then none else
    some { slot := if bits c 0 2 = 1 then 128 else 64, escape := false, e := if fmt = 13 then 16 else 8,
           signed := fmt == 13 || fmt == 14, maxQ := bits c 2 4 }

/-! ## Slot size -/

/-- Bytes of elements and of MX scales for `n` elements as packed under R200 and R201. -/
def packedBytes (fmt n : Nat) : Nat × Nat := if n = 0 then (0, 0) else tensorBytes fmt n

/-- Lengths of the parts of the text region (R217). -/
def Recipe.textLens (r : Recipe) : List Nat :=
  if r.holds 5 then
    let n := r.text.seqLen * r.text.seqCount
    [16, n * (if r.text.token16 then 2 else 4), n * 2]
  else []

/-- True when a score region is present (R252). -/
def Recipe.hasScoreRegion (r : Recipe) : Bool :=
  r.holds 6 && (r.score.scoresOut || r.score.embedOut || r.score.tokensOut || r.score.textOut)

/-- Lengths of the parts of the score region, from OUT_COUNT and OUT_DIM of its models (R252). -/
def Recipe.scoreLens (r : Recipe) (outCount outDim : Nat) : List Nat :=
  if !r.hasScoreRegion then [] else
  let s := r.score
  let em := packedBytes s.embedFormat outDim
  [16, if s.scoresOut then 4 * outCount else 0, if s.embedOut then em.1 + em.2 else 0,
   if s.tokensOut then 4 * s.labelMax else 0, if s.textOut then 64 * s.labelMax else 0]

/-- Region lengths of a bucket's slot (R197, R252, R264). -/
def Recipe.regionLens (r : Recipe) (b outCount outDim : Nat) : List Nat :=
  let p := r.packShape b
  let fmt := (r.desc b).format
  let pic := packedBytes fmt (p.t * p.h * p.w * r.channels)
  let au := packedBytes fmt (p.audioLen * r.audioCh)
  let pic1 := match r.packFrc b with
    | some m => ceilDiv pic.1 256 * m.slot
    | none => pic.1
  [if r.holds 4 && r.transform.header then 32 else 0, pic1, pic.2, au.1, au.2] ++ r.textLens ++ r.scoreLens outCount outDim

/-- A slot's size: the end of the last region present, rounded up to 64 B (R311). -/
def Recipe.slotSize (r : Recipe) (b outCount outDim : Nat) : Nat := roundUp (regionsEnd (r.regionLens b outCount outDim)) 64

/-! ## Load checks -/

/-- What a recipe load is checked against. -/
structure LoadEnv where
  /-- The running DL. -/
  dl      : Nat
  /-- Verdict of the signature check (check 3). -/
  sigOk   : Bool
  /-- Held image of a kind with the named digest start: its bytes. -/
  held    : List (Nat × Bytes × Bytes)
  /-- The named catalog's header, none when its read is uncorrectable. -/
  catalog : Option Bytes
  /-- Kind and capacity in bytes of pools 0–63: kind 1 is HBM. -/
  pools   : List (Nat × Nat)
  /-- Services in the service table. -/
  services : List Nat
  deriving DecidableEq, Repr

/-- A held image of a reference. -/
def LoadEnv.image (e : LoadEnv) (ref : Nat × Bytes) : Option Bytes :=
  (e.held.find? (fun h => h.1 == ref.1 && h.2.1 == ref.2)).map (·.2.2)

/-- The model a settings index names, when held. -/
def namedModel (e : LoadEnv) (r : Recipe) (i : Nat) : Option Model :=
  match r.images[i]? with
  | some ref => if ref.1 = 0 then (e.image ref).map parseModel else none
  | none => none

/-- The model indices a recipe names: ROI, filter, embedding and label, with their KIND. -/
def Recipe.namedModels (r : Recipe) : List (Nat × Nat) :=
  (if r.holds 4 && r.transform.roi then [(r.transform.roiModel, 2)] else [])
  ++ (if r.holds 6 then
        ([(r.score.filterModel, 0), (r.score.embedModel, 1), (r.score.labelModel, 3)]).filter (fun p => p.1 != 0xFF)
      else [])

/-- OUT_COUNT of the filter model and OUT_DIM of the embedding model. -/
def outDims (e : LoadEnv) (r : Recipe) : Nat × Nat :=
  ((match namedModel e r r.score.filterModel with
    | some m => m.outCount
    | none => 0),
   (match namedModel e r r.score.embedModel with
    | some m => m.outDim
    | none => 0))

/-- Recipe section types and their counts (Table 04-3). -/
def recipeTypes : List (Nat × Nat × Nat) :=
  [(1, 1, 1), (2, 1, 1), (3, 1, 1), (4, 1, 1), (5, 0, 1), (6, 0, 1), (7, 0, 1), (8, 0, 1), (15, 1, 1)]

/-- Check 1: form, lengths, section CRCs, no overlap, reserved fields 0. DEDUCED, log 50. -/
def recipeForm (img : Bytes) : Bool :=
  let n := field img 14 2
  let ss := sectionTable img n
  let sec := fun t => (sectionOf img t).getD []
  let st := sec 1
  let r := parseRecipe img
  let has := fun t => (findSection ss t).isSome
  sectionsOk img (field img 20 4) 2 32 && field img 0 4 == 0x45524B46
  && 4096 ≤ field img 20 4 && field img 20 4 ≤ 16777216
  && bits (field img 16 4) 4 28 == 0 && zeroAt img 36 88
  && recipeTypes.all (fun t => countOk ss t.1 t.2.1 t.2.2)
  && st.length ≥ 1344 && zeroAt st 2 14 && zeroAt st 0xF0 16 && bits r.mask 9 7 == 0
  && (sec 2).length ≤ 4194304 && (sec 3).length == 1280 && (sec 4).length == 16 && zeroAt (sec 4) 5 1
  && (sec 5).length % 28 == 0 && (sec 5).length ≤ 448
  && r.images.all (fun i => i.1 ≤ 2)
  && (tabulate r.images.length (fun i => zeroAt (sec 5) (28 * i + 2) 2)).all id
  && (!has 6 || (sec 6).length ≥ 6)
  && (!has 7 || ((sec 7).length == 72 && zeroAt (sec 7) 2 2
        && (tabulate 8 (fun k => zeroAt (sec 7) (10 + 8 * k) 2 && (k < field (sec 7) 0 1 || zeroAt (sec 7) (8 + 8 * k) 8))).all id))
  && (!has 8 || (sec 8).length == 64)
  && zeroAt (sec sigType) 2 2
  && (tabulate 64 (fun b => zeroAt (sec 3) (256 + 16 * b + 10) 2)).all id
  -- reserved fields of the settings blocks
  && bits (field r.demux 2 1) 4 4 == 0 && zeroAt r.demux 5 1 && zeroAt r.demux 10 22
  && bits (field r.decode 2 1) 2 6 == 0 && zeroAt r.decode 3 13
  && bits (field st 0x44 1) 4 4 == 0 && zeroAt st 0x4A 2 && zeroAt st 0x7A 2 && zeroAt st 0x9C 36
  && (tabulate 8 (fun k => zeroAt st (0x40 + 22 + 4 * k) 2)).all id
  && bits (field st 0xC2 1) 6 2 == 0 && zeroAt st 0xC3 1 && zeroAt st 0xCA 22
  && bits (field st 0xE4 1) 5 3 == 0 && zeroAt st 0xE8 8
  && (tabulate 64 (fun b => bits (field st (0x147 + 16 * b) 1) 1 7 == 0 && zeroAt st (0x14E + 16 * b) 2)).all id

/-- Three BCD digits of a teletext page, 0x100–0x899. -/
def teletextOk (p : Nat) : Bool := 0x100 ≤ p && p ≤ 0x899 && bits p 0 4 ≤ 9 && bits p 4 4 ≤ 9 && bits p 8 4 ≤ 9

/-- Ranges of Table 05-2. -/
def demuxOk (b : Bytes) : Bool :=
  let trk := fun v => v ≤ 31 || v == 0xFF
  trk (field b 0 1) && trk (field b 1 1) && 1 ≤ field b 3 1 && field b 3 1 ≤ 4
  && 1 ≤ field b 4 1 && field b 4 1 ≤ 63 && teletextOk (field b 6 2)

/-- The placed window ratio of R184 for a fixed window: an axis whose window is the frame's is not fixed. -/
def fixedRatioOk (t : TransformSettings) (p : PackShape) : Bool :=
  if (augFind t.aug 1).isSome || p.t = 0 then true
  else if !t.letterbox then (t.windowW == 0 || ratioOk t.windowW p.w) && (t.windowH == 0 || ratioOk t.windowH p.h)
  else if t.windowW = 0 || t.windowH = 0 then true else
  let s := placedSize t.letterbox t.windowW t.windowH p.w p.h
  ratioOk t.windowW s.1 && ratioOk t.windowH s.2

/-- Ranges of Table 06-1, with R175. -/
def transformOk (t : TransformSettings) : Bool :=
  t.matrix ≤ 3 && t.range ≤ 2 && t.filter ≤ 4
  && (if t.roi then t.roiModel ≤ 15 else t.roiModel == 0xFF)
  && 1 ≤ t.roiAlpha && t.roiAlpha ≤ 256 && 1 ≤ t.roiMaxStep && t.roiMaxStep ≤ 4096
  && t.windowW ≤ 16384 && t.windowH ≤ 16384
  && t.aug.all (fun a => a.op ≤ 8 && a.off ≤ 43 && a.off + augLen a.op ≤ 44) && distinct (t.aug.map (·.op))
  && 8000 ≤ t.audioRate && t.audioRate ≤ 192000 && t.audioChannels ≤ 8 && t.audioTables ≤ 8

/-- A resampler table's ranges (R195). -/
def tableOk (rate : Nat) (t : ResamplerTable) : Bool :=
  1 ≤ t.l && t.l ≤ 4096 && 1 ≤ t.m && t.m ≤ 4096 && t.taps % 2 == 0 && 2 ≤ t.taps && t.taps ≤ 64
  && Nat.gcd t.l t.m == 1 && t.rate * t.l == rate * t.m

/-- A pack shape entry's ranges (Table 06-2, R175). -/
def shapeOk (p : PackShape) : Bool :=
  p.t ≤ 1024 && p.layout ≤ 2 && p.audioLen ≤ 16777216
  && (if p.t = 0 then p.h == 0 && p.w == 0 && p.layout == 0 && p.pad == 0
      else 1 ≤ p.h && p.h ≤ 8192 && 1 ≤ p.w && p.w ≤ 8192)
  && (p.t ≤ 1 || p.layout == 2)

/-- Ranges of Table 08-5 and the THRESHOLDS rules of R246. -/
def scoreOk (s : ScoreSettings) : Bool :=
  let idx := fun v => v ≤ 15 || v == 0xFF
  idx s.filterModel && idx s.embedModel && idx s.labelModel && idx s.grammar
  && 1 ≤ s.embedFormat && s.embedFormat ≤ 16 && 1 ≤ s.labelMax && s.labelMax ≤ 4096

/-- R243 for one named model against one bucket: shapes. -/
def modelFits (r : Recipe) (kind : Nat) (m : Model) (b : Nat) : Bool :=
  let p := r.packShape b
  m.kind == kind && (kind == 2 ||
    (match m.inKind with
     | 0 => m.inT == p.t && m.inH == p.h && m.inW == p.w && m.inC == r.channels
     | 1 => m.inLen == r.text.seqLen * r.text.seqCount
     | _ => m.inLen == p.audioLen && m.inC == r.audioCh))

/-- True when the recipe uses a vocabulary (R610). -/
def usesVocab (e : LoadEnv) (r : Recipe) : Bool :=
  r.holds 5 || (r.holds 6 && r.score.grammar != 0xFF)
  || r.namedModels.any (fun p => match namedModel e r p.1 with
      | some m => m.inKind == 1 || m.kind == 3
      | none => p.2 == 3)

/-- CSR accesses that R97 and R98 exclude, in one 32-bit instruction of RV64GC: counters, timers, the
hart ID, and writes of frm or fcsr. PRESUMED, log 51. -/
def csrExcluded (w : Nat) : Bool :=
  let f3 := bits w 12 3
  let csr := bits w 20 12
  bits w 0 7 == 0x73 && f3 != 0 && f3 != 4
  && ((0xC00 ≤ csr && csr ≤ 0xC1F) || (0xB00 ≤ csr && csr ≤ 0xB1F) || csr == 0xF14
      || ((csr == 0x002 || csr == 0x003) && (bits f3 0 2 == 1 || bits w 15 5 != 0)))

/-- PROGRAM holds no excluded access; instructions of 16 or 32 bits are taken in order. `fuel` bounds them. PRESUMED, log 51. -/
def programOk : Nat → Bytes → Bool
  | 0, _ => true
  | fuel + 1, bs =>
    if bs.length < 2 then true
    else if bits (field bs 0 2) 0 2 != 3 then programOk fuel (bs.drop 2)
    else !csrExcluded (field bs 0 4) && programOk fuel (bs.drop 4)

/-- Check 5: STAGES, PARAMS and THRESHOLDS values, and PROGRAM. DEDUCED, log 50. -/
def recipeStages (e : LoadEnv) (img : Bytes) : Bool :=
  let r := parseRecipe img
  let st := (sectionOf img 1).getD []
  let th := (sectionOf img 7).getD []
  let ref := fun i k => match r.images[i]? with
    | some x => x.1 == k
    | none => false
  let uses := usesVocab e r
  let outs := outDims e r
  bit r.mask 0 && bit r.mask 7 && bit r.mask 8
  && (!r.holds 1 || demuxOk r.demux) && (!r.holds 2 || field r.decode 0 1 ≤ 3)
  && (!r.holds 4 || (transformOk r.transform && field st 0x42 1 ≤ 1
        && r.buckets.all (fun b => fixedRatioOk r.transform (r.packShape b)
             && ((augFind r.transform.aug 3).isNone || (r.packShape b).h == (r.packShape b).w))
        && (r.transform.audioTables == 0 ||
             (r.transform.audioOffset % 4 == 0 && 0x540 ≤ r.transform.audioOffset
              && r.tables.all (tableOk r.transform.audioRate)
              && tablesEnd r.tables r.transform.audioOffset ≤ st.length))))
  && (!r.holds 5 || textSettingsOk (slice st 0xC0 32))
  && (!r.holds 6 || scoreOk r.score)
  && (tabulate 64 (fun b =>
        if r.buckets.contains b then shapeOk (r.packShape b) else zeroAt st (0x140 + 16 * b) 16)).all id
  && (tabulate 64 (fun b =>
        let c := r.packComp.getD b 0
        let fmt := (r.desc b).format
        if c = 0 then true
        else bits c 0 2 != 0 && bits c 0 2 != 3 && bits c 6 2 == 0 && (fmt == 13 || fmt == 14 || fmt == 15)
             && bits c 2 4 < (if fmt = 13 then 16 else 8))).all id
  && (!uses || ref r.text.vocab 1)
  && (!r.holds 5 || !r.text.token16 || (match r.images[r.text.vocab]? with
        | some x => (match e.image x with
            | some vi => field vi 8 4 ≤ 65536
            | none => true)
        | none => true))
  && r.namedModels.all (fun p => ref p.1 0)
  && (!(r.holds 6 && r.score.grammar != 0xFF) || ref r.score.grammar 2)
  && r.namedModels.all (fun p => match namedModel e r p.1 with
        | some m => r.buckets.all (modelFits r p.2 m)
        | none => true)
  && (!r.hasParams || (1 ≤ r.paramTimeout && r.paramTimeout ≤ 600000))
  && (th.isEmpty || (field th 0 1 ≤ 8 && (field th 0 1 == 0 || (r.holds 6 && r.score.filterModel != 0xFF))
        && r.thresholds.dupEn ≤ 1 && (r.thresholds.dupEn == 0 || (r.holds 6 && r.score.embedModel != 0xFF))
        && r.thresholds.rules.all (fun t => t.op ≤ 3 && (t.score < outs.1 || (namedModel e r r.score.filterModel).isNone))))
  && programOk 4194304 ((sectionOf img 2).getD [])

/-- Check 6: bucket map and descriptors. -/
def recipeBuckets (img : Bytes) : Bool :=
  let r := parseRecipe img
  let bk := (sectionOf img 3).getD []
  r.map.all (fun e => !bit e 6)
  && (tabulate 64 (fun b =>
        let d := r.desc b
        if r.buckets.contains b then 1 ≤ d.batch && d.batch ≤ 65536 && d.batch + d.reserve ≤ 65536 && d.pool ≤ 63 && 1 ≤ d.format && d.format ≤ 16
        else zeroAt bk (256 + 16 * b) 16)).all id

/-- Check 7: no pixel output in INT4, no TA input in INT32. -/
def recipeFormats (e : LoadEnv) (r : Recipe) : Bool :=
  r.buckets.all (fun b => (r.packShape b).t == 0 || (r.desc b).format != 16)
  && r.namedModels.all (fun p => match namedModel e r p.1 with
      | some m => m.inFmt != 12
      | none => true)

/-- Check 8: every referenced image held, and every VOCAB_DIGEST that of the recipe's vocabulary (R243, R610). -/
def recipeImages (e : LoadEnv) (r : Recipe) : Bool :=
  let vd := match r.images[r.text.vocab]? with
    | some x => beNat x.2
    | none => 0
  r.images.all (fun x => (e.image x).isSome)
  && r.namedModels.all (fun p => match namedModel e r p.1 with
      | some m => !(m.inKind == 1 || m.kind == 3) || m.vocabDigest == vd
      | none => true)
  && (!(r.holds 6 && r.score.grammar != 0xFF) || (match r.images[r.score.grammar]? with
      | some x => (match (e.image x).map parseGrammar with
          | some g => g.vocabDigest == vd
          | none => false)
      | none => false))

/-- M_b: the largest CLASS_MAXLEN of the classes sent to bucket b (R107). -/
def bucketMaxLen (r : Recipe) (c : Catalog) (b : Nat) : Nat :=
  maxNat ((List.range 256).map (fun k => if r.shape.bucket k = some b then c.maxLens.getD k 0 else 0))

/-- Q_b of R107, in bytes. -/
def bucketNeed (r : Recipe) (c : Catalog) (b : Nat) : Nat :=
  512 * ceilDiv (bucketMaxLen r c b) 512 + 512 * ceilDiv (r.desc b).work 512

/-- Check 10: the DELIVERY section (R81, R311). -/
def recipeRanks (e : LoadEnv) (r : Recipe) : Bool :=
  let d := r.delivery
  let outs := outDims e r
  1 ≤ d.ranks && d.ranks ≤ 65536 && 1 ≤ d.dests && d.dests ≤ 8
  && (List.range 13).any (fun k => 1 ≤ k && d.depth == 2 ^ k)
  && d.stride % 64 == 0 && 64 ≤ d.stride && d.stride ≤ 2147483584
  && r.buckets.all (fun b => (r.desc b).batch % d.ranks == 0 && r.slotSize b outs.1 outs.2 ≤ d.stride)
  && d.perRank == maxNat (r.buckets.map (fun b => (r.desc b).batch / d.ranks))

/-- The load checks of Table 04-5 in order: (STATUS, RESULT0, RESULT1) of the first that fails, none when
all pass. -/
def recipeCheck (e : LoadEnv) (img : Bytes) : Option (Nat × Nat × Nat) :=
  let ones := 0xFFFFFFFF
  let r := parseRecipe img
  let ss := sectionTable img (field img 14 2)
  let cat := parseCatalog (e.catalog.getD [])
  let known := recipeTypes.map (·.1)
  if !recipeForm img then some (0x0106, ones, 0)
  else if !(field img 4 2 == 1 && ss.all (fun s => known.contains s.typ || s.flags == 0)) then some (0x0107, ones, 0)
  else if !e.sigOk then some (0x0203, 0, 0)
  else if !(r.dl == 0 || r.dl == e.dl) then some (0x0601, 0, 0)
  else if !recipeStages e img then some (0x0108, ones, 0)
  else if !recipeBuckets img then some (0x0109, ones, 0)
  else if !recipeFormats e r then some (0x010A, ones, 0)
  else if !recipeImages e r then some (0x0309, 0, 0)
  else match e.catalog with
  | none => some (0x0503, 0, 0)
  | some cb =>
    match catalogFault cb with
    | some off => some (0x0112, ones, off)
    | none =>
      if !(r.catalogId == 0 || r.catalogId == cat.catalogId) then some (0x030A, 0, 0)
      else if !recipeRanks e r then some (0x010B, ones, 0)
      else if !r.buckets.all (fun b => (e.pools.getD (r.desc b).pool (0, 0)).1 == 1) then some (0x0404, 0, 0)
      else if !r.buckets.all (fun b => bucketNeed r cat b ≤ (e.pools.getD (r.desc b).pool (0, 0)).2) then some (0x0405, 0, 0)
      else if !(if r.live then (findSection ss 8).isSome && r.services.all (fun v => e.services.contains v)
                else (findSection ss 8).isNone) then some (0x030B, 0, 0)
      else none

end Sys2Proof.Machine
end

