-- ==== Sys2Proof/Machine/JobTypes.lean ====
section
/-! DEFINITION. State of jobs and samples: recipes and images held (R104, R226), jobs with their
plans (R84 to R92), parameter records (R114 to R120), samples in their stages (R95), destinations and
slot writes (R312 to R323), cursors and mirror windows (R47, R333, R334). -/

namespace Sys2Proof.Machine

/-- A recipe held in a slot, with the catalog it was loaded against (R105). -/
structure HeldRecipe where
  image  : Bytes
  digest : Bytes
  nsid   : Nat
  offset : Nat
  signer : Nat
  deriving DecidableEq, Repr

/-- A model, vocabulary or grammar image held (R226, R241). -/
structure HeldImage where
  image  : Bytes
  digest : Bytes
  signer : Nat
  deriving DecidableEq, Repr

/-- A command accepted and not completed: its source, arrival number, opcode and packet. -/
structure Waiter where
  src    : Source
  seq    : Nat
  opcode : Nat
  pkt    : Packet
  deriving DecidableEq, Repr

/-- A recovery command of R52: what was accepted and how it stands. `status`: 0 in progress,
1 completed, 2 abandoned. -/
structure Recovery where
  opcode : Nat
  params : Nat
  status : Nat
  /-- The command and its repeats, which complete with the recovery. -/
  waiters : List Waiter
  deriving DecidableEq, Repr

/-- An epoch plan being built or held (R84). `phase` is the state code of Table 03-10. -/
structure EpochPlan where
  epoch   : Nat
  phase   : Nat
  recipe  : Nat
  digest  : Bytes
  /-- Plan ranks this device acts for, and those whose scan of the phase has ended. -/
  ranks   : List Nat
  scanned : List Nat
  /-- Count entries by plan rank: input digest and 64 counts. -/
  counts  : CMap (Bytes × List Nat)
  /-- Assign scans of the device's own ranks. -/
  assigned : CMap Assigned
  /-- Step entries by plan rank. -/
  steps   : CMap (List (Nat × Nat))
  /-- Record counts of the end markers by plan rank. -/
  markers : CMap Nat
  records : List PlanRec
  /-- The EPOCH_PLAN and reissue commands that complete with the plan. -/
  waiters : List Waiter
  /-- Bramble's chain that holds the records (R88). -/
  chain   : Option Nat
  /-- Members admitted to a tile, as (step, member). -/
  admitted : List (Nat × Nat)
  /-- Reissues running (R92): failed device, its partner, lowest step asked. -/
  reissue : List (Nat × Nat × Nat)
  deriving DecidableEq, Repr

/-- Bucket totals N_b of a plan. -/
def EpochPlan.totals (p : EpochPlan) : List Nat := addCounts (p.counts.vals.map (·.2))

/-- A stored parameter record (R114): its sample, epoch and payload. -/
structure ParamRec where
  sample  : Nat
  epoch   : Nat
  payload : Bytes
  /-- The chain that holds it in the job's parameter pool (R117). -/
  chain   : Nat
  /-- A record with another payload came, and the job has not yet stopped for it (R119). -/
  conflict : Bool
  deriving DecidableEq, Repr

/-- A binding of (rank, destination) (R312), with what the device knows of its consumed word (R314). -/
structure Binding where
  rank : Nat
  dest : Nat
  qp   : Nat
  dataAddr : Nat
  dataKey  : Nat
  cwAddr   : Nat
  cwKey    : Nat
  consAddr : Nat
  consKey  : Nat
  /-- Latest C, none until the word was read; the Estate time of the last read, and one outstanding. -/
  c        : Option Nat
  lastRead : Option Nat
  reading  : Bool
  /-- The queue pair went to error and the destination has not been bound again (R322). -/
  error    : Bool
  deriving DecidableEq, Repr

/-- A slot copy to one destination: 0 ready, 1 data outstanding, 2 completion word outstanding,
3 acknowledged. -/
structure SlotCopy where
  index  : Nat
  slot   : Nat
  rank   : Nat
  dest   : Nat
  phase  : Nat
  deriving DecidableEq, Repr

/-- A slot ready for delivery: step, index, slot number, bytes (none for an empty slot) and
completion word (R317, R319). -/
structure ReadySlot where
  epoch  : Nat
  step   : Nat
  index  : Nat
  slot   : Nat
  bucket : Nat
  data   : Bytes
  empty  : Bool
  word   : Nat
  deriving DecidableEq, Repr

/-- A verdict held by the batch coordinator (R80). -/
structure Verdict where
  epoch  : Nat
  step   : Nat
  member : Nat
  keep   : Bool
  sample : Nat
  deriving DecidableEq, Repr

/-- The mirror window a partner gave for a job (R334): state 0 setup sent, 1 open, 2 refused. -/
structure MirrorLink where
  state  : Nat
  window : Nat
  key    : Nat
  seq    : Nat
  /-- Consecutive failed intervals (R336). -/
  missed : Nat
  /-- Estate time of the last setup message. -/
  sentAt : Nat
  deriving DecidableEq, Repr

/-- A job in its slot of the BRM block (R455). -/
structure Job where
  id        : Nat
  dl        : Nat
  seed      : Nat
  nsid      : Nat
  catOffset : Nat
  shards    : List (Nat × Nat)
  paramPool : Nat
  /-- Recipe slots by the epoch from which they govern (R110). -/
  bindings  : List (Nat × Nat)
  /-- First epoch and step delivered, and the delivering epoch. -/
  startEpoch : Nat
  startStep : Nat
  epoch     : Nat
  /-- Delivery index of step 0 of `epoch`, as a signed value (R313). -/
  base      : Int
  /-- g0 of R313 for `epoch`. -/
  g0        : Int
  /-- The cursor: lowest step of the share not fully delivered (R335). -/
  step      : Nat
  /-- Steps at which the job is stopped, as (epoch, step) (R40, R122). -/
  stops     : List (Nat × Nat)
  /-- Recovery generation C and the command accepted at it (R51, R52). -/
  gen       : Nat
  recovery  : Option Recovery
  /-- Failed devices whose share this device serves (R47). -/
  taken     : List Nat
  /-- Partners that act for failed devices, as (failed, partner) (R91, R92). -/
  acting    : List (Nat × Nat)
  plans     : List EpochPlan
  params    : List ParamRec
  /-- Streaming ring: SIZE_LOG2, base, head and tail (R457). -/
  pring     : Option (Nat × Nat)
  pringHead : Nat
  pringTail : Nat
  dests     : List Binding
  /-- (rank, destination) pairs for which DEST_UNBOUND was raised. -/
  unbound   : List (Nat × Nat)
  ready     : List ReadySlot
  copies    : List SlotCopy
  /-- Slots of delivery indices that were cancelled (R323). -/
  cancelled : List (Nat × Nat)
  /-- SLOT_CANCEL commands that wait for outstanding writes (R323). -/
  cancels   : List (Nat × Nat × Waiter)
  verdicts  : List Verdict
  /-- Members this device served whose verdict is in, as (epoch, step, member). -/
  resolved  : List (Nat × Nat × Nat)
  /-- Batches whose replacements the coordinator has settled, (epoch, step). -/
  settled   : List (Nat × Nat)
  mirror    : Option MirrorLink
  /-- Dropped samples and empty slots written, by epoch (Table 03-10). -/
  drops     : CMap Nat
  empties   : CMap Nat
  /-- JOB_END or a leave accepted and waiting for outstanding writes (R456). -/
  ending    : Option Waiter
  deriving DecidableEq, Repr

/-- What a sample holds between stages: intermediate results (Table 04-1). -/
structure Work where
  bytes    : Bytes
  frames   : List Decoded
  audioRate : Nat
  audio    : List (List Int)
  captions : List Caption
  text     : Bytes
  pictures : List Picture
  /-- Placed area of the first frame: OX, OY, w′, h′ (Table 06-8). -/
  placed   : Nat × Nat × Nat × Nat
  /-- Windows of the frames that ROI evaluation has fixed, and the frames evaluated (R189, R190). -/
  windows  : List Window2
  roiFrames : Nat
  /-- Audio or captions that feed the output were lost (R149). -/
  lost     : Bool
  /-- Frames before padding. -/
  validT   : Nat
  audioOut : List (List Int)
  audioLen : Nat
  audioCut : Bool
  region   : Option TextRegion
  scores   : List Nat
  embed    : List Nat
  dup      : Nat
  label    : List Nat
  labelText : Bytes
  labelRepl : Bool
  slot     : Bytes
  deriving DecidableEq, Repr

/-- No intermediate results. -/
def Work.empty : Work :=
  { bytes := [], frames := [], audioRate := 0, audio := [], captions := [], text := [], pictures := [],
    placed := (0, 0, 0, 0), windows := [], roiFrames := 0, lost := false, validT := 0, audioOut := [], audioLen := 0, audioCut := false, region := none,
    scores := [], embed := [], dup := 0xFF800000, label := [], labelText := [], labelRepl := false, slot := [] }

/-- A sample on a tile (R95, R126). `stage` is the stage it waits for or runs. -/
structure Sample where
  job    : Nat
  epoch  : Nat
  step   : Nat
  member : Nat
  bucket : Nat
  reserve : Bool
  record : CatRecord
  tile   : Nat
  stage  : Nat
  /-- The engine that runs the stage, as class and index; none while it waits or on control cores. -/
  engine : Option (Nat × Nat)
  /-- Estate time from which it is held for its parameter record (R120). -/
  held   : Option Nat
  /-- Chains it owns, as (pool, cell), and the cells of its reservation left (R300). -/
  chains : List (Nat × Nat)
  reserved : Nat
  /-- Replicas asked and not yet answered, in order (R399). -/
  replicas : List Nat
  /-- Refusals of R281 met in this stage, and the engine of the first, which the second run avoids. -/
  refusals : Nat
  avoid    : Option Nat
  /-- Frames of the tile's reference cache that its decode holds (R154). -/
  refs     : List Nat
  concealed : Bool
  work   : Work
  /-- Verdict once scored (R248). -/
  verdict : Option Bool
  /-- Slot once placed (R74, R78). -/
  slot   : Option Nat
  deriving DecidableEq, Repr

/-- A parameter table being taken (R116): its records still to take and its command. -/
structure ParamLoad where
  job    : Nat
  epoch  : Nat
  rest   : List Bytes
  conflict : Bool
  cmd    : Waiter
  deriving DecidableEq, Repr

/-- A mirror window a partner holds for (job ID, device) (R334). -/
structure MirrorWindow where
  jobId  : Nat
  device : Nat
  index  : Nat
  key    : Nat
  deriving DecidableEq, Repr

/-- An RMA window (R325). -/
structure Window where
  pool   : Nat
  cell   : Nat
  offset : Nat
  length : Nat
  key    : Nat
  read   : Bool
  write  : Bool
  any    : Bool
  requester : Nat
  /-- Closing: requests are refused (R330); the WINDOW_CLOSE command, or none for a mirror window. -/
  closing  : Option (Option Waiter)
  deriving DecidableEq, Repr

/-- A remote request issued by the device (R326, R331). -/
structure RmaRequest where
  target : Nat
  window : Nat
  offset : Nat
  length : Nat
  isWrite : Bool
  cls    : Nat
  /-- Destination of a read: host address, or cell reference with offset. -/
  localChain : Bool
  localAddr : Nat
  localOff  : Nat
  sentAt : Nat
  /-- The command, or none for a mirror write of a job slot. -/
  cmd    : Option Waiter
  mirror : Option Nat
  deriving DecidableEq, Repr

/-- A queue pair (R321, R322, R366): state 0 unused, 1 connected, 2 error. -/
structure QueuePair where
  state  : Nat
  ipVersion : Nat
  dscp   : Nat
  port   : Nat
  udp    : Nat
  addr   : Nat
  qpn    : Nat
  psn    : Nat
  /-- RMA_ROCE_CFG as it stood at the bind (R338). -/
  cfg    : Nat
  retries : Nat
  rate   : Nat
  lastCut : Option Nat
  lastCnpSent : Option Nat
  lastCnp : Nat
  deriving DecidableEq, Repr

end Sys2Proof.Machine
end

