-- ==== Sys2Proof/Machine/UnitTypes.lean ====
section
/-! DEFINITION. State of the device's units: pools and chains (R296 to R306), banks (R280 to R294),
compression jobs (R268), rings and records of commands (R444 to R451), events (R524 to R536), ports,
shapers and time (R346 to R378), namespaces and media (R383 to R407), NVMe (R414 to R435), power
(R462 to R488), start-up and updates (R494 to R518), tests (R541 to R548), credentials and audit (R557 to R575). -/

namespace Sys2Proof.Machine

/-! ## Pools and banks -/

/-- A pool (R296, R301): kind 0 unconfigured, 1 HBM, 2 SRAM. -/
structure Pool where
  kind    : Nat := 0
  die     : Nat := 0
  group   : Nat := 0
  groups  : Nat := 0
  /-- Bank groups lost to retired banks (R294). -/
  lost    : List Nat := []
  /-- Cells in force, and the capacity a shrink goes to (R303). -/
  cells   : Nat := 0
  target  : Nat := 0
  resv    : Nat := 0
  /-- Reservations held, counted. -/
  holders : Nat := 0
  warn    : Nat := 250
  bp      : Nat := 125
  crit    : Nat := 30
  /-- Thresholds that take effect at the next allocation or free (R302). -/
  nextThr : Option (Nat × Nat × Nat) := none
  lvlWarn : Bool := false
  lvlBp   : Bool := false
  lvlCrit : Bool := false
  deriving DecidableEq, Repr

/-- A chain of cells (R297); its bytes read 0 where nothing was written. -/
structure Chain where
  owner  : Nat
  cells  : List Nat
  length : Nat
  refs   : Nat
  time   : Nat
  bytes  : CMap Byte
  /-- The device has left the job that owned the chain (R456). -/
  left   : Bool := false
  deriving DecidableEq, Repr

/-- A bank of SRAM (Table 10-7): state 0 OFF, 1 RETENTION, 2 ON. -/
structure Bank where
  owner   : Nat := 0
  prev    : Nat := 0
  /-- Handover in progress: new owner and ZERO (R282). -/
  pending : Option (Nat × Bool) := none
  state   : Nat := 0
  /-- State transition in progress or deferred (R285). -/
  next    : Option Nat := none
  test    : Bool := false
  region  : Nat := 0
  fault   : Bool := false
  retired : Bool := false
  /-- Spare columns in use by sub-array, as (sub-array, column) pairs. -/
  spares  : List (Nat × Nat) := []
  deriving DecidableEq, Repr

/-- A compression command running (R268): its descriptor bytes 16–63 and its input. -/
structure CompJob where
  cmd   : Waiter
  input : Bytes
  /-- The tile whose CXE runs it. -/
  tile  : Nat
  deriving DecidableEq, Repr

/-- A leak audit in progress: the POOL_AUDIT command or none, and job slots and owners to free (R304, R306). -/
structure Audit where
  cmd   : Option Waiter
  /-- 0 report only; 1 start-up; 2 after a recovery. -/
  kind  : Nat
  /-- What a command that waits for this audit completes with. -/
  result : Result
  deriving DecidableEq, Repr

/-! ## Commands -/

/-- A command ring (Table 15-8). -/
structure Ring where
  en      : Bool := false
  depthLog2 : Nat := 0
  msix    : Bool := false
  draining : Bool := false
  fault   : Bool := false
  phase   : Nat := 1
  sqBase  : Nat := 0
  cqBase  : Nat := 0
  sqTail  : Nat := 0
  cqHead  : Nat := 0
  sqHead  : Nat := 0
  /-- The device's completion tail. -/
  cqTail  : Nat := 0
  /-- Completion entries reserved for commands fetched and not completed (R445). -/
  inflight : Nat := 0
  /-- Arrival number from which commands of this ring count since EN was set (R448). -/
  since   : Nat := 0
  deriving DecidableEq, Repr

/-- The record of a completed command (R451). -/
structure CmdRecord where
  src    : Source
  opcode : Nat
  pkt    : Packet
  result : Result
  deriving DecidableEq, Repr

/-- A command received from a source, for the order of R448 and the retries of R451: its arrival
number, and its status once completed. `post` is clear once a Function Level Reset discards its
completion (R447). -/
structure Arrival where
  src    : Source
  seq    : Nat
  opcode : Nat
  pkt    : Packet
  status : Option Nat
  post   : Bool
  deriving DecidableEq, Repr

/-- A command waiting to be accepted (R448, R449), with what it brought. -/
structure Deferred where
  opcode : Nat
  cmd    : CmdIn
  seq    : Nat
  deriving DecidableEq, Repr

/-- A packet forwarded and not completed (R441). -/
structure Forwarded where
  dev     : Nat
  cmd     : Waiter
  sentAt  : Nat
  receipt : Bool
  /-- Not yet sent: no start number before the first time lock (R564). -/
  held    : Bool
  deriving DecidableEq, Repr

/-! ## Events -/

/-- An event record (Table 18-1). -/
structure Event where
  time   : Nat
  seq    : Nat
  code   : Nat
  sev    : Nat
  rsvSlot : Bool
  die    : Nat
  count  : Nat
  detail : Bytes
  deriving DecidableEq, Repr

/-- The 32 bytes of an event record. -/
def Event.bytes (e : Event) : Bytes :=
  leBytes 8 e.time ++ leBytes 4 e.seq ++ leBytes 2 e.code
  ++ leBytes 1 (packFields [(0, 2, e.sev), (2, 1, b2n e.rsvSlot)]) ++ leBytes 1 e.die ++ leBytes 4 e.count
  ++ (e.detail ++ zeros (12 - e.detail.length)).take 12

/-- Drops of an event group not yet reported (R531). -/
structure Drops where
  count : Nat := 0
  sev   : Nat := 0
  first : Nat := 0
  deriving DecidableEq, Repr

/-- An event subscriber (R535). -/
structure Subscriber where
  kind : Nat := 0
  target : Nat := 0
  minSev : Nat := 0
  mask : Nat := 0
  deriving DecidableEq, Repr

/-! ## Fabric, Ethernet, shaping and time -/

/-- A frame or packet that waits at a shaped port: class, virtual channel, sequence number, bytes, frames
that carry it, and what is sent. -/
structure Frame where
  cls   : Nat
  vc    : Nat
  seq   : Nat
  len   : Nat
  count : Nat
  out   : Output
  deriving DecidableEq, Repr

/-- A fabric port (Table 12-7): state 0 DOWN, 1 TRAINING, 2 ACTIVE, 3 LOW, 4 QUIET, 5 RECAL. -/
structure FabPort where
  state   : Nat := 0
  spareUsed : Bool := false
  half    : Bool := false
  peer    : Nat := 0
  peerPort : Nat := 0
  ver     : Nat := 0
  failed  : Nat := 0
  spareFor : Nat := 0xF
  lane    : Nat := 0
  /-- What runs: 0 nothing, 1 retrain, 2 recalibration, 4 lane recalibration; bits of FAB_PORT_CTRL. -/
  ctrl    : Nat := 0
  /-- A quiet entry requested and not committed: the state it goes to (R360). -/
  request : Option Nat := none
  /-- Exit to ACTIVE in progress (R361). -/
  exiting : Bool := false
  /-- Packets sent and not acknowledged (R349). -/
  unacked : List Frame := []
  /-- Credits by virtual channel (R345). -/
  credits : List Nat := List.replicate 8 0
  lastRx  : Nat := 0
  /-- Hops to a time source that the neighbour reports, none where it has no source (R362). -/
  timeHops : Option Nat := none
  /-- A PORT_SERVICE command that completes with the port's work. -/
  cmd     : Option Waiter := none
  deriving DecidableEq, Repr

/-- An Ethernet port (Table 12-9) with its addressing of NETWORK_SET. -/
structure EthPort where
  state  : Nat := 0
  paused : Nat := 0
  /-- KIND 0: IP version, prefix, VLAN and address. -/
  ipVersion : Nat := 0
  prefixLen : Nat := 0
  vlan   : Nat := 0
  addr   : Nat := 0
  /-- KIND 2: IP version and source address of multicast reports. -/
  mcVersion : Nat := 0
  mcAddr : Nat := 0
  /-- ETH_PORT_CFG (Table 12-9). -/
  pfcEn  : Nat := 8
  ecnEn  : Bool := true
  deriving DecidableEq, Repr

/-- A live-ingest service (R163): state 1 joined, 2 receiving, 3 stalled. -/
structure Service where
  port    : Nat
  ipv6    : Bool
  specific : Bool
  udp     : Nat
  program : Nat
  duration : Nat
  group   : Nat
  source  : Nat
  state   : Nat
  rtp     : Bool
  /-- RTP packets waiting in the window of 64 (R164): sequence numbers with their TS packets and the
  random-access points among them. -/
  window  : CMap (Bytes × List (Nat × Nat))
  nextSeq : Option Nat
  /-- Continuity counters by PID. -/
  counters : CMap Nat
  /-- The segment being cut: its bytes and count, and the next nominal start (R166). -/
  segment : Bytes
  segCount : Nat
  segStart : Option Nat
  /-- A segment is being cut. -/
  cutting : Bool
  /-- Segments produced, as sample ID and bytes. -/
  segs    : List (Nat × Bytes)
  deriving DecidableEq, Repr

/-- A gate-list entry: classes open and interval in ns (R371). -/
structure Gate where
  gates : Nat := 0
  ns    : Nat := 0
  deriving DecidableEq, Repr

/-- A shaped class (Table 12-11): values written and values in force since the last refill (R370). -/
structure ShapeClass where
  rate   : Nat := 0
  en     : Bool := false
  burst  : Nat := 0x4000
  prio   : Nat := 0
  weight : Nat := 1
  tokens : Int := 0
  fRate  : Nat := 0
  fEn    : Bool := false
  fBurst : Nat := 0x4000
  fPrio  : Nat := 0
  fWeight : Nat := 1
  /-- Deficit of round robin, in bytes (R369). -/
  deficit : Int := 0
  deriving DecidableEq, Repr

/-- A shaped port (Table 12-11, R371, R372). -/
structure Shaper where
  overhead : Nat := 8
  fOverhead : Nat := 8
  gateEn  : Bool := false
  adminLen : Nat := 0
  base    : Nat := 0
  admin   : CMap Gate := []
  pending : Option (Nat × List Gate) := none
  oper    : Option (Nat × List Gate) := none
  /-- Entry of the operational list whose gates are open. -/
  entry   : Nat := 0
  err     : Bool := false
  classes : List ShapeClass := List.replicate 16 {}
  /-- Frames that wait, oldest first, and the class in turn of round robin. -/
  queue   : List Frame := []
  turn    : Nat := 0
  deriving DecidableEq, Repr

/-! ## Media and NVMe -/

/-- A namespace (Table 13-1): kind 0 block, 1 dataset. Bytes never written read 0 (R385). -/
structure Namespace where
  kind     : Nat
  capacity : Nat
  sealed   : Bool
  replicas : List Nat
  /-- Identifies the namespace's key in the enclave; a new key is a new value (R404, R576). -/
  key      : Nat
  bytes    : CMap Byte
  /-- Map units written, ascending: the units that hold capacity (R383). -/
  units    : List Nat
  /-- Codewords whose read is uncorrectable, by index of 4 KiB (R398). -/
  bad      : List Nat
  deriving DecidableEq, Repr

/-- An operation at a NAND die: the class of R388, and 0 NVMe or other read, 1 program, 2 erase,
3 read for the fetch stage, 4 program of the journal or a checkpoint. -/
structure NandOp where
  cls  : Nat
  kind : Nat
  deriving DecidableEq, Repr

/-- A NAND die: state 0 absent, 1 in service, 2 retired, 3 left out for its profile (R380, R403). -/
structure Die where
  state   : Nat := 0
  /-- Operations queued, in arrival order. -/
  queue   : List NandOp := []
  running : Option NandOp := none
  /-- Suspensions of the program or erase in progress, and the one suspended (R389). -/
  suspends : Nat := 0
  suspended : Option NandOp := none
  /-- The last class-1 read served was for the fetch stage (R388). -/
  lastFetch : Bool := false
  retiredBlocks : List Nat := []
  deriving DecidableEq, Repr

/-- An NVMe command as it leaves its submission queue (R414, R415): queue, identifier, namespace, command
words and data to the device. -/
structure NvmeIn where
  sq     : Nat
  cid    : Nat
  opcode : Nat
  nsid   : Nat
  cdw10  : Nat
  cdw11  : Nat
  cdw12  : Nat
  prp    : Nat
  data   : Bytes
  deriving DecidableEq, Repr

/-- A write of PF0 in pieces of 64 LBAs (R406, R425). -/
structure WriteCmd where
  sq     : Nat
  cid    : Nat
  nsid   : Nat
  /-- Byte offset and data. -/
  off    : Nat
  data   : Bytes
  fua    : Bool
  /-- Pieces admitted. -/
  admitted : Nat
  deriving DecidableEq, Repr

/-- A piece in the write cache that is not yet programmed (R405, R407): `dirty` where its command was
acknowledged at admission. -/
structure DirtyPiece where
  seq  : Nat
  nsid : Nat
  off  : Nat
  len  : Nat
  dirty : Bool
  /-- What the namespace held there before, and the units that held no capacity: the last durable state. -/
  old  : Bytes
  fresh : List Nat
  deriving DecidableEq, Repr

/-- A command that waits for pieces below `upTo` to be programmed (R407, R426); `journal` where a
journal flush must follow. -/
structure FlushCmd where
  sq   : Nat
  cid  : Nat
  upTo : Nat
  journal : Bool
  deriving DecidableEq, Repr

/-- An NVMe queue: submission or completion (R414, R419). -/
structure NvmeQueue where
  /-- Entries. -/
  size   : Nat
  base   : Nat
  head   : Nat
  tail   : Nat
  /-- Priority class of a submission queue: 0 urgent, 1 high, 2 medium, 3 low. -/
  prio   : Nat
  /-- Completion queue of a submission queue; interrupt vector of a completion queue. -/
  other  : Nat
  deriving DecidableEq, Repr

/-- The NVMe controller of PF0 (R414 to R435). -/
structure Nvme where
  cc     : Nat := 0
  rdy    : Bool := false
  /-- CSTS.SHST: 0 normal, 1 occurring, 2 complete. -/
  shst   : Nat := 0
  /-- The host link is up; completions held while it is down: queue, identifier, status, result (R413). -/
  linkUp : Bool := false
  posts  : List (Nat × Nat × Nat × Nat) := []
  sqs    : CMap NvmeQueue := []
  cqs    : CMap NvmeQueue := []
  /-- Arbitration (R419): the queue in turn, commands taken in the turn, the last queue of each class
  (urgent, high, medium, low), and the credits of high, medium and low. -/
  turn   : Nat := 0
  taken  : Nat := 0
  lastSq : List Nat := [0, 0, 0, 0]
  credits : List Nat := [0, 0, 0]
  writes : List WriteCmd := []
  /-- Commands held by a non-operational state or a holdup flush, oldest first (R429, R549). -/
  held   : List NvmeIn := []
  /-- Flushes and writes waiting for durability. -/
  flushes : List FlushCmd := []
  aers   : List (Nat × Nat) := []
  warning : Nat := 0
  features : CMap Nat := []
  /-- Power state, the one it returns to, an entry begun, and an exit begun (R427, R429). -/
  ps     : Nat := 0
  lastOp : Nat := 0
  entering : Option Nat := none
  exiting : Bool := false
  lastDoorbell : Nat := 0
  /-- Self-test running: 1 short, 2 extended; results, newest first, as code, outcome and segment (R431). -/
  selftest : Option Nat := none
  selfLog : List (Nat × Nat × Nat) := []
  keepAlive : Nat := 0
  deriving DecidableEq, Repr

/-! ## Security -/

/-- A credential slot (R557): role and chain; the leaf is the chain's first certificate. -/
structure Credential where
  role  : Nat
  chain : Bytes
  leaf  : Bytes
  notBefore : Nat
  notAfter : Nat
  expired : Bool
  deriving DecidableEq, Repr

/-- An audit record (Table 19-4). -/
structure AuditRec where
  seq    : Nat
  time   : Nat
  opcode : Nat
  status : Nat
  cred   : Nat
  role   : Nat
  route  : Nat
  source : Nat
  leaf   : Bytes
  packet : Bytes
  count  : Nat
  chain  : Bytes
  /-- CHAIN of the record before it. -/
  prev   : Bytes
  deriving DecidableEq, Repr

/-- Bytes 0–79 of an audit record. -/
def AuditRec.head (a : AuditRec) : Bytes :=
  leBytes 8 a.seq ++ leBytes 8 a.time ++ leBytes 2 a.opcode ++ leBytes 2 a.status ++ leBytes 1 a.cred
  ++ leBytes 1 a.role ++ leBytes 1 a.route ++ zeros 1 ++ leBytes 4 a.source
  ++ (a.leaf ++ zeros 24).take 24 ++ (a.packet ++ zeros 24).take 24 ++ leBytes 4 a.count

/-- The 128 bytes of an audit record. -/
def AuditRec.bytes (a : AuditRec) : Bytes := a.head ++ (a.chain ++ zeros 48).take 48

/-! ## Update, test and clocks -/

/-- A boot-failure record (R509). -/
structure BootRecord where
  seq    : Nat
  ticks  : Nat
  reason : Nat
  step   : Nat
  slot   : Nat
  count  : Nat
  version : Nat
  detail : Nat
  deriving DecidableEq, Repr

/-- Staging of one unit (R512): bytes staged, staged and verified. -/
structure Staging where
  data     : Bytes := []
  started  : Bool := false
  verified : Bool := false
  deriving DecidableEq, Repr

/-- An active-slot record copy (R502). -/
structure SlotRecord where
  seq   : Nat
  slot  : Nat
  trial : Bool
  valid : Bool
  deriving DecidableEq, Repr

/-- A clock monitor (Table 16-9): state 0 GOOD, 1 LOST, 2 QUALIFYING, 3 never seen. -/
structure ClockMon where
  state : Nat := 3
  inUse : Bool := false
  ppm   : Int := 0
  last  : Nat := 0
  deriving DecidableEq, Repr

/-- Held-frequency mode of a job (R482): the frequency in force in MHz, 0 for none, and an announcement
with the Estate time it takes effect. -/
structure HeldFreq where
  mhz  : Nat
  next : Option (Nat × Nat)
  deriving DecidableEq, Repr

/-- A power domain: on; a power-down begun; waking; work held (R463 to R465). -/
structure Domain where
  on      : Bool := false
  downing : Bool := false
  waking  : Bool := false
  lastUse : Nat := 0
  offSince : Nat := 0
  deriving DecidableEq, Repr

/-- A test slice that runs (R541, R546): an engine by tile, class and index; class 6 the spare lane of the fabric port
`idx`; class 7 a region of bank `idx` of die `tile`. -/
structure Slice where
  tile  : Nat
  cls   : Nat
  idx   : Nat
  /-- Under a TEST_RUN or a bypass clear. -/
  forRun : Bool
  deriving DecidableEq, Repr

/-- A TEST_RUN or a bypass clear in progress (R546, R548): its command, the slices still to run by slice key, and
those run and failed. -/
structure TestRun where
  cmd    : Waiter
  left   : CMap Nat
  run    : Nat
  failed : Nat
  deriving DecidableEq, Repr

/-- A frame in a tile's reference cache (R152, R155): its key, its bytes as coded and the chain that holds it. -/
structure RefFrame where
  key   : Nat
  size  : Nat
  chain : Nat
  deriving DecidableEq, Repr

/-- A tile (Table 04-8): state 0 OFFLINE, 1 SERVING, 2 DRAINING, 3 DRAINED, 4 ASLEEP. -/
structure Tile where
  state : Nat := 0
  share : Nat := 0
  bypVde : Nat := 0
  bypMisc : Nat := 0
  drainCmds : List Waiter := []
  /-- Reference cache, least recently used first (R152 to R154). -/
  refs  : List RefFrame := []
  cacheFull : Bool := false
  /-- Microcode versions by component type 4–8 (Table 17-7). -/
  ucode : CMap Nat := []
  deriving DecidableEq, Repr

end Sys2Proof.Machine
end

