-- ==== Sys2Proof/Machine/Rows.lean ====
section
/-! DEFINITION. Operands of rows that physical events and outside units bring: a stage's output, an
incoming RMA request, a fabric packet, an NVMe command, the outcome of a start step. -/

namespace Sys2Proof.Machine

/-- How a stage of a sample ends (R95). The content that published codec standards fix comes as the
output of the decode stage; every other stage's output is computed from what the sample holds. DESIGN CHOICE, log 10, 52. -/
inductive StageOut where
  /-- The stage ends; its output is computed. -/
  | computed
  /-- Decode ends: the selected frames, audio and captions that the standards' decoders give; `fmt` is the
  form of the audio, 0 for IEEE float codes and otherwise the width of integer PCM (R193); `lost` where audio
  or captions were lost (R149). -/
  | decoded (frames : List Decoded) (rate fmt : Nat) (audio : List (List Int)) (captions : List Caption)
      (lost : Bool)
  /-- The select program ends with its choice (R95): frames, audio window, text span, and whether the chosen audio
  or captions were lost. -/
  | selected (frames : List Nat) (audioFrom audioLen textFrom textLen : Nat) (lost : Bool)
  /-- A stage program trapped (R98). -/
  | trap
  /-- A bank of a die refused an access of the stage (R280, R281). -/
  | bankRefused (die bank : Nat)
  /-- The pool manager refused a cell reference of the stage (R298, R281). -/
  | refRefused (pool : Nat)
  /-- The container declares bytes beyond LENGTH (reason 1) or the sample needs more than WORK_b (reason 2) (R123). -/
  | mismatch (reason : Nat)
  /-- Container or stream unsupported (R134): `reason` by the order of that list, from 1. -/
  | unsupported (reason : Nat)
  /-- An uncorrectable SRAM read in sample data (R279). -/
  | uncorrectable (die bank row : Nat)
  deriving DecidableEq, Repr

/-- A remote request as its first packet arrives (R326), with its class and the data of a write. DESIGN CHOICE, log 114. -/
structure RmaIn where
  requester : Nat
  id      : Nat
  window  : Nat
  key     : Nat
  offset  : Nat
  length  : Nat
  isWrite : Bool
  cls     : Nat
  data    : Bytes
  deriving DecidableEq, Repr

/-- A fabric packet at a port (R344, R353): whether its flit failed its CRC, its ends, sequence number
and class, the flits it takes, the detour taken, and the ports of minimal routes onward with the
occupancy of their queues in per cent. DESIGN CHOICE, log 114. -/
structure FabricIn where
  crcBad  : Bool
  src     : Nat
  dst     : Nat
  seq     : Nat
  cls     : Nat
  vc      : Nat
  flits   : Nat
  hops    : Nat
  detoured : Bool
  minimal : List (Nat × Nat)
  others  : List (Nat × Nat)
  deriving DecidableEq, Repr

/-- What a start step finds (R497 to R505): verdicts on the signature and digest of each firmware slot,
failures of the hardware, and the media. -/
structure StartOut where
  sigA     : Bool := true
  sigB     : Bool := true
  security : Bool := true
  hbmFail  : Option Nat := none
  hubFail  : Option Nat := none
  /-- Reference clocks missing when the hub starts, by monitor (R593). -/
  missing  : Nat := 0
  tileFail : Nat := 0
  linkFail : Nat := 0
  ftlFail  : Option Nat := none
  /-- Dies found and matching the NAND profile; dies present that do not match (R380). -/
  dies     : List Nat := []
  mismatch : List Nat := []
  iface    : Nat := 1
  mts      : Nat := 3600
  userCap  : Nat := 0
  reserve  : Nat := 0
  recoveryMs : Nat := 0
  /-- Two-slot records of which a torn write left neither slot valid (R540): bit 0 boot-attempt count, 1 active-slot
  record, 2 audit head, 3 forwarding start number, 4 FTL root, 5 sanitize state. -/
  torn     : Nat := 0
  deriving DecidableEq, Repr

end Sys2Proof.Machine
end

