-- ==== Sys2Proof/Syntax.lean ====
section
/-! DEFINITION. The commands of the block: one constructor per row of the operation and event table,
with the operands its sender or its physical event brings. -/

namespace Sys2Proof

open Sys2Proof.Machine

/-- A command of the block. A row of a command packet takes the packet with what it brought; a row of
a timer takes the Estate time `now` in ns at which it fires; a row of a register access takes the
access path (0 PF1, 1 MCTP) and the word written. -/
inductive Instr where
  /-- `IDENTIFY` (R453). -/
  | identify (x : CmdIn)
  /-- `NETWORK_SET` (R461). -/
  | networkSet (x : CmdIn)
  /-- `PARTNER_SET` (R334). -/
  | partnerSet (x : CmdIn)
  /-- `LIVE_SERVICE_SET` (R163). -/
  | liveServiceSet (x : CmdIn)
  /-- `LIVE_SERVICE_REMOVE` (R167). -/
  | liveServiceRemove (x : CmdIn)
  /-- `RECIPE_LOAD` (R105). -/
  | recipeLoad (x : CmdIn)
  /-- `RECIPE_REPLACE` (R111). -/
  | recipeReplace (x : CmdIn)
  /-- `RECIPE_UNLOAD` (R112). -/
  | recipeUnload (x : CmdIn)
  /-- `IMAGE_LOAD` (R226). -/
  | imageLoad (x : CmdIn)
  /-- `IMAGE_UNLOAD` (R226). -/
  | imageUnload (x : CmdIn)
  /-- `JOB_START` (R455). -/
  | jobStart (x : CmdIn)
  /-- `JOB_END` (R456). -/
  | jobEnd (x : CmdIn)
  /-- `EPOCH_PLAN` (R84). -/
  | epochPlan (x : CmdIn)
  /-- `PARAM_TABLE` (R116). -/
  | paramTable (x : CmdIn)
  /-- `PARAM_RING` (R457). -/
  | paramRing (x : CmdIn)
  /-- `JOB_TAKEOVER` (R47). -/
  | jobTakeover (x : CmdIn)
  /-- `JOB_RESUME` (R122). -/
  | jobResume (x : CmdIn)
  /-- `JOB_LEAVE` (R60). -/
  | jobLeave (x : CmdIn)
  /-- `CURSOR_RESET` (R540). -/
  | cursorReset (x : CmdIn)
  /-- `JOB_QUERY` (R454). -/
  | jobQuery (x : CmdIn)
  /-- `PLAN_REISSUE` (R92). -/
  | planReissue (x : CmdIn)
  /-- `POOL_CONFIG` (R296). -/
  | poolConfig (x : CmdIn)
  /-- `POOL_THRESHOLD` (R302). -/
  | poolThreshold (x : CmdIn)
  /-- `POOL_AUDIT` (R305). -/
  | poolAudit (x : CmdIn)
  /-- `BANK_OWN` (R282). -/
  | bankOwn (x : CmdIn)
  /-- `BANK_STATE` (R285). -/
  | bankState (x : CmdIn)
  /-- `BANK_RETIRE` (R294). -/
  | bankRetire (x : CmdIn)
  /-- `COMPRESS` (R268). -/
  | compress (x : CmdIn)
  /-- `DECOMPRESS` (R268). -/
  | decompress (x : CmdIn)
  /-- `NS_CREATE` (R383). -/
  | nsCreate (x : CmdIn)
  /-- `NS_DELETE` (R453). -/
  | nsDelete (x : CmdIn)
  /-- `NS_SEAL` (R384). -/
  | nsSeal (x : CmdIn)
  /-- `REPLICA_SET` (R399). -/
  | replicaSet (x : CmdIn)
  /-- `DIE_RETIRE` (R403). -/
  | dieRetire (x : CmdIn)
  /-- `SANITIZE` (R433). -/
  | sanitize (x : CmdIn)
  /-- `BUDGET_SET` (R476). -/
  | budgetSet (x : CmdIn)
  /-- `FREQ_ANNOUNCE` (R482). -/
  | freqAnnounce (x : CmdIn)
  /-- `RESTART_AFTER_STOP` (R488). -/
  | restartAfterStop (x : CmdIn)
  /-- `SELFTEST` (R430). -/
  | selftest (x : CmdIn)
  /-- `TEST_RUN` (R546). -/
  | testRun (x : CmdIn)
  /-- `ENGINE_BYPASS` (R127). -/
  | engineBypass (x : CmdIn)
  /-- `TILE_DRAIN` (R125). -/
  | tileDrain (x : CmdIn)
  /-- `TILE_REJOIN` (R125). -/
  | tileRejoin (x : CmdIn)
  /-- `COLUMN_REPAIR` (R293). -/
  | columnRepair (x : CmdIn)
  /-- `PIT_CLEAR` (R510). -/
  | pitClear (x : CmdIn)
  /-- `CRED_SET` (R558). -/
  | credSet (x : CmdIn)
  /-- `CRED_CLEAR` (R565). -/
  | credClear (x : CmdIn)
  /-- `SIGNKEY_TRUST` (R566). -/
  | signkeyTrust (x : CmdIn)
  /-- `SIGNKEY_REVOKE` (R567). -/
  | signkeyRevoke (x : CmdIn)
  /-- `AUDIT_READ` (R575). -/
  | auditRead (x : CmdIn)
  /-- `DEBUG_UNLOCK` (R577). -/
  | debugUnlock (x : CmdIn)
  /-- `DECOMMISSION` (R578). -/
  | decommission (x : CmdIn)
  /-- `UPD_STAGE` (R512). -/
  | updStage (x : CmdIn)
  /-- `UPD_VERIFY` (R513). -/
  | updVerify (x : CmdIn)
  /-- `UPD_ACTIVATE` (R516). -/
  | updActivate (x : CmdIn)
  /-- `UCODE_APPLY` (R61). -/
  | ucodeApply (x : CmdIn)
  /-- `EVT_READ` (R533). -/
  | evtRead (x : CmdIn)
  /-- `EVT_SUBSCRIBE` (R535). -/
  | evtSubscribe (x : CmdIn)
  /-- `TELEMETRY_GET` (R461). -/
  | telemetryGet (x : CmdIn)
  /-- `DEST_BIND` (R312). -/
  | destBind (x : CmdIn)
  /-- `SLOT_CANCEL` (R323). -/
  | slotCancel (x : CmdIn)
  /-- `WINDOW_OPEN` (R325). -/
  | windowOpen (x : CmdIn)
  /-- `WINDOW_CLOSE` (R330). -/
  | windowClose (x : CmdIn)
  /-- `WINDOW_REKEY` (R330). -/
  | windowRekey (x : CmdIn)
  /-- `RMA_WRITE` (R326). -/
  | rmaWrite (x : CmdIn)
  /-- `RMA_READ` (R326). -/
  | rmaRead (x : CmdIn)
  /-- `PORT_SERVICE` (R352). -/
  | portService (x : CmdIn)
  /-- `CMD_SQ_TAIL_WRITE` (R445). -/
  | cmdSqTailWrite (path ring v : Nat)
  /-- `RING_ENTRY_FETCH` (R445). -/
  | ringEntryFetch (ring : Nat) (entry : Bytes)
  /-- `CMD_CQ_HEAD_WRITE` (R445). -/
  | cmdCqHeadWrite (path ring v : Nat)
  /-- `CMD_RING_CFG_WRITE` (R460). -/
  | cmdRingCfgWrite (path ring v : Nat)
  /-- `CMD_PRING_TAIL_WRITE` (R457). -/
  | cmdPringTailWrite (path j v : Nat)
  /-- `DEFERRED_COMMAND_ACCEPT` (R448). -/
  | deferredCommandAccept (idx : Nat)
  /-- `FORWARD_RECEIPT` (R441). -/
  | forwardReceipt (seq : Nat)
  /-- `FORWARDED_COMPLETION` (R441). -/
  | forwardedCompletion (seq : Nat) (r : Result)
  /-- `FAB_TIMEOUT` (R441). -/
  | fabTimeout (seq now : Nat)
  /-- `FAB_UNREACHABLE` (R441). -/
  | fabUnreachable (seq now : Nat)
  /-- `MCTP_REGISTER_READ` (R443). -/
  | mctpRegisterRead (eid kind off : Nat)
  /-- `MCTP_REGISTER_WRITE` (R443). -/
  | mctpRegisterWrite (eid off v : Nat) (sigOk : Bool)
  /-- `SPDM_REQUEST` (R570). -/
  | spdmRequest (eid code arg : Nat) (leaf : Bytes) (ok : Bool)
  /-- `PLDM_BUDGET` (R476). -/
  | pldmBudget (w : Nat)
  /-- `REGISTER_WRITE` (R10). -/
  | registerWrite (path addr v : Nat) (sigOk : Bool)
  /-- `INVALID_REGISTER_ACCESS` (R9). -/
  | invalidRegisterAccess (path addr size : Nat) (write : Bool)
  /-- `RC_COUNTER_READ` (R539). -/
  | rcCounterRead (path addr : Nat)
  /-- `COUNTER_PAIR_LO_READ` (R538). -/
  | counterPairLoRead (path addr : Nat)
  /-- `COUNTER_PAIR_HI_READ` (R538). -/
  | counterPairHiRead (path addr : Nat)
  /-- `SNAP_WRITE` (R539). -/
  | snapWrite (path addr v : Nat)
  /-- `BRM_EVAL_GO` (R94). -/
  | brmEvalGo (path v : Nat)
  /-- `BRM_EVAL_DONE` (R94). -/
  | brmEvalDone
  /-- `TSCH_DRAIN` (R125). -/
  | tschDrain (path tile v : Nat)
  /-- `TSCH_REJOIN` (R125). -/
  | tschRejoin (path tile v : Nat)
  /-- `TILE_DRAINED` (R125). -/
  | tileDrained (tile : Nat)
  /-- `BNK_LOCK` (R307). -/
  | bnkLock (path die v : Nat)
  /-- `BNK_OWN_WRITE` (R282). -/
  | bnkOwnWrite (path die bank v : Nat)
  /-- `BANK_HANDOVER_COMPLETE` (R282). -/
  | bankHandoverComplete (die bank : Nat)
  /-- `BNK_STATE_WRITE` (R285). -/
  | bnkStateWrite (path die bank v : Nat)
  /-- `BANK_TRANSITION_COMPLETE` (R285). -/
  | bankTransitionComplete (die bank : Nat)
  /-- `POOL_AUDIT_GO` (R304). -/
  | poolAuditGo (path v : Nat)
  /-- `LEAK_AUDIT_COMPLETE` (R306). -/
  | leakAuditComplete
  /-- `FAB_PORT_RETRAIN` (R352). -/
  | fabPortRetrain (path f v : Nat)
  /-- `FAB_PORT_RECAL` (R352). -/
  | fabPortRecal (path f v : Nat)
  /-- `FAB_LANE_RECAL` (R352). -/
  | fabLaneRecal (path f v : Nat)
  /-- `SHP_GCL_COMMIT` (R372). -/
  | shpGclCommit (path sp v : Nat)
  /-- `GCL_BASE_TIME_REACHED` (R372). -/
  | gclBaseTimeReached (sp now : Nat)
  /-- `SHAPER_REFILL` (R368). -/
  | shaperRefill (now : Nat)
  /-- `UPD_WINDOW_WRITE` (R522). -/
  | updWindowWrite (path off v : Nat)
  /-- `EVT_FATAL_CLEAR` (R532). -/
  | evtFatalClear (path v : Nat)
  /-- `SEC_BIND_START` (R562). -/
  | secBindStart (path v : Nat)
  /-- `SEC_BIND_GO` (R562). -/
  | secBindGo (path v : Nat) (sigOk : Bool)
  /-- `TST_CTRL_WRITE` (R554). -/
  | tstCtrlWrite (path v : Nat)
  /-- `PARAM_RECORD_RECEIVE` (R118). -/
  | paramRecordReceive (fromRing : Bool) (j : Nat) (rec : Bytes)
  /-- `PARAM_MISSING` (R120). -/
  | paramMissing (i now : Nat)
  /-- `COUNT_ENTRY_RECEIVE` (R85). -/
  | countEntryReceive (rank jobId epoch : Nat) (digest : Bytes) (counts : List Nat)
  /-- `STEP_ENTRY_RECEIVE` (R85). -/
  | stepEntryReceive (rank jobId epoch : Nat) (entries : List (Nat × Nat))
  /-- `PLAN_RECORD_RECEIVE` (R85). -/
  | planRecordReceive (jobId epoch : Nat) (rec : Bytes)
  /-- `END_MARKER_RECEIVE` (R84). -/
  | endMarkerReceive (rank jobId epoch count : Nat)
  /-- `PLAN_SCAN_COMPLETE` (R84). -/
  | planScanComplete (jobId epoch rank : Nat)
  /-- `ABORT_MESSAGE_RECEIVE` (R91). -/
  | abortMessageReceive (rank jobId epoch lost : Nat)
  /-- `SAMPLE_ADMIT` (R300). -/
  | sampleAdmit (jobId epoch idx tile : Nat)
  /-- `FETCH_READ_COMPLETE` (R38). -/
  | fetchReadComplete (i : Nat)
  /-- `REPLICA_FETCH_REQUEST` (R399). -/
  | replicaFetchRequest (dev nsid off len : Nat)
  /-- `REPLICA_FETCH_RESPONSE` (R399). -/
  | replicaFetchResponse (i dev : Nat) (data : Option Bytes)
  /-- `STAGE_COMPLETE` (R95). -/
  | stageComplete (i : Nat) (out : StageOut)
  /-- `REF_FRAME_DECODED` (R153). -/
  | refFrameDecoded (tile key size : Nat) (takers : List Nat) (ok : Bool)
  /-- `ROI_RESULT` (R190). -/
  | roiResult (i k : Nat)
  /-- `ENGINE_SELF_FAULT` (R544). -/
  | engineSelfFault (tile cls idx : Nat)
  /-- `MEMBER_VERDICT_RECEIVE` (R80). -/
  | memberVerdictReceive (jobId epoch step member : Nat) (keep : Bool) (sample : Nat)
  /-- `RESERVE_PLACEMENT_RECEIVE` (R80). -/
  | reservePlacementReceive (jobId epoch step member slot : Nat)
  /-- `SLOT_WRITE_READY` (R318). -/
  | slotWriteReady (jobId index slot dest : Nat)
  /-- `RDMA_WRITE_ACK` (R318). -/
  | rdmaWriteAck (jobId index slot dest : Nat)
  /-- `CONSUMED_WORD_RESPONSE` (R314). -/
  | consumedWordResponse (jobId rank dest value : Nat)
  /-- `ROCE_ACK_TIMEOUT` (R322). -/
  | roceAckTimeout (qp : Nat)
  /-- `CNP_RECEIVE` (R366). -/
  | cnpReceive (qp port now : Nat)
  /-- `CE_PACKET_RECEIVE` (R366). -/
  | cePacketReceive (qp port now : Nat)
  /-- `ROCE_RATE_RECOVERY` (R366). -/
  | roceRateRecovery (qp now : Nat)
  /-- `CURSOR_MIRROR_TIMER` (R333). -/
  | cursorMirrorTimer (now : Nat)
  /-- `MIRROR_WRITE_FAIL` (R336). -/
  | mirrorWriteFail (jobId : Nat)
  /-- `MIRROR_SETUP_RECEIVE` (R334). -/
  | mirrorSetupReceive (dev jobId : Nat)
  /-- `MIRROR_SETUP_REPLY` (R334). -/
  | mirrorSetupReply (jobId : Nat) (ok : Bool) (window key : Nat)
  /-- `MIRROR_SETUP_RETRY` (R334). -/
  | mirrorSetupRetry (now : Nat)
  /-- `MIRROR_RELEASE_RECEIVE` (R334). -/
  | mirrorReleaseReceive (dev jobId : Nat)
  /-- `RMA_REQUEST_RECEIVE` (R326). -/
  | rmaRequestReceive (q : RmaIn)
  /-- `RMA_RESPONSE_RECEIVE` (R326). -/
  | rmaResponseReceive (id status : Nat) (data : Bytes)
  /-- `RMA_VIOLATION_REMOTE` (R327). -/
  | rmaViolationRemote (dev window off len status : Nat)
  /-- `RMA_TIMEOUT` (R331). -/
  | rmaTimeout (id now : Nat)
  /-- `WINDOW_CLOSE_COMPLETE` (R330). -/
  | windowCloseComplete (window : Nat)
  /-- `FABRIC_PACKET_RECEIVE` (R353). -/
  | fabricPacketReceive (f : Nat) (p : FabricIn)
  /-- `FLOW_CREDIT_RECEIVE` (R345). -/
  | flowCreditReceive (f vc : Nat)
  /-- `PORT_TRAINING_COMPLETE` (R346). -/
  | portTrainingComplete (f lanes peer peerPort ver affected now : Nat) (found : List Nat)
  /-- `LINK_DOWN` (R349). -/
  | linkDown (f affected now : Nat) (lost : List Nat)
  /-- `LANE_FAIL` (R350). -/
  | laneFail (f lane affected now : Nat) (lost : List Nat)
  /-- `PEER_LOST` (R332). -/
  | peerLost (dev affected now : Nat) (lost : List Nat)
  /-- `DEVICE_UNREACHABLE` (R332). -/
  | deviceUnreachable (dev now : Nat)
  /-- `PORT_IDLE_TIMER` (R359). -/
  | portIdleTimer (f load now : Nat)
  /-- `QUIET_ENTRY_COMMIT` (R361). -/
  | quietEntryCommit (f : Nat) (packet : Option Nat)
  /-- `QUIET_EXIT_COMPLETE` (R361). -/
  | quietExitComplete (f : Nat)
  /-- `QUIET_KEEPALIVE` (R360). -/
  | quietKeepalive (now : Nat)
  /-- `LINK_DELAY_EXCHANGE` (R362). -/
  | linkDelayExchange (f now hops : Nat) (corr : Int) (source : Bool)
  /-- `PTP_MESSAGE_RECEIVE` (R362). -/
  | ptpMessageReceive (q : Nat) (offset : Int)
  /-- `TIME_HOLDOVER` (R363). -/
  | timeHoldover
  /-- `PFC_FRAME_RECEIVE` (R365). -/
  | pfcFrameReceive (q prio : Nat) (pause : Bool)
  /-- `LIVE_DATAGRAM_RECEIVE` (R164). -/
  | liveDatagramReceive (service : Nat) (data : Bytes) (raps : List (Nat × Nat))
  /-- `NAND_OP_COMPLETE` (R388). -/
  | nandOpComplete (die : Nat) (ok : Bool) (block soft : Nat) (bad : List (Nat × Nat × Bool))
  /-- `DIE_UNRESPONSIVE` (R403). -/
  | dieUnresponsive (die : Nat) (bad : List (Nat × Nat × Bool))
  /-- `JOURNAL_FLUSH_TIMER` (R394). -/
  | journalFlushTimer (now : Nat)
  /-- `CHECKPOINT_TIMER` (R395). -/
  | checkpointTimer (now : Nat)
  /-- `PATROL_READ_TIMER` (R398). -/
  | patrolReadTimer (die read soft : Nat) (bad : List (Nat × Nat × Bool))
  /-- `FOLD_COMPLETE` (R391). -/
  | foldComplete (fill reserve : Nat) (ok : Bool)
  /-- `HOLDUP_SAMPLE` (R598). -/
  | holdupSample (v : Nat)
  /-- `HOLDUP_EVALUATION` (R405). -/
  | holdupEvaluation (now : Nat)
  /-- `NVME_DOORBELL_WRITE` (R419). -/
  | nvmeDoorbellWrite (isCq : Bool) (q v now : Nat)
  /-- `NVME_WRITE` (R423). -/
  | nvmeWrite (c : NvmeIn)
  /-- `WRITE_PIECE_ADMIT` (R406). -/
  | writePieceAdmit
  /-- `NVME_READ` (R420). -/
  | nvmeRead (c : NvmeIn)
  /-- `NVME_FLUSH` (R426). -/
  | nvmeFlush (c : NvmeIn)
  /-- `NVME_WRITE_ZEROES` (R415). -/
  | nvmeWriteZeroes (c : NvmeIn)
  /-- `NVME_DATASET_MANAGEMENT` (R415). -/
  | nvmeDatasetManagement (c : NvmeIn)
  /-- `NVME_VERIFY` (R415). -/
  | nvmeVerify (c : NvmeIn)
  /-- `NVME_ABORT` (R422). -/
  | nvmeAbort (c : NvmeIn)
  /-- `NVME_FORMAT_NVM` (R417). -/
  | nvmeFormatNvm (c : NvmeIn)
  /-- `NVME_SANITIZE` (R432). -/
  | nvmeSanitize (c : NvmeIn)
  /-- `NVME_DEVICE_SELF_TEST` (R430). -/
  | nvmeDeviceSelfTest (c : NvmeIn)
  /-- `NVME_IDENTIFY` (R414). -/
  | nvmeIdentify (c : NvmeIn)
  /-- `NVME_GET_LOG_PAGE` (R415). -/
  | nvmeGetLogPage (c : NvmeIn)
  /-- `NVME_SET_FEATURES` (R419). -/
  | nvmeSetFeatures (c : NvmeIn)
  /-- `NVME_GET_FEATURES` (R415). -/
  | nvmeGetFeatures (c : NvmeIn)
  /-- `NVME_ASYNC_EVENT_REQUEST` (R435). -/
  | nvmeAsyncEventRequest (c : NvmeIn)
  /-- `NVME_KEEP_ALIVE` (R415). -/
  | nvmeKeepAlive (c : NvmeIn)
  /-- `NVME_CREATE_QUEUE` (R414). -/
  | nvmeCreateQueue (c : NvmeIn)
  /-- `NVME_DELETE_QUEUE` (R415). -/
  | nvmeDeleteQueue (c : NvmeIn)
  /-- `NVME_UNSUPPORTED_OPCODE` (R415). -/
  | nvmeUnsupportedOpcode (c : NvmeIn)
  /-- `NVME_CC_WRITE` (R418). -/
  | nvmeCcWrite (v : Nat)
  /-- `NVME_SHUTDOWN_COMPLETE` (R418). -/
  | nvmeShutdownComplete
  /-- `NVME_POWER_STATE_COMMIT` (R429). -/
  | nvmePowerStateCommit (now : Nat)
  /-- `NVME_POWER_STATE_EXIT` (R429). -/
  | nvmePowerStateExit
  /-- `SELFTEST_COMPLETE` (R431). -/
  | selftestComplete (bad : List (Nat × Nat × Bool)) (seg : Nat)
  /-- `SANITIZE_COMPLETE` (R433). -/
  | sanitizeComplete
  /-- `PF0_FLR` (R412). -/
  | pf0Flr
  /-- `PF1_FLR` (R447). -/
  | pf1Flr
  /-- `PERST_ASSERT` (R494). -/
  | perstAssert
  /-- `PCIE_LINK_DOWN` (R413). -/
  | pcieLinkDown
  /-- `PCIE_LINK_UP` (R413). -/
  | pcieLinkUp
  /-- `CURRANT_TOKEN_REFRESH` (R473). -/
  | currantTokenRefresh (now : Nat)
  /-- `TOKEN_GRANT` (R474). -/
  | tokenGrant
  /-- `CLOCK_STEP_EVALUATION` (R468). -/
  | clockStepEvaluation (now avg avg10 outside : Nat)
  /-- `THERMAL_LIMIT_UPDATE` (R477). -/
  | thermalLimitUpdate (now : Nat) (readings : List (Option Int))
  /-- `PEAK_CLAMP` (R478). -/
  | peakClamp (us : Nat)
  /-- `BOOST_END` (R479). -/
  | boostEnd (i : Nat) (temp : Int)
  /-- `BOOST_COOLDOWN_STEP` (R479). -/
  | boostCooldownStep (now : Nat)
  /-- `BOOST_REARM` (R479). -/
  | boostRearm (now : Nat)
  /-- `THERMTRIP` (R481). -/
  | thermtrip (i : Nat) (temp : Int)
  /-- `PROCHOT_CHANGE` (R476). -/
  | prochotChange (low : Bool)
  /-- `HELD_FREQ_TIME_REACHED` (R482). -/
  | heldFreqTimeReached (jobId now : Nat)
  /-- `HELD_MODE_LEFT` (R485). -/
  | heldModeLeft (now : Nat)
  /-- `COOLANT_STOP` (R486). -/
  | coolantStop
  /-- `COOLANT_FLOW_RETURN` (R488). -/
  | coolantFlowReturn
  /-- `COOLANT_FLUSH_END` (R487). -/
  | coolantFlushEnd (done : Bool)
  /-- `DOMAIN_IDLE_TIMER` (R463). -/
  | domainIdleTimer (d now : Nat)
  /-- `DOMAIN_POWER_DOWN_COMMIT` (R465). -/
  | domainPowerDownCommit (d : Nat) (work : Bool) (now : Nat)
  /-- `DOMAIN_WAKE_COMPLETE` (R464). -/
  | domainWakeComplete (d : Nat)
  /-- `CLK_LOSS` (R470). -/
  | clkLoss (m now : Nat)
  /-- `CLK_RESTORED` (R471). -/
  | clkRestored (m : Nat) (ppm : Int)
  /-- `CLK_HOLDOVER_EXPIRY` (R470). -/
  | clkHoldoverExpiry (now : Nat)
  /-- `PWR_FAIL_ASSERT` (R549). -/
  | pwrFailAssert
  /-- `HOLDUP_FLUSH_COMPLETE` (R550). -/
  | holdupFlushComplete (powerBack : Bool)
  /-- `MAIN_RAIL_LOSS` (R590). -/
  | mainRailLoss
  /-- `MAIN_RAILS_VALID` (R590). -/
  | mainRailsValid
  /-- `STANDBY_RAILS_APPLY` (R462). -/
  | standbyRailsApply (strap : Nat)
  /-- `WARM_RESET` (R494). -/
  | warmReset (cause : Nat)
  /-- `START_STEP_COMPLETE` (R497). -/
  | startStepComplete (k now : Nat) (out : StartOut)
  /-- `BOOT_WATCHDOG_EXPIRY` (R508). -/
  | bootWatchdogExpiry (now : Nat)
  /-- `LIVE_ACTIVATION_READY` (R516). -/
  | liveActivationReady (now : Nat)
  /-- `RECOVERY_COMPLETE` (R52). -/
  | recoveryComplete (jobId : Nat)
  /-- `EVENT_IRQ_HOLDOFF_EXPIRY` (R536). -/
  | eventIrqHoldoffExpiry (now : Nat)
  /-- `TEST_SLICE_START` (R542). -/
  | testSliceStart (tile cls idx now : Nat)
  /-- `TEST_SLICE_COMPLETE` (R544). -/
  | testSliceComplete (tile cls idx : Nat) (ok : Bool) (sub col : Nat) (ue : Option Nat) (now : Nat)
  /-- `TEST_DOMAIN_WAKE_TIMER` (R542). -/
  | testDomainWakeTimer (d now : Nat)
  /-- `COMPRESSION_JOB_COMPLETE` (R270). -/
  | compressionJobComplete (i : Nat)
  /-- `CREDENTIAL_EXPIRY` (R560). -/
  | credentialExpiry (slot now : Nat)
  /-- `FIRST_TIME_LOCK` (R560). -/
  | firstTimeLock (now : Nat)
  /-- `PERST_DEASSERT` (R497). -/
  | perstDeassert (now : Nat)
  /-- `STANDBY_RAILS_REMOVE` (R591). -/
  | standbyRailsRemove
  /-- `HUB_UNIT_FAULT` (R31). -/
  | hubUnitFault (unit : Nat)
  /-- `GATE_INTERVAL_END` (R371). -/
  | gateIntervalEnd (sp now : Nat)
  /-- `CONSUMED_WORD_READ` (R314). -/
  | consumedWordRead (jobId rank dest now : Nat)
  /-- `ETH_PORT_LINK_CHANGE` (R375). -/
  | ethPortLinkChange (q st : Nat)
  /-- `LIVE_STREAM_STOP` (R167). -/
  | liveStreamStop (service : Nat)
  /-- `PMBUS_READ` (R586). -/
  | pmbusRead (rail mv ma temp : Nat)
  /-- `CURRENT_SENSOR_SAMPLE` (R473). -/
  | currentSensorSample (w : Nat)
  /-- `CONFIGURATION_REQUEST` (R497). -/
  | configurationRequest (pf off : Nat)
  deriving DecidableEq, Repr

end Sys2Proof
end

