-- ==== Sys2Proof/Machine/Blocks.lean ====
section
/-! DEFINITION. State of the blocks on the hub that start, direct and watch the device: SYS and UPD
(R494 to R523), the settings image (R504 to R507), CMD (R436 to R460), EVT (R524 to R536),
SEC (R555 to R581), BRM (R93, R94), SLOE (R462). -/

namespace Sys2Proof.Machine

/-- SYS block and the start sequence (R494 to R499, R523). DESIGN CHOICE, log 9. -/
structure SysBlock where
  vendor   : Nat := 0
  part     : Nat := 1
  stepping : Nat := 0xB0
  serial   : Nat := 0
  macBase  : Nat := 0
  strap    : Nat := 0
  /-- Running firmware image: DL, fabric version N, VERSION, SECURITY_VERSION (R58). -/
  dl       : Nat := 0
  fabricN  : Nat := 0
  version  : Nat := 0
  imageSec : Nat := 0
  cause    : Nat := 0
  perst    : Bool := false
  mgmt     : Bool := false
  warms    : Nat := 0
  /-- Estate time of the last warm or cold reset. -/
  resetAt  : Nat := 0
  /-- Steps of Table 17-2 completed, as a bit per step. -/
  steps    : Nat := 0
  ready    : Bool := false
  pit      : Bool := false
  /-- Pit mode follows at step 5 of this start (R508, R578). -/
  pitDue   : Bool := false
  /-- The device number in force (R340), of the settings image at the last start. -/
  number   : Nat := 0
  /-- Main rails valid and standby rails present (R590, R591). -/
  rails    : Bool := true
  standby  : Bool := true
  /-- Tiles and link dies that failed their start test, by bit (R498). -/
  tileFail : Nat := 0
  linkFail : Nat := 0
  /-- PERST_N asserted, and deasserted at least once since cold reset (R494). -/
  perstLow : Bool := true
  perstSeen : Bool := false
  /-- Step 12 reached once since the reset: milliseconds from reset (UPD_BOOT_MS). -/
  bootMs   : Nat := 0
  readyOnce : Bool := false
  /-- Nanoseconds since the reset during which COOLANT_FLOW_N held the start (R499). -/
  suspended : Nat := 0
  deriving DecidableEq, Repr

/-- A settings copy in the xSPI memory (R504, R505): the fields as bytes at their image offsets. -/
structure SetCopy where
  valid : Bool := false
  seq   : Nat := 0
  body  : CMap Byte := []
  deriving DecidableEq, Repr

/-- A firmware slot (R503): its image and whether the checks of R503 passed when last made. -/
structure FwSlot where
  data  : Bytes := []
  valid : Bool := false
  deriving DecidableEq, Repr

/-- UPD block and the xSPI memory behind it (R500 to R518). -/
structure UpdBlock where
  slotA    : FwSlot := {}
  slotB    : FwSlot := {}
  records  : List SlotRecord := [{ seq := 0, slot := 0, trial := false, valid := false },
                                 { seq := 0, slot := 0, trial := false, valid := false }]
  setA     : SetCopy := {}
  setB     : SetCopy := {}
  /-- SEQ of the settings image in force. -/
  setSeq   : Nat := 0
  /-- Slot the device runs from, and whether it is on trial. -/
  slot     : Nat := 0
  trial    : Bool := false
  /-- Slot that failed R503 at this start, whose record SLOT_FALLBACK names. -/
  fallback : Option Nat := none
  fw       : Staging := {}
  set      : Staging := {}
  staged   : Nat := 0
  window   : CMap Byte := []
  restart  : Bool := false
  /-- New Sloe island microcode waits for the next application of VDD_SLOE (Table 17-7). -/
  sloePending : Bool := false
  /-- A live activation in progress: its command (R516). -/
  activating : Option Waiter := none
  /-- Estate time at which the live activation wrote the active-slot record. -/
  activateAt : Nat := 0
  boots    : List BootRecord := []
  bootSeq  : Nat := 0
  deriving DecidableEq, Repr

/-- SLOE block (R462, R508, R532): the boot-attempt count and the fatal latches; SLOE_TICKS. -/
structure SloeBlock where
  /-- The count and last reason of the newest valid copy; none when neither copy is valid (R540). -/
  count    : Option (Nat × Nat) := some (0, 0)
  countSeq : Nat := 0
  /-- COUNT and REASON of the record's other slot, none before a second write. -/
  countOld : Option (Nat × Nat) := none
  latches  : List (Option Event) := List.replicate 6 none
  /-- Sloe clock periods up to the Estate time `ticksAt`, the last change of its clock. -/
  ticks    : Nat := 0
  ticksAt  : Nat := 0
  /-- SLOE_XTAL in use; the 1 MHz RC oscillator in use. -/
  xtal     : Bool := false
  onRc     : Bool := false
  /-- Thermal trip latched, coolant-stop state, incomplete flush, and the cause bits of SLOE_CAUSE. -/
  cause    : Nat := 0
  deriving DecidableEq, Repr

/-- CMD block (R436 to R460). -/
structure CmdBlock where
  rings    : List Ring := List.replicate 64 {}
  timeout  : Nat := 10
  /-- Packets fetched from rings and not yet run. -/
  fetched  : List Waiter := []
  /-- Arrival number of the next command. -/
  nextSeq  : Nat := 0
  arrivals : List Arrival := []
  waiting  : List Deferred := []
  /-- Retries that complete with their original: arrival number of the original, and the retry. -/
  followers : List (Nat × Waiter) := []
  records  : List CmdRecord := []
  forwarded : List Forwarded := []
  deriving DecidableEq, Repr

/-- EVT block and the event ring (R524 to R536, R552). -/
structure EvtBlock where
  /-- Unconsumed records, in the order written. -/
  ring     : List Event := []
  /-- The early ring is in use (R534). -/
  early    : Bool := true
  seq      : Nat := 0
  drops    : List Drops := List.replicate 16 {}
  subs     : List Subscriber := List.replicate 8 {}
  irqEn    : Bool := false
  irqSev   : Nat := 2
  lastIrq  : Option Nat := none
  withheld : Bool := false
  win      : Bytes := []
  deriving DecidableEq, Repr

/-- SEC block and the enclave (R555 to R581). -/
structure SecBlock where
  creds    : CMap Credential := []
  /-- Bindings of a ring to a slot, as (ring, slot); leaf digest of each endpoint's SPDM session (R561), and
  endpoints whose key exchange is not finished (R570). -/
  bindings : List (Nat × Nat) := []
  exchanges : List Nat := []
  sessions : CMap Bytes := []
  slotSel  : Nat := 1
  bindSlot : Nat := 0
  bindRing : Nat := 0
  bindOk   : Bool := false
  /-- The nonce as 12 words in order, and the Estate time it was placed. -/
  nonce    : List Nat := List.replicate 12 0
  nonceAt  : Option Nat := none
  sig      : List Nat := List.replicate 24 0
  signkeys : CMap Bytes := []
  secver   : Nat := 0
  debug    : Bool := false
  decommissioned : Bool := false
  /-- Validity periods are checked: a time source was reached since the reset (R560). -/
  timeChecked : Bool := false
  uncheckedRaised : Bool := false
  /-- The start number of R564, none while neither slot of its record is valid. -/
  startNumber : Option Nat := some 0
  fwdCount : Nat := 0
  fwdLast  : CMap Nat := []
  /-- Audit head: SEQ of the newest record and its CHAIN; records, newest first (R573, R574). -/
  auditSeq : Nat := 0
  auditChain : Bytes := zeros 48
  audit    : List AuditRec := []
  auditWin : Bytes := []
  deriving DecidableEq, Repr

/-- An evaluation running (R94): direction, N, IN and the six keys, latched at GO. -/
structure EvalJob where
  inverse : Bool
  n       : Nat
  input   : Nat
  keys    : List Nat
  deriving DecidableEq, Repr

/-- Evaluation registers of BRM (Tables 03-5 to 03-9). -/
structure BrmBlock where
  inverse : Bool := false
  keySrc  : Bool := false
  n       : Nat := 0
  input   : Nat := 0
  epoch   : Nat := 0
  seed    : Nat := 0
  keys    : List Nat := List.replicate 6 0
  running : Option EvalJob := none
  out     : Nat := 0
  walks   : Nat := 0
  done    : Bool := false
  err     : Bool := false
  deriving DecidableEq, Repr

end Sys2Proof.Machine
end

