-- ==== Sys2Proof/Machine/UnitBlocks.lean ====
section
/-! DEFINITION. State of the memories, links, media and power units: banks and pools (R277 to R310),
delivery and remote access (R311 to R339), fabric, Ethernet, shaping and time (R340 to R378), media
(R379 to R409), power and clocks (R462 to R493), test (R541 to R554). -/

namespace Sys2Proof.Machine

/-- BNK and POOL blocks (R277 to R310). -/
structure MemBlock where
  pools    : CMap Pool := []
  /-- Chains by the cell reference of their head (R298). -/
  chains   : CMap Chain := []
  /-- Banks by die × 512 + bank; an unlisted bank is as at reset. -/
  banks    : CMap Bank := []
  /-- LOCK and BNK_TEST.EN, a bit per die. -/
  locks    : Nat := 0
  testEn   : Nat := 0
  /-- Bank SRAM, by die × 2^27 + die address (R277); an unlisted byte reads 0. -/
  sram     : CMap Byte := []
  /-- Words whose check bits are poisoned, as (die × 512 + bank, row) (R291). -/
  poisoned : List (Nat × Nat) := []
  audits   : List Audit := []
  auditOwners : Nat := 0
  auditCells : Nat := 0
  auditOldest : Nat := 0
  deriving DecidableEq, Repr

/-- RMA block: windows, requests, queue pairs and mirroring (R311 to R339). -/
structure RmaBlock where
  timeoutUs : Nat := 0x2710
  roce     : Nat := 0x2FEA
  winSel   : Nat := 0
  windows  : CMap Window := []
  nextReq  : Nat := 0
  requests : CMap RmaRequest := []
  qps      : CMap QueuePair := []
  /-- Partner assigned (R334). -/
  partner  : Option Nat := none
  /-- Mirror windows held for (job ID, device), by job ID × 8192 + device. -/
  mirrors  : CMap MirrorWindow := []
  /-- Estate time of the last mirror interval (R333). -/
  mirroredAt : Nat := 0
  deriving DecidableEq, Repr

/-- Routing and quiet settings of one link die (Table 12-6). -/
structure FabDie where
  detourThr : Nat := 0x4B
  detourEn : Bool := true
  lowEn    : Bool := true
  quietEn  : Bool := true
  idleUs   : Nat := 0x64
  deriving DecidableEq, Repr

/-- Token buckets and classes of shaped port `s` at reset (Tables 12-4 and 12-11). -/
def Shaper.initial (s : Nat) : Shaper :=
  if s < 16 then
    { classes := ([7, 6, 5, 5, 3, 4] ++ List.replicate 10 2).map (fun p => { prio := p, fPrio := p }) }
  else { overhead := 20, fOverhead := 20 }

/-- FAB, ETH and SHP blocks and Estate time (R340 to R378). -/
structure NetBlock where
  dies     : List FabDie := [{}, {}]
  ports    : List FabPort := List.replicate 16 {}
  /-- Devices to which no route exists, with the Estate time since which, and whether reported. -/
  lost     : CMap (Nat × Bool) := []
  /-- Packets received by (source device, sequence number), for R349. -/
  seen     : List (Nat × Nat) := []
  ethPrio  : Nat := 0x063
  eth      : List EthPort := List.replicate 8 {}
  ptp      : Nat := 2
  ptpLocked : Bool := false
  ptpOffset : Int := 0
  services : CMap Service := []
  shapers  : List Shaper := tabulate 24 Shaper.initial
  /-- FAB_TIME: lock and hops; holdover of R363. -/
  locked   : Bool := false
  hops     : Nat := 15
  holdover : Bool := false
  /-- Estate time of the last shaper refill. -/
  refilled : Nat := 0
  deriving DecidableEq, Repr

/-- MED block and the flash translation layer (R379 to R409, R549 to R551). DESIGN CHOICE, log 9. -/
structure MedBlock where
  /-- STATE of MED_STATUS: 0 OFF, 1 RECOVERING, 2 READY, 3 FLUSHING, 4 SEALED. -/
  state    : Nat := 0
  spaces   : CMap Namespace := []
  dies     : CMap Die := []
  /-- IFACE and MTS of the channels. -/
  iface    : Nat := 0
  mts      : Nat := 0
  userCap  : Nat := 0
  recoveryMs : Nat := 0
  wearMean : Nat := 0
  wearMax  : Nat := 0
  slcFill  : Nat := 0
  folding  : Nat := 0
  reserve  : Nat := 0
  capLow   : Bool := false
  /-- Sequence number of the newest journal entry and of the newest flushed one (R394). -/
  journal  : Nat := 0
  flushed  : Nat := 0
  /-- Map segments changed since their checkpoint, with the Estate time of the first change (R395). -/
  segments : CMap Nat := []
  rootValid : Bool := true
  /-- The last stop was a completed seal (R397). -/
  sealed   : Bool := false
  dirty    : List DirtyPiece := []
  /-- Number of the next piece. -/
  nextPiece : Nat := 0
  /-- Die of the last unit placed (R387). -/
  lastDie  : Nat := 0
  /-- Dirty limit in bytes; the last measurement, V in 10 mV and E in 0.1 J (R405). -/
  limit    : Nat := 0
  writeThrough : Bool := false
  v        : Nat := 0
  e        : Nat := 0
  /-- The last 10 samples of HOLDUP_SENSE, newest first, in µV at the land (R598). -/
  senses   : List Nat := []
  /-- A holdup or coolant flush: 0 none, 1 running on PWR_FAIL_N, 2 running on a coolant stop. -/
  flush    : Nat := 0
  /-- Sanitize in progress: 1 Crypto Erase, 2 Block Erase (R433). -/
  sanitize : Option Nat := none
  /-- Key value of the next namespace key. -/
  nextKey  : Nat := 1
  deriving DecidableEq, Repr

/-- CUR and CLK blocks, power domains and stops (R462 to R493). -/
structure PwrBlock where
  /-- Last rack budget received, W; a value that takes effect at the next evaluation. -/
  budget   : Option Nat := none
  nextBudget : Option Nat := none
  therm    : Nat := 1200
  prochot  : Bool := false
  boost    : Bool := false
  cooling  : Bool := false
  lastCool : Nat := 0
  /-- Estate time since which every sensor is below 90 °C. -/
  below90  : Option Nat := none
  /-- Time above L in the last second, µs, and the clamp of R478. -/
  peakUs   : Nat := 0
  clamped  : Bool := false
  /-- Average power over 1 ms and 10 ms, the part outside domains 0–23, and B_m, in W. -/
  avg      : Nat := 0
  avg10    : Nat := 0
  outside  : Nat := 0
  fixed    : Nat := 0
  /-- Tokens that may be granted, tokens granted by (tile, class, index), requests in arrival order (R474). -/
  grantable : Nat := 0
  granted  : CMap Nat := []
  queue    : List (Nat × Nat) := []
  step     : Nat := 0
  lastUp   : Nat := 0
  held     : CMap HeldFreq := []
  duty     : Bool := false
  /-- Step-down request: job, MHz asked and Estate time (R485). -/
  request  : Option (Nat × Nat × Nat) := none
  /-- Sensor readings in °C, none where invalid (R477). -/
  sensors  : List (Option Int) := List.replicate 96 none
  domains  : List Domain := List.replicate 36 {}
  monitors : List ClockMon := List.replicate 7 {}
  /-- Estate time of the loss of REFCLK_SYS, while it is lost. -/
  holdover : Option Nat := none
  /-- Link dies that use SERDES_REFCLK_B, by bit. -/
  onB      : Nat := 0
  flowLow  : Bool := false
  /-- Estate time since which flow is low. -/
  flowAt   : Nat := 0
  stopped  : Bool := false
  pwrFail  : Bool := false
  tripped  : Bool := false
  /-- The hub halted at the end of a coolant-flow stop (Table 16-5). -/
  halted   : Bool := false
  /-- Regulator readings over PMBus by rail: voltage, current, temperature (R586). -/
  pmbus    : CMap (Nat × Nat × Nat) := []
  deriving DecidableEq, Repr

/-- TST block and tests running (R541 to R554). -/
structure TstBlock where
  en       : Nat := 0xFF
  slices   : List Slice := []
  /-- Engines whose last slice failed. -/
  failedOnce : List Nat := []
  runs     : List TestRun := []
  /-- Slices done in this cycle by slice key (R543). -/
  done     : CMap Nat := []
  /-- Estate time since which an engine is idle, by engine identifier. -/
  idleSince : CMap Nat := []
  /-- Estate time at which the cycle began, and the duration of the last one in s. -/
  cycleAt  : Nat := 0
  cycleS   : Nat := 0
  /-- Domains woken once for a slice after 4 h off, with the time of that wake. -/
  woken    : CMap Nat := []
  deriving DecidableEq, Repr

/-- CXE queues and compression jobs (R268 to R276). -/
structure CxeBlock where
  queued   : List CompJob := []
  running  : List CompJob := []
  deriving DecidableEq, Repr

end Sys2Proof.Machine
end

