-- ==== Sys2Proof/Machine/State.lean ====
section
/-! DEFINITION. The state of the block: everything the manual gives the device, the queue of commands
that wait, and three fields of the model's own (what was sent, the number of draws of fresh bits, the
frozen and shadow copies of registers). -/

namespace Sys2Proof.Machine

/-- Reasons to stop with a fault. -/
inductive Fault where
  /-- Nobody raises it: every row of the table has a next state. The interface asks for a type of fault
  reasons. Safe. -/
  | never
  deriving DecidableEq, Repr

/-- Reasons to refuse a command. -/
inductive Refusal where
  /-- An arm of Dispatch.lean without a meaning, by its mnemonic. Safe. -/
  | notModelled (mnemonic : String)
  deriving DecidableEq, Repr

/-- The settings image as the defaults of Table 17-5 give it, as bytes at image offsets; the default
thresholds of R301 for every pool. -/
def defaultSettings : CMap Byte :=
  (List.range 64).foldl (fun m j => writeMem m (0x200 + 16 * j + 8) (leBytes 2 250 ++ leBytes 2 125 ++ leBytes 2 30))
    (writeMem (writeMem (writeMem [] 0x042 [1, 15, 1]) 0x046 (leBytes 2 1 ++ [60] ++ List.replicate 7 100))
      0x050 (leBytes 2 50 ++ [3]))

/-- The state of the block. -/
structure State where
  /-- Commands that wait, first in, first out. -/
  pending  : List Instr
  /-- What the block sent, newest last: the model's own record. -/
  emitted  : List Output
  /-- Draws of fresh bits made: the model's own index into Config.random. -/
  fresh    : Nat
  /-- Estate time, ns (R7, R362). -/
  now      : Nat
  sys      : SysBlock
  upd      : UpdBlock
  /-- Settings image in force, and as it stood at the last start for the fields that take effect at a
  restart (Table 17-5). -/
  set      : CMap Byte
  run      : CMap Byte
  sloe     : SloeBlock
  cmd      : CmdBlock
  evt      : EvtBlock
  sec      : SecBlock
  brm      : BrmBlock
  /-- Jobs by job slot (R109). -/
  jobs     : CMap Job
  /-- Recipes by recipe slot (R104); model, vocabulary and grammar images by index (R226, R241). -/
  recipes  : CMap HeldRecipe
  models   : CMap HeldImage
  vocabs   : CMap HeldImage
  grammars : CMap HeldImage
  loads    : List ParamLoad
  tiles    : List Tile
  samples  : List Sample
  mem      : MemBlock
  cxe      : CxeBlock
  rma      : RmaBlock
  net      : NetBlock
  med      : MedBlock
  nvme     : Nvme
  pwr      : PwrBlock
  tst      : TstBlock
  /-- Telemetry counters by BAR0 offset; a pair's 64-bit count stands at its _LO offset. -/
  counters : CMap Nat
  /-- Snapshots held: for each SNAP register set, the copies of its frozen registers. -/
  snaps    : CMap (CMap Nat)
  /-- Shadows of _HI registers by access path × 2^32 + offset of the _HI register (R538). -/
  shadows  : CMap Nat
  deriving DecidableEq, Repr

/-- The state right after a cold reset: the start sequence has not begun (Table 17-2), every register
holds its reset value, nothing is stored, and no command waits. DESIGN CHOICE, log 2. -/
def State.reset : State :=
  { pending := [], emitted := [], fresh := 0, now := 0, sys := {}, upd := {}, set := defaultSettings,
    run := defaultSettings, sloe := {}, cmd := {}, evt := {}, sec := {}, brm := {}, jobs := [], recipes := [],
    models := [], vocabs := [], grammars := [], loads := [], tiles := List.replicate 4 {}, samples := [],
    mem := {}, cxe := {}, rma := {}, net := {}, med := {}, nvme := {}, pwr := {}, tst := {}, counters := [],
    snaps := [], shadows := [] }

end Sys2Proof.Machine
end

