-- ==== Sys2Proof/Machine/Ops.lean ====
section
/-! DEFINITION. Named operations on the state: sending, time, counters, events (R524 to R536), audit
records (R572 to R574). -/

namespace Sys2Proof.Machine

/-! ## Sending, time, counters -/

/-- Something leaves the block. DESIGN CHOICE, log 8. -/
def State.emit (s : State) (o : Output) : State := { s with emitted := s.emitted ++ [o] }

/-- Several things leave the block, in order. -/
def State.emitAll (s : State) (os : List Output) : State := { s with emitted := s.emitted ++ os }

/-- Estate time reaches `t`; it never runs back. DESIGN CHOICE, log 4. -/
def State.advance (s : State) (t : Nat) : State := { s with now := max s.now t }

/-- Fresh bits of the random bit generator. DESIGN CHOICE, log 5. -/
def State.draw (s : State) (n : Nat) : Nat × State := (Config.random s.fresh % 2 ^ n, { s with fresh := s.fresh + 1 })

/-- Value of the counter at a BAR0 offset. -/
def State.counter (s : State) (a : Nat) : Nat := s.counters.get 0 a

/-- The counter at a BAR0 offset set to a value. -/
def State.setCounter (s : State) (a v : Nat) : State := { s with counters := s.counters.set 0 a v }

/-- A 32-bit counter raised by n, saturating. -/
def State.bump (s : State) (a n : Nat) : State := s.setCounter a (satTo 32 (s.counter a + n))

/-- A 64-bit counter pair raised by n. -/
def State.bump64 (s : State) (a n : Nat) : State := s.setCounter a ((s.counter a + n) % 2 ^ 64)

/-! ## Events -/

/-- An event code with its severity (Table 18-2). -/
abbrev EvKind := Nat × Nat

/-- Group of a code (R526). -/
def groupOf (code : Nat) : Nat := code / 256

/-- General slots of the ring in use (R527, R534). -/
def EvtBlock.generalCap (e : EvtBlock) : Nat := if e.early then 248 else 8128
/-- Reserved slots of the ring in use. -/
def EvtBlock.reservedCap (e : EvtBlock) : Nat := if e.early then 8 else 64
/-- General slots at or below which drops are reported (R531, R534). -/
def EvtBlock.reportAt (e : EvtBlock) : Nat := if e.early then 240 else 8064
/-- Unconsumed general slots. -/
def EvtBlock.general (e : EvtBlock) : Nat := (e.ring.filter (fun r => !r.rsvSlot)).length
/-- Unconsumed reserved slots. -/
def EvtBlock.reserved (e : EvtBlock) : Nat := (e.ring.filter (fun r => r.rsvSlot)).length
/-- SEQ of the next record: after 0xFFFF_FFFF it continues at 1 (R524). -/
def EvtBlock.nextSeq (e : EvtBlock) : Nat := if e.seq = 0xFFFFFFFF then 1 else e.seq + 1

/-- A drop counted in its group (R529, R530): `n` occurrences of severity `sev` at time `t`. -/
def EvtBlock.drop (e : EvtBlock) (code sev n t : Nat) : EvtBlock :=
  { e with drops := updAt e.drops (groupOf code) (fun d =>
      { count := satTo 32 (d.count + n), sev := max d.sev sev, first := if d.count = 0 then t else d.first }) }

/-- Where a new record goes (R529, R530): a general slot, a reserved slot, the place of the oldest
severity-2 record of the reserved slots, or nowhere. -/
inductive Place where
  | general
  | reserved
  | replaces (old : Event)
  | nowhere
  deriving DecidableEq, Repr

/-- The place of a record of severity `sev`. DEDUCED, log 110. -/
def EvtBlock.place (e : EvtBlock) (sev : Nat) : Place :=
  if e.general < e.generalCap then .general
  else if sev < 2 then .nowhere
  else if e.reserved < e.reservedCap then .reserved
  else if sev = 3 then
    match e.ring.find? (fun r => r.rsvSlot && r.sev == 2) with
    | some old => .replaces old
    | none => .nowhere
  else .nowhere

/-- A record copied into the fatal latches (R532): latches 0–4 hold the first five, latch 5 the last. DEDUCED, log 110. -/
def latchFatal (ls : List (Option Event)) (ev : Event) : List (Option Event) :=
  let firstFree := (List.range 5).find? (fun i => ls.getD i none == none)
  let ls' := match firstFree with | some i => ls.set i (some ev) | none => ls
  ls'.set 5 (some ev)

/-- The event interrupt for a record of severity `sev` (R536): at most one signal per 100 µs. -/
def State.eventIrq (s : State) (sev : Nat) : State :=
  if s.evt.irqEn && decide (s.evt.irqSev ≤ sev) then
    if (match s.evt.lastIrq with | none => true | some t => decide (t + 100000 ≤ s.now)) then
      { s with evt := { s.evt with lastIrq := some s.now } }.emit (.msix 1 64)
    else { s with evt := { s.evt with withheld := true } }
  else s

/-- A record or a COUNT update sent to one subscriber slot (R535). -/
def State.sendEvent (s : State) (ev : Event) (sub : Subscriber) : State :=
  if sub.kind = 0 || ev.sev < sub.minSev || !bit sub.mask (groupOf ev.code) then s
  else if sub.kind = 1 then
    if s.net.lost.has sub.target then s.bump 0x0004001C 1
    else s.emit (.fabric 1 sub.target "event" [] ev.bytes)
  else s.emit (.mctp sub.target "event" [] ev.bytes)

/-- A record sent to every subscriber. -/
def State.sendAll (s : State) (ev : Event) : State := s.evt.subs.foldl (fun s' sub => s'.sendEvent ev sub) s

/-- A record written to the ring with the next SEQ: signalled and sent. -/
def State.writeRecord (s : State) (ev : Event) (rsv : Bool) : Event × State :=
  let ev' := { ev with seq := s.evt.nextSeq, rsvSlot := rsv }
  let s' := { s with evt := { s.evt with ring := s.evt.ring ++ [ev'], seq := ev'.seq } }
  (ev', (s'.eventIrq ev.sev).sendAll ev')

/-- A new record of an event (R529, R530, R532), or its drop. -/
def State.newRecord (s : State) (ev : Event) : State :=
  let (latched, s') :=
    match s.evt.place ev.sev with
    | .general => s.writeRecord ev false
    | .reserved => s.writeRecord ev true
    | .replaces old =>
      let e := (s.evt.drop old.code 2 old.count s.now)
      { s with evt := { e with ring := e.ring.erase old } }.writeRecord ev true
    | .nowhere => ({ ev with seq := 0 }, { s with evt := s.evt.drop ev.code ev.sev 1 s.now })
  if ev.sev = 3 then { s' with sloe := { s'.sloe with latches := latchFatal s'.sloe.latches latched } } else s'

/-- The unconsumed record that an event of this code, die and detail at this time repeats (R528). -/
def EvtBlock.repeats (e : EvtBlock) (code die : Nat) (detail : Bytes) (t : Nat) : Option Event :=
  e.ring.find? (fun r => r.code == code && r.die == die && r.detail == detail && decide (t ≤ r.time + 1000000))

/-- A repeat of an unconsumed record (R528): its COUNT rises; a fatal one rewrites latch 5 (R532); a COUNT
update of severity 2 or 3 goes to the subscribers (R535). -/
def State.coalesce (s : State) (old : Event) : State :=
  let ev := { old with count := satTo 32 (old.count + 1) }
  let ring := s.evt.ring.map (fun r => if r = old then ev else r)
  let s := { s with evt := { s.evt with ring := ring } }
  let s := if ev.sev = 3 then { s with sloe := { s.sloe with latches := s.sloe.latches.set 5 (some ev) } } else s
  if 2 ≤ ev.sev then s.sendAll ev else s

/-- An event arises: code and severity, die, DETAIL. DEDUCED, log 39. -/
def State.raise (s : State) (k : EvKind) (die : Nat) (detail : Bytes) : State :=
  let s := s.bump64 0x00040020 1
  let d := (detail ++ zeros 12).take 12
  match s.evt.repeats k.1 die d s.now with
  | some old => s.coalesce old
  | none => s.newRecord { time := s.now, seq := 0, code := k.1, sev := k.2, rsvSlot := false, die := die, count := 1, detail := d }

/-- The overflow report of R531: one EVT_OVERFLOW record per group with drops, in ascending order. -/
def State.reportDrops (s : State) : State :=
  if s.evt.reportAt < s.evt.general then s
  else (List.range 16).foldl (fun s g =>
    let d := s.evt.drops.getD g {}
    if d.count = 0 then s
    else
      let s := { s with evt := { s.evt with drops := s.evt.drops.set g {} } }.bump64 0x00040020 1
      let det := (leBytes 1 g ++ leBytes 1 d.sev ++ leBytes 8 d.first ++ zeros 12).take 12
      s.newRecord { time := s.now, seq := 0, code := 0x0102, sev := 1, rsvSlot := false, die := 4, count := d.count, detail := det }) s

/-- An event latched by the Sloe island itself, without a ring record (R532). -/
def State.latchOnly (s : State) (k : EvKind) (die : Nat) (detail : Bytes) : State :=
  let d := (detail ++ zeros 12).take 12
  let ev : Event := { time := s.now, seq := 0, code := k.1, sev := k.2, rsvSlot := false, die := die, count := 1, detail := d }
  { s.bump64 0x00040020 1 with sloe := { s.sloe with latches := latchFatal s.sloe.latches ev } }

/-! ## Event codes (Table 18-2, R579) -/

def evRegAccess : EvKind := (0x0101, 1)
def evClkLoss : EvKind := (0x0103, 2)
def evClkRestored : EvKind := (0x0104, 0)
def evTimeHoldover : EvKind := (0x0105, 1)
def evHubUnitFault : EvKind := (0x0106, 3)
def evSampleUnrecoverable : EvKind := (0x0201, 2)
def evParamMissing : EvKind := (0x0202, 2)
def evSizeMismatch : EvKind := (0x0203, 2)
def evStageFault : EvKind := (0x0204, 2)
def evReserveExhausted : EvKind := (0x0205, 2)
def evParamInvalid : EvKind := (0x0206, 1)
def evParamConflict : EvKind := (0x0207, 2)
def evParamValue : EvKind := (0x0208, 2)
def evDecodeUnsupported : EvKind := (0x0209, 2)
def evDecodeConcealed : EvKind := (0x020A, 0)
def evAudioRate : EvKind := (0x020B, 2)
def evFrcLoss : EvKind := (0x020C, 2)
def evPlanAborted : EvKind := (0x020D, 2)
def evPlanCatalog : EvKind := (0x020E, 2)
def evRecoveryAbandoned : EvKind := (0x020F, 2)
def evLiveLoss : EvKind := (0x0210, 1)
def evDestUnbound : EvKind := (0x0211, 1)
def evSramUe : EvKind := (0x0301, 2)
def evSramUeFatal : EvKind := (0x0301, 3)
def evBankRefused : EvKind := (0x0302, 1)
def evBankOff : EvKind := (0x0303, 1)
def evSramTest : EvKind := (0x0304, 2)
def evPoolPointer : EvKind := (0x0305, 1)
def evPoolUnderflow : EvKind := (0x0306, 2)
def evPoolWarn : EvKind := (0x0307, 1)
def evPoolCritical : EvKind := (0x0308, 2)
def evPoolLeak : EvKind := (0x0309, 1)
def evMediaUncorrectable : EvKind := (0x0401, 1)
def evMediaRepaired : EvKind := (0x0402, 0)
def evDieRetired : EvKind := (0x0403, 1)
def evDieProfile : EvKind := (0x0404, 2)
def evCapacityLow : EvKind := (0x0405, 2)
def evHoldupLow : EvKind := (0x0406, 2)
def evFlushDone : EvKind := (0x0407, 0)
def evPeakClamp : EvKind := (0x0501, 0)
def evBoostEnd : EvKind := (0x0502, 0)
def evStepdown : EvKind := (0x0503, 1)
def evHeldLeft : EvKind := (0x0504, 1)
def evFreqConflict : EvKind := (0x0505, 1)
def evCoolantStop : EvKind := (0x0506, 3)
def evThermtrip : EvKind := (0x0507, 3)
def evEngineFault : EvKind := (0x0601, 2)
def evClassLost : EvKind := (0x0602, 2)
def evTestFail : EvKind := (0x0603, 2)
def evTileStartFail : EvKind := (0x0604, 2)
def evLinkDieFail : EvKind := (0x0605, 2)
def evLaneSpareFail : EvKind := (0x0606, 1)
def evCredUnchecked : EvKind := (0x0701, 1)
def evCredExpired : EvKind := (0x0702, 1)
def evBindFail : EvKind := (0x0703, 1)
def evFwdSigFail : EvKind := (0x0704, 2)
def evSignkeyRevoked : EvKind := (0x0705, 0)
def evSecverAdvanced : EvKind := (0x0706, 0)
def evAuditWriteFail : EvKind := (0x0707, 2)
def evAuditHeadLost : EvKind := (0x0708, 2)
def evDebugUnlocked : EvKind := (0x0709, 1)
def evDecommissioned : EvKind := (0x070A, 3)
def evUpdReverted : EvKind := (0x0801, 2)
def evLinkDown : EvKind := (0x0A01, 1)
def evLinkUp : EvKind := (0x0A02, 0)
def evPeerLost : EvKind := (0x0A03, 2)
def evDeviceUnreachable : EvKind := (0x0A04, 2)
def evRouteChange : EvKind := (0x0A05, 0)
def evLaneSpared : EvKind := (0x0A06, 1)
def evLinkDegraded : EvKind := (0x0A07, 1)
def evLinkMiswired : EvKind := (0x0A08, 2)
def evLinkVersion : EvKind := (0x0A09, 2)
def evRmaViolation : EvKind := (0x0A0A, 1)
def evRmaViolationRemote : EvKind := (0x0A0B, 1)
def evQpError : EvKind := (0x0A0C, 2)
def evMirrorLag : EvKind := (0x0A0D, 1)
def evGclInvalid : EvKind := (0x0A0E, 1)

/-- REG_ACCESS_INVALID: the register offset and the access path; its die is the hub (R525). -/
def State.regInvalid (s : State) (path addr : Nat) : State :=
  s.raise evRegAccess 4 (leBytes 4 addr ++ leBytes 1 path)

/-! ## Pins (Table 20-5) -/

/-- THERMTRIP_N is asserted (R481). -/
def State.thermtripPin (s : State) : Bool := s.pwr.tripped
/-- Latches that hold a fatal event: EVT_FATAL.LATCHED (R532). -/
def State.latched (s : State) : Nat := (s.sloe.latches.filter (·.isSome)).length
/-- ALERT_N is asserted. -/
def State.alertPin (s : State) : Bool := s.sys.standby && (s.pwr.stopped || s.pwr.tripped || s.latched != 0)
/-- FAULT_LED_N is asserted. -/
def State.faultPin (s : State) : Bool :=
  s.sys.standby && (s.sys.pit || s.pwr.stopped || s.pwr.tripped || s.sec.decommissioned)

/-! ## Register access -/

/-- Power domain `d` is on (Table 01-7). -/
def State.domainOn (s : State) (d : Nat) : Bool := (s.pwr.domains.getD d {}).on

/-- The management cores run: domain 27 is on and no thermal trip has stopped the clocks (R481). -/
def State.alive (s : State) : Bool := s.domainOn 27 && !s.pwr.tripped

/-- The offset lies in a block that responds in Pit mode: SYS, EVT, SEC, UPD (R26). -/
def pitBlock (addr : Nat) : Bool := decide (addr < 0x10000) || (decide (0x40000 ≤ addr) && decide (addr < 0x80000))

/-- The domains that hold the block of an offset (R25, Table 01-7): any of them on keeps it readable. DESIGN CHOICE, log 37. -/
def blockDomains (addr : Nat) : List Nat :=
  if addr < 0x100000 then [27]
  else if addr < 0x200000 then
    (if addr < 0x104000 then [5] else if addr < 0x108000 then [11] else if addr < 0x10C000 then [17]
     else if addr < 0x110000 then [23] else [27])
  else if addr < 0x400000 then [26]
  else if addr < 0x800000 then
    let n := (addr - 0x400000) / 0x100000
    let b := bits addr 16 4
    if b = 0 then [32 + n] else if b = 1 then [6 * n, 6 * n + 1] else if b = 4 then [6 * n + 2, 6 * n + 3] else [6 * n + 4]
  else if addr < 0x900000 then [27]
  else if addr < 0xA00000 then [24]
  else if addr < 0xB00000 then [28, 30]
  else if addr < 0xB80000 then [28]
  else if addr < 0xC00000 then [30]
  else if addr < 0xD00000 then [29, 31]
  else if addr < 0xE00000 then [28, 29, 30, 31]
  else [27]

/-- The block of an offset responds to accesses: its domain is on (R25). DESIGN CHOICE, log 37. -/
def State.powered (s : State) (addr : Nat) : Bool := (blockDomains addr).any s.domainOn

/-- The host reaches PF1, and the device host memory: the host PHY is powered and its link is up. -/
def State.hostUp (s : State) : Bool := s.domainOn 25 && s.nvme.linkUp

/-- A write of a register on an access path reaches its effect `f` (R24 to R26): a block whose domain is
off takes no write and raises an event; in Pit mode most blocks are unassigned. DEDUCED, log 41. -/
def State.gated (s : State) (path addr : Nat) (f : State → State) : State :=
  if !s.alive || (path == 0 && !s.hostUp) || (s.sys.pit && !pitBlock addr) then s
  else if !s.powered addr then s.regInvalid path addr
  else f s

/-! ## Audit log -/

/-- The record with its CHAIN over the CHAIN before it (R573). -/
def AuditRec.sealed (a : AuditRec) (prev : Bytes) : AuditRec := { a with prev := prev, chain := sha384 (prev ++ a.head) }

/-- A record added; the head moves to it (R573, R574). DEDUCED, log 117. -/
def SecBlock.addAudit (c : SecBlock) (a : AuditRec) : SecBlock :=
  let r := { a with seq := c.auditSeq + 1 }.sealed c.auditChain
  { c with audit := (r :: c.audit).take 1048576, auditSeq := r.seq, auditChain := r.chain }

/-- The records, newest first, with COUNT of the newest record that `m` takes raised by 1 and every
later CHAIN made again; none where no record is taken. -/
def countRefusal (m : AuditRec → Bool) : List AuditRec → Option (List AuditRec)
  | [] => none
  | a :: rest =>
    if m a then some ({ a with count := satTo 32 (a.count + 1) }.sealed a.prev :: rest)
    else match countRefusal m rest with
      | some (r :: rs) => some (a.sealed r.chain :: r :: rs)
      | _ => none

/-- Identical refusals within 1 s (R572). -/
def sameRefusal (a b : AuditRec) : Bool :=
  a.opcode == b.opcode && a.status == b.status && a.cred == b.cred && a.route == b.route && a.source == b.source
  && a.packet == b.packet && decide (b.time ≤ a.time + 1000000000)

/-- An audit record written; an identical refusal of class 0x02 within 1 s adds to COUNT (R572). -/
def SecBlock.audited (c : SecBlock) (a : AuditRec) : SecBlock :=
  if a.status / 256 = 2 then
    match countRefusal (fun b => sameRefusal b a) c.audit with
    | some (r :: rs) => { c with audit := r :: rs, auditChain := r.chain }
    | _ => c.addAudit a
  else c.addAudit a

end Sys2Proof.Machine
end

