-- ==== Sys2Proof/Machine/Operands.lean ====
section
/-! DEFINITION. Operands of command packets: which parameter bits, UNIT values, roles and modes each
opcode has (Tables 15-3, 15-4, 15-9 and the tables of the commands' chapters), and the checks of steps 2
and 3 of R438 on them. -/

namespace Sys2Proof.Machine

/-- What the tables say of an opcode. Roles: 1 operator, 2 installer, 3 maker, 4 device; none listed is
role A. Fields are (packet byte, lowest bit, bits). `sel` is the selector's packet byte with the fields
of each of its values (R438). -/
structure OpSpec where
  opcode  : Nat
  roles   : List Nat
  pit     : Bool := false
  /-- Largest UNIT. -/
  unitMax : Nat := 0
  /-- UNIT names an engine under R19. -/
  engine  : Bool := false
  fields  : List (Nat × Nat × Nat) := []
  sel     : Option (Nat × List (List (Nat × Nat × Nat))) := none
  deriving DecidableEq, Repr

/-- The parameter bits of fields, bit 0 the lowest of packet byte 16. -/
def fieldMask (fs : List (Nat × Nat × Nat)) : Nat :=
  fs.foldl (fun m f => m ||| ((2 ^ f.2.2 - 1) <<< (8 * (f.1 - 16) + f.2.1))) 0

/-- The packet byte that holds the lowest nonzero parameter bit outside `mask`. -/
def reservedByte (p : Packet) (mask : Nat) : Option Nat :=
  ((List.range 48).find? (fun i => bits p.params.toNat (8 * i) 8 &&& (255 - bits mask (8 * i) 8) != 0)).map (· + 16)

/-- RESERVED_NONZERO (R12) with the byte of the field (R437). -/
def reservedFault (off : Nat) : Result := { status := 0x0102, r0 := off }
/-- PARAM_INVALID with the byte of the field. DEDUCED, log 28, 30. -/
def paramInvalid (off : Nat) : Result := { status := 0x0104, r0 := off }
/-- PARAM_INVALID for data the packet names (R437, R612). -/
def dataInvalid (at' : Nat) : Result := { status := 0x0104, r0 := 0xFFFFFFFF, r1 := at' }
/-- TARGET_INVALID with the byte of the field. DEDUCED, log 30. -/
def targetInvalid (off : Nat) : Result := { status := 0x0103, r0 := off }

/-- Step 2 of R438: reserved bits of bytes 2 and 8–11, and reserved parameters under the selector. -/
def reservedCheck (sp : OpSpec) (p : Packet) : Option Result :=
  if p.rsv2 != 0 then some (reservedFault 2)
  else if p.rsv8 != 0 then some (reservedFault 11)
  else match sp.sel with
    | none => (reservedByte p (fieldMask sp.fields)).map reservedFault
    | some (off, variants) =>
      match reservedByte p (fieldMask (sp.fields ++ variants.flatten)) with
      | some b => some (reservedFault b)
      | none =>
        match variants[p.f off 1]? with
        | none => some (paramInvalid off)
        | some fs => (reservedByte p (fieldMask (sp.fields ++ fs))).map reservedFault

/-- Engines per tile by class (Table 01-3). -/
def classCount (c : Nat) : Nat := [24, 6, 8, 4, 2, 2].getD c 0

/-- Engine identifier (R19): tile, class, index. -/
def engineTile (e : Nat) : Nat := bits e 8 2
def engineClass (e : Nat) : Nat := bits e 5 3
def engineIndex (e : Nat) : Nat := bits e 0 5
/-- The identifier names an engine. -/
def engineOk (e : Nat) : Bool := decide (e < 1024) && decide (engineIndex e < classCount (engineClass e))
/-- The identifier of an engine. DESIGN CHOICE, log 95. -/
def engineId (tile cls idx : Nat) : Nat := tile * 256 + cls * 32 + idx

/-- The packet came over the fabric. -/
def Source.isFabric : Source → Bool
  | .fabric _ _ => true
  | _ => false

/-- The packet arrived by MCTP, here or at its forwarding device (R442). -/
def Source.isMctp : Source → Bool
  | .mctp _ => true
  | .fabric _ (.endpoint _) => true
  | _ => false

/-- Step 3 of R438: REMOTE, DEVICE and UNIT (R440), for the device numbered `own`. -/
def targetCheck (sp : OpSpec) (own : Nat) (p : Packet) : Option Result :=
  if p.remote && (decide (6144 ≤ p.device) || p.device != own) then some (targetInvalid 10)
  else if !p.remote && p.device != 0 then some (targetInvalid 10)
  else if decide (sp.unitMax < p.unit) || (sp.engine && !engineOk p.unit) then some (targetInvalid 8)
  else none

/-- A host address at byte `off` under R442: refused for a packet that arrived by MCTP. -/
def hostAddress (x : CmdIn) (off : Nat) : Option Result := if x.src.isMctp then some (paramInvalid off) else none

/-- JOB_ID of a job command. -/
def Packet.jobId (p : Packet) : Nat := p.f 16 2

/-- The job-state commands of R449. -/
def jobState (opcode : Nat) : Bool :=
  opcode == 0x0202 || (decide (0x0206 ≤ opcode) && decide (opcode ≤ 0x0210) && opcode != 0x020F)

/-- Commands with an audit record (R572): a role other than A, but for the eight named. -/
def OpSpec.audited (sp : OpSpec) : Bool :=
  !sp.roles.isEmpty && !([0x020F, 0x0901, 0x0903, 0x0705, 0x0307, 0x0308, 0x0A06, 0x0A07].contains sp.opcode)

/-! ## The opcodes (Table 15-3) with their parameters -/

def opIdentify : OpSpec := { opcode := 0x0101, roles := [], pit := true }
def opNetworkSet : OpSpec :=
  { opcode := 0x0102, roles := [2], fields := [(16, 0, 8), (17, 0, 8)],
    sel := some (16, [[(18, 0, 8), (19, 0, 8), (20, 0, 16), (24, 0, 128)], [(18, 0, 15)],
      [(18, 0, 8), (24, 0, 128)],
      [(18, 0, 14), (20, 0, 8), (21, 0, 8), (22, 0, 16), (24, 0, 128), (40, 0, 24), (44, 0, 24)]]) }
def opPartnerSet : OpSpec := { opcode := 0x0103, roles := [2], fields := [(16, 0, 13), (17, 7, 1)] }
def opLiveServiceSet : OpSpec :=
  { opcode := 0x0104, roles := [2],
    fields := [(16, 0, 16), (18, 0, 8), (19, 0, 2), (20, 0, 16), (22, 0, 16), (24, 0, 32), (28, 0, 128), (44, 0, 128)] }
def opLiveServiceRemove : OpSpec := { opcode := 0x0105, roles := [2], fields := [(16, 0, 16)] }
def opRecipeLoad : OpSpec :=
  { opcode := 0x0201, roles := [1],
    fields := [(16, 0, 8), (17, 0, 8), (18, 0, 16), (20, 0, 32), (24, 0, 64), (32, 0, 16), (40, 0, 64)] }
def opRecipeReplace : OpSpec := { opcode := 0x0202, roles := [1], fields := [(16, 0, 16), (18, 0, 8), (20, 0, 20)] }
def opRecipeUnload : OpSpec := { opcode := 0x0203, roles := [1], fields := [(16, 0, 8)] }
def opImageLoad : OpSpec :=
  { opcode := 0x0204, roles := [1], unitMax := 2, fields := [(17, 0, 8), (18, 0, 16), (20, 0, 32), (24, 0, 64)] }
def opImageUnload : OpSpec := { opcode := 0x0205, roles := [1], unitMax := 2, fields := [(16, 0, 8)] }
def opJobStart : OpSpec :=
  { opcode := 0x0206, roles := [1],
    fields := [(16, 0, 16), (18, 0, 8), (19, 0, 8), (20, 0, 16), (24, 0, 20), (28, 0, 32), (32, 0, 64), (40, 0, 44)] }
def opJobEnd : OpSpec := { opcode := 0x0207, roles := [1], fields := [(16, 0, 16)] }
def opEpochPlan : OpSpec := { opcode := 0x0208, roles := [1], fields := [(16, 0, 16), (20, 0, 32)] }
def opParamTable : OpSpec :=
  { opcode := 0x0209, roles := [1],
    fields := [(16, 0, 16), (18, 0, 8), (20, 0, 20), (24, 0, 64), (32, 0, 64), (40, 0, 16)] }
def opParamRing : OpSpec := { opcode := 0x020A, roles := [1], fields := [(16, 0, 16), (18, 0, 8), (24, 0, 64)] }
def opJobTakeover : OpSpec := { opcode := 0x020B, roles := [1], fields := [(16, 0, 16), (18, 0, 13)] }
def opJobResume : OpSpec := { opcode := 0x020C, roles := [1], fields := [(16, 0, 16), (20, 0, 32), (24, 0, 44)] }
def opJobLeave : OpSpec := { opcode := 0x020D, roles := [1], fields := [(16, 0, 16)] }
def opCursorReset : OpSpec :=
  { opcode := 0x020E, roles := [1], fields := [(16, 0, 16), (18, 0, 13), (20, 0, 32), (24, 0, 44)] }
def opJobQuery : OpSpec := { opcode := 0x020F, roles := [1], fields := [(16, 0, 16)] }
def opPlanReissue : OpSpec :=
  { opcode := 0x0210, roles := [4], fields := [(16, 0, 16), (18, 0, 13), (20, 0, 20), (24, 0, 44), (32, 0, 13)] }
def opPoolConfig : OpSpec :=
  { opcode := 0x0301, roles := [2], unitMax := 63, fields := [(16, 0, 8), (17, 0, 8), (20, 0, 32), (24, 0, 16)] }
def opPoolThreshold : OpSpec :=
  { opcode := 0x0302, roles := [2], unitMax := 63, fields := [(16, 0, 16), (18, 0, 16), (20, 0, 16)] }
def opPoolAudit : OpSpec := { opcode := 0x0303, roles := [1], fields := [(16, 0, 64), (24, 0, 32)] }
def opBankOwn : OpSpec := { opcode := 0x0304, roles := [2], unitMax := 4, fields := [(16, 0, 16), (18, 0, 13)] }
def opBankState : OpSpec := { opcode := 0x0305, roles := [2], unitMax := 4, fields := [(16, 0, 16), (18, 0, 8)] }
def opBankRetire : OpSpec := { opcode := 0x0306, roles := [2], unitMax := 4, fields := [(16, 0, 16)] }
/-- Parameters of COMPRESS and DECOMPRESS (Table 09-3); UNIT is 0 for host memory, or 64 + pool. -/
def cxeFields : List (Nat × Nat × Nat) :=
  [(16, 0, 64), (24, 0, 32), (28, 0, 32), (32, 0, 64), (40, 0, 2), (41, 0, 5), (42, 0, 8), (43, 0, 8), (44, 0, 32), (48, 0, 32)]
def opCompress : OpSpec := { opcode := 0x0307, roles := [1], unitMax := 127, fields := cxeFields }
def opDecompress : OpSpec := { opcode := 0x0308, roles := [1], unitMax := 127, fields := cxeFields }
def opNsCreate : OpSpec := { opcode := 0x0401, roles := [2], fields := [(16, 0, 16), (18, 0, 8), (24, 0, 64)] }
def opNsDelete : OpSpec := { opcode := 0x0402, roles := [2], fields := [(16, 0, 16)] }
def opNsSeal : OpSpec := { opcode := 0x0403, roles := [2], fields := [(16, 0, 16)] }
def opReplicaSet : OpSpec :=
  { opcode := 0x0404, roles := [2], fields := [(16, 0, 16), (18, 0, 8), (20, 0, 13), (22, 0, 13), (24, 0, 13)] }
def opDieRetire : OpSpec := { opcode := 0x0405, roles := [2], unitMax := 1023 }
def opSanitize : OpSpec := { opcode := 0x0406, roles := [2], fields := [(16, 0, 8)] }
def opBudgetSet : OpSpec := { opcode := 0x0501, roles := [2], fields := [(16, 0, 16)] }
def opFreqAnnounce : OpSpec := { opcode := 0x0502, roles := [1], fields := [(16, 0, 16), (18, 0, 16), (24, 0, 64)] }
def opRestartAfterStop : OpSpec := { opcode := 0x0503, roles := [1, 2] }
def opSelftest : OpSpec := { opcode := 0x0601, roles := [1], fields := [(16, 0, 8)] }
def opTestRun : OpSpec := { opcode := 0x0602, roles := [1], unitMax := 0x3FF, fields := [(16, 0, 8)] }
def opEngineBypass : OpSpec := { opcode := 0x0603, roles := [2], unitMax := 0x3FF, engine := true, fields := [(16, 0, 8)] }
def opTileDrain : OpSpec := { opcode := 0x0604, roles := [2], unitMax := 3 }
def opTileRejoin : OpSpec := { opcode := 0x0605, roles := [2], unitMax := 3 }
def opColumnRepair : OpSpec :=
  { opcode := 0x0606, roles := [3], unitMax := 4, fields := [(16, 0, 16), (18, 0, 8), (19, 0, 8)] }
def opPitClear : OpSpec := { opcode := 0x0607, roles := [2], pit := true }
def opCredSet : OpSpec :=
  { opcode := 0x0701, roles := [2], pit := true, fields := [(16, 0, 8), (17, 0, 8), (18, 0, 8), (20, 0, 32), (24, 0, 64)] }
def opCredClear : OpSpec := { opcode := 0x0702, roles := [2], pit := true, fields := [(16, 0, 8)] }
def opSignkeyTrust : OpSpec :=
  { opcode := 0x0703, roles := [2], pit := true, fields := [(16, 0, 8), (17, 0, 8), (20, 0, 32), (24, 0, 64)] }
def opSignkeyRevoke : OpSpec := { opcode := 0x0704, roles := [2], pit := true, fields := [(16, 0, 8)] }
def opAuditRead : OpSpec :=
  { opcode := 0x0705, roles := [1, 2], pit := true, fields := [(16, 0, 64), (24, 0, 64), (32, 0, 32)] }
def opDebugUnlock : OpSpec := { opcode := 0x0706, roles := [3], pit := true }
def opDecommission : OpSpec := { opcode := 0x0707, roles := [3], pit := true, fields := [(16, 0, 32)] }
def opUpdStage : OpSpec :=
  { opcode := 0x0801, roles := [2], pit := true, unitMax := 1, fields := [(16, 0, 8), (20, 0, 32), (24, 0, 32), (32, 0, 64)] }
def opUpdVerify : OpSpec := { opcode := 0x0802, roles := [2], pit := true, unitMax := 1 }
def opUpdActivate : OpSpec := { opcode := 0x0803, roles := [2], pit := true, unitMax := 1, fields := [(16, 0, 2)] }
def opUcodeApply : OpSpec := { opcode := 0x0804, roles := [2], unitMax := 3, fields := [(16, 0, 8), (17, 0, 8)] }
def opEvtRead : OpSpec := { opcode := 0x0901, roles := [1], pit := true, fields := [(16, 0, 64), (24, 0, 32), (28, 0, 1)] }
def opEvtSubscribe : OpSpec :=
  { opcode := 0x0902, roles := [1], fields := [(16, 0, 8), (17, 0, 8), (18, 0, 16), (20, 0, 8), (24, 0, 16)] }
def opTelemetryGet : OpSpec := { opcode := 0x0903, roles := [1], fields := [(16, 0, 8), (24, 0, 64), (32, 0, 32)] }
def opDestBind : OpSpec :=
  { opcode := 0x0A01, roles := [1],
    fields := [(16, 0, 16), (18, 0, 8), (20, 0, 16), (22, 0, 14), (24, 0, 64), (32, 0, 32), (36, 0, 32), (40, 0, 64),
      (48, 0, 64), (56, 0, 32)] }
def opSlotCancel : OpSpec := { opcode := 0x0A02, roles := [1], fields := [(16, 0, 16), (20, 0, 16), (24, 0, 44)] }
def opWindowOpen : OpSpec :=
  { opcode := 0x0A03, roles := [1],
    fields := [(16, 0, 16), (18, 0, 2), (19, 0, 1), (20, 0, 13), (24, 0, 64), (32, 0, 64), (40, 0, 64), (48, 0, 32)] }
def opWindowClose : OpSpec := { opcode := 0x0A04, roles := [1], fields := [(16, 0, 16)] }
def opWindowRekey : OpSpec := { opcode := 0x0A05, roles := [1], fields := [(16, 0, 16), (20, 0, 32)] }
/-- Parameters of RMA_WRITE and RMA_READ. -/
def rmaFields : List (Nat × Nat × Nat) :=
  [(16, 0, 13), (18, 0, 16), (20, 0, 32), (24, 0, 64), (32, 0, 32), (36, 0, 8), (37, 0, 8), (40, 0, 64), (48, 0, 64)]
def opRmaWrite : OpSpec := { opcode := 0x0A06, roles := [1], fields := rmaFields }
def opRmaRead : OpSpec := { opcode := 0x0A07, roles := [1], fields := rmaFields }
def opPortService : OpSpec := { opcode := 0x0A08, roles := [2], unitMax := 15, fields := [(16, 0, 8), (17, 0, 8)] }

/-- The opcodes of Table 15-3, in its order. -/
def opTable : List OpSpec :=
  [opIdentify, opNetworkSet, opPartnerSet, opLiveServiceSet, opLiveServiceRemove]
  ++ [opRecipeLoad, opRecipeReplace, opRecipeUnload, opImageLoad, opImageUnload, opJobStart, opJobEnd, opEpochPlan,
    opParamTable, opParamRing, opJobTakeover, opJobResume, opJobLeave, opCursorReset, opJobQuery, opPlanReissue]
  ++ [opPoolConfig, opPoolThreshold, opPoolAudit, opBankOwn, opBankState, opBankRetire, opCompress, opDecompress]
  ++ [opNsCreate, opNsDelete, opNsSeal, opReplicaSet, opDieRetire, opSanitize]
  ++ [opBudgetSet, opFreqAnnounce, opRestartAfterStop]
  ++ [opSelftest, opTestRun, opEngineBypass, opTileDrain, opTileRejoin, opColumnRepair, opPitClear]
  ++ [opCredSet, opCredClear, opSignkeyTrust, opSignkeyRevoke, opAuditRead, opDebugUnlock, opDecommission]
  ++ [opUpdStage, opUpdVerify, opUpdActivate, opUcodeApply]
  ++ [opEvtRead, opEvtSubscribe, opTelemetryGet]
  ++ [opDestBind, opSlotCancel, opWindowOpen, opWindowClose, opWindowRekey, opRmaWrite, opRmaRead, opPortService]

/-- What the tables say of an opcode, none when Table 15-3 does not list it. -/
def opSpecOf (opcode : Nat) : Option OpSpec := opTable.find? (fun sp => sp.opcode == opcode)

end Sys2Proof.Machine
end

