-- ==== Sys2Proof/Machine/Commands.lean ====
section
/-! DEFINITION. How a command packet is taken, checked, ordered, completed and recorded: R438 to R452,
R561, R564, R572 to R574. Every command row calls `runCommand` with its operand record and its own effect. -/

namespace Sys2Proof.Machine

/-- The device's own number (R340). -/
def State.self (s : State) : Nat := s.sys.number

/-- What a command's own checks and effect answer. -/
inductive Own where
  /-- Step 6 of R438 fails: no effect. -/
  | refuse (r : Result)
  /-- The command takes effect and completes. -/
  | done (r : Result) (s : State)
  /-- The command is accepted and completes later. -/
  | run (s : State)
  /-- The command is accepted and fails in execution, with the effect up to there. -/
  | fail (r : Result) (s : State)
  /-- The command completes, and then `after` takes place (a reset). -/
  | last (r : Result) (s : State) (after : State → State)

/-! ## Arrival -/

/-- A command received: it takes the next arrival number (R448). -/
def State.arrive (s : State) (src : Source) (opcode : Nat) (pkt : Packet) : Waiter × State :=
  let w : Waiter := { src := src, seq := s.cmd.nextSeq, opcode := opcode, pkt := pkt }
  let a : Arrival := { src := src, seq := w.seq, opcode := opcode, pkt := pkt, status := none, post := true }
  (w, { s with cmd := { s.cmd with nextSeq := s.cmd.nextSeq + 1, arrivals := a :: s.cmd.arrivals } })

/-- The arrival with a number. -/
def State.arrival (s : State) (seq : Nat) : Option Arrival := s.cmd.arrivals.find? (fun a => a.seq == seq)

/-- The ring `i`. -/
def State.ring (s : State) (i : Nat) : Ring := s.cmd.rings.getD i {}

/-- The ring `i` replaced. -/
def State.setRing (s : State) (i : Nat) (r : Ring) : State := { s with cmd := { s.cmd with rings := s.cmd.rings.set i r } }

/-- First arrival number that counts for a source: a ring starts afresh when EN is set (R448). -/
def State.firstSeq (s : State) : Source → Nat
  | .ring i => (s.ring i).since
  | _ => 0

/-- The previous command of arrival `seq` from `src` (R448): the one received just before it. -/
def State.previous (s : State) (src : Source) (seq : Nat) : Option Arrival :=
  s.cmd.arrivals.find? (fun a => a.src == src && decide (a.seq < seq) && decide (s.firstSeq src ≤ a.seq))

/-- The command as it enters execution: a ring's command must have been fetched (R445); a packet by MCTP
or the fabric arrives now. Without the management cores no packet is interpreted. -/
def State.take (s : State) (opcode : Nat) (x : CmdIn) : Option (Waiter × State) :=
  if !s.alive then none else
  match x.src with
  | .ring _ =>
    match s.cmd.fetched.find? (fun w => w.src == x.src && w.opcode == opcode && w.pkt == x.pkt) with
    | some w => some (w, { s with cmd := { s.cmd with fetched := s.cmd.fetched.erase w } })
    | none => none
  | _ => some (s.arrive x.src opcode x.pkt)

/-! ## Completion -/

/-- The records with a new one, the last 4,096 of each source kept (R451). DEDUCED, log 31, 36. -/
def keepRecords (src : Source) : Nat → List CmdRecord → List CmdRecord
  | _, [] => []
  | n, r :: rs =>
    if r.src = src then (if n = 0 then keepRecords src 0 rs else r :: keepRecords src (n - 1) rs)
    else r :: keepRecords src n rs

/-- A ring's completion queue takes a completion (R445): index, phase, and the ring afterwards. -/
def Ring.posted (r : Ring) : Ring :=
  let next := (r.cqTail + 1) % 2 ^ r.depthLog2
  { r with cqTail := next, phase := if next = 0 then 1 - r.phase else r.phase, inflight := r.inflight - 1,
           draining := r.draining && decide (r.inflight ≠ 1) }

/-- A completion returned on the command's route (R439, R445); nothing where a Function Level Reset
discards it (R447). -/
def State.post (s : State) (w : Waiter) (r : Result) : State :=
  match w.src with
  | .ring i =>
    if (match s.arrival w.seq with | some a => a.post | none => true) then
      let ring := s.ring i
      let s := s.setRing i ring.posted
      let s := s.emit (.completion i ring.cqTail ring.phase w.pkt.tag r)
      if ring.msix then s.emit (.msix 1 i) else s
    else s
  | .mctp eid => s.emit (.mctpCompletion eid w.pkt.tag r)
  | .fabric dev origin => s.emit (.fabricCompletion dev origin w.pkt.tag r)

/-- The status of an arrival becomes known. -/
def State.settle (s : State) (seq status : Nat) : State :=
  { s with cmd := { s.cmd with arrivals := s.cmd.arrivals.map (fun a =>
      if a.seq = seq then { a with status := some status } else a) } }

/-- A command completes without a record of its own: counted, posted, its status known (R451). -/
def State.answer (s : State) (w : Waiter) (r : Result) : State :=
  let s := (s.bump64 0x00080010 1)
  let s := if r.ok then s else s.bump 0x00080018 1
  (s.post w r).settle w.seq r.status

/-- The retries that wait for arrival `seq` complete with it (R451). -/
def State.answerFollowers (s : State) (seq : Nat) (r : Result) : State :=
  let fs := s.cmd.followers.filter (fun f => f.1 == seq)
  let s := { s with cmd := { s.cmd with followers := s.cmd.followers.filter (fun f => f.1 != seq) } }
  fs.foldl (fun s f => s.answer f.2 r) s

/-- A command that ran as new completes: recorded, posted, and its retries with it (R445, R451). -/
def State.complete (s : State) (w : Waiter) (r : Result) : State :=
  let rec' : CmdRecord := { src := w.src, opcode := w.opcode, pkt := w.pkt, result := r }
  let s := { s with cmd := { s.cmd with records := keepRecords w.src 4096 (rec' :: s.cmd.records) } }
  (s.answer w r).answerFollowers w.seq r

/-! ## Credentials (R452, R557 to R564) -/

/-- A credential slot holds a valid chain (R557, R560). -/
def State.credValid (s : State) (c : Credential) : Bool :=
  !c.expired && (!s.sec.timeChecked || (decide (c.notBefore ≤ s.now) && decide (s.now ≤ c.notAfter)))

/-- The source has proved that it holds the private key of slot `n` (R561). -/
def State.verified (s : State) (x : CmdIn) (n : Nat) (c : Credential) : Bool :=
  match x.src with
  | .ring r => s.sec.bindings.contains (r, n)
  | .mctp eid => s.sec.sessions.find eid == some c.leaf
  | .fabric _ _ => x.fwd.leaf == c.leaf && x.fwd.role == c.role

/-- A forwarded packet passes its signature, time and counter checks (R564). -/
def State.forwardOk (s : State) (x : CmdIn) : Bool :=
  match x.src with
  | .fabric dev _ =>
    x.fwd.sigOk && decide (x.fwd.time ≤ s.now + 1000000000) && decide (s.now ≤ x.fwd.time + 1000000000)
    && (match s.sec.fwdLast.find dev with | none => true | some c => decide (c < x.fwd.counter)) && s.sec.timeChecked
  | _ => true

/-- Members of the job with an ID: the devices of its shard map (R83). -/
def State.jobNamed (s : State) (id : Nat) : Option (Nat × Job) := s.jobs.find? (fun p => p.2.id == id)

/-- Devices of a job, ascending: its plan ranks (R83). -/
def Job.devices (j : Job) : List Nat := sortNat (j.shards.map (·.2))

/-- The device that sent a packet is a member of the job that the packet names. -/
def State.memberSent (s : State) (x : CmdIn) : Bool :=
  match x.src with
  | .fabric dev .firmware =>
    match s.jobNamed x.pkt.jobId with
    | some (_, j) => j.devices.contains dev
    | none => false
  | _ => false

/-- CREDENTIAL_INVALID, ROLE_DENIED and their numbers. -/
def credentialInvalid : Result := { status := 0x0201 }
def roleDenied : Result := { status := 0x0202 }

/-- The role that CRED names for a packet, none where CRED names no valid credential: role 4 is D. -/
def State.credRole (s : State) (sp : OpSpec) (x : CmdIn) : Option Nat :=
  if x.pkt.cred = 255 then
    match x.src with
    | .fabric _ .firmware => if sp.roles.contains 4 && !s.memberSent x then none else some 4
    | _ => none
  else match s.sec.creds.find x.pkt.cred with
    | some c => if s.credValid c && s.verified x x.pkt.cred c then some c.role else none
    | none => none

/-- Step 5 of R438: CRED satisfies R452, R559 and R564. DEDUCED, log 29. -/
def State.credCheck (s : State) (sp : OpSpec) (x : CmdIn) : Option Result :=
  let unclaimed := !s.sec.creds.has 1
  if !s.forwardOk x then some credentialInvalid
  else if sp.opcode = 0x0701 && unclaimed then
    (if x.pkt.cred = 0 && x.pkt.f 16 1 = 1 then none else some credentialInvalid)
  else if x.pkt.cred = 0 then (if sp.roles.isEmpty then none else some credentialInvalid)
  else match s.credRole sp x with
    | none => some credentialInvalid
    | some r => if sp.roles.isEmpty || sp.roles.contains r then none else some roleDenied

/-- Steps 2 to 5 of R438 for a packet whose opcode Table 15-3 lists. DEDUCED, log 28. -/
def State.checks (s : State) (sp : OpSpec) (x : CmdIn) : Option Result :=
  match reservedCheck sp x.pkt with
  | some r => some r
  | none =>
    match targetCheck sp s.self x.pkt with
    | some r => some r
    | none =>
      if (s.sys.pit && !sp.pit) || (s.sec.decommissioned && sp.opcode != 0x0101 && sp.opcode != 0x0705) then
        some { status := 0x0301 }
      else s.credCheck sp x

/-! ## Audit -/

/-- The audit record of a command (Table 19-4). -/
def State.auditOf (s : State) (w : Waiter) (status : Nat) : AuditRec :=
  let cred := s.sec.creds.find w.pkt.cred
  let route := match w.src with | .ring _ => 0 | .mctp _ => 1 | .fabric _ _ => 2
  let source := match w.src with
    | .ring r => packFields [(0, 13, s.self), (16, 8, r)]
    | .mctp e => packFields [(0, 13, s.self), (16, 8, e)]
    | .fabric d (.ring r) => packFields [(0, 13, d), (16, 8, r)]
    | .fabric d (.endpoint e) => packFields [(0, 13, d), (16, 8, e)]
    | .fabric d .firmware => packFields [(0, 13, d)]
  { seq := 0, time := s.now, opcode := w.opcode, status := status, cred := w.pkt.cred,
    role := (match cred with | some c => c.role | none => 0), route := route, source := source,
    leaf := (match cred with | some c => c.leaf | none => []),
    packet := sha384 (w.pkt.bytes w.opcode), count := 1, chain := [], prev := [] }

/-- The command has an audit record at this status (R572). -/
def auditDue (sp : OpSpec) (r : Nat) : Bool := sp.audited || r == 0x0201 || r == 0x0202

/-- The audit record is written (R572 to R574). -/
def State.audit (s : State) (a : AuditRec) : State := { s with sec := s.sec.audited a }

/-- A command that was accepted and is running completes (R572): one that fails in execution gets a
second audit record. -/
def State.finish (s : State) (w : Waiter) (r : Result) : State :=
  let s := match opSpecOf w.opcode with
    | some sp => if sp.audited && !r.ok then s.audit (s.auditOf w r.status) else s
    | none => s
  s.complete w r

/-! ## Acceptance -/

/-- Events of the credential check: validity periods unchecked (R560), a forwarded packet that fails
(R564), and the counter accepted from a forwarding device. -/
def State.noteCred (s : State) (x : CmdIn) : State :=
  let s := if x.pkt.cred != 0 && !s.sec.timeChecked && !s.sec.uncheckedRaised then
      { s with sec := { s.sec with uncheckedRaised := true } }.raise evCredUnchecked 4 []
    else s
  match x.src with
  | .fabric dev _ =>
    if s.forwardOk x then { s with sec := { s.sec with fwdLast := s.sec.fwdLast.put dev x.fwd.counter } }
    else s.raise evFwdSigFail 4 (leBytes 2 dev)
  | _ => s

/-- A refusal: audited where due, and completed. -/
def State.turnDown (s : State) (sp : OpSpec) (w : Waiter) (x : CmdIn) (r : Result) : State :=
  if auditDue sp r.status then
    if x.auditOk then (s.audit (s.auditOf w r.status)).complete w r
    else (s.raise evAuditWriteFail 4 []).complete w { status := 0x0503 }
  else s.complete w r

/-- The command passed steps 1 to 5: its own checks and effect, audited before the effect (R572, R574). -/
def State.runOwn (s : State) (sp : OpSpec) (own : Waiter → CmdIn → State → Own) (w : Waiter) (x : CmdIn) : State :=
  match own w x s with
  | .refuse r => s.turnDown sp w x r
  | .done r s' =>
    if sp.audited then
      if x.auditOk then (s'.audit (s.auditOf w r.status)).complete w r
      else (s.raise evAuditWriteFail 4 []).complete w { status := 0x0503 }
    else s'.complete w r
  | .run s' =>
    if sp.audited then
      if x.auditOk then s'.audit (s.auditOf w 0)
      else (s.raise evAuditWriteFail 4 []).complete w { status := 0x0503 }
    else s'
  | .fail r s' =>
    if sp.audited then
      if x.auditOk then ((s'.audit (s.auditOf w 0)).audit (s.auditOf w r.status)).complete w r
      else (s.raise evAuditWriteFail 4 []).complete w { status := 0x0503 }
    else s'.complete w r
  | .last r s' after =>
    if sp.audited then
      if x.auditOk then after ((s'.audit (s.auditOf w r.status)).complete w r)
      else (s.raise evAuditWriteFail 4 []).complete w { status := 0x0503 }
    else after (s'.complete w r)

/-- ORDERED and the previous command's status lies outside class 0x00 (R448). -/
def State.orderFailed (s : State) (w : Waiter) : Bool :=
  w.pkt.ordered &&
    match s.previous w.src w.seq with
    | some a => (match a.status with | some st => decide (256 ≤ st) | none => false)
    | none => false

/-- The command's turn has come: the checks of R438 in order, then its own. -/
def State.accept (s : State) (sp : OpSpec) (own : Waiter → CmdIn → State → Own) (w : Waiter) (x : CmdIn) : State :=
  match s.checks sp x with
  | some r =>
    let s := if r = credentialInvalid || r = roleDenied then s.noteCred x else s
    s.turnDown sp w x r
  | none =>
    let s := s.noteCred x
    if s.orderFailed w then s.turnDown sp w x { status := 0x0302 } else s.runOwn sp own w x

/-! ## Waiting (R448 to R450) -/

/-- The order of R448 lets the command be accepted: not ORDERED, or its previous command has completed. -/
def State.orderReady (s : State) (w : Waiter) : Bool :=
  !w.pkt.ordered ||
    match s.previous w.src w.seq with
    | some a => a.status.isSome
    | none => true

/-- The order of R449 lets it: no job-state command of its job arrived before it and still waits. -/
def State.jobReady (s : State) (w : Waiter) : Bool :=
  !jobState w.opcode ||
    (s.cmd.waiting.all (fun d => !(jobState d.opcode && d.cmd.pkt.jobId == w.pkt.jobId && decide (d.seq < w.seq)))
     && s.cmd.fetched.all (fun d => !(jobState d.opcode && d.pkt.jobId == w.pkt.jobId && decide (d.seq < w.seq))))

/-- A waiting command as a waiter. -/
def Deferred.waiter (d : Deferred) : Waiter := { src := d.cmd.src, seq := d.seq, opcode := d.opcode, pkt := d.cmd.pkt }

/-- The order of R450 lets it: no urgent command that could be accepted waits, before it if it is urgent. -/
def State.urgentReady (s : State) (w : Waiter) : Bool :=
  let before := fun (v : Waiter) => v.pkt.urgent && v.seq != w.seq && (!w.pkt.urgent || decide (v.seq < w.seq))
    && s.orderReady v && s.jobReady v
  s.cmd.waiting.all (fun d => !before d.waiter) && s.cmd.fetched.all (fun v => !before v)

/-- The command may be accepted now. DEDUCED, log 32. -/
def State.ready (s : State) (w : Waiter) : Bool := s.orderReady w && s.jobReady w && s.urgentReady w

/-! ## Retries and forwarding -/

/-- How a retry is answered (R451). -/
inductive Retry where
  | answered (r : Result)
  | follow (seq : Nat)
  | conflict
  | new
  deriving DecidableEq, Repr

/-- Two packets are equal in bytes 0–63, ignoring RETRY. -/
def samePacket (opA : Nat) (a : Packet) (opB : Nat) (b : Packet) : Bool :=
  opA == opB && { a with retry := false } == { b with retry := false }

/-- What R451 says of a retry from a source. -/
def State.retryOf (s : State) (w : Waiter) : Retry :=
  match s.cmd.records.find? (fun r => r.src == w.src && samePacket r.opcode r.pkt w.opcode w.pkt) with
  | some r => .answered r.result
  | none =>
    let running := s.cmd.arrivals.filter (fun a => a.src == w.src && a.status.isNone && a.seq != w.seq
      && !s.cmd.followers.any (fun f => f.2.seq == a.seq))
    match running.find? (fun a => samePacket a.opcode a.pkt w.opcode w.pkt) with
    | some a => .follow a.seq
    | none =>
      if s.cmd.records.any (fun r => r.src == w.src && r.pkt.tag == w.pkt.tag)
          || running.any (fun a => a.pkt.tag == w.pkt.tag) then .conflict
      else .new

/-- The packet is forwarded (R440): REMOTE, another device, and not from the fabric. -/
def State.forwards (s : State) (x : CmdIn) : Bool := x.pkt.remote && x.pkt.device != s.self && !x.src.isFabric

/-- Where a packet arrived, as its origin. -/
def Source.origin : Source → Origin
  | .ring r => .ring r
  | .mctp e => .endpoint e
  | .fabric _ o => o

/-- A packet goes out over fabric class 1 with the next counter (R564). DEDUCED, log 31, 117. -/
def State.sendForward (s : State) (w : Waiter) (start : Nat) : State :=
  let n := s.sec.fwdCount + 1
  { s with sec := { s.sec with fwdCount := n } }.emit
    (.forward w.pkt.device w.src.origin w.opcode w.pkt (start * 2 ^ 32 + n % 2 ^ 32) s.now)

/-- A packet is forwarded to its device; before the first time lock it is held where the start number is
not known (R564). -/
def State.forward (s : State) (sp : OpSpec) (w : Waiter) : State :=
  match reservedCheck sp w.pkt with
  | some r => s.complete w r
  | none =>
    if 6144 ≤ w.pkt.device then s.complete w (targetInvalid 10)
    else
      let f : Forwarded := { dev := w.pkt.device, cmd := w, sentAt := s.now, receipt := false, held := s.sec.startNumber.isNone }
      let s := { s with cmd := { s.cmd with forwarded := s.cmd.forwarded ++ [f] } }
      match s.sec.startNumber with
      | some n => s.sendForward w n
      | none => s

/-! ## A command packet -/

/-- The command is accepted when its turn has come, and otherwise waits. -/
def State.consider (s : State) (sp : OpSpec) (own : Waiter → CmdIn → State → Own) (w : Waiter) (x : CmdIn) : State :=
  if s.ready w then s.accept sp own w x
  else { s with cmd := { s.cmd with waiting := s.cmd.waiting ++ [{ opcode := w.opcode, cmd := x, seq := w.seq }] } }

/-- The executing device's receipt for a forwarded packet (R441). -/
def State.receipt (s : State) (x : CmdIn) : State :=
  match x.src with
  | .fabric dev (.ring r) => s.emit (.receipt dev (.ring r) x.pkt.tag)
  | .fabric dev (.endpoint e) => s.emit (.receipt dev (.endpoint e) x.pkt.tag)
  | _ => s

/-- A command packet whose opcode Table 15-3 lists (R438 to R452). A ring's packet that was not fetched
is no packet of the ring, and nothing happens. -/
def runCommand (sp : OpSpec) (own : Waiter → CmdIn → State → Own) (x : CmdIn) (s : State) : State :=
  match s.take sp.opcode x with
  | none => s
  | some (w, s) =>
    if s.forwards x then s.forward sp w
    else
      let s := s.receipt x
      if x.pkt.retry then
        match s.retryOf w with
        | .answered r => s.answer w r
        | .follow seq => { s with cmd := { s.cmd with followers := s.cmd.followers ++ [(seq, w)] } }
        | .conflict => s.answer w { status := 0x0105, r0 := 4 }
        | .new => s.consider sp own w x
      else s.consider sp own w x

end Sys2Proof.Machine
end

