-- ==== Sys2Proof/Machine/Memory.lean ====
section
/-! DEFINITION. Operations on pools, chains and banks: R277 to R306. -/

namespace Sys2Proof.Machine

/-! ## Banks of a die -/

/-- Banks of a die (R277). -/
def dieBanks (die : Nat) : Nat := if die < 4 then 384 else 256
/-- Bank groups of a die. -/
def dieGroups (die : Nat) : Nat := if die < 4 then 24 else 16
/-- Key of a bank. -/
def bankKey (die b : Nat) : Nat := die * 512 + b

/-- Bank `b` of a die. -/
def State.bank (s : State) (die b : Nat) : Bank := s.mem.banks.get {} (bankKey die b)

/-- Bank `b` of a die replaced. -/
def State.setBank (s : State) (die b : Nat) (v : Bank) : State :=
  { s with mem := { s.mem with banks := s.mem.banks.set {} (bankKey die b) v } }

/-- Bank of a byte address within a die (R277). -/
def bankOfAddr (a : Nat) : Nat := 16 * (a / 2 ^ 22) + (a / 64) % 16

/-- The content of a bank becomes zeros. -/
def State.clearBank (s : State) (die b : Nat) : State :=
  { s with mem := { s.mem with sram := s.mem.sram.filter (fun p => p.1 / 2 ^ 27 != die || bankOfAddr (p.1 % 2 ^ 27) != b),
                               poisoned := s.mem.poisoned.filter (fun p => p.1 != bankKey die b) } }

/-- A valid owner ID (Table 10-1). -/
def ownerOk (o : Nat) : Bool :=
  decide (o ≤ 8)
  || (decide (0x400 ≤ o) && decide (o < 0x800) && decide (bits o 0 5 < classCount (bits o 5 3)))
  || (decide (0x800 ≤ o) && decide (o < 0x840))
  || (decide (0xC00 ≤ o) && decide (o < 0xC10))

/-- The banks of groups of a die given to the pool manager and turned on, or given up (R284). -/
def State.poolBanks (s : State) (die : Nat) (groups : List Nat) (take : Bool) : State :=
  (groups.map (fun g => (List.range 16).map (fun i => 16 * g + i))).flatten.foldl (fun s b =>
    let k := s.bank die b
    if k.retired then s
    else if take then
      (if k.state = 0 then s.clearBank die b else s).setBank die b { k with owner := 2, pending := none, prev := 0, state := 2, next := none }
    else s.setBank die b { k with owner := 0 }) s

/-! ## Pools -/

/-- Pool `p`, unconfigured when not listed. -/
def State.pool (s : State) (p : Nat) : Pool := s.mem.pools.get {} p

/-- Pool `p` replaced. -/
def State.setPool (s : State) (p : Nat) (v : Pool) : State := { s with mem := { s.mem with pools := s.mem.pools.set {} p v } }

/-- Bytes of a cell (R296). -/
def Pool.cellSize (p : Pool) : Nat := if p.kind = 2 then 128 else 512

/-- The reference of a chain: CELL in [31:0], POOL in [37:32] (R298). -/
def cellRef (pool cell : Nat) : Nat := pool * 2 ^ 32 + cell
def refPool (r : Nat) : Nat := bits r 32 6
def refCell (r : Nat) : Nat := bits r 0 32

/-- Chains of a pool. -/
def State.chainsOf (s : State) (p : Nat) : List (Nat × Chain) := s.mem.chains.filter (fun c => refPool c.1 == p)

/-- Allocated cells of a pool. -/
def State.usedCells (s : State) (p : Nat) : List Nat := ((s.chainsOf p).map (fun c => c.2.cells)).flatten

/-- Allocated cells below the capacity in force for admission (R303). -/
def State.usedBelow (s : State) (p : Nat) : Nat := ((s.usedCells p).filter (· < (s.pool p).target)).length

/-- F: cells neither allocated nor reserved (R300). -/
def State.freeCount (s : State) (p : Nat) : Nat := (s.pool p).target - s.usedBelow p - (s.pool p).resv

/-- Cells of a threshold (R301). -/
def thresholdCells (cells permille : Nat) : Nat := cells * permille / 1000

/-- A level after a change of F (R301): it sets below its threshold and clears 10 per-mille above it. -/
def levelNext (cells permille free : Nat) (was : Bool) : Bool :=
  let t := thresholdCells cells permille
  if free < t then true
  else if decide (t < free) && decide (t + thresholdCells cells 10 ≤ free) then false
  else was

/-- Groups of an SRAM pool that are not lost. -/
def Pool.liveGroups (q : Pool) : List Nat := ((List.range q.groups).map (q.group + ·)).filter (fun g => !q.lost.contains g)

/-- A shrink ends once every cell beyond the new capacity has left (R303): an SRAM pool gives its last
groups up, and an empty pool is unconfigured. -/
def State.endShrink (s : State) (p : Nat) : State :=
  let q := s.pool p
  if q.target < q.cells && (s.usedCells p).all (· < q.target) then
    let kept := q.liveGroups.take (q.target / 32768)
    let s := if q.kind = 2 then s.poolBanks q.die (q.liveGroups.drop (q.target / 32768)) false else s
    if q.target = 0 then s.setPool p { q with kind := 0, die := 0, group := 0, groups := 0, lost := [], cells := 0 }
    else s.setPool p { q with cells := q.target, groups := if q.kind = 2 then maxNat (kept.map (· + 1)) - q.group else 0 }
  else s

/-- The levels of a pool follow F, under thresholds that take effect now (R301, R302). -/
def State.levels (s : State) (p : Nat) : State :=
  let q := s.pool p
  let q : Pool := match q.nextThr with
    | some (w, b, c) => { q with warn := w, bp := b, crit := c, nextThr := none }
    | none => q
  let f := s.freeCount p
  let warn := levelNext q.target q.warn f q.lvlWarn
  let crit := levelNext q.target q.crit f q.lvlCrit
  let s' := s.setPool p { q with lvlWarn := warn, lvlBp := levelNext q.target q.bp f q.lvlBp, lvlCrit := crit }
  let s' := if warn && !q.lvlWarn then s'.raise evPoolWarn 4 (leBytes 1 p) else s'
  if crit && !q.lvlCrit then s'.raise evPoolCritical 4 (leBytes 1 p) else s'

/-- What follows an allocation or a free in a pool, or a change of its capacity. -/
def State.poolChanged (s : State) (p : Nat) : State := (s.endShrink p).levels p

/-- A register of pool block j. -/
def poolReg (j off : Nat) : Nat := 0x00200100 + 0x40 * j + off

/-! ## Chains -/

/-- The chain a reference names. -/
def State.chain (s : State) (r : Nat) : Option Chain := s.mem.chains.find r

/-- The first `n` cells of lo … hi − 1 that are not used. -/
def freeCells (used : List Nat) : Nat → Nat → Nat → List Nat
  | 0, _, _ => []
  | hi + 1, lo, n =>
    if n = 0 then [] else if used.contains lo then freeCells used hi (lo + 1) n else lo :: freeCells used hi (lo + 1) (n - 1)

/-- An allocation that is not drawn from a reservation may succeed (R301): the critical level is clear, or
the owner is the management firmware or the pool manager. -/
def Pool.grants (p : Pool) (owner : Nat) : Bool := !p.lvlCrit || owner == 1 || owner == 2

/-- A chain of `len` bytes in pool `p`: its cells are the lowest free ones, its count is 1 (R297, R299).
None where the pool has not that many free cells or its level makes the allocation wait. -/
def State.allocate (s : State) (p owner len : Nat) (reserved : Bool) : Option (Nat × State) :=
  let q := s.pool p
  let need := max 1 (ceilDiv len q.cellSize)
  let have' := if reserved then q.resv else s.freeCount p
  if q.kind = 0 || have' < need || !(reserved || q.grants owner) then none
  else
    let cells := freeCells (s.usedCells p) q.target 0 need
    match cells with
    | [] => none
    | c :: _ =>
      let ch : Chain := { owner := owner, cells := cells, length := len, refs := 1, time := s.now, bytes := [] }
      let s := { s with mem := { s.mem with chains := s.mem.chains.put (cellRef p c) ch } }
      let s := if reserved then s.setPool p { s.pool p with resv := (s.pool p).resv - need } else s
      some (cellRef p c, (s.bump64 (poolReg p 0x20) 1).poolChanged p)

/-- A chain and its cells are freed. -/
def State.freeChain (s : State) (r : Nat) : State :=
  { s with mem := { s.mem with chains := s.mem.chains.del r } }.poolChanged (refPool r)

/-- A reference is added (R299): refused at 255; answers whether it was taken. -/
def State.addRef (s : State) (r : Nat) : Bool × State :=
  match s.chain r with
  | some c =>
    if c.refs = 255 then (false, s.bump (poolReg (refPool r) 0x2C) 1)
    else (true, { s with mem := { s.mem with chains := s.mem.chains.put r { c with refs := c.refs + 1 } } })
  | none => (false, s.bump (poolReg (refPool r) 0x28) 1 |>.raise evPoolPointer 4 (leBytes 1 (refPool r)))

/-- A reference is dropped (R299): the chain is freed at 0; a decrement of a freed chain is refused. -/
def State.dropRef (s : State) (r : Nat) : State :=
  match s.chain r with
  | some c =>
    if c.refs ≤ 1 then s.freeChain r
    else { s with mem := { s.mem with chains := s.mem.chains.put r { c with refs := c.refs - 1 } } }
  | none => s.raise evPoolUnderflow 4 (leBytes 1 (refPool r))

/-- A cell reference that names a chain head passes R298 for `owner`. -/
def State.refOk (s : State) (r owner : Nat) : Bool :=
  bits r 38 26 == 0 && (s.pool (refPool r)).kind != 0 && decide (refCell r < (s.pool (refPool r)).cells)
  && (match s.chain r with
      | some c => c.owner == owner || owner == 1
      | none => false)

/-- A reference that fails R298: counted and raised. -/
def State.badRef (s : State) (r : Nat) : State :=
  (s.bump (poolReg (refPool r) 0x28) 1).raise evPoolPointer 4 (leBytes 1 (refPool r))

/-- Bytes of a chain. -/
def Chain.read (c : Chain) (off n : Nat) : Bytes := readMem c.bytes off n

/-- Bytes written into a chain. -/
def State.writeChain (s : State) (r off : Nat) (data : Bytes) : State :=
  match s.chain r with
  | some c => { s with mem := { s.mem with chains := s.mem.chains.put r { c with bytes := writeMem c.bytes off data } } }
  | none => s

/-! ## Reservations (R300) -/

/-- The pool grants a reservation of `n` cells. -/
def State.grantsResv (s : State) (p n : Nat) : Bool :=
  let q := s.pool p
  q.kind != 0 && ((decide (n ≤ s.freeCount p) && !q.lvlBp) || q.holders == 0)

/-- A reservation of `n` cells is taken. -/
def State.takeResv (s : State) (p n : Nat) : State :=
  let q := s.pool p
  (s.setPool p { q with resv := q.resv + n, holders := q.holders + 1 }).poolChanged p

/-- A sample's work in the pool ends: what is left of its reservation returns to F. -/
def State.returnResv (s : State) (p n : Nat) : State :=
  let q := s.pool p
  (s.setPool p { q with resv := q.resv - n, holders := q.holders - 1 }).poolChanged p

/-! ## Leak audit (R304 to R306) -/

/-- Outstanding cells per (owner, pool), with the age of the oldest chain, ascending. -/
def State.auditRecords (s : State) : List (Nat × Nat × Nat × Nat) :=
  let keys := sortNat (s.mem.chains.map (fun c => c.2.owner * 64 + refPool c.1))
  keys.map (fun k =>
    let cs := s.mem.chains.filter (fun c => c.2.owner * 64 + refPool c.1 == k)
    (k / 64, k % 64, sumNat (cs.map (fun c => c.2.cells.length)), maxNat (cs.map (fun c => s.now - c.2.time))))

/-- The 16 bytes of an audit result record. -/
def leakRecordBytes (r : Nat × Nat × Nat × Nat) : Bytes :=
  leBytes 2 r.1 ++ leBytes 1 r.2.1 ++ zeros 1 ++ leBytes 4 r.2.2.1 ++ leBytes 8 r.2.2.2

/-- A chain whose cells are in breach of R306: at start-up one of any owner but the firmware, the pool manager and
Bramble; after a recovery one of a job slot that no job holds; in every audit one of a job that the device has left
(R456). DEDUCED, log 75. -/
def State.leaks (s : State) (kind : Nat) (c : Chain) : Bool :=
  c.left || (if kind = 1 then c.owner != 1 && c.owner != 2 && c.owner != 3
    else kind == 2 && decide (0xC00 ≤ c.owner) && decide (c.owner < 0xC10) && !s.jobs.has (c.owner - 0xC00))

/-- The chains of owner `o` that are in breach are freed. -/
def State.freeOwner (s : State) (kind o : Nat) : State :=
  (s.mem.chains.filter (fun c => c.2.owner == o && s.leaks kind c.2)).foldl (fun s c => s.freeChain c.1) s

/-- An audit is asked for: it ends at LEAK_AUDIT_COMPLETE. DEDUCED, log 75. -/
def State.startAudit (s : State) (kind : Nat) (cmd : Option Waiter) (r : Result) : State :=
  { s with mem := { s.mem with audits := s.mem.audits ++ [{ cmd := cmd, kind := kind, result := r }] } }

/-! ## Handovers and power states -/

/-- The SRAM pool that holds a bank, if any (R296). -/
def State.bankPool (s : State) (die b : Nat) : Option Nat :=
  (List.range 64).find? (fun p =>
    let q := s.pool p
    q.kind == 2 && q.die == die && decide (q.group ≤ b / 16) && decide (b / 16 < q.group + q.groups) && !q.lost.contains (b / 16))

/-- A handover may begin (R283, R284). -/
def State.handoverOk (s : State) (die b owner : Nat) : Bool :=
  ownerOk owner && (s.bankPool die b).isNone && (s.bank die b).pending.isNone && !(s.bank die b).retired

/-- A handover begins (R282 step 1). -/
def State.beginHandover (s : State) (die b owner : Nat) (zero : Bool) : State :=
  let k := s.bank die b
  s.setBank die b { k with pending := some (owner, zero), prev := k.owner }

/-- The handover ends (R282 steps 3 and 4). -/
def State.endHandover (s : State) (die b : Nat) : State :=
  let k := s.bank die b
  match k.pending with
  | some (o, z) => (if z then s.clearBank die b else s).setBank die b { k with owner := o, pending := none, prev := 0 }
  | none => s

/-- A change of a bank's power state is allowed (R285, R287). -/
def State.bankMoveOk (s : State) (die b st : Nat) : Bool :=
  let k := s.bank die b
  !(k.state == 0 && st == 1) && !k.retired
  && !(st == 0 && ((s.bankPool die b).isSome || k.owner == 1 || k.owner == 2 || k.owner == 3))

/-- A change of a bank's power state begins; it is deferred while a handover is pending or a region is under test. -/
def State.beginBankMove (s : State) (die b st : Nat) : State :=
  let k := s.bank die b
  s.setBank die b { k with next := if st = k.state then none else some st }

/-- The transition ends (Table 10-2): a bank that turns OFF loses its content, and one that leaves OFF is zeroed. -/
def State.endBankMove (s : State) (die b : Nat) : State :=
  let k := s.bank die b
  match k.next with
  | some st =>
    if k.pending.isSome || k.test then s
    else (if st = 0 || k.state = 0 then s.clearBank die b else s).setBank die b { k with state := st, next := none }
  | none => s

end Sys2Proof.Machine
end

