-- ==== Sys2Proof/Machine/Settings.lean ====
section
/-! DEFINITION. The settings image (R504 to R507), reading namespaces (R385, R398), and data that a
packet names in host memory or a namespace (R442, R461). -/

namespace Sys2Proof.Machine

/-- A field of the settings image in force. -/
def State.setting (s : State) (off n : Nat) : Nat := leNat (readMem s.set off n)

/-- A field of the settings image as it stood at the last start. -/
def State.runSetting (s : State) (off n : Nat) : Nat := leNat (readMem s.run off n)

/-- The copy that holds the newest valid image: true for copy A (R505). -/
def UpdBlock.newestA (u : UpdBlock) : Bool := u.setA.valid && (!u.setB.valid || decide (u.setB.seq < u.setA.seq))

/-- A command changes settings (R506): a new image with SEQ + 1 goes into the older copy, and a verified
staged settings image is verified no longer (R513). -/
def State.changeSettings (s : State) (f : CMap Byte → CMap Byte) : State :=
  let body := f s.set
  let seq := s.upd.setSeq + 1
  let c : SetCopy := { valid := true, seq := seq, body := body }
  let u := { s.upd with setSeq := seq, set := { s.upd.set with verified := false } }
  { s with set := body, upd := if u.newestA then { u with setB := c } else { u with setA := c } }

/-- A command writes a field of the settings image. -/
def State.writeSetting (s : State) (off : Nat) (data : Bytes) : State := s.changeSettings (fun m => writeMem m off data)

/-! ## Namespaces -/

/-- A namespace. -/
def State.space (s : State) (nsid : Nat) : Option Namespace := s.med.spaces.find nsid

/-- The bytes lie in the namespace and every codeword that covers them can be read (R398). -/
def Namespace.readable (n : Namespace) (off len : Nat) : Bool :=
  len == 0 || (decide (off + len ≤ n.capacity) && n.bad.all (fun c => !(decide (off / 4096 ≤ c) && decide (c ≤ (off + len - 1) / 4096))))

/-- Bytes of a namespace; none where the read is uncorrectable or lies outside. -/
def State.nsRead (s : State) (nsid off len : Nat) : Option Bytes :=
  match s.space nsid with
  | some n => if n.readable off len then some (readMem n.bytes off len) else none
  | none => none

/-- Bytes of a map unit (Table 13-1). -/
def Namespace.unit (n : Namespace) : Nat := if n.kind = 0 then 4096 else 65536

/-- Map units that bytes cover. -/
def Namespace.unitsOf (n : Namespace) (off len : Nat) : List Nat :=
  if len = 0 then [] else (List.range ((off + len - 1) / n.unit + 1 - off / n.unit)).map (off / n.unit + ·)

/-- The write needs units that hold no capacity yet (R403). -/
def Namespace.needsNew (n : Namespace) (off len : Nat) : Bool := (n.unitsOf off len).any (fun u => !n.units.contains u)

/-- Bytes written to a namespace: their units are mapped, and the codewords they cover whole can be read again. -/
def Namespace.write (n : Namespace) (off : Nat) (data : Bytes) : Namespace :=
  { n with bytes := writeMem n.bytes off data, units := (n.unitsOf off data.length).foldl (fun us u => insertNat u us) n.units,
           bad := n.bad.filter (fun c => !(decide (off ≤ 4096 * c) && decide (4096 * (c + 1) ≤ off + data.length))) }

/-- Bytes written to a namespace. -/
def State.nsWrite (s : State) (nsid off : Nat) (data : Bytes) : State :=
  match s.space nsid with
  | some n => { s with med := { s.med with spaces := s.med.spaces.put nsid (n.write off data) } }
  | none => s

/-! ## Data a packet names -/

/-- `n` bytes of what the command brought from memory; what it did not bring reads 0. -/
def CmdIn.bytes (x : CmdIn) (n : Nat) : Bytes := (x.dma ++ zeros (n - x.dma.length)).take n

/-- The data at SRC and ADDR (R442, R461): a refusal, or the bytes. -/
def State.sourceBytes (s : State) (x : CmdIn) (srcOff nsidOff addrOff len : Nat) : Result ⊕ Bytes :=
  let p := x.pkt
  if 1 < p.f srcOff 1 then .inl (paramInvalid srcOff)
  else if p.f srcOff 1 = 0 then
    match hostAddress x addrOff with
    | some r => .inl r
    | none => .inr (x.bytes len)
  else match s.space (p.f nsidOff 2) with
    | none => .inl (paramInvalid nsidOff)
    | some n =>
      if n.capacity < p.f addrOff 8 + len then .inl (paramInvalid addrOff)
      else match s.nsRead (p.f nsidOff 2) (p.f addrOff 8) len with
        | none => .inl { status := 0x0503 }
        | some b => .inr b

/-- The bytes at a host address, or those of UPD_WINDOW (Table 19-2, R511). -/
def State.windowBytes (s : State) (x : CmdIn) (window : Bool) (addrOff len : Nat) : Result ⊕ Bytes :=
  if window then
    if x.pkt.f addrOff 8 != 0 then .inl (paramInvalid addrOff) else .inr (readMem s.upd.window 0 len)
  else match hostAddress x addrOff with
    | some r => .inl r
    | none => .inr (x.bytes len)

end Sys2Proof.Machine
end

