-- ==== Sys2Proof/Machine/Jobs.lean ====
section
/-! DEFINITION. Operations on jobs and plans: which recipe governs an epoch (R110), the plan's phases
(R84 to R91), stops (R40, R122), delivery indices (R313, R316), cursors (R335), leaving a job. -/

namespace Sys2Proof.Machine

/-- JOB_UNKNOWN. -/
def jobUnknown : Result := { status := 0x0303 }

/-- Job slot `j` replaced. -/
def State.setJob (s : State) (j : Nat) (v : Job) : State := { s with jobs := s.jobs.put j v }

/-! ## Recipes of a job -/

/-- The recipe slot that governs an epoch: the latest binding from an epoch at or below it (R110). -/
def Job.recipeSlot (j : Job) (epoch : Nat) : Option Nat :=
  (j.bindings.filter (fun b => b.1 ≤ epoch)).foldl (fun (acc : Option (Nat × Nat)) b =>
    match acc with
    | some a => if a.1 ≤ b.1 then some b else some a
    | none => some b) none |>.map (·.2)

/-- The recipe that governs an epoch of a job. -/
def State.recipeFor (s : State) (j : Job) (epoch : Nat) : Option Recipe :=
  match j.recipeSlot epoch with
  | some k => (s.recipes.find k).map (fun h => parseRecipe h.image)
  | none => none

/-- Image of the recipe that governs an epoch. -/
def State.recipeImage (s : State) (j : Job) (epoch : Nat) : Option HeldRecipe :=
  match j.recipeSlot epoch with
  | some k => s.recipes.find k
  | none => none

/-- The recipe is bound to the job: for its delivering epoch or a later one (R112). -/
def Job.binds (j : Job) (slot : Nat) : Bool :=
  j.recipeSlot j.epoch == some slot || j.bindings.any (fun b => b.2 == slot && decide (j.epoch < b.1))

/-- Images of a kind: 0 model, 1 vocabulary, 2 grammar. -/
def State.images (s : State) (kind : Nat) : CMap HeldImage :=
  match kind with
  | 0 => s.models
  | 1 => s.vocabs
  | _ => s.grammars

/-- What a recipe load or a running job is checked against. -/
def State.loadEnv (s : State) (sigOk : Bool) (catalog : Option Bytes) : LoadEnv :=
  let imgs : Nat → CMap HeldImage → List (Nat × Bytes × Bytes) := fun k m =>
    m.map (fun h => (k, h.2.digest.take 24, h.2.image))
  { dl := s.sys.dl, sigOk := sigOk, held := imgs 0 s.models ++ imgs 1 s.vocabs ++ imgs 2 s.grammars, catalog := catalog,
    pools := tabulate 64 (fun p => ((s.pool p).kind, (s.pool p).target * (s.pool p).cellSize)),
    services := s.net.services.keys }

/-- The catalog header of a job's catalog. -/
def State.catalogOf (s : State) (j : Job) : Option Bytes := s.nsRead j.nsid j.catOffset 4096

/-! ## Shares -/

/-- D of R83. -/
def Job.planRanks (j : Job) : Nat := j.devices.length

/-- Plan rank of a device. -/
def Job.rankOfDev (j : Job) (dev : Nat) : Nat := (j.devices.filter (· < dev)).length

/-- Device that acts for a device of the job: its partner after a takeover (R91, R92). -/
def Job.actor (j : Job) (dev : Nat) : Nat :=
  match j.acting.find? (fun a => a.1 == dev) with
  | some a => a.2
  | none => dev

/-- Device of the shard map that serves an ordinal (R83). -/
def Job.shardOf (j : Job) (ord : Nat) : Nat :=
  (j.shards.foldl (fun (acc : Nat) r => if r.1 ≤ ord then r.2 else acc) 0)

/-- This device serves the ordinal: its own share and those it took over. -/
def State.serves (s : State) (j : Job) (ord : Nat) : Bool := j.shardOf ord == s.self || j.taken.contains (j.shardOf ord)

/-- Ordinals of the ranges that this device serves, over N ordinals, as (first, end). -/
def State.servedRanges (s : State) (j : Job) (n : Nat) : List (Nat × Nat) :=
  (j.shards.zipIdx.filter (fun r => r.1.2 == s.self || j.taken.contains r.1.2)).map (fun r =>
    (r.1.1, match j.shards[r.2 + 1]? with | some nx => nx.1 | none => n))

/-- Plan ranks this device acts for. -/
def State.ownRanks (s : State) (j : Job) : List Nat := sortNat ((s.self :: j.taken).map j.rankOfDev)

/-! ## Plans -/

/-- The plan of an epoch. -/
def Job.plan (j : Job) (epoch : Nat) : Option EpochPlan := j.plans.find? (fun p => p.epoch == epoch)

/-- The plan of its epoch replaced, or added. -/
def Job.setPlan (j : Job) (p : EpochPlan) : Job :=
  if j.plans.any (fun q => q.epoch == p.epoch) then
    { j with plans := j.plans.map (fun q => if q.epoch = p.epoch then p else q) }
  else { j with plans := j.plans ++ [p] }

/-- A plan with nothing received (state code 0). -/
def EpochPlan.blank (epoch : Nat) : EpochPlan :=
  { epoch := epoch, phase := 0, recipe := 0, digest := [], ranks := [], scanned := [], counts := [], assigned := [],
    steps := [], markers := [], records := [], waiters := [], chain := none, admitted := [],
    reissue := [] }

/-- Every member message of a job goes to the devices that act for its other plan ranks over class 2. -/
def State.toRanks (s : State) (j : Job) (kind : String) (words : List Nat) (data : Bytes) : State :=
  s.emitAll (((sortNat (j.devices.map j.actor)).filter (· != s.self)).map (fun d => .fabric 2 d kind words data))

/-- Commands complete with one result. -/
def State.finishAll (s : State) (ws : List Waiter) (r : Result) : State := ws.foldl (fun s w => s.finish w r) s

/-- A plan's records leave Bramble's pool (R88, R89). -/
def State.releasePlan (s : State) (p : EpochPlan) : State :=
  match p.chain with
  | some c => if (s.chain c).isSome then s.freeChain c else s
  | none => s

/-- The plan is abandoned with a status (R86, R91): EPOCH_PLAN_ABORTED is raised for a lost device. -/
def State.abandonPlan (s : State) (slot : Nat) (p : EpochPlan) (r : Result) (lost : Option Nat) : State :=
  match s.jobs.find slot with
  | some j =>
    let s := s.releasePlan p
    let s := s.setJob slot (j.setPlan { EpochPlan.blank p.epoch with phase := 7 })
    let s := match lost with
      | some d => s.raise evPlanAborted 4 (leBytes 2 j.id ++ leBytes 3 p.epoch ++ leBytes 2 d)
      | none => s
    s.finishAll p.waiters r
  | none => s

/-- A plan is in progress: state codes 1 to 5. -/
def EpochPlan.building (p : EpochPlan) : Bool := decide (1 ≤ p.phase) && decide (p.phase ≤ 5)

/-- A device of the job counts as lost (R91): every plan in progress is abandoned; `tell` sends the abort
message to every plan rank. -/
def State.loseDevice (s : State) (slot lost : Nat) (tell : Bool) : State :=
  match s.jobs.find slot with
  | some j =>
    (j.plans.filter (·.building)).foldl (fun s p =>
      let s := if tell then s.toRanks j "abort" [j.rankOfDev s.self, j.id, p.epoch, lost] [] else s
      s.abandonPlan slot p { status := 0x0605 } (some lost)) s
  | none => s

/-- Shape of the plan of an epoch under the recipe that governs it. -/
def State.planShape (s : State) (j : Job) (epoch : Nat) : PlanShape :=
  match s.recipeFor j epoch with
  | some r => r.shape
  | none => { map := [], batch := [], reserve := [], shortTail := false }

/-- Step count of an epoch, once its totals are known (R77). -/
def State.epochSteps (s : State) (j : Job) (epoch : Nat) : Option Nat :=
  match j.plan epoch with
  | some p => if p.phase = 6 || p.phase = 8 then some (stepCount (s.planShape j epoch) p.totals) else none
  | none => none

/-! ## Stops (R40, R122) -/

/-- The job stops at a step: it delivers no slot of it or of a later step until it is resumed. -/
def State.stopJob (s : State) (slot epoch step : Nat) : State :=
  match s.jobs.find slot with
  | some j => s.setJob slot { j with stops := if j.stops.contains (epoch, step) then j.stops else j.stops ++ [(epoch, step)] }
  | none => s

/-- Delivery of (epoch, step) is held by a stop at or before it. -/
def Job.stopped (j : Job) (epoch step : Nat) : Bool :=
  j.stops.any (fun t => decide (t.1 < epoch) || (t.1 == epoch && decide (t.2 ≤ step)))

/-! ## Delivery (R311 to R316) -/

/-- Delivery geometry of a recipe (R316). -/
def geometry (d : Delivery) : List Nat := [d.ranks, d.dests, d.depth, d.perRank, d.stride]

/-- Delivery section of the recipe of an epoch. -/
def State.deliveryOf (s : State) (j : Job) (epoch : Nat) : Option Delivery := (s.recipeFor j epoch).map (·.delivery)

/-- The ring geometry changes from one epoch to the next (R316). -/
def State.geometryMoves (s : State) (j : Job) (epoch : Nat) : Bool :=
  (s.deliveryOf j epoch).map geometry != (s.deliveryOf j (epoch + 1)).map geometry

/-- Delivery index of (epoch, step), for the delivering epoch and the next (R313). -/
def State.indexAt (s : State) (j : Job) (epoch step : Nat) : Option Int :=
  if epoch = j.epoch then some (j.base + step)
  else if epoch = j.epoch + 1 then (s.epochSteps j j.epoch).map (fun n => j.base + n + step)
  else none

/-- g0 for an epoch (R313, R316). -/
def State.ringOrigin (s : State) (j : Job) (epoch : Nat) : Int :=
  if epoch = j.epoch then j.g0
  else if s.geometryMoves j j.epoch then (s.indexAt j epoch 0).getD 0 else j.g0

/-! ## The cursor (R333, R335) -/

/-- A copy to a destination is no longer wanted: its completion word is acknowledged, the slot is
cancelled (R323), or the step lies below the destination's C (R324). -/
def Job.copyDone (j : Job) (index slot : Nat) (b : Nat × Nat) : Bool :=
  j.copies.any (fun c => c.index == index && c.slot == slot && c.rank == b.1 && c.dest == b.2 && c.phase == 3)
  || j.cancelled.contains (index, slot)
  || j.dests.any (fun d => d.rank == b.1 && d.dest == b.2 && (match d.c with | some c => decide (index < c) | none => false))

/-- Rank of a slot under a delivery section (R81). -/
def slotRank (r : Recipe) (bucket slot : Nat) : Nat := (rankOf (r.desc bucket).batch r.delivery.ranks slot).1

/-- A slot held for delivery has been delivered to every destination of its rank. -/
def State.slotDone (s : State) (j : Job) (r : ReadySlot) : Bool :=
  match s.recipeFor j r.epoch with
  | some rc => (List.range rc.delivery.dests).all (fun d => j.copyDone r.index r.slot (slotRank rc r.bucket r.slot, d))
  | none => true

/-- A record's member is done: its verdict is in, every slot held for its step is delivered, and the
coordinator has settled the batch of a member 0. -/
def State.recordDone (s : State) (j : Job) (epoch : Nat) (r : PlanRec) : Bool :=
  j.resolved.contains (epoch, r.step, r.member)
  && (r.member != 0 || j.settled.contains (epoch, r.step))
  && (j.ready.filter (fun x => x.epoch == epoch && x.step == r.step)).all (s.slotDone j)

/-- What is kept of a job's slots once the cursor stands at (epoch, step). -/
def Job.trim (j : Job) (epoch step : Nat) : Job :=
  let keep := fun (e t : Nat) => decide (epoch < e) || (e == epoch && decide (step ≤ t))
  let low : Int := j.base + step
  { j with ready := j.ready.filter (fun r => keep r.epoch r.step),
           copies := j.copies.filter (fun c => decide (low ≤ (c.index : Int)) || c.phase == 1 || c.phase == 2),
           cancelled := j.cancelled.filter (fun c => decide (low ≤ (c.1 : Int))),
           resolved := j.resolved.filter (fun t => keep t.1 t.2.1), settled := j.settled.filter (fun t => keep t.1 t.2),
           verdicts := j.verdicts.filter (fun v => keep v.epoch v.step) }

/-- Lowest of a list, none when it is empty. -/
def minOf : List Nat → Option Nat
  | [] => none
  | x :: xs => some (xs.foldl min x)

/-- The parameter records of epochs below the delivering one leave the store. -/
def State.dropParams (s : State) (slot : Nat) : State :=
  match s.jobs.find slot with
  | some j =>
    let old := j.params.filter (fun r => r.epoch < j.epoch)
    let s := s.setJob slot { j with params := j.params.filter (fun r => j.epoch ≤ r.epoch) }
    old.foldl (fun s r => if (s.chain r.chain).isSome then s.freeChain r.chain else s) s
  | none => s

/-- The cursor moves past every step whose part of this device is delivered; past the last step of an
epoch it names step 0 of the next (R335): the plan is released (R89) and the ring origin moves where
the geometry changes (R316). `fuel` bounds the epochs passed. -/
def State.advanceCursor (slot : Nat) : Nat → State → State
  | 0, s => s
  | fuel + 1, s =>
    match s.jobs.find slot with
    | none => s
    | some j =>
      match j.plan j.epoch, s.epochSteps j j.epoch with
      | some p, some total =>
        if p.phase = 8 then s else
        let open' := (p.records.filter (fun r => j.step ≤ r.step && !s.recordDone j j.epoch r)).map (·.step)
        let stops := (j.stops.filter (fun t => t.1 ≤ j.epoch)).map (fun t => if t.1 = j.epoch then max t.2 j.step else j.step)
        match minOf (open' ++ stops) with
        | some m => s.setJob slot ({ j with step := m }.trim j.epoch m)
        | none =>
          let moved := s.geometryMoves j j.epoch
          let base := j.base + total
          let j' := { j with epoch := j.epoch + 1, step := 0, base := base, g0 := if moved then base else j.g0,
                             drops := j.drops.filter (fun e => j.epoch < e.1),
                             empties := j.empties.filter (fun e => j.epoch < e.1), plans := j.plans.filter (fun q => q.epoch != p.epoch) }
          let s := (s.releasePlan p).setJob slot (j'.trim j'.epoch 0)
          State.advanceCursor slot fuel (s.dropParams slot)
      | _, _ => s

/-! ## Leaving a job -/

/-- The commands of a job that wait complete as the job goes: a plan's with EPOCH_PLAN_ABORTED, a
recovery's with RECOVERY_CONFLICT, a table's with JOB_UNKNOWN, a slot cancel's with SUCCESS. -/
def State.releaseWaiters (s : State) (slot : Nat) : State :=
  match s.jobs.find slot with
  | some j =>
    let s := s.finishAll ((j.plans.map (·.waiters)).flatten) { status := 0x0605 }
    let s := match j.recovery with
      | some r => if r.status = 0 then s.finishAll r.waiters { status := 0x0602 } else s
      | none => s
    let s := s.finishAll (j.cancels.map (·.2.2)) success
    s.finishAll ((s.loads.filter (fun l => l.job == slot)).map (·.cmd)) { status := 0x0303 }
  | none => s

/-- The mirroring device's release of its mirror window (R334 step 5). -/
def State.releaseMirror (s : State) (j : Job) : State :=
  match s.rma.partner with
  | some p => s.emit (.fabric 3 p "mirror-release" [j.id, s.self] [])
  | none => s

/-- A mirror setup for a job sent to a partner over class 3 (R334 step 1). -/
def State.setupMirror (s : State) (slot partner : Nat) : State :=
  match s.jobs.find slot with
  | some j =>
    (s.setJob slot { j with mirror := some { state := 0, window := 0, key := 0, seq := 0, missed := 0, sentAt := s.now } }).emit
      (.fabric 3 partner "mirror-setup" [j.id, s.self] [])
  | none => s

/-- A window closes (R330): requests are refused from now on, and it goes at WINDOW_CLOSE_COMPLETE. -/
def State.closeWindow (s : State) (n : Nat) (cmd : Option Waiter) : State :=
  { s with rma := { s.rma with windows := s.rma.windows.upd n (fun v => { v with closing := some cmd }) } }

/-- The mirror window of (job ID, device) closes (R334 step 5). -/
def State.closeMirror (s : State) (jobId dev : Nat) : State :=
  match s.rma.mirrors.find (jobId * 8192 + dev) with
  | some m => ({ s with rma := { s.rma with mirrors := s.rma.mirrors.del (jobId * 8192 + dev) } }).closeWindow m.index none
  | none => s

/-- No RDMA WRITE of the job is outstanding. -/
def Job.quiet (j : Job) : Bool := j.copies.all (fun c => c.phase != 1 && c.phase != 2)

/-- A recovery of a job is interrupted by a fault (R53): abandoned, with an event. -/
def State.abandonRecovery (s : State) (slot : Nat) : State :=
  match s.jobs.find slot with
  | some j =>
    match j.recovery with
    | some r =>
      if r.status = 0 then
        let s := s.setJob slot { j with recovery := some { r with status := 2, waiters := [] } }
        let s := s.raise evRecoveryAbandoned 4 (leBytes 2 j.id ++ leBytes 4 j.gen)
        s.finishAll r.waiters { status := 0x0602 }
      else s
    | none => s
  | none => s

end Sys2Proof.Machine
end

