-- ==== Sys2Proof/Machine/CmdDevice.lean ====
section
/-! DEFINITION. Commands of the device group of Table 15-3: IDENTIFY (R453), NETWORK_SET (R461, R362,
R366), PARTNER_SET (R334), LIVE_SERVICE_SET and LIVE_SERVICE_REMOVE (R163, R167). -/

namespace Sys2Proof.Machine

/-- IDENTIFY: device number, DL and fabric version N. -/
def ownIdentify (_ : Waiter) (_ : CmdIn) (s : State) : Own :=
  .done { status := 0, r0 := s.self, r1 := packFields [(0, 16, s.sys.dl), (16, 16, s.sys.fabricN)] } s

/-- `IDENTIFY` (R453). -/
def execIdentify (x : CmdIn) (s : State) : Host.Outcome State Fault Refusal := .next (runCommand opIdentify ownIdentify x s)

/-! ## NETWORK_SET -/

/-- Ethernet port q. -/
def State.ethPort (s : State) (q : Nat) : EthPort := s.net.eth.getD q {}

/-- Ethernet port q changed. -/
def State.updEth (s : State) (q : Nat) (f : EthPort → EthPort) : State :=
  { s with net := { s.net with eth := updAt s.net.eth q f } }

/-- A queue pair as NETWORK_SET kind 3 connects it (R321, R366), with the settings of its bind (R338). -/
def newQueuePair (p : Packet) (cfg : Nat) : QueuePair :=
  { state := 1, ipVersion := p.f 20 1, dscp := p.f 21 1, port := p.f 17 1, udp := p.f 22 2, addr := p.f 24 16,
    qpn := p.f 40 3, psn := p.f 44 3, cfg := cfg, retries := 0, rate := 800000, lastCut := none,
    lastCnpSent := none, lastCnp := 0 }

/-- The effect of NETWORK_SET on the ports, PTP and queue pairs. -/
def State.networkSet (s : State) (p : Packet) : State :=
  let q := p.f 17 1
  match p.f 16 1 with
  | 0 => s.updEth q (fun e => { e with ipVersion := p.f 18 1, prefixLen := p.f 19 1, vlan := p.f 20 2, addr := p.f 24 16 })
  | 1 => { s with net := { s.net with ptp := p.f 18 2, ptpLocked := false } }
  | 2 => s.updEth q (fun e => { e with mcVersion := p.f 18 1, mcAddr := p.f 24 16 })
  | _ =>
    let cfg := match s.rma.qps.find (p.f 18 2) with | some k => k.cfg | none => 0x2FEA
    { s with rma := { s.rma with qps := s.rma.qps.put (p.f 18 2) (newQueuePair p cfg) } }

/-- The NETWORK field of the settings image after a NETWORK_SET of kind 0 to 2 (R506). DESIGN CHOICE, log 26. -/
def State.networkImage (s : State) (p : Packet) : State :=
  if p.f 16 1 = 3 then s
  else s.writeSetting 0x100 (tabulate 256 (Config.netImage (readMem s.set 0x100 256) (p.f 16 1) (p.f 17 1) p.params.toNat))

/-- An IP version is 4 or 6. -/
def ipVersionOk (v : Nat) : Bool := v == 4 || v == 6

/-- NETWORK_SET (R461): ranges, then the effect of its KIND. DEDUCED, log 88. -/
def ownNetworkSet (_ : Waiter) (x : CmdIn) (s : State) : Own :=
  let p := x.pkt
  let kind := p.f 16 1
  if 7 < p.f 17 1 then .refuse (paramInvalid 17)
  else if (kind == 0 || kind == 2) && !ipVersionOk (p.f 18 1) then .refuse (paramInvalid 18)
  else if kind == 1 && bits (p.f 18 2) 2 2 == 3 then .refuse (paramInvalid 18)
  else if kind == 3 && !ipVersionOk (p.f 20 1) then .refuse (paramInvalid 20)
  else .done success ((s.networkSet p).networkImage p)

/-- `NETWORK_SET` (R461). -/
def execNetworkSet (x : CmdIn) (s : State) : Host.Outcome State Fault Refusal := .next (runCommand opNetworkSet ownNetworkSet x s)

/-! ## PARTNER_SET -/

/-- The partner changes (R334): the old one is told of every job's release, the new one of every job's setup. -/
def State.changePartner (s : State) (p : Option Nat) : State :=
  if s.rma.partner = p then s
  else
    let s := s.jobs.foldl (fun s j => s.releaseMirror j.2) s
    let s := { s with rma := { s.rma with partner := p }, jobs := s.jobs.map (fun j => (j.1, { j.2 with mirror := none })) }
    match p with
    | some d => s.jobs.keys.foldl (fun s k => s.setupMirror k d) s
    | none => s

/-- PARTNER_SET: the partner is no invalid number (R340) and not the device itself. DEDUCED, log 82. -/
def ownPartnerSet (_ : Waiter) (x : CmdIn) (s : State) : Own :=
  let v := x.pkt.f 16 2
  let d := bits v 0 13
  if !bit v 15 then .done success ((s.changePartner none).writeSetting 0x58 (leBytes 2 v))
  else if 6144 ≤ d then .refuse (targetInvalid 16)
  else if d = s.self then .refuse (paramInvalid 16)
  else .done success ((s.changePartner (some d)).writeSetting 0x58 (leBytes 2 v))

/-- `PARTNER_SET` (R334). -/
def execPartnerSet (x : CmdIn) (s : State) : Host.Outcome State Fault Refusal := .next (runCommand opPartnerSet ownPartnerSet x s)

/-! ## Live services -/

/-- A service as the parameters of LIVE_SERVICE_SET give it: joined. -/
def newService (p : Packet) : Service :=
  { port := p.f 18 1, ipv6 := bit (p.f 19 1) 0, specific := bit (p.f 19 1) 1, udp := p.f 20 2, program := p.f 22 2,
    duration := p.f 24 4, group := p.f 28 16, source := p.f 44 16, state := 1, rtp := false, window := [], nextSeq := none,
    counters := [], segment := [], segCount := 0, segStart := none, cutting := false, segs := [] }

/-- The report by which a service joins or leaves its group: IGMPv3 for IPv4, MLDv2 for IPv6 (R163). -/
def Service.report (v : Service) (join : Bool) : Output :=
  .ethernet v.port (if v.ipv6 then "MLDv2" else "IGMPv3") [b2n join, b2n v.specific, v.group, v.source]

/-- A service leaves its group. -/
def State.leaveService (s : State) (n : Nat) : State :=
  match s.net.services.find n with
  | some v => { s with net := { s.net with services := s.net.services.del n } }.emit (v.report false)
  | none => s

/-- LIVE_SERVICE_SET writes a service table entry. -/
def ownLiveServiceSet (_ : Waiter) (x : CmdIn) (s : State) : Own :=
  let p := x.pkt
  let n := p.f 16 2
  if 511 < n then .refuse (paramInvalid 16)
  else if 7 < p.f 18 1 then .refuse (paramInvalid 18)
  else
    let v := newService p
    let s := s.leaveService n
    let s := { s with net := { s.net with services := s.net.services.put n v } }.emit (v.report true)
    .done success (s.writeSetting (0x11000 + 32 * n) (tabulate 32 (Config.serviceImage p.params.toNat)))

/-- `LIVE_SERVICE_SET` (R163). -/
def execLiveServiceSet (x : CmdIn) (s : State) : Host.Outcome State Fault Refusal :=
  .next (runCommand opLiveServiceSet ownLiveServiceSet x s)

/-- A recipe bound to a running job reads the service (R167). -/
def State.serviceInUse (s : State) (n : Nat) : Bool :=
  s.jobs.any (fun j => s.recipes.any (fun r => j.2.binds r.1 && (parseRecipe r.2.image).services.contains n))

/-- LIVE_SERVICE_REMOVE: a service that the table does not hold is no parameter of it. -/
def ownLiveServiceRemove (_ : Waiter) (x : CmdIn) (s : State) : Own :=
  let n := x.pkt.f 16 2
  if 511 < n || !s.net.services.has n then .refuse (paramInvalid 16)
  else if s.serviceInUse n then .refuse { status := 0x030F }
  else .done success ((s.leaveService n).writeSetting (0x11000 + 32 * n) (zeros 32))

/-- `LIVE_SERVICE_REMOVE` (R167). -/
def execLiveServiceRemove (x : CmdIn) (s : State) : Host.Outcome State Fault Refusal :=
  .next (runCommand opLiveServiceRemove ownLiveServiceRemove x s)

end Sys2Proof.Machine
end

