-- ==== Sys2Proof/Machine/Counters.lean ====
section
/-! DEFINITION. Which BAR0 offsets are read-clear counters (access RC of the register tables), by block. -/

namespace Sys2Proof.Machine

/-- RC registers of a BNK block, of a POOL sub-block, of the four tile blocks, by offset in the block. -/
def rcBank (o : Nat) : Bool := o == 0x18 || o == 0x1C
/-- RC registers of a POOL sub-block. -/
def rcPool (o : Nat) : Bool := o == 0x28 || o == 0x2C
/-- RC registers of a tile. -/
def rcTile (o : Nat) : Bool := o == 0x20040 || o == 0x30040 || o == 0x40038 || o == 0x50040
/-- RC registers of the MED block: the block's own and those of its channels. -/
def rcMed (o : Nat) : Bool :=
  o == 0x50 || o == 0x54 || o == 0x58
  || (decide (0x1000 ≤ o) && decide (o < 0x1800) && ((o - 0x1000) % 0x20 == 0x10 || (o - 0x1000) % 0x20 == 0x14))
/-- RC registers of the RMA block. -/
def rcRma (o : Nat) : Bool := o == 0x30 || o == 0x34 || o == 0x48 || o == 0x54
/-- RC registers of a FAB block. -/
def rcFab (o : Nat) : Bool :=
  o == 0x28 || (decide (0x1000 ≤ o) && decide (o < 0x1800) && (o % 0x100 == 0x20 || o % 0x100 == 0x24))
/-- RC registers of the ETH block: four of each port, one of each service. -/
def rcEth (o : Nat) : Bool :=
  (decide (0x1000 ≤ o) && decide (o < 0x1800) && [0x18, 0x1C, 0x20, 0x24].contains (o % 0x100))
  || (decide (0x10000 ≤ o) && decide (o < 0x14000) && o % 0x20 == 0x10)
/-- RC registers of CUR, CLK, EVT and CMD. -/
def rcHub (a : Nat) : Bool :=
  a == 0x20048 || a == 0x2004C || a == 0x4001C || a == 0x80018
  || (decide (0x30100 ≤ a) && decide (a < 0x30170) && a % 0x10 == 4)

/-- The offset holds an RC counter. -/
def isRc (a : Nat) : Bool :=
  if a < 0x100000 then rcHub a
  else if a < 0x114000 then rcBank ((a - 0x100000) % 0x4000)
  else if a < 0x200100 then false
  else if a < 0x201100 then rcPool ((a - 0x200100) % 0x40)
  else if a < 0x400000 then false
  else if a < 0x800000 then rcTile (a % 0x100000)
  else if a < 0x900000 then a == 0x800018
  else if a < 0xA00000 then rcMed (a - 0x900000)
  else if a < 0xB00000 then rcRma (a - 0xA00000)
  else if a < 0xC00000 then rcFab (a % 0x80000)
  else if a < 0xD00000 then rcEth (a - 0xC00000)
  else a == 0xE00020 || a == 0xE00024

end Sys2Proof.Machine
end

