-- ==== Sys2Proof/Machine/Firmware.lean ====
section
/-! DEFINITION. Firmware images (R503, Table 17-4, R568), settings images (R504, Table 17-5) and the
two-copy records of the boot memory (R502, R505, R508, R509, R540). -/

namespace Sys2Proof.Machine

/-! ## Firmware images -/

def fwMagic : Nat := 0x57464B46
/-- SEQ, VERSION, SECURITY_VERSION, DL and FABRIC_N of a firmware image (Table 17-4). -/
def fwVersion (b : Bytes) : Nat := field b 16 4
def fwSecurity (b : Bytes) : Nat := field b 20 4
def fwDl (b : Bytes) : Nat := field b 24 2
def fwFabric (b : Bytes) : Nat := field b 26 2
def fwLength (b : Bytes) : Nat := field b 28 4

/-- Components of a firmware image, as (type, offset, length). -/
def fwComponents (b : Bytes) : List (Nat × Nat × Nat) :=
  tabulate (field b 32 2) (fun i => (field b (64 + 10 * i) 2, field b (66 + 10 * i) 4, field b (70 + 10 * i) 4))

/-- The bytes of a component of a type, none where the image has none. -/
def fwComponent (b : Bytes) (t : Nat) : Option Bytes :=
  ((fwComponents b).find? (fun c => c.1 == t)).map (fun c => slice b c.2.1 c.2.2)

/-- The bytes under DIGEST: 256 to IMAGE_LENGTH − 1, those of the SIGNATURE component taken as 0 (R568). -/
def fwDigested (b : Bytes) : Bytes :=
  let img := b.take (fwLength b)
  match (fwComponents b).find? (fun c => c.1 == 12) with
  | some c => ((img.take c.2.1 ++ zeros (slice img c.2.1 c.2.2).length ++ img.drop (c.2.1 + c.2.2))).drop 256
  | none => img.drop 256

/-- Header, length and CRC of a firmware image (R503, R511). DEDUCED, log 106. -/
def fwFormOk (b : Bytes) : Bool :=
  field b 0 4 == fwMagic && field b 4 2 == 1 && decide (256 ≤ fwLength b) && decide (fwLength b ≤ 65011712)
  && decide (fwLength b ≤ b.length) && decide (1 ≤ field b 32 2) && decide (field b 32 2 ≤ 16)
  && field b 252 4 == crc32c (b.take 252) && slice b 40 24 == sha384h (fwDigested b)

/-- The last component is the SIGNATURE, and the enclave's verdict on it is good (R568). DEDUCED, log 106. -/
def fwSigned (b : Bytes) (sigOk : Bool) : Bool :=
  sigOk && (match (fwComponents b).getLast? with | some c => c.1 == 12 | none => false)

/-- The boot ROM accepts the image (R503). -/
def fwAccepted (b : Bytes) (sigOk : Bool) (secver : Nat) : Bool :=
  fwFormOk b && fwSigned b sigOk && decide (secver ≤ fwSecurity b)

/-- The firmware slot 0 (A) or 1 (B). -/
def UpdBlock.fwSlot (u : UpdBlock) (i : Nat) : FwSlot := if i = 0 then u.slotA else u.slotB

/-- The firmware slot replaced. -/
def UpdBlock.setFwSlot (u : UpdBlock) (i : Nat) (f : FwSlot) : UpdBlock :=
  if i = 0 then { u with slotA := f } else { u with slotB := f }

/-! ## Records -/

/-- The active-slot record copy in force: valid, with the higher SEQ (R502). -/
def UpdBlock.activeRecord (u : UpdBlock) : Option SlotRecord :=
  let a := u.records[0]?
  let b := u.records[1]?
  match a.filter (·.valid), b.filter (·.valid) with
  | some x, some y => if x.seq < y.seq then some y else some x
  | some x, none => some x
  | none, y => y

/-- An active-slot record written into the other copy with SEQ + 1 (R502). -/
def UpdBlock.writeRecord (u : UpdBlock) (slot : Nat) (trial : Bool) : UpdBlock :=
  let r : SlotRecord := { seq := (match u.activeRecord with | some x => x.seq + 1 | none => 1), slot := slot, trial := trial, valid := true }
  let target := match u.activeRecord, u.records[0]? with
    | some x, some y => if x = y then 1 else 0
    | _, _ => 0
  { u with records := u.records.set target r }

/-- The settings copy in force (R505). -/
def UpdBlock.activeCopy (u : UpdBlock) : Option SetCopy :=
  if u.newestA then some u.setA else if u.setB.valid then some u.setB else none

/-- Sloe clock periods since VDD_SLOE was applied, at the nominal rate of the clock in use. DEDUCED, log 99. -/
def State.sloeTicks (s : State) : Nat :=
  s.sloe.ticks + (s.now - s.sloe.ticksAt) * (if s.sloe.onRc then 1000000 else 32768) / 1000000000

/-- COUNT of the boot-attempt record: 3 where neither slot is valid (R540). -/
def State.bootCount (s : State) : Nat := match s.sloe.count with | some c => c.1 | none => 3

/-- Last REASON of the boot-attempt record. -/
def State.bootReason (s : State) : Nat := match s.sloe.count with | some c => c.2 | none => 0

/-- The boot-attempt record written. -/
def State.writeCount (s : State) (count reason : Nat) : State :=
  { s with sloe := { s.sloe with count := some (count, reason), countSeq := s.sloe.countSeq + 1, countOld := s.sloe.count } }

/-- Highest step of Table 17-2 that has ended, 0 for none. -/
def State.lastStep (s : State) : Nat := maxNat ((List.range 13).filter (fun k => bit s.sys.steps k))

/-- A boot-failure record is written (R509). DEDUCED, log 102. -/
def State.bootRecord (s : State) (reason detail : Nat) : State :=
  let r : BootRecord := { seq := s.upd.bootSeq + 1, ticks := s.sloeTicks, reason := reason, step := s.lastStep, slot := s.upd.slot,
                          count := s.bootCount, version := s.sys.version, detail := detail }
  { s with upd := { s.upd with boots := (r :: s.upd.boots).take 1024, bootSeq := r.seq } }

/-! ## Settings images -/

def setMagic : Nat := 0x54534B46

/-- The fields of a settings image, as bytes at image offsets. -/
def settingsBody (b : Bytes) : CMap Byte := writeMem [] 0x40 ((b.take (field b 24 4)).drop 0x40)

/-- Header, length and CRC-32C of a settings image (R504). -/
def settingsFormOk (b : Bytes) : Bool :=
  let img := b.take (field b 24 4)
  field b 0 4 == setMagic && field b 4 2 == 1 && decide (64 ≤ field b 24 4) && decide (field b 24 4 ≤ 1048576)
  && decide (field b 24 4 ≤ b.length) && zeroAt b 6 2 && zeroAt b 28 32
  && field b 60 4 == crc32c (img.take 60 ++ zeros 4 ++ img.drop 64)

/-- A field of settings bytes. -/
def setField (m : CMap Byte) (off n : Nat) : Nat := leNat (readMem m off n)

/-- A field lies in a range. -/
def inRange (lo hi v : Nat) : Bool := decide (lo ≤ v) && decide (v ≤ hi)

/-- Entry j of POOLS: kind, die, first group, amount, and the three thresholds. -/
structure PoolSet where
  kind   : Nat
  die    : Nat
  first  : Nat
  amount : Nat
  warn   : Nat
  bp     : Nat
  crit   : Nat
  deriving DecidableEq, Repr

/-- The entry of pool `j`. DESIGN CHOICE, log 27. -/
def poolSet (m : CMap Byte) (j : Nat) : PoolSet :=
  let a := 0x200 + 16 * j
  { kind := setField m a 1, die := setField m (a + 1) 1, first := setField m (a + 2) 2, amount := setField m (a + 4) 4,
    warn := setField m (a + 8) 2, bp := setField m (a + 10) 2, crit := setField m (a + 12) 2 }

/-- The cells that an entry gives its pool. -/
def PoolSet.cells (p : PoolSet) : Nat := if p.kind = 1 then 2048 * p.amount else if p.kind = 2 then 32768 * p.amount else 0

/-- An entry satisfies R296 and R302 by itself. -/
def PoolSet.ok (p : PoolSet) : Bool :=
  decide (p.kind ≤ 2) && inRange 0 1000 p.warn && decide (p.bp < p.warn) && decide (p.crit < p.bp)
  && (match p.kind with
      | 0 => p.die == 0 && p.first == 0 && p.amount == 0
      | 1 => p.die == 0 && p.first == 0 && decide (64 ≤ p.amount)
      | _ => decide (p.die ≤ 4) && decide (1 ≤ p.amount) && decide (p.first + p.amount ≤ (if p.die < 4 then 24 else 8)))

/-- The SRAM pools of the entries share no bank group. -/
def poolsDisjoint : List PoolSet → Bool
  | [] => true
  | p :: ps =>
    ps.all (fun q => p.kind != 2 || q.kind != 2 || p.die != q.die || decide (p.first + p.amount ≤ q.first) || decide (q.first + q.amount ≤ p.first))
    && poolsDisjoint ps

/-- POOLS satisfies R296 and R302: entries, the pool area and the bank groups. -/
def poolsOk (m : CMap Byte) : Bool :=
  let ps := tabulate 64 (poolSet m)
  ps.all PoolSet.ok && poolsDisjoint ps
  && decide (sumNat ((ps.filter (fun p => p.kind == 1)).map (fun p => p.amount * 1048576 + p.amount * 8192)) ≤ 257935228928)

/-- PARTNER names no invalid device and not the device itself (R334, R340). DEDUCED, log 82. -/
def partnerOk (m : CMap Byte) : Bool :=
  let v := setField m 0x58 2
  bits v 13 2 == 0 && (!bit v 15 || (decide (bits v 0 13 < 6144) && bits v 0 13 != setField m 0x40 2))

/-- Signing keys of a settings image by index (R566). -/
def settingKeys (m : CMap Byte) : CMap Bytes :=
  (List.range 32).filterMap (fun i =>
    let n := setField m (0x15000 + 2048 * i) 2
    if n = 0 then none else some (i, readMem m (0x15000 + 2048 * i + 2) n))

/-- Each field of Table 17-5 satisfies its rule; a retired bank stays retired. -/
def settingsFieldsOk (old m : CMap Byte) : Bool :=
  decide (setField m 0x40 2 < 6144) && inRange 1 4 (setField m 0x42 1) && inRange 0 15 (setField m 0x43 1)
  && inRange 1 3 (setField m 0x44 1) && inRange 0 7 (setField m 0x45 1) && inRange 1 1000 (setField m 0x46 2)
  && inRange 40 130 (setField m 0x48 1) && (List.range 7).all (fun z => inRange 70 105 (setField m (0x49 + z) 1))
  && inRange 10 500 (setField m 0x50 2) && inRange 1 3 (setField m 0x52 1)
  && decide (setField m 0x53 1 < 64) && (poolSet m (setField m 0x53 1)).kind == 1
  && decide (setField m 0x5A 1 < 64) && decide (setField m 0x5B 1 < 64) && partnerOk m
  && (List.range 4).all (fun t => decide (setField m (0x5C + 2 * t) 2 < 2 ^ 14) && decide (setField m (0x64 + 4 * t) 4 < 2 ^ 24))
  && poolsOk m
  && (List.range 224).all (fun i => ((old.get 0 (0x600 + i)).toNat &&& (255 - (m.get 0 (0x600 + i)).toNat)) == 0)
  && (List.range 32).all (fun i => decide (setField m (0x15000 + 2048 * i) 2 ≤ 2046))

/-- Fields that take effect at a restart, as (offset, size) (Table 17-5). -/
def restartFields : List (Nat × Nat) := [(0x40, 2), (0x42, 1), (0x52, 2), (0x5A, 2), (0x1000, 65536)]

/-- A restart field of the image differs from the running value (R507). -/
def State.restartDiffers (s : State) (m : CMap Byte) : Bool :=
  restartFields.any (fun f => readMem m f.1 f.2 != readMem s.run f.1 f.2)

end Sys2Proof.Machine
end

