-- ==== Sys2Proof/Machine/NvmeOps.lean ====
section
/-! DEFINITION. Completions and the critical warning of PF0's NVMe controller (R413, R414, R421, R435). -/

namespace Sys2Proof.Machine

/-! ## Statuses: the names of chapter 14 as status code type × 256 + status code of NVMe 2.0 -/

def nvSuccess : Nat := 0
def nvInvalidOpcode : Nat := 0x01
def nvInvalidField : Nat := 0x02
def nvAborted : Nat := 0x07
def nvInvalidNamespace : Nat := 0x0B
def nvSequence : Nat := 0x0C
def nvDenied : Nat := 0x15
def nvSanitize : Nat := 0x1D
def nvWriteProtected : Nat := 0x20
def nvRange : Nat := 0x80
def nvCapacity : Nat := 0x81
def nvCqInvalid : Nat := 0x100
def nvQueueId : Nat := 0x101
def nvQueueSize : Nat := 0x102
def nvVector : Nat := 0x108
def nvLogPage : Nat := 0x109
def nvFormat : Nat := 0x10A
def nvQueueDeletion : Nat := 0x10C
def nvSelftest : Nat := 0x11D
def nvUnrecovered : Nat := 0x281

/-! ## Completions -/

/-- A completion entry posted to the completion queue of a submission queue, with its interrupt. -/
def State.nvmeDeliver (s : State) (sq cid status result : Nat) : State :=
  match s.nvme.sqs.find sq with
  | none => s
  | some q =>
    match s.nvme.cqs.find q.other with
    | none => s
    | some c =>
      (({ s with nvme := { s.nvme with cqs := s.nvme.cqs.put q.other { c with tail := (c.tail + 1) % c.size } } }).emit
        (.nvmeCompletion sq cid status result)).emit (.msix 0 c.other)

/-- A command of PF0 completes; while the host link is down the completion is held (R413). -/
def State.nvmePost (s : State) (sq cid status result : Nat) : State :=
  if s.nvme.linkUp then s.nvmeDeliver sq cid status result
  else { s with nvme := { s.nvme with posts := s.nvme.posts ++ [(sq, cid, status, result)] } }

/-- CSTS.RDY sets once the controller is enabled, the FTL has recovered and no sanitize is left from before
the start (R418, R434). -/
def State.controllerReady (s : State) : State :=
  if bit s.nvme.cc 0 && s.med.state == 2 && s.med.sanitize.isNone then { s with nvme := { s.nvme with rdy := true } } else s

/-! ## Critical warning (R435) -/

/-- The critical warning bits as the device's conditions give them. -/
def State.conditions (s : State) : Nat :=
  packFields [(0, 1, b2n s.med.capLow),
    (1, 1, b2n (s.pwr.sensors.any (fun r => match r with | some t => decide (95 < t) | none => false))),
    (3, 1, b2n s.sys.pit), (4, 1, b2n s.med.writeThrough)]

/-- Dword 0 of an asynchronous event for a change of the critical warning: a SMART / Health event with its
information and log page 02h. -/
def warningEvent (old new : Nat) : Nat :=
  let info := if bit old 1 != bit new 1 then 1 else if bit old 0 != bit new 0 then 2 else 0
  packFields [(0, 3, 1), (8, 8, info), (16, 8, 2)]

/-- The critical warning follows the conditions; a change completes an outstanding Asynchronous Event Request. -/
def State.refreshWarning (s : State) : State :=
  let w := s.conditions
  if w = s.nvme.warning then s
  else
    let old := s.nvme.warning
    let s := { s with nvme := { s.nvme with warning := w } }
    match s.nvme.aers with
    | [] => s
    | (sq, cid) :: rest => ({ s with nvme := { s.nvme with aers := rest } }).nvmePost sq cid nvSuccess (warningEvent old w)

end Sys2Proof.Machine
end

