-- ==== Sys2Proof/Machine/Media.lean ====
section
/-! DEFINITION. NAND dies and the flash translation layer: the order of operations at a die (R387 to
R389), journal and checkpoint (R394, R395), programming of the write cache (R405 to R407, R426), bad
codewords, blocks and dies (R398 to R403), the holdup measurement (R405, R598), with their rows. -/

namespace Sys2Proof.Machine

/-- The media is READY (R397). -/
def State.mediaReady (s : State) : Bool := s.med.state == 2

/-- Register of the MED block (Table 13-3). -/
def medReg (off : Nat) : Nat := 0x00900000 + off
/-- Register of a channel block (Table 13-6). -/
def channelReg (ch off : Nat) : Nat := 0x00901000 + 0x20 * ch + off

/-! ## Operations at a die -/

/-- Die `n` of 0–1,023. -/
def State.die (s : State) (n : Nat) : Die := s.med.dies.get {} n

/-- Die `n` replaced. -/
def State.setDie (s : State) (n : Nat) (d : Die) : State := { s with med := { s.med with dies := s.med.dies.set {} n d } }

/-- The operation that a die serves next of its queue (R388): the highest class first, reads for the
fetch stage and of NVMe in turn. DEDUCED, log 89. -/
def Die.pick (d : Die) : Option NandOp :=
  let fetch := d.queue.find? (fun o => o.cls == 1 && o.kind == 3)
  let host := d.queue.find? (fun o => o.cls == 1 && o.kind != 3)
  let first := if d.lastFetch then (host.orElse fun _ => fetch) else (fetch.orElse fun _ => host)
  (first.orElse fun _ => d.queue.find? (fun o => o.cls == 2)).orElse fun _ =>
    (d.queue.find? (fun o => o.cls == 3)).orElse fun _ =>
      (d.queue.find? (fun o => o.cls == 4)).orElse fun _ => d.queue.find? (fun o => o.cls == 5)

/-- The die starts an operation of its queue. -/
def Die.start (d : Die) (o : NandOp) : Die :=
  { d with running := some o, queue := d.queue.erase o, lastFetch := if o.cls = 1 then o.kind == 3 else d.lastFetch }

/-- An operation is a program or an erase. -/
def NandOp.writes (o : NandOp) : Bool := o.kind == 1 || o.kind == 2 || o.kind == 4

/-- The die goes on after an operation has ended, and whether it suspended one again: a suspended operation
resumes, unless a class-1 read waits and it was suspended fewer than 4 times (R389). DEDUCED, log 89. -/
def Die.next (d : Die) : Die × Bool :=
  match d.suspended with
  | some o =>
    match d.pick with
    | some r => if r.cls = 1 && decide (d.suspends < 4) then ({ d.start r with suspends := d.suspends + 1 }, true)
                else ({ d with running := some o, suspended := none }, false)
    | none => ({ d with running := some o, suspended := none }, false)
  | none =>
    match d.pick with
    | some o => ({ d.start o with suspends := 0 }, false)
    | none => ({ d with running := none, suspends := 0 }, false)

/-- An operation reaches a die, and whether it suspends the one in progress (R389). -/
def Die.request (d : Die) (o : NandOp) : Die × Bool :=
  match d.running with
  | none => ({ d with queue := d.queue ++ [o] }.start o, false)
  | some r =>
    if r.writes && o.cls = 1 && d.suspended.isNone && decide (d.suspends < 4) then
      ({ { d with queue := d.queue ++ [o] }.start o with suspended := some r, suspends := d.suspends + 1 }, true)
    else ({ d with queue := d.queue ++ [o] }, false)

/-- A die with its suspension counted (Table 13-6). -/
def State.putDie (s : State) (n : Nat) (r : Die × Bool) : State :=
  let s := s.setDie n r.1
  if r.2 then s.bump (channelReg (n / 16) 0x14) 1 else s

/-- An operation asked of a die in service. -/
def State.nandRequest (s : State) (n : Nat) (o : NandOp) : State :=
  if (s.die n).state = 1 then s.putDie n ((s.die n).request o) else s

/-- Dies in service, ascending. -/
def State.diesInService (s : State) : List Nat := CMap.keys (s.med.dies.filter (fun d => d.2.state == 1))

/-- The die of the next unit (R387): round robin over the channels from the last one, skipping busy dies. -/
def State.nextDie (s : State) : Option Nat :=
  let ch0 := s.med.lastDie / 16 + 1
  let order := ((List.range 64).map (fun i => (ch0 + i) % 64))
  let on := s.diesInService
  let idle := fun n => (s.die n).running.isNone
  match order.findSome? (fun ch => on.find? (fun n => n / 16 == ch && idle n)) with
  | some n => some n
  | none => order.findSome? (fun ch => on.find? (fun n => n / 16 == ch))

/-- A program placed on the next die. -/
def State.program (s : State) (o : NandOp) : State :=
  match s.nextDie with
  | some n => { s with med := { s.med with lastDie := n } }.nandRequest n o
  | none => s

/-! ## Journal and map -/

/-- Key of the 64 MiB map segment that holds the entry of a unit (R395). -/
def segmentKey (kind nsid u : Nat) : Nat := nsid * 2 ^ 20 + u * (if kind = 0 then 5 else 4) / 2 ^ 26

/-- Map entries of a namespace change (R394, R395): one journal entry each; a clean segment becomes dirty. -/
def State.mapChange (s : State) (nsid : Nat) (units : List Nat) : State :=
  match s.space nsid with
  | some n =>
    let mark := fun (m : CMap Nat) u =>
      let k := segmentKey n.kind nsid u
      if m.has k then m else m.put k s.now
    { s with med := { s.med with journal := s.med.journal + units.length, sealed := false,
                                 segments := units.foldl mark s.med.segments } }
  | none => s

/-- A block or die state change, or a namespace's own metadata: one journal entry (R394). -/
def State.journalEntry (s : State) : State := { s with med := { s.med with journal := s.med.journal + 1, sealed := false } }

/-- The journal is flushed to SLC (R394). -/
def State.journalFlush (s : State) : State :=
  if s.med.journal = s.med.flushed then s
  else { s with med := { s.med with flushed := s.med.journal } }.program { cls := 2, kind := 4 }

/-- `JOURNAL_FLUSH_TIMER` (R394). -/
def execJournalFlushTimer (now : Nat) (s : State) : Host.Outcome State Fault Refusal :=
  let s := s.advance now
  .next (if s.mediaReady then s.journalFlush else s)

/-- `CHECKPOINT_TIMER` (R395): every segment first changed 60 s ago or before is rewritten. -/
def execCheckpointTimer (now : Nat) (s : State) : Host.Outcome State Fault Refusal :=
  let s := s.advance now
  .next (if s.mediaReady then
      let due := s.med.segments.filter (fun g => g.2 + 60000000000 ≤ s.now)
      due.foldl (fun s g => ({ s with med := { s.med with segments := s.med.segments.del g.1 } }).program { cls := 2, kind := 4 }) s
    else s)

/-! ## Programming of the write cache -/

/-- Dirty bytes (R405). -/
def MedBlock.dirtyBytes (m : MedBlock) : Nat := sumNat ((m.dirty.filter (·.dirty)).map (·.len))

/-- Commands whose pieces are all programmed complete, with a journal flush where they ask it (R407, R426). -/
def State.releaseFlushes (s : State) : State :=
  let done := fun (f : FlushCmd) => s.med.dirty.all (fun p => decide (f.upTo ≤ p.seq))
  let go := s.nvme.flushes.filter done
  let s := { s with nvme := { s.nvme with flushes := s.nvme.flushes.filter (fun f => !done f) } }
  go.foldl (fun s f => (if f.journal then s.journalFlush else s).nvmePost f.sq f.cid nvSuccess 0) s

/-- A piece of the write cache is programmed: it is durable, and its map entries change. -/
def State.pieceDone (s : State) (p : DirtyPiece) : State :=
  let s := { s with med := { s.med with dirty := s.med.dirty.filter (fun q => q.seq != p.seq) } }.bump64 (medReg 0x48) p.len
  let s := match s.space p.nsid with
    | some n => s.mapChange p.nsid (n.unitsOf p.off p.len)
    | none => s
  s.releaseFlushes

/-- The oldest piece is programmed. -/
def State.oldestDone (s : State) : State :=
  match s.med.dirty with
  | p :: _ => s.pieceDone p
  | [] => s

/-- Every piece is programmed (R418, R549). -/
def State.allDone (s : State) : State := s.med.dirty.foldl State.pieceDone s

/-- The media is sealed (R394, R395, R397): everything dirty is programmed, the journal flushed, a new FTL root written. -/
def State.sealMedia (s : State) : State :=
  let s := s.allDone.journalFlush
  { s with med := { s.med with flushed := s.med.journal, segments := [], rootValid := true, sealed := true } }

/-- Bytes that a namespace holds before a piece is written. -/
def State.oldBytes (s : State) (nsid off len : Nat) : Bytes :=
  match s.space nsid with
  | some n => readMem n.bytes off len
  | none => []

/-- Units of a range that hold no capacity yet. -/
def State.newUnits (s : State) (nsid off len : Nat) : List Nat :=
  match s.space nsid with
  | some n => (n.unitsOf off len).filter (fun u => !n.units.contains u)
  | none => []

/-- A piece that was not programmed is lost: the namespace is as before it (R551). -/
def State.losePiece (s : State) (p : DirtyPiece) : State :=
  { s with med := { s.med with
      dirty := s.med.dirty.filter (fun q => q.seq != p.seq),
      spaces := s.med.spaces.upd p.nsid (fun n =>
        { n with bytes := writeMem n.bytes p.off p.old, units := n.units.filter (fun u => !p.fresh.contains u) }) } }

/-- Everything in the write cache is lost: the last durable state stands (R487, R551). -/
def State.loseDirty (s : State) : State := s.med.dirty.reverse.foldl State.losePiece s

/-! ## Codewords, blocks and dies -/

/-- Codewords that bytes cover. -/
def codewords (off len : Nat) : List Nat :=
  if len = 0 then [] else (List.range ((off + len - 1) / 4096 + 1 - off / 4096)).map (off / 4096 + ·)

/-- A codeword is read: counted, and an array read at its die (R388). -/
def State.readCodeword (s : State) (nsid c : Nat) (o : NandOp) : State :=
  let d := Config.place nsid c 0 % 1024
  ((s.bump64 (channelReg (d / 16) 0x08) 1).bump64 (medReg 0x40) 4096).nandRequest d o

/-- MEDIA_UNCORRECTABLE for a codeword (R398): die, block and page. It needed more than the hard decode. DESIGN CHOICE, log 18. -/
def State.raiseUncorrectable (s : State) (nsid c : Nat) : State :=
  ((s.bump (medReg 0x50) 1).bump (channelReg (Config.place nsid c 0 % 1024 / 16) 0x10) 1).raise evMediaUncorrectable 4
    (leBytes 2 (Config.place nsid c 0 % 1024) ++ leBytes 2 (Config.place nsid c 1) ++ leBytes 2 (Config.place nsid c 2))

/-- Those of the codewords that bytes cover which are uncorrectable are raised (R398). -/
def State.lostRead (s : State) (nsid off len : Nat) : State :=
  match s.space nsid with
  | some n => (n.bad.filter (fun c => (codewords off len).contains c)).foldl (fun s c => s.raiseUncorrectable nsid c) s
  | none => s

/-- Data that a packet names at SRC and ADDR was not taken: a source that does not read raises its codewords (R398, R458). -/
def State.sourceFails (s : State) (x : CmdIn) (nsidOff addrOff len : Nat) (r : Result) : Own :=
  if r.status = 0x0503 then .done r (s.lostRead (x.pkt.f nsidOff 2) (x.pkt.f addrOff 8) len) else .refuse r

/-- Bytes of a namespace are read from NAND for class 1; the codewords among them that are uncorrectable
are raised. -/
def State.mediaRead (s : State) (nsid off len kind : Nat) : State :=
  ((codewords off len).foldl (fun s c => s.readCodeword nsid c { cls := 1, kind := kind }) s).lostRead nsid off len

/-- A codeword becomes uncorrectable. -/
def State.markBad (s : State) (nsid c : Nat) : State :=
  { s with med := { s.med with spaces := s.med.spaces.upd nsid (fun n => { n with bad := insertNat c n.bad }) } }

/-- A codeword is written again at a new place from a good copy (R400): its bytes are as before. -/
def State.repairCodeword (s : State) (nsid c : Nat) : State :=
  match s.space nsid with
  | some n =>
    ({ s with med := { s.med with spaces := s.med.spaces.put nsid { n with bad := n.bad.filter (· != c) } } }.mapChange nsid
      (n.unitsOf (4096 * c) 4096)).program { cls := 4, kind := 1 }
  | none => s

/-- Codewords found uncorrectable, as (namespace, codeword, a replica copy passed its check): raised; repaired
in a dataset namespace, and otherwise lost (R398, R400, R403, R431). -/
def State.foundBad (s : State) (bad : List (Nat × Nat × Bool)) : State :=
  bad.foldl (fun s b =>
    let s := s.raiseUncorrectable b.1 b.2.1
    if b.2.2 && (match s.space b.1 with | some n => n.kind == 1 | none => false) then
      ((s.repairCodeword b.1 b.2.1).bump (medReg 0x58) 1).raise evMediaRepaired 4 (leBytes 2 b.1 ++ leBytes 6 (4096 * b.2.1))
    else s.markBad b.1 b.2.1) s

/-- Retired dies. -/
def MedBlock.retired (m : MedBlock) : Nat := (m.dies.filter (fun d => d.2.state == 2)).length

/-- A die is retired (R403): its queued programs go elsewhere; beyond 16 retired dies capacity is low. -/
def State.retireDie (s : State) (n : Nat) : State :=
  let d := s.die n
  let progs := (d.running.toList ++ d.suspended.toList ++ d.queue).filter (fun o => o.kind == 1 || o.kind == 4)
  let s := s.setDie n { d with state := 2, queue := [], running := none, suspended := none, suspends := 0 }
  let s := (progs.foldl State.program s).journalEntry.raise evDieRetired 4 (leBytes 2 n)
  if decide (16 < s.med.retired) && !s.med.capLow then
    ({ s with med := { s.med with capLow := true } }.raise evCapacityLow 4 []).refreshWarning
  else s

/-- A block fails a program or an erase and is retired at once; a die whose retired blocks exceed 4 % of its
blocks is retired (R403). DESIGN CHOICE, log 19. -/
def State.retireBlock (s : State) (n block : Nat) : State :=
  let d := s.die n
  let s := (s.setDie n { d with retiredBlocks := insertNat block d.retiredBlocks }).journalEntry
  if 4 * Config.profileBlocks (readMem s.run 0x1000 65536) < 100 * (s.die n).retiredBlocks.length then s.retireDie n else s

/-- `NAND_OP_COMPLETE` (R388, R389, R398, R403): the operation in progress at a die ends, well or with a
failed block; a read counts the codewords that soft decode or a retry read, and may find others uncorrectable;
the die serves its next operation. -/
def execNandOpComplete (die : Nat) (ok : Bool) (block soft : Nat) (bad : List (Nat × Nat × Bool)) (s : State) :
    Host.Outcome State Fault Refusal :=
  .next (match (s.die die).running with
    | none => s
    | some o =>
      let s := s.setDie die { s.die die with running := none }
      let s :=
        if !o.writes then (s.bump (channelReg (die / 16) 0x10) soft).foundBad bad
        else if ok then (if o.kind = 1 && decide (o.cls ≤ 3) then s.oldestDone else s)
        else
          let s := (s.retireBlock die block).foundBad bad
          if o.kind = 2 then s else s.program o
      if (s.die die).state = 1 && (s.die die).running.isNone then s.putDie die (s.die die).next else s)

/-- `DIE_UNRESPONSIVE` (R403): the die is retired; what could not be read of it is repaired or lost. -/
def execDieUnresponsive (die : Nat) (bad : List (Nat × Nat × Bool)) (s : State) : Host.Outcome State Fault Refusal :=
  .next (if (s.die die).state = 1 then (s.retireDie die).foundBad bad else s)

/-- `PATROL_READ_TIMER` (R398): the patrol reads a block of a die: codewords read, those that needed soft
decode or retry (the block is then rewritten), those that no step could read. -/
def execPatrolReadTimer (die read soft : Nat) (bad : List (Nat × Nat × Bool)) (s : State) : Host.Outcome State Fault Refusal :=
  .next (if s.mediaReady && (s.die die).state == 1 then
      let s := s.nandRequest die { cls := 5, kind := 0 }
      let s := ((s.bump64 (channelReg (die / 16) 0x08) read).bump64 (medReg 0x40) (4096 * read)).bump (channelReg (die / 16) 0x10) soft
      let s := if soft = 0 then s else s.program { cls := 4, kind := 1 }
      s.foundBad bad
    else s)

/-- `FOLD_COMPLETE` (R391 to R393): a fold's destination is programmed and read back, and its journal
entry flushed, before the source is released; a fold that fails releases nothing. -/
def execFoldComplete (fill reserve : Nat) (ok : Bool) (s : State) : Host.Outcome State Fault Refusal :=
  .next (if s.mediaReady && ok then
      let s := s.journalEntry.journalFlush
      { s with med := { s.med with slcFill := min fill 100, reserve := reserve, folding := if fill = 0 then 0 else 1 } }
    else s)

/-! ## Holdup energy -/

/-- `HOLDUP_SAMPLE` (R598): HOLDUP_SENSE at the land in µV; above 1.2 V it reads 1.2 V. -/
def execHoldupSample (v : Nat) (s : State) : Host.Outcome State Fault Refusal :=
  .next { s with med := { s.med with senses := (min v 1200000 :: s.med.senses).take 10 } }

/-- V of R598 in µV: the mean of the last 10 samples, times 50. -/
def holdupMicrovolts (senses : List Nat) : Nat := if senses.isEmpty then 0 else 50 * sumNat senses / senses.length

/-- C × (V² − VMIN²) of R405, C in mF and voltages in µV; 0 when V ≤ VMIN. -/
def holdupCharge (c v vmin : Nat) : Nat := c * (v * v - vmin * vmin)

/-- (E / 1.25 − E_FIX) / E_BYTE in bytes. -/
def energyLimit (q : Nat) : Nat := q * 8 / 10 ^ 8 - 1600000000

/-- The dirty limit of R405 for a cache pool of `pool` bytes and a flush reserve. -/
def dirtyLimit (pool reserve q : Nat) : Nat := min (min pool (reserve - 268435456)) (energyLimit q)

/-- Programs queued under class 3 go ahead under class 2 (R406). -/
def Die.hurry (d : Die) : Die := { d with queue := d.queue.map (fun o => if o.cls = 3 then { o with cls := 2 } else o) }

/-- The measurement of R405 and what follows from it (R406, R407). -/
def State.measureHoldup (s : State) : State :=
  let c := s.setting 0x54 2
  let v := holdupMicrovolts s.med.senses
  let q := holdupCharge c v (s.setting 0x56 2 * 10000)
  let pool := s.pool (s.runSetting 0x53 1)
  let lim := dirtyLimit (pool.target * pool.cellSize) s.med.reserve q
  let was := s.med.writeThrough
  let wt := if s.upd.activating.isSome then was else if decide (lim < 262144) || c == 0 then true else if 1048576 ≤ lim then false else was
  let s := { s with med := { s.med with v := v / 10000, e := satTo 16 (q * 5 / 10 ^ 15), limit := lim, writeThrough := wt } }
  let s := if lim < s.med.dirtyBytes then { s with med := { s.med with dies := s.med.dies.map (fun d => (d.1, d.2.hurry)) } } else s
  let s := if wt && !was then s.raise evHoldupLow 4 [] else s
  s.refreshWarning

/-- `HOLDUP_EVALUATION` (R405). -/
def execHoldupEvaluation (now : Nat) (s : State) : Host.Outcome State Fault Refusal :=
  let s := s.advance now
  .next s.measureHoldup

end Sys2Proof.Machine
end

