-- ==== Sys2Proof/Machine/Plans.lean ====
section
/-! DEFINITION. Building and reissuing epoch plans: the phases of Table 03-3 (R83 to R92) as operations,
and the rows that end a scan or bring a plan message. -/

namespace Sys2Proof.Machine

/-! ## What a plan is built from -/

/-- The catalog of a job as its header reads. -/
def State.catalogFor (s : State) (j : Job) : Catalog := parseCatalog ((s.catalogOf j).getD [])

/-- The first served ordinal whose record fails R67, none when all pass. -/
def State.badRecord (s : State) (j : Job) (ranges : List (Nat × Nat)) : Option Nat :=
  let c := s.catalogFor j
  ranges.foldl (fun (acc : Option Nat) r =>
    match acc with
    | some o => some o
    | none => ((List.range (r.2 - r.1)).map (r.1 + ·)).find? (fun o =>
        match s.nsRead j.nsid (recordOffset j.catOffset o) 64 with
        | some b => !recordOk c o b
        | none => true)) none

/-- Samples that ranges of ordinals hold. -/
def rangeTotal (ranges : List (Nat × Nat)) : Nat := sumNat (ranges.map (fun r => r.2 - r.1))

/-- Ranges of the shard map that a device serves, over N ordinals. -/
def Job.rangesOf (j : Job) (dev n : Nat) : List (Nat × Nat) :=
  (j.shards.zipIdx.filter (fun r => r.1.2 == dev)).map (fun r =>
    (r.1.1, match j.shards[r.2 + 1]? with | some nx => nx.1 | none => n))

/-- A job's catalog names a namespace that `f` takes: the one it lies in, or that of a valid record of the
device's share. -/
def State.catalogNames (s : State) (j : Job) (f : Nat → Bool) : Bool :=
  let c := s.catalogFor j
  f j.nsid || (s.servedRanges j c.n).any (fun r => (List.range (r.2 - r.1)).any (fun i =>
    match s.nsRead j.nsid (recordOffset j.catOffset (r.1 + i)) 64 with
    | some b => recordOk c (r.1 + i) b && f (parseRecord b).nsid
    | none => false))

/-- The input digest of a plan (R85). -/
def State.planDigest (s : State) (j : Job) (epoch : Nat) : Bytes :=
  let hdr := (s.catalogOf j).getD []
  let recipe := (s.recipeImage j epoch)
  let imgs := match recipe with
    | some h => ((parseRecipe h.image).images.map (fun i =>
        match (s.images i.1).find? (fun m => m.2.digest.take 24 == i.2) with
        | some m => m.2.digest
        | none => i.2)).flatten
    | none => []
  sha384h (slice hdr 24 24 ++ leBytes 16 j.seed ++ leBytes 4 epoch
    ++ (match recipe with | some h => h.digest | none => []) ++ imgs ++ leBytes 2 j.dl)

/-- A plan rank's scan of its scanner range in an epoch (R83, R70): samples and network passes. -/
def State.scanRank (s : State) (j : Job) (epoch rank : Nat) : List (Nat × Nat) × Nat :=
  let c := s.catalogFor j
  let d := j.planRanks
  scanSamples c (s.planShape j epoch) (roundKeys j.seed epoch c.n) (scanLo c.n d rank) (scanLo c.n d (rank + 1))

/-- The assign scan of a plan rank, with the prefix counts of the ranks below it (R74 to R76). -/
def State.assignRank (s : State) (j : Job) (p : EpochPlan) (rank : Nat) : Assigned :=
  let pre := addCounts ((p.counts.filter (fun e => e.1 < rank)).map (·.2.2))
  assignScan (s.planShape j p.epoch) pre p.totals (s.scanRank j p.epoch rank).1

/-- Every record of a plan rank, once the step gather is complete. -/
def rankRecords (p : EpochPlan) (a : Assigned) (rank : Nat) : List PlanRec :=
  recordsNow a ++ recordsLater a ((p.steps.filter (fun e => rank < e.1)).map (·.2))

/-! ## Records and markers -/

/-- The plan with a record stored once. -/
def EpochPlan.store (p : EpochPlan) (r : PlanRec) : EpochPlan :=
  if p.records.any (fun q => q.ordinal == r.ordinal) then p else { p with records := p.records ++ [r] }

/-- Records streamed to their serving devices (phases 4 and 5): the plan with those of this device, and
the messages to the others. -/
def State.stream (s : State) (j : Job) (p : EpochPlan) (rs : List PlanRec) : EpochPlan × List Output :=
  let own := rs.filter (fun r => j.actor (j.shardOf r.ordinal) == s.self)
  let other := rs.filter (fun r => j.actor (j.shardOf r.ordinal) != s.self)
  (own.foldl EpochPlan.store p,
   other.map (fun r => .fabric 2 (j.actor (j.shardOf r.ordinal)) "plan-record" [j.id, p.epoch] r.bytes))

/-- The end markers of a plan rank (phase 6): one to each device, with the records sent to it. -/
def State.markers (s : State) (j : Job) (p : EpochPlan) (rank : Nat) (rs : List PlanRec) : EpochPlan × List Output :=
  let count := fun dev => (rs.filter (fun r => j.actor (j.shardOf r.ordinal) == dev)).length
  ({ p with markers := p.markers.put rank (count s.self) },
   ((sortNat (j.devices.map j.actor)).filter (· != s.self)).map (fun dev =>
     .fabric 2 dev "end-marker" [rank, j.id, p.epoch, count dev] []))

/-- The ranks 0 to D − 1 all have an entry. -/
def gathered {α : Type} (d : Nat) (m : CMap α) : Bool := (List.range d).all m.has

/-! ## Phases -/

/-- What a gather or a marker that is now complete brings about: the next phase, the messages, and
whether the plan completes or its digests differ (R84, R86). -/
inductive PlanMove where
  | wait
  | next (p : EpochPlan) (out : List Output)
  | complete (p : EpochPlan)
  | mismatch
  deriving DecidableEq, Repr

/-- The input digests of the count entries differ (R86). -/
def EpochPlan.differ (p : EpochPlan) : Bool :=
  match p.counts.vals with
  | [] => false
  | e :: es => es.any (fun x => x.1 != e.1)

/-- The next move of a plan. -/
def State.planMove (s : State) (j : Job) (p : EpochPlan) : PlanMove :=
  let d := j.planRanks
  if p.building && p.differ then .mismatch
  else if p.phase = 2 && gathered d p.counts then .next { p with phase := 3, scanned := [] } []
  else if p.phase = 4 && gathered d p.steps then
    let start : EpochPlan × List Output := ({ p with phase := 5 }, [])
    let r := p.ranks.foldl (fun acc k =>
      match p.assigned.find k with
      | some a =>
        let later := recordsLater a ((p.steps.filter (fun e => k < e.1)).map (·.2))
        let t := s.stream j acc.1 later
        let m := s.markers j t.1 k (rankRecords p a k)
        (m.1, acc.2 ++ t.2 ++ m.2)
      | none => acc) start
    .next r.1 r.2
  else if p.phase = 5 && gathered d p.markers && p.records.length == sumNat p.markers.vals then
    .complete { p with phase := 6, scanned := [], assigned := [] }
  else if p.phase = 8 && p.reissue.all (fun r => r.2.1 == s.self) && gathered d p.markers && p.ranks.all p.scanned.contains
      && decide (sumNat p.markers.vals ≤ p.records.length) then
    .complete { p with phase := 6, scanned := [], reissue := [] }
  else .wait

/-- The plan moves as far as what it holds lets it; `fuel` bounds the phases. DEDUCED, log 62. -/
def State.advancePlan (slot epoch : Nat) : Nat → State → State
  | 0, s => s
  | fuel + 1, s =>
    match s.jobs.find slot with
    | none => s
    | some j =>
      match j.plan epoch with
      | none => s
      | some p =>
        match s.planMove j p with
        | .wait => s
        | .next p' out => State.advancePlan slot epoch fuel ((s.setJob slot (j.setPlan p')).emitAll out)
        | .complete p' =>
          ((s.setJob slot (j.setPlan { p' with waiters := [] })).finishAll p.waiters success)
        | .mismatch => s.abandonPlan slot p { status := 0x0604 } none

/-- The plan of an epoch changed, then moved. -/
def State.withPlan (s : State) (jobId epoch : Nat) (f : Nat → Job → EpochPlan → State) : State :=
  match s.jobNamed jobId with
  | some (slot, j) =>
    if epoch = j.epoch || epoch = j.epoch + 1 then
      State.advancePlan slot epoch 4 (f slot j ((j.plan epoch).getD (EpochPlan.blank epoch)))
    else s
  | none => s

/-! ## Rows -/

/-- A count or assign scan, or a reissue scan, of one of the device's plan ranks ends. -/
def State.scanEnds (s : State) (slot : Nat) (j : Job) (p : EpochPlan) (rank : Nat) : State :=
  let scan := s.scanRank j p.epoch rank
  let p := { p with scanned := p.scanned ++ [rank] }
  let all := p.ranks.all p.scanned.contains
  let s := s.bump64 0x00300010 scan.2
  match p.phase with
  | 1 =>
    let e := (p.digest, bucketCounts scan.1)
    let p := { p with counts := p.counts.put rank e, phase := if all then 2 else 1 }
    (s.setJob slot (j.setPlan p)).toRanks j "count-entry" ([rank, j.id, p.epoch] ++ e.2) e.1
  | 3 =>
    let a := s.assignRank j p rank
    let t := s.stream j { p with assigned := p.assigned.put rank a, steps := p.steps.put rank (stepEntry a) } (recordsNow a)
    let p := { t.1 with phase := if all then 4 else 3 }
    ((s.setJob slot (j.setPlan p)).emitAll t.2).toRanks j "step-entry"
      ([rank, j.id, p.epoch] ++ ((stepEntry a).map (fun e => [e.1, e.2])).flatten) []
  | _ =>
    let recs := rankRecords p (s.assignRank j p rank) rank
    let start : EpochPlan × List Output := (p, [])
    let r := p.reissue.foldl (fun acc q =>
      let mine := recs.filter (fun x => j.shardOf x.ordinal == q.1 && decide (q.2.2 ≤ x.step))
      if q.2.1 = s.self then
        let p' := mine.foldl EpochPlan.store acc.1
        ({ p' with markers := p'.markers.put rank mine.length }, acc.2)
      else (acc.1, acc.2 ++ mine.map (fun x => .fabric 2 q.2.1 "plan-record" [j.id, p.epoch] x.bytes)
                        ++ [.fabric 2 q.2.1 "end-marker" [rank, j.id, p.epoch, mine.length] []])) start
    let done := all && r.1.reissue.all (fun q => q.2.1 != s.self)
    let p' := if done then { r.1 with phase := 6, scanned := [], reissue := [], waiters := [] } else r.1
    let s := (s.setJob slot (j.setPlan p')).emitAll r.2
    if done then s.finishAll p.waiters success else s

/-- `PLAN_SCAN_COMPLETE` (R84): nothing where no scan of the rank runs. -/
def execPlanScanComplete (jobId epoch rank : Nat) (s : State) : Host.Outcome State Fault Refusal :=
  .next (s.withPlan jobId epoch (fun slot j p =>
    if (p.phase == 1 || p.phase == 3 || p.phase == 8) && p.ranks.contains rank && !p.scanned.contains rank then s.scanEnds slot j p rank
    else s))

/-- `COUNT_ENTRY_RECEIVE` (R85, R86). -/
def execCountEntryReceive (rank jobId epoch : Nat) (digest : Bytes) (counts : List Nat) (s : State) : Host.Outcome State Fault Refusal :=
  .next (s.withPlan jobId epoch (fun slot j p =>
    if rank < j.planRanks && p.phase != 6 && p.phase != 8 then
      s.setJob slot (j.setPlan { p with counts := p.counts.put rank (digest, counts) })
    else s))

/-- `STEP_ENTRY_RECEIVE` (R85). -/
def execStepEntryReceive (rank jobId epoch : Nat) (entries : List (Nat × Nat)) (s : State) : Host.Outcome State Fault Refusal :=
  .next (s.withPlan jobId epoch (fun slot j p =>
    if rank < j.planRanks && p.phase != 6 && p.phase != 8 then
      s.setJob slot (j.setPlan { p with steps := p.steps.put rank entries })
    else s))

/-- The record of 16 bytes (Table 03-4). -/
def parsePlanRec (b : Bytes) : PlanRec :=
  let a := field b 0 8
  let c := field b 8 8
  { ordinal := bits a 0 44, bucket := bits a 44 6, step := bits c 0 44, member := bits c 44 16,
    reserve := bit c 60, tail := bit c 61 }

/-- `PLAN_RECORD_RECEIVE` (R85): a record of a sample that this device serves is stored. -/
def execPlanRecordReceive (jobId epoch : Nat) (rec : Bytes) (s : State) : Host.Outcome State Fault Refusal :=
  .next (s.withPlan jobId epoch (fun slot j p =>
    if s.serves j (parsePlanRec rec).ordinal && p.phase != 6 then s.setJob slot (j.setPlan (p.store (parsePlanRec rec)))
    else s))

/-- `END_MARKER_RECEIVE` (R84, R85). -/
def execEndMarkerReceive (rank jobId epoch count : Nat) (s : State) : Host.Outcome State Fault Refusal :=
  .next (s.withPlan jobId epoch (fun slot j p =>
    if rank < j.planRanks && p.phase != 6 then s.setJob slot (j.setPlan { p with markers := p.markers.put rank count }) else s))

/-- `ABORT_MESSAGE_RECEIVE` (R91): a plan in progress is abandoned; what came early for one not begun is dropped. -/
def execAbortMessageReceive (_rank jobId epoch lost : Nat) (s : State) : Host.Outcome State Fault Refusal :=
  .next (match s.jobNamed jobId with
    | some (slot, j) =>
      match j.plan epoch with
      | some p =>
        if p.building then s.abandonPlan slot p { status := 0x0605 } (some lost)
        else if p.phase = 0 then s.setJob slot (j.setPlan { EpochPlan.blank epoch with phase := 7 })
        else s
      | none => s
    | none => s)

end Sys2Proof.Machine
end

