-- ==== Sys2Proof/Machine/CmdMedia.lean ====
section
/-! DEFINITION. Media commands: NS_CREATE (R383), NS_DELETE (R453), NS_SEAL (R384), REPLICA_SET (R399),
DIE_RETIRE (R403), SANITIZE and its end (R432, R433). -/

namespace Sys2Proof.Machine

/-- Map bytes of a namespace's capacity (R383). -/
def mapBytes (kind capacity : Nat) : Nat := if kind = 0 then 5 * (capacity / 4096) else 4 * (capacity / 65536)

/-- The refusal of R383 for a namespace to be created. DEDUCED, log 90. -/
def State.createRefusal (s : State) (kind capacity : Nat) : Option Result :=
  let vs := s.med.spaces.vals
  let block := sumNat ((vs.filter (fun n => n.kind == 0)).map (·.capacity)) + (if kind = 0 then capacity else 0)
  if 23 * 2 ^ 30 < sumNat (vs.map (fun n => mapBytes n.kind n.capacity)) + mapBytes kind capacity then some { status := 0x040C }
  else if s.med.userCap < sumNat (vs.map (·.capacity)) + capacity then some { status := 0x040D }
  else if 16 * 2 ^ 40 < block then some { status := 0x040E }
  else none

/-- NS_CREATE. DEDUCED, log 90. -/
def ownNsCreate (_ : Waiter) (x : CmdIn) (s : State) : Own :=
  let p := x.pkt
  let nsid := p.f 16 2
  let kind := p.f 18 1
  let cap := p.f 24 8
  if nsid = 0 || decide (256 < nsid) || (s.space nsid).isSome then .refuse (paramInvalid 16)
  else if 1 < kind then .refuse (paramInvalid 18)
  else if cap = 0 || cap % (if kind = 0 then 4096 else 65536) != 0 then .refuse (paramInvalid 24)
  else match s.createRefusal kind cap with
    | some r => .refuse r
    | none =>
      let n : Namespace := { kind := kind, capacity := cap, sealed := false, replicas := [], key := s.med.nextKey, bytes := [],
                             units := [], bad := [] }
      .done success { s with med := { s.med with spaces := s.med.spaces.put nsid n, nextKey := s.med.nextKey + 1 } }.journalEntry

/-- `NS_CREATE` (R383). -/
def execNsCreate (x : CmdIn) (s : State) : Host.Outcome State Fault Refusal := .next (runCommand opNsCreate ownNsCreate x s)

/-- NS_DELETE: refused while a job's catalog names the namespace; its key is destroyed with it. -/
def ownNsDelete (_ : Waiter) (x : CmdIn) (s : State) : Own :=
  let nsid := x.pkt.f 16 2
  if (s.space nsid).isNone then .refuse (paramInvalid 16)
  else if s.jobs.any (fun j => s.catalogNames j.2 (· == nsid)) then .refuse { status := 0x0305 }
  else .done success { s with med := { s.med with spaces := s.med.spaces.del nsid,
                                                  dirty := s.med.dirty.filter (fun d => d.nsid != nsid) } }.journalEntry.releaseFlushes

/-- `NS_DELETE` (R453). -/
def execNsDelete (x : CmdIn) (s : State) : Host.Outcome State Fault Refusal := .next (runCommand opNsDelete ownNsDelete x s)

/-- NS_SEAL: a dataset namespace becomes read-only; the journal is flushed (R384, R394). -/
def ownNsSeal (_ : Waiter) (x : CmdIn) (s : State) : Own :=
  let nsid := x.pkt.f 16 2
  match s.space nsid with
  | none => .refuse (paramInvalid 16)
  | some n =>
    if n.kind = 0 then .refuse (paramInvalid 16)
    else if n.sealed then .done success s
    else .done success { s with med := { s.med with spaces := s.med.spaces.put nsid { n with sealed := true } } }.journalEntry.journalFlush

/-- `NS_SEAL` (R384). -/
def execNsSeal (x : CmdIn) (s : State) : Host.Outcome State Fault Refusal := .next (runCommand opNsSeal ownNsSeal x s)

/-- REPLICA_SET: the replica devices of a dataset namespace, in fetch order. -/
def ownReplicaSet (_ : Waiter) (x : CmdIn) (s : State) : Own :=
  let p := x.pkt
  let nsid := p.f 16 2
  let count := p.f 18 1
  match s.space nsid with
  | none => .refuse (paramInvalid 16)
  | some n =>
    if n.kind = 0 then .refuse (paramInvalid 16)
    else if 3 < count then .refuse (paramInvalid 18)
    else
      let devs := tabulate count (fun i => p.f (20 + 2 * i) 2)
      match (List.range count).find? (fun i => decide (6144 ≤ devs.getD i 0)) with
      | some i => .refuse (targetInvalid (20 + 2 * i))
      | none => .done success { s with med := { s.med with spaces := s.med.spaces.put nsid { n with replicas := devs } } }.journalEntry

/-- `REPLICA_SET` (R399). -/
def execReplicaSet (x : CmdIn) (s : State) : Host.Outcome State Fault Refusal :=
  .next (runCommand opReplicaSet ownReplicaSet x s)

/-- DIE_RETIRE: a die in service is retired live, its data moved (R403). -/
def ownDieRetire (_ : Waiter) (x : CmdIn) (s : State) : Own :=
  match (s.die x.pkt.unit).state with
  | 1 => .done success (s.retireDie x.pkt.unit)
  | 2 => .done success s
  | _ => .refuse (targetInvalid 8)

/-- `DIE_RETIRE` (R403). -/
def execDieRetire (x : CmdIn) (s : State) : Host.Outcome State Fault Refusal := .next (runCommand opDieRetire ownDieRetire x s)

/-! ## Sanitize -/

/-- A sanitize starts; its state is kept (R434). PF0 I/O that waits completes with Sanitize In Progress (R433). -/
def State.startSanitize (s : State) (action : Nat) : State :=
  let waiting := s.nvme.writes.map (fun w => (w.sq, w.cid)) ++ s.nvme.held.map (fun c => (c.sq, c.cid))
  waiting.foldl (fun s w => s.nvmePost w.1 w.2 nvSanitize 0)
    { s with med := { s.med with sanitize := some action }, nvme := { s.nvme with writes := [], held := [] } }

/-- SANITIZE: refused while a job runs; it completes once the sanitize has started. -/
def ownSanitize (_ : Waiter) (x : CmdIn) (s : State) : Own :=
  let a := x.pkt.f 16 1
  if a != 1 && a != 2 then .refuse (paramInvalid 16)
  else if !s.jobs.isEmpty then .refuse { status := 0x0305 }
  else if s.med.sanitize.isSome then .refuse { status := 0x0306 }
  else .done success (s.startSanitize a)

/-- `SANITIZE` (R433). -/
def execSanitize (x : CmdIn) (s : State) : Host.Outcome State Fault Refusal := .next (runCommand opSanitize ownSanitize x s)

/-- A namespace under a new key: it reads zeros (R404, R433, R417). -/
def Namespace.rekeyed (n : Namespace) (key : Nat) : Namespace :=
  { n with key := key, bytes := [], units := [], bad := [], sealed := false }

/-- Every namespace gets a new key, and its dirty pieces go. -/
def MedBlock.rekeyAll (m : MedBlock) : MedBlock :=
  { m with spaces := m.spaces.zipIdx.map (fun e => (e.1.1, e.1.2.rekeyed (m.nextKey + e.2))),
           nextKey := m.nextKey + m.spaces.length, dirty := [] }

/-- `SANITIZE_COMPLETE` (R433): every namespace reads zeros, dataset namespaces are unsealed; namespaces
and replica sets stay. A resumed sanitize ends before CSTS.RDY sets (R434). -/
def execSanitizeComplete (s : State) : Host.Outcome State Fault Refusal :=
  .next (match s.med.sanitize with
    | some _ => ({ s with med := { s.med.rekeyAll with sanitize := none } }.journalEntry.journalFlush).releaseFlushes.controllerReady
    | none => s)

end Sys2Proof.Machine
end

