-- ==== Sys2Proof/Machine/NvmeQueues.lean ====
section
/-! DEFINITION. PF0's queues and controller: arbitration (R419), doorbells, controller enable and reset
(R412, R418), power states (R427 to R429), self-test (R430, R431), with their rows, and SELFTEST. -/

namespace Sys2Proof.Machine

/-! ## Arbitration (R419) -/

/-- Value of a feature: Arbitration resets to a burst of 3 and weights of 0; others to 0. -/
def Nvme.feature (v : Nvme) (fid : Nat) : Nat := v.features.get (if fid = 1 then 3 else 0) fid

/-- A submission queue holds a posted command. -/
def Nvme.posted (v : Nvme) (q : Nat) : Bool :=
  match v.sqs.find q with
  | some k => k.head != k.tail
  | none => false

/-- Priority class of a submission queue. -/
def Nvme.prioOf (v : Nvme) (q : Nat) : Nat := match v.sqs.find q with | some k => k.prio | none => 3

/-- The next of ascending queues after `last`, round robin. -/
def nextAfter (qs : List Nat) (last : Nat) : Option Nat :=
  match qs.find? (fun q => last < q) with
  | some q => some q
  | none => qs.head?

/-- Weighted round robin is selected in CC.AMS. -/
def Nvme.weighted (v : Nvme) : Bool := bits v.cc 11 3 == 1

/-- I/O queues with posted commands, of a class or all. -/
def Nvme.waiting (v : Nvme) (cls : Option Nat) : List Nat :=
  v.sqs.keys.filter (fun q => q != 0 && v.posted q && (match cls with | some c => v.prioOf q == c | none => true))

/-- Weights of high, medium and low. -/
def Nvme.weights (v : Nvme) : List Nat := [bits (v.feature 1) 24 8 + 1, bits (v.feature 1) 16 8 + 1, bits (v.feature 1) 8 8 + 1]

/-- The weighted class that is served next and the credits afterwards: the highest that waits and has a
credit, after new credits where none has. -/
def Nvme.weightedClass (v : Nvme) : Option (Nat × List Nat) :=
  let waits := fun c => !(v.waiting (some (c + 1))).isEmpty
  let best := fun (cr : List Nat) => (List.range 3).find? (fun c => waits c && decide (0 < cr.getD c 0))
  match best v.credits with
  | some c => some (c + 1, updAt v.credits c (· - 1))
  | none => match best v.weights with
    | some c => some (c + 1, updAt v.weights c (· - 1))
    | none => none

/-- A new turn: the queue served and the arbiter afterwards. -/
def Nvme.newTurn (v : Nvme) : Option (Nat × Nvme) :=
  let take := fun (v : Nvme) (cls : Nat) (qs : List Nat) =>
    match nextAfter qs (v.lastSq.getD cls 0) with
    | some q => some (q, { v with turn := q, taken := 1, lastSq := v.lastSq.set cls q })
    | none => none
  if !v.weighted then take v 0 (v.waiting none)
  else if !(v.waiting (some 0)).isEmpty then take v 0 (v.waiting (some 0))
  else match v.weightedClass with
    | some (c, cr) => take { v with credits := cr } c (v.waiting (some c))
    | none => none

/-- The I/O queue from which the next command is taken, and the arbiter afterwards: the turn goes on for at
most 2^AB commands; under weighted round robin an urgent queue comes before the rest. -/
def Nvme.choose (v : Nvme) : Option (Nat × Nvme) :=
  if v.turn != 0 && v.posted v.turn && decide (v.taken < 2 ^ bits (v.feature 1) 0 3)
      && (!v.weighted || v.prioOf v.turn == 0 || (v.waiting (some 0)).isEmpty) then
    some (v.turn, { v with taken := v.taken + 1 })
  else v.newTurn

/-- A command leaves its submission queue, where the arbiter serves that queue. -/
def Nvme.takeFrom (v : Nvme) (q : Nat) : Option Nvme :=
  if !v.posted q then none
  else
    let adv := fun (v : Nvme) => { v with sqs := v.sqs.upd q (fun k => { k with head := (k.head + 1) % k.size }) }
    if q = 0 then some (adv v)
    else if v.weighted && v.posted 0 then none
    else match v.choose with
      | some (k, v') => if k = q then some (adv v') else none
      | none => none

/-! ## Power states and enabling -/

/-- Domain 24 turned on or off. -/
def State.setDomain (s : State) (d : Nat) (on : Bool) : State :=
  { s with pwr := { s.pwr with domains := updAt s.pwr.domains d (fun x => { x with on := on, downing := false, waking := false }) } }

/-- A self-test that runs is aborted and the abort recorded (R431): outcome 1 by command, 2 by a controller reset. -/
def State.abortSelftest (s : State) (outcome : Nat) : State :=
  match s.nvme.selftest with
  | some c => { s with nvme := { s.nvme with selftest := none, selfLog := ((c, outcome, 0) :: s.nvme.selfLog).take 20 } }
  | none => s

/-- A controller reset: queues, features and outstanding commands go; admitted data stays in the cache. -/
def State.nvmeReset (s : State) (cc : Nat) : State :=
  let s := s.abortSelftest 2
  let s := if 3 ≤ s.nvme.ps then s.setDomain 24 s.sys.ready else s
  { s with nvme := { cc := cc, linkUp := s.nvme.linkUp, warning := s.nvme.warning, selfLog := s.nvme.selfLog,
                     lastDoorbell := s.nvme.lastDoorbell } }

/-- The admin queues as they stand when the controller is enabled. -/
def adminQueue : NvmeQueue := { size := 4096, base := 0, head := 0, tail := 0, prio := 0, other := 0 }

/-- A write of CC (R418): EN enables or resets the controller, SHN notifies a shutdown. -/
def State.writeCc (s : State) (v : Nat) : State :=
  let was := bit s.nvme.cc 0
  let s :=
    if !bit v 0 then (if was then s.nvmeReset v else { s with nvme := { s.nvme with cc := v } })
    else if was then { s with nvme := { s.nvme with cc := v } }
    else ({ s with nvme := { s.nvme with cc := v, shst := 0, sqs := [(0, adminQueue)], cqs := [(0, adminQueue)] } }).controllerReady
  if bits v 14 2 != 0 && s.nvme.shst == 0 && s.nvme.rdy then { s with nvme := { s.nvme with shst := 1 } } else s

/-- `NVME_CC_WRITE` (R418). -/
def execNvmeCcWrite (v : Nat) (s : State) : Host.Outcome State Fault Refusal :=
  .next (if s.alive && s.nvme.linkUp then s.writeCc v else s)

/-- `NVME_SHUTDOWN_COMPLETE` (R418). -/
def execNvmeShutdownComplete (s : State) : Host.Outcome State Fault Refusal :=
  .next (if s.nvme.shst = 1 then
      let s := s.sealMedia
      { s with nvme := { s.nvme with shst := 2 } }
    else s)

/-- `NVME_DOORBELL_WRITE` (R419, R429): a submission tail or completion head; a submission doorbell aborts
an entry that has not committed and begins the exit of one that has. -/
def execNvmeDoorbellWrite (isCq : Bool) (q v now : Nat) (s : State) : Host.Outcome State Fault Refusal :=
  let s := s.advance now
  .next (if !s.alive || !s.nvme.linkUp then s
    else if isCq then
      match s.nvme.cqs.find q with
      | some k => if v < k.size then { s with nvme := { s.nvme with cqs := s.nvme.cqs.put q { k with head := v } } } else s
      | none => s
    else match s.nvme.sqs.find q with
      | some k =>
        if v < k.size then
          { s with nvme := { s.nvme with sqs := s.nvme.sqs.put q { k with tail := v }, lastDoorbell := s.now, entering := none,
                                         exiting := s.nvme.exiting || decide (3 ≤ s.nvme.ps) } }
        else s
      | none => s)

/-- No PF0 command is outstanding. -/
def Nvme.quiet (v : Nvme) : Bool :=
  v.writes.isEmpty && v.held.isEmpty && v.flushes.isEmpty && v.sqs.keys.all (fun q => !v.posted q)

/-- FTL work of classes 2 to 5 is pending (R428). -/
def MedBlock.busy (m : MedBlock) : Bool :=
  m.dies.any (fun d => (d.2.running.toList ++ d.2.suspended.toList ++ d.2.queue).any (fun o => decide (2 ≤ o.cls)))

/-- The state that a commit enters: the entry begun, or that of Autonomous Power State Transition once the
idle time of the present state has passed (R428). -/
def State.commitTarget (s : State) : Option Nat :=
  match s.nvme.entering with
  | some p => if s.nvme.lastDoorbell + 100000 ≤ s.now then some p else none
  | none =>
    let e := s.nvme.feature (0x1000 + s.nvme.ps)
    let ms := bits e 8 24
    if s.nvme.ps < 3 && bit (s.nvme.feature 0x0C) 0 && ms != 0 && (bits e 3 5 == 3 || bits e 3 5 == 4)
        && decide (s.nvme.lastDoorbell + max 100000 (ms * 1000000) ≤ s.now) then some (bits e 3 5) else none

/-- `NVME_POWER_STATE_COMMIT` (R428, R429). -/
def execNvmePowerStateCommit (now : Nat) (s : State) : Host.Outcome State Fault Refusal :=
  let s := s.advance now
  .next (match s.commitTarget with
    | some p =>
      if s.nvme.quiet then
        let s := { s with nvme := { s.nvme with ps := p, entering := none } }
        if p = 4 && s.jobs.isEmpty && !s.med.busy && s.med.dirty.isEmpty then s.setDomain 24 false else s
      else s
    | none => s)

/-! ## Self-test -/

/-- A self-test starts. -/
def State.startSelftest (s : State) (code : Nat) : State := { s with nvme := { s.nvme with selftest := some code } }

/-- SELFTEST (R430, R431): it completes once the test has started or is aborted; a start while one runs is refused. -/
def ownSelftest (_ : Waiter) (x : CmdIn) (s : State) : Own :=
  let c := x.pkt.f 16 1
  if c = 0xF then .done success (s.abortSelftest 1)
  else if c != 1 && c != 2 then .refuse (paramInvalid 16)
  else if s.nvme.selftest.isSome then .refuse (paramInvalid 16)
  else .done success (s.startSelftest c)

/-- `SELFTEST` (R430). -/
def execSelftest (x : CmdIn) (s : State) : Host.Outcome State Fault Refusal := .next (runCommand opSelftest ownSelftest x s)

/-- `SELFTEST_COMPLETE` (R431): codewords found uncorrectable, each with whether a repair succeeded, and the
segment that failed, 0 for none; segment 5 fails on a codeword without a repair. -/
def execSelftestComplete (bad : List (Nat × Nat × Bool)) (seg : Nat) (s : State) : Host.Outcome State Fault Refusal :=
  .next (match s.nvme.selftest with
    | some c =>
      let s := s.foundBad bad
      let seg := if seg = 0 && bad.any (fun b => (match s.space b.1 with | some n => n.bad.contains b.2.1 | none => false)) then 5 else seg
      { s with nvme := { s.nvme with selftest := none, selfLog := ((c, if seg = 0 then 0 else 7, seg) :: s.nvme.selfLog).take 20 } }
    | none => s)

end Sys2Proof.Machine
end

