-- ==== Sys2Proof/Machine/Nvme.lean ====
section
/-! DEFINITION. The NVMe commands of PF0 (R414 to R426, R430 to R432, R435) with their rows. -/

namespace Sys2Proof.Machine

/-- The command completes with a status. -/
def State.nvDone (s : State) (c : NvmeIn) (status result : Nat) : State := s.nvmePost c.sq c.cid status result

/-! ## I/O commands -/

/-- Byte offset and length of an I/O command: starting LBA in dwords 10 and 11, blocks − 1 in dword 12. -/
def NvmeIn.off (c : NvmeIn) : Nat := 4096 * (c.cdw10 + 2 ^ 32 * c.cdw11)
def NvmeIn.len (c : NvmeIn) : Nat := 4096 * (bits c.cdw12 0 16 + 1)
/-- FUA of an I/O command. -/
def NvmeIn.fua (c : NvmeIn) : Bool := bit c.cdw12 30

/-- The status that an I/O command's namespace, range and transfer size fail with; `data` where the command
moves data, under MDTS. -/
def State.ioFault (s : State) (c : NvmeIn) (data writes : Bool) : Option Nat :=
  match s.space c.nsid with
  | none => some nvInvalidNamespace
  | some n =>
    if data && decide (4194304 < c.len) then some nvInvalidField
    else if n.capacity < c.off + c.len then some nvRange
    else if writes && n.sealed then some nvWriteProtected
    else none

/-- Pieces of a write: 64 LBAs each, the last shorter (R425). -/
def WriteCmd.pieces (w : WriteCmd) : Nat := ceilDiv w.data.length 262144
/-- Data of the next piece. -/
def WriteCmd.piece (w : WriteCmd) : Bytes := slice w.data (262144 * w.admitted) 262144

/-- The status with which the next piece of a write fails (R384, R403, R422). -/
def State.pieceFault (s : State) (w : WriteCmd) : Option Nat :=
  match s.space w.nsid with
  | none => some nvInvalidNamespace
  | some n =>
    if n.sealed then some nvWriteProtected
    else if s.med.capLow && n.needsNew (w.off + 262144 * w.admitted) w.piece.length then some nvCapacity
    else none

/-- A piece may enter the cache: the dirty data stays within the limit, or the cache is write-through (R406, R407). -/
def State.admits (s : State) (w : WriteCmd) : Bool :=
  s.nvme.linkUp && s.mediaReady && s.nvme.shst == 0
  && (s.med.writeThrough || decide (s.med.dirtyBytes + w.piece.length ≤ s.med.limit))

/-- A write whose last piece is in the cache completes, or waits until it is programmed (R407, R423, R426). -/
def State.endWrite (s : State) (w : WriteCmd) : State :=
  if w.fua || s.med.writeThrough then
    ({ s with nvme := { s.nvme with
        flushes := s.nvme.flushes ++ [({ sq := w.sq, cid := w.cid, upTo := s.med.nextPiece, journal := w.fua } : FlushCmd)] } }).releaseFlushes
  else s.nvmePost w.sq w.cid nvSuccess 0

/-- The oldest queued write's next piece enters the cache (R406); the write fails at a piece that cannot be
written, and leaves the pieces before it written (R422). DEDUCED, log 93. -/
def State.admitPiece (s : State) : State :=
  match s.nvme.writes with
  | [] => s
  | w :: rest =>
    if !s.admits w then s
    else match s.pieceFault w with
      | some st => ({ s with nvme := { s.nvme with writes := rest } }).nvmePost w.sq w.cid st 0
      | none =>
        let p : DirtyPiece := { seq := s.med.nextPiece, nsid := w.nsid, off := w.off + 262144 * w.admitted, len := w.piece.length,
                                dirty := !s.med.writeThrough, old := s.oldBytes w.nsid (w.off + 262144 * w.admitted) w.piece.length,
                                fresh := s.newUnits w.nsid (w.off + 262144 * w.admitted) w.piece.length }
        let above := decide (s.med.limit < s.med.dirtyBytes + p.len)
        let s := s.nsWrite w.nsid p.off w.piece
        let s := ({ s with med := { s.med with dirty := s.med.dirty ++ [p], nextPiece := s.med.nextPiece + 1, sealed := false } }).program
          { cls := if above then 2 else 3, kind := 1 }
        let w' := { w with admitted := w.admitted + 1 }
        if w'.admitted < w.pieces then { s with nvme := { s.nvme with writes := w' :: rest } }
        else ({ s with nvme := { s.nvme with writes := rest } }).endWrite w

/-- Pieces enter the cache as long as they may. `fuel` bounds them. -/
def State.admitAll : Nat → State → State
  | 0, s => s
  | n + 1, s =>
    match s.nvme.writes with
    | [] => s
    | w :: _ => if s.admits w then State.admitAll n s.admitPiece else s

/-- NVMe Write (R406, R422 to R426). -/
def State.nvmeWrite (s : State) (c : NvmeIn) : State :=
  match s.ioFault c true true with
  | some st => s.nvDone c st 0
  | none =>
    let w : WriteCmd := { sq := c.sq, cid := c.cid, nsid := c.nsid, off := c.off, data := (c.data ++ zeros (c.len - c.data.length)).take c.len,
                          fua := c.fua, admitted := 0 }
    State.admitAll (w.pieces + 1) { s with nvme := { s.nvme with writes := s.nvme.writes ++ [w] } }

/-- The codewords of an I/O command can all be read. -/
def State.ioReadable (s : State) (c : NvmeIn) : Bool :=
  match s.space c.nsid with
  | some n => n.readable c.off c.len
  | none => false

/-- NVMe Read (R401, R420, R424). -/
def State.nvmeRead (s : State) (c : NvmeIn) : State :=
  match s.ioFault c true false with
  | some st => s.nvDone c st 0
  | none =>
    let ok := s.ioReadable c
    let s := s.mediaRead c.nsid c.off c.len 0
    if ok then (s.emit (.nvmeData c.sq c.cid ((s.nsRead c.nsid c.off c.len).getD []))).nvDone c nvSuccess 0
    else s.nvDone c nvUnrecovered 0

/-- NVMe Verify: the codewords are read and no data moves. -/
def State.nvmeVerify (s : State) (c : NvmeIn) : State :=
  match s.ioFault c false false with
  | some st => s.nvDone c st 0
  | none =>
    let ok := s.ioReadable c
    (s.mediaRead c.nsid c.off c.len 0).nvDone c (if ok then nvSuccess else nvUnrecovered) 0

/-- NVMe Flush (R426): it completes once every piece admitted before it is programmed and the journal flushed. -/
def State.nvmeFlush (s : State) (c : NvmeIn) : State :=
  if c.nsid != 0xFFFFFFFF && (s.space c.nsid).isNone then s.nvDone c nvInvalidNamespace 0
  else ({ s with nvme := { s.nvme with
      flushes := s.nvme.flushes ++ [({ sq := c.sq, cid := c.cid, upTo := s.med.nextPiece, journal := true } : FlushCmd)] } }).releaseFlushes

/-- Bytes of a namespace become zeros, and their whole units hold no capacity (R385). -/
def Namespace.zeroed (n : Namespace) (off len : Nat) : Namespace :=
  { n with bytes := clearMem n.bytes off len,
           units := n.units.filter (fun u => !(decide (off ≤ n.unit * u) && decide (n.unit * (u + 1) ≤ off + len))),
           bad := n.bad.filter (fun c => !(decide (off ≤ 4096 * c) && decide (4096 * (c + 1) ≤ off + len))) }

/-- A namespace changed in the units that bytes cover. -/
def State.changeUnits (s : State) (nsid off len : Nat) (f : Namespace → Namespace) : State :=
  match s.space nsid with
  | some n => ({ s with med := { s.med with spaces := s.med.spaces.put nsid (f n) } }).mapChange nsid (n.unitsOf off len)
  | none => s

/-- NVMe Write Zeroes: the blocks read zeros. -/
def State.nvmeWriteZeroes (s : State) (c : NvmeIn) : State :=
  match s.ioFault c false true with
  | some st => s.nvDone c st 0
  | none =>
    let s := s.changeUnits c.nsid c.off c.len (fun n => n.zeroed c.off c.len)
    (if c.fua then s.journalFlush else s).nvDone c nvSuccess 0

/-- Ranges of Dataset Management, as (offset, length) in bytes: 16 bytes each with the length in blocks at 4
and the starting LBA at 8. -/
def NvmeIn.ranges (c : NvmeIn) : List (Nat × Nat) :=
  tabulate (bits c.cdw10 0 8 + 1) (fun i => (4096 * field c.data (16 * i + 8) 8, 4096 * field c.data (16 * i + 4) 4))

/-- A range is deallocated: the units it covers whole hold no capacity, and its bytes are free values. DESIGN CHOICE, log 17. -/
def State.deallocate (s : State) (nsid off len : Nat) : State :=
  let draw := s.fresh
  let s := { s with fresh := s.fresh + 1 }
  s.changeUnits nsid off len (fun n =>
    let z := n.zeroed off len
    { z with bytes := writeMem z.bytes off (tabulate len (Config.deallocated draw)) })

/-- NVMe Dataset Management with Deallocate. -/
def State.nvmeDsm (s : State) (c : NvmeIn) : State :=
  match s.space c.nsid with
  | none => s.nvDone c nvInvalidNamespace 0
  | some n =>
    if !bit c.cdw11 2 then s.nvDone c nvSuccess 0
    else if c.ranges.any (fun r => decide (n.capacity < r.1 + r.2)) then s.nvDone c nvRange 0
    else if n.sealed then s.nvDone c nvWriteProtected 0
    else (c.ranges.foldl (fun s r => s.deallocate c.nsid r.1 r.2) s).nvDone c nvSuccess 0

/-- An I/O command by its opcode. PRESUMED, log 92. -/
def State.nvmeIo (s : State) (c : NvmeIn) : State :=
  match c.opcode with
  | 0x00 => s.nvmeFlush c
  | 0x01 => s.nvmeWrite c
  | 0x02 => s.nvmeRead c
  | 0x08 => s.nvmeWriteZeroes c
  | 0x09 => s.nvmeDsm c
  | 0x0C => s.nvmeVerify c
  | _ => s.nvDone c nvInvalidOpcode 0

/-! ## How a command runs -/

/-- PF0 serves no I/O for now: a non-operational state or its exit, or a holdup or coolant flush (R429, R549). -/
def State.ioHeld (s : State) : Bool := decide (3 ≤ s.nvme.ps) || s.nvme.exiting || !s.mediaReady

/-- A command of PF0 leaves its queue and runs (R413, R418, R419, R421, R429, R433). Nothing happens while
the controller is not ready or the arbiter does not serve the queue. DESIGN CHOICE, log 94. -/
def State.nvmeRun (s : State) (c : NvmeIn) (io : Bool) (f : State → State) : State :=
  if !s.alive || !s.nvme.linkUp || !(s.nvme.rdy || s.sys.pit) || (c.sq != 0) != io then s
  else match s.nvme.takeFrom c.sq with
    | none => s
    | some v =>
      let s := { s with nvme := v }
      if s.sys.pit || (io && s.nvme.shst != 0) then s.nvDone c nvSequence 0
      else if io && s.med.sanitize.isSome then s.nvDone c nvSanitize 0
      else if io && s.ioHeld then
        { s with nvme := { s.nvme with held := s.nvme.held ++ [c], exiting := s.nvme.exiting || decide (3 ≤ s.nvme.ps) } }
      else f s

/-- An I/O row: the command with the opcode of its row. DESIGN CHOICE, log 94. -/
def ioRow (opcode : Nat) (c : NvmeIn) (s : State) : State :=
  let c := { c with opcode := opcode }
  s.nvmeRun c true (fun s => s.nvmeIo c)

/-- `NVME_WRITE` (R423). -/
def execNvmeWrite (c : NvmeIn) (s : State) : Host.Outcome State Fault Refusal := .next (ioRow 0x01 c s)
/-- `NVME_READ` (R420). -/
def execNvmeRead (c : NvmeIn) (s : State) : Host.Outcome State Fault Refusal := .next (ioRow 0x02 c s)
/-- `NVME_FLUSH` (R426). -/
def execNvmeFlush (c : NvmeIn) (s : State) : Host.Outcome State Fault Refusal := .next (ioRow 0x00 c s)
/-- `NVME_WRITE_ZEROES` (R415). -/
def execNvmeWriteZeroes (c : NvmeIn) (s : State) : Host.Outcome State Fault Refusal := .next (ioRow 0x08 c s)
/-- `NVME_DATASET_MANAGEMENT` (R415). -/
def execNvmeDatasetManagement (c : NvmeIn) (s : State) : Host.Outcome State Fault Refusal := .next (ioRow 0x09 c s)
/-- `NVME_VERIFY` (R415). -/
def execNvmeVerify (c : NvmeIn) (s : State) : Host.Outcome State Fault Refusal := .next (ioRow 0x0C c s)
/-- `WRITE_PIECE_ADMIT` (R406). -/
def execWritePieceAdmit (s : State) : Host.Outcome State Fault Refusal := .next s.admitPiece

/-- The held commands run, oldest first. -/
def State.runHeld (s : State) : State :=
  s.nvme.held.foldl State.nvmeIo { s with nvme := { s.nvme with held := [] } }

/-- `NVME_POWER_STATE_EXIT` (R429): the controller returns to the last operational state, and held commands run. -/
def execNvmePowerStateExit (s : State) : Host.Outcome State Fault Refusal :=
  .next (if s.nvme.exiting then
      let s := if s.nvme.ps = 4 then s.setDomain 24 true else s
      let s := { s with nvme := { s.nvme with ps := s.nvme.lastOp, exiting := false } }
      if s.ioHeld then s else s.runHeld
    else s)

/-! ## Admin commands -/

/-- An admin row. -/
def adminRow (c : NvmeIn) (s : State) (f : State → State) : State := s.nvmeRun c false f

/-- The named command has not been admitted or started, and leaves the device. -/
def State.abortNamed (s : State) (sq cid : Nat) : Option State :=
  let v := s.nvme
  if v.writes.any (fun w => w.sq == sq && w.cid == cid && w.admitted == 0) then
    some { s with nvme := { v with writes := v.writes.filter (fun w => !(w.sq == sq && w.cid == cid)) } }
  else if v.held.any (fun c => c.sq == sq && c.cid == cid) then
    some { s with nvme := { v with held := v.held.filter (fun c => !(c.sq == sq && c.cid == cid)) } }
  else if v.aers.contains (sq, cid) then some { s with nvme := { v with aers := v.aers.erase (sq, cid) } }
  else none

/-- `NVME_ABORT` (R422). -/
def execNvmeAbort (c : NvmeIn) (s : State) : Host.Outcome State Fault Refusal :=
  .next (adminRow c s (fun s =>
    let sq := bits c.cdw10 0 16
    let cid := bits c.cdw10 16 16
    match s.abortNamed sq cid with
    | some s => (s.nvmePost sq cid nvAborted 0).nvDone c nvSuccess 0
    | none => s.nvDone c nvSuccess 1))

/-- A block namespace under a new key (R417). -/
def State.formatSpace (s : State) (nsid : Nat) : State :=
  match s.space nsid with
  | some n =>
    ({ s with med := { s.med with spaces := s.med.spaces.put nsid (n.rekeyed s.med.nextKey), nextKey := s.med.nextKey + 1,
                                  dirty := s.med.dirty.filter (fun d => d.nsid != nsid) } }.journalEntry).releaseFlushes
  | none => s

/-- `NVME_FORMAT_NVM` (R417): a block namespace, or all of them, with Secure Erase Setting 1 or 2. -/
def execNvmeFormatNvm (c : NvmeIn) (s : State) : Host.Outcome State Fault Refusal :=
  .next (adminRow c s (fun s =>
    let ses := bits c.cdw10 9 3
    let ids := if c.nsid = 0xFFFFFFFF then s.med.spaces.keys else [c.nsid]
    if s.med.sanitize.isSome then s.nvDone c nvSanitize 0
    else if ids.any (fun n => (s.space n).isNone) then s.nvDone c nvInvalidNamespace 0
    else if (ses != 1 && ses != 2) || ids.any (fun n => match s.space n with | some v => v.kind == 1 | none => false) then
      s.nvDone c nvFormat 0
    else (ids.foldl State.formatSpace s).nvDone c nvSuccess 0))

/-- `NVME_SANITIZE` (R432): Block Erase is action 2, Overwrite 3, Crypto Erase 4, Exit Failure Mode 1. -/
def execNvmeSanitize (c : NvmeIn) (s : State) : Host.Outcome State Fault Refusal :=
  .next (adminRow c s (fun s =>
    let a := bits c.cdw10 0 3
    if a != 1 && a != 2 && a != 4 then s.nvDone c nvInvalidField 0
    else if !bit (s.setting 0x45 1) 2 || !s.jobs.isEmpty then s.nvDone c nvDenied 0
    else if s.med.sanitize.isSome then s.nvDone c nvSanitize 0
    else if a = 1 then s.nvDone c nvSuccess 0
    else (s.startSanitize (if a = 4 then 1 else 2)).nvDone c nvSuccess 0))

/-- `NVME_DEVICE_SELF_TEST` (R430, R431): 1 short, 2 extended, 0xF abort. -/
def execNvmeDeviceSelfTest (c : NvmeIn) (s : State) : Host.Outcome State Fault Refusal :=
  .next (adminRow c s (fun s =>
    let code := bits c.cdw10 0 4
    if s.med.sanitize.isSome then s.nvDone c nvSanitize 0
    else if code = 0xF then (s.abortSelftest 1).nvDone c nvSuccess 0
    else if code != 1 && code != 2 then s.nvDone c nvInvalidField 0
    else if s.nvme.selftest.isSome then s.nvDone c nvSelftest 0
    else (s.startSelftest code).nvDone c nvSuccess 0))

/-! ## Data structures -/

/-- A page of `len` bytes: the fields given, as (offset, bytes), over free bytes. -/
def nvmePage (page nsid len : Nat) (fields : List (Nat × Bytes)) : Bytes :=
  fields.foldl (fun b f => (b.take f.1 ++ f.2 ++ b.drop (f.1 + f.2.length)).take len) (tabulate len (Config.nvmeByte page nsid))

/-- Power state descriptor: maximum power in 0.01 W, entry and exit latency in µs, non-operational. -/
def powerDescriptor (mp enlat exlat : Nat) (nops : Bool) : Bytes :=
  leBytes 2 mp ++ zeros 1 ++ leBytes 1 (if nops then 2 else 0) ++ leBytes 4 enlat ++ leBytes 4 exlat ++ zeros 20

/-- Identify structures 0 namespace, 1 controller, 2 active namespaces: the fields of Table 14-2 and 14-4. DESIGN CHOICE, log 20. -/
def State.identify (s : State) (cns nsid : Nat) : Option Bytes :=
  match cns with
  | 0 =>
    match s.space nsid with
    | none => none
    | some n =>
      some (nvmePage 256 nsid 4096
        [(0, leBytes 8 (n.capacity / 4096)), (8, leBytes 8 (n.capacity / 4096)), (16, leBytes 8 (n.unit * n.units.length / 4096)),
         (25, zeros 2), (28, zeros 2), (34, leBytes 2 63), (36, leBytes 2 63), (38, zeros 8), (99, leBytes 1 (b2n n.sealed)),
         (128, leBytes 4 0x000C0000)])
  | 1 =>
    some (nvmePage 257 0 4096
      [(0, leBytes 2 s.sys.vendor), (77, [10]), (516, leBytes 4 256), (525, [0]), (526, leBytes 2 63), (528, leBytes 2 63),
       (262, [1]), (263, [4]),
       (2048, powerDescriptor 14000 0 0 false ++ powerDescriptor 9000 0 0 false ++ powerDescriptor 4500 0 0 false
         ++ powerDescriptor 600 2000 5000 true ++ powerDescriptor 200 10000 50000 true)])
  | 2 => some (((s.med.spaces.keys.filter (nsid < ·)).map (leBytes 4)).flatten ++ zeros 4096 |>.take 4096)
  | _ => none

/-- `NVME_IDENTIFY` (R414, R416). -/
def execNvmeIdentify (c : NvmeIn) (s : State) : Host.Outcome State Fault Refusal :=
  .next (adminRow c s (fun s =>
    match s.identify (bits c.cdw10 0 8) c.nsid with
    | some b => (s.emit (.nvmeData c.sq c.cid b)).nvDone c nvSuccess 0
    | none => s.nvDone c (if bits c.cdw10 0 8 = 0 then nvInvalidNamespace else nvInvalidField) 0))

/-- Highest sensor reading in kelvin, 0 without a valid one. -/
def State.kelvin (s : State) : Nat :=
  s.pwr.sensors.foldl (fun m r => match r with | some t => max m (t + 273).toNat | none => m) 0

/-- Log pages: 02h SMART / Health, 06h Device Self-test, 81h Sanitize Status. -/
def State.logPage (s : State) (lid : Nat) : Option Bytes :=
  match lid with
  | 0x01 => some (nvmePage 1 0 64 [])
  | 0x02 => some (nvmePage 2 0 512 [(0, leBytes 1 s.nvme.warning), (1, leBytes 2 s.kelvin)])
  | 0x03 => some (nvmePage 3 0 512 [])
  | 0x06 =>
    let results := tabulate 20 (fun i => match s.nvme.selfLog[i]? with
      | some r => (4 + 28 * i, leBytes 1 (r.2.1 + 16 * r.1) ++ leBytes 1 r.2.2)
      | none => (4 + 28 * i, [0x0F, 0]))
    some (nvmePage 6 0 564 ((0, leBytes 1 (s.nvme.selftest.getD 0)) :: results))
  | 0x81 => some (nvmePage 0x81 0 512 (match s.med.sanitize with | some _ => [(2, [2])] | none => [(0, leBytes 2 0xFFFF)]))
  | _ => none

/-- `NVME_GET_LOG_PAGE` (R415, R431, R434, R435): the page in bits 7:0 of dword 10, dwords less one in 31:16. -/
def execNvmeGetLogPage (c : NvmeIn) (s : State) : Host.Outcome State Fault Refusal :=
  .next (adminRow c s (fun s =>
    match s.logPage (bits c.cdw10 0 8) with
    | some b => (s.emit (.nvmeData c.sq c.cid (b.take (4 * (bits c.cdw10 16 16 + 1))))).nvDone c nvSuccess 0
    | none => s.nvDone c nvLogPage 0))

/-! ## Features -/

/-- Features that the controller has: arbitration, power management, temperature threshold, error recovery,
number of queues, interrupt settings, write atomicity, asynchronous events, autonomous power state transition,
keep alive. -/
def featureOk (fid : Nat) : Bool := [1, 2, 4, 5, 7, 8, 9, 0x0A, 0x0B, 0x0C, 0x0F].contains fid

/-- A feature's value stored. -/
def State.storeFeature (s : State) (fid v : Nat) : State :=
  { s with nvme := { s.nvme with features := s.nvme.features.put fid v } }

/-- A power state asked (R427, R429): an operational one at once, another begins its entry. -/
def State.setPowerState (s : State) (p : Nat) : State :=
  if p < 3 then { s with nvme := { s.nvme with ps := p, lastOp := p, entering := none } }
  else { s with nvme := { s.nvme with entering := some p } }

/-- Queues granted for Number of Queues: at most 1,024 of each, 0-based. -/
def grantedQueues (v : Nat) : Nat := packFields [(0, 16, min (bits v 0 16) 1023), (16, 16, min (bits v 16 16) 1023)]

/-- `NVME_SET_FEATURES` (R419, R427, R428). PRESUMED, log 92. -/
def execNvmeSetFeatures (c : NvmeIn) (s : State) : Host.Outcome State Fault Refusal :=
  .next (adminRow c s (fun s =>
    let fid := bits c.cdw10 0 8
    if !featureOk fid then s.nvDone c nvInvalidField 0
    else if fid = 2 then
      if 4 < bits c.cdw11 0 5 then s.nvDone c nvInvalidField 0 else (s.setPowerState (bits c.cdw11 0 5)).nvDone c nvSuccess 0
    else if fid = 7 then (s.storeFeature 7 (grantedQueues c.cdw11)).nvDone c nvSuccess (grantedQueues c.cdw11)
    else if fid = 0x0C then
      ((List.range 5).foldl (fun s p => s.storeFeature (0x1000 + p) (field c.data (8 * p) 4)) (s.storeFeature 0x0C c.cdw11)).nvDone c nvSuccess 0
    else (s.storeFeature fid c.cdw11).nvDone c nvSuccess 0))

/-- `NVME_GET_FEATURES` (R415). -/
def execNvmeGetFeatures (c : NvmeIn) (s : State) : Host.Outcome State Fault Refusal :=
  .next (adminRow c s (fun s =>
    let fid := bits c.cdw10 0 8
    if !featureOk fid then s.nvDone c nvInvalidField 0
    else s.nvDone c nvSuccess (if fid = 2 then s.nvme.ps else s.nvme.feature fid)))

/-! ## Other admin commands -/

/-- `NVME_ASYNC_EVENT_REQUEST` (R435): it waits for a change of the critical warning. -/
def execNvmeAsyncEventRequest (c : NvmeIn) (s : State) : Host.Outcome State Fault Refusal :=
  .next (adminRow c s (fun s => { s with nvme := { s.nvme with aers := s.nvme.aers ++ [(c.sq, c.cid)] } }))

/-- `NVME_KEEP_ALIVE` (R415). -/
def execNvmeKeepAlive (c : NvmeIn) (s : State) : Host.Outcome State Fault Refusal :=
  .next (adminRow c s (fun s => ({ s with nvme := { s.nvme with keepAlive := s.now } }).nvDone c nvSuccess 0))

/-- Create I/O Completion Queue (opcode 5) or Submission Queue (opcode 1), R414. -/
def State.createQueue (s : State) (c : NvmeIn) : State :=
  let id := bits c.cdw10 0 16
  let q : NvmeQueue := { size := bits c.cdw10 16 16 + 1, base := c.prp, head := 0, tail := 0, prio := bits c.cdw11 1 2,
                         other := bits c.cdw11 16 16 }
  let cq := c.opcode == 5
  if id = 0 || decide (1024 < id) || (if cq then s.nvme.cqs.has id else s.nvme.sqs.has id) then s.nvDone c nvQueueId 0
  else if q.size = 1 then s.nvDone c nvQueueSize 0
  else if !bit c.cdw11 0 then s.nvDone c nvInvalidField 0
  else if cq then
    if 1024 < q.other then s.nvDone c nvVector 0
    else ({ s with nvme := { s.nvme with cqs := s.nvme.cqs.put id { q with prio := 0 } } }).nvDone c nvSuccess 0
  else if q.other = 0 || !s.nvme.cqs.has q.other then s.nvDone c nvCqInvalid 0
  else ({ s with nvme := { s.nvme with sqs := s.nvme.sqs.put id q } }).nvDone c nvSuccess 0

/-- `NVME_CREATE_QUEUE` (R414). -/
def execNvmeCreateQueue (c : NvmeIn) (s : State) : Host.Outcome State Fault Refusal :=
  .next (adminRow c s (fun s => s.createQueue c))

/-- Delete I/O Completion Queue (opcode 4) or Submission Queue (opcode 0): a submission queue's commands go with it. -/
def State.deleteQueue (s : State) (c : NvmeIn) : State :=
  let id := bits c.cdw10 0 16
  if c.opcode = 4 then
    if id = 0 || !s.nvme.cqs.has id then s.nvDone c nvQueueId 0
    else if s.nvme.sqs.any (fun q => q.1 != 0 && q.2.other == id) then s.nvDone c nvQueueDeletion 0
    else ({ s with nvme := { s.nvme with cqs := s.nvme.cqs.del id } }).nvDone c nvSuccess 0
  else if id = 0 || !s.nvme.sqs.has id then s.nvDone c nvQueueId 0
  else
    let v := s.nvme
    ({ s with nvme := { v with sqs := v.sqs.del id, writes := v.writes.filter (fun w => w.sq != id),
                               held := v.held.filter (fun h => h.sq != id), flushes := v.flushes.filter (fun f => f.sq != id) } }).nvDone c nvSuccess 0

/-- `NVME_DELETE_QUEUE` (R415). -/
def execNvmeDeleteQueue (c : NvmeIn) (s : State) : Host.Outcome State Fault Refusal :=
  .next (adminRow c s (fun s => s.deleteQueue c))

/-- The opcodes of R415, on the admin queue and on I/O queues. -/
def nvmeSupported (admin : Bool) (opcode : Nat) : Bool :=
  (if admin then [0x00, 0x01, 0x02, 0x04, 0x05, 0x06, 0x08, 0x09, 0x0A, 0x0C, 0x14, 0x18, 0x80, 0x84]
   else [0x00, 0x01, 0x02, 0x08, 0x09, 0x0C]).contains opcode

/-- `NVME_UNSUPPORTED_OPCODE` (R415, R416): on the admin queue or an I/O queue. -/
def execNvmeUnsupportedOpcode (c : NvmeIn) (s : State) : Host.Outcome State Fault Refusal :=
  .next (if nvmeSupported (c.sq == 0) c.opcode then s
    else s.nvmeRun c (c.sq != 0) (fun s => s.nvDone c nvInvalidOpcode 0))

/-! ## Function reset and the host link -/

/-- `PF0_FLR` (R412, R431): a controller reset; PF1 and every job go on. -/
def execPf0Flr (s : State) : Host.Outcome State Fault Refusal := .next (s.nvmeReset 0)

/-- The host link goes down (R413): commands whose data had not been transferred end without effect. -/
def State.hostLinkDown (s : State) : State := { s with nvme := { s.nvme with linkUp := false, writes := [], held := [] } }

/-- `PCIE_LINK_DOWN` (R413). -/
def execPcieLinkDown (s : State) : Host.Outcome State Fault Refusal := .next s.hostLinkDown

/-- `PCIE_LINK_UP` (R413): the host PHY is out of reset, and held completions are posted. -/
def execPcieLinkUp (s : State) : Host.Outcome State Fault Refusal :=
  .next (if s.sys.perstLow || !s.alive then s
    else
      let ps := s.nvme.posts
      ps.foldl (fun s p => s.nvmeDeliver p.1 p.2.1 p.2.2.1 p.2.2.2) { s with nvme := { s.nvme with linkUp := true, posts := [] } })

end Sys2Proof.Machine
end

