-- ==== Sys2Proof/Machine/PoolBank.lean ====
section
/-! DEFINITION. Pool and bank commands and the rows of the BNK and POOL blocks: R282 to R287, R292 to
R296, R302 to R307. -/

namespace Sys2Proof.Machine

/-! ## POOL_CONFIG -/

/-- Bytes of the pool area (Table 10-3). -/
def poolArea : Nat := 257935228928

/-- MiB of an HBM pool (2,048 cells each). -/
def Pool.mib (q : Pool) : Nat := if q.kind = 2 then q.cells / 8192 else q.cells / 2048

/-- Bytes of the pool area that an HBM pool of `m` MiB takes, link table included (R296). -/
def hbmTake (m : Nat) : Nat := m * 1048576 + m * 8192

/-- Bytes of the pool area that pools other than `p` take. -/
def State.areaUsed (s : State) (p : Nat) : Nat :=
  sumNat ((s.mem.pools.filter (fun q => q.1 != p && q.2.kind == 1)).map (fun q => hbmTake (q.2.cells / 2048)))

/-- The largest requirement Q_b that any held recipe makes of pool `p` (R107, R108). -/
def State.poolNeed (s : State) (p : Nat) : Nat :=
  maxNat (s.recipes.map (fun r =>
    let rc := parseRecipe r.2.image
    let cat := parseCatalog ((s.nsRead r.2.nsid r.2.offset 4096).getD [])
    maxNat ((rc.buckets.filter (fun b => (rc.desc b).pool == p)).map (bucketNeed rc cat))))

/-- A held recipe uses pool `p`. -/
def State.poolHeld (s : State) (p : Nat) : Bool :=
  s.recipes.any (fun r => let rc := parseRecipe r.2.image; rc.buckets.any (fun b => (rc.desc b).pool == p))

/-- A configuration of `cells` cells of a kind would leave a held recipe in breach (R108). -/
def State.breaks (s : State) (p kind cells : Nat) : Bool :=
  s.poolHeld p && (kind != 1 || decide (cells * 512 < s.poolNeed p))

/-- The groups of a die can be a pool's: they lie on the die, in no other pool, and no bank is retired or
owned by anyone but nobody or the pool manager. -/
def State.groupsFree (s : State) (p die first n : Nat) : Bool :=
  decide (first + n ≤ dieGroups die)
  && (List.range (16 * n)).all (fun i =>
      let k := s.bank die (16 * first + i)
      !k.retired && k.pending.isNone && (k.owner == 0 || k.owner == 2)
      && (match s.bankPool die (16 * first + i) with | none => true | some q => q == p))

/-- A pool's configuration as POOL_CONFIG leaves it. -/
def State.configPool (s : State) (p kind die first n cells : Nat) : State :=
  let q := s.pool p
  let grow := decide (q.target ≤ cells)
  let s := if kind = 2 && grow then s.poolBanks die ((List.range n).map (first + ·)) true else s
  let q' : Pool := if cells = 0 then { q with target := 0 }
    else { q with kind := kind, die := die, group := first, groups := if grow then n else q.groups,
                  cells := if grow then cells else q.cells, target := cells }
  (s.setPool p q').poolChanged p

/-- A pool's entry of POOLS in the settings image. DESIGN CHOICE, log 27. -/
def poolEntry (kind die first amount warn bp crit : Nat) : Bytes :=
  leBytes 1 kind ++ leBytes 1 die ++ leBytes 2 first ++ leBytes 4 amount ++ leBytes 2 warn ++ leBytes 2 bp ++ leBytes 2 crit
  ++ zeros 2

/-- The entry of pool `p` as it now stands, with kind, die, first group and amount. -/
def State.writePoolEntry (s : State) (p kind die first amount : Nat) : State :=
  let q := s.pool p
  let t := match q.nextThr with | some t => t | none => (q.warn, q.bp, q.crit)
  s.writeSetting (0x200 + 16 * p) (poolEntry kind die first amount t.1 t.2.1 t.2.2)

/-- POOL_CONFIG (R296, R303, R108): fields that KIND does not use are not read. DEDUCED, log 30. -/
def ownPoolConfig (_ : Waiter) (x : CmdIn) (s : State) : Own :=
  let p := x.pkt.unit
  let kind := x.pkt.f 16 1
  let die := if kind = 2 then x.pkt.f 17 1 else 0
  let n := if kind = 0 then 0 else x.pkt.f 20 4
  let first := if kind = 2 then x.pkt.f 24 2 else 0
  let q := s.pool p
  let held := !(s.usedCells p).isEmpty || q.resv != 0
  let cells := if kind = 1 then 2048 * n else if kind = 2 then 32768 * n else 0
  if 2 < kind then .refuse (paramInvalid 16)
  else if 4 < die then .refuse (paramInvalid 17)
  else if (kind = 1 && n < 64) || (kind = 2 && (n = 0 || (if die < 4 then 24 else 8) < n)) then
    .refuse (paramInvalid 20)
  else if held && kind != 0 && q.kind != 0 && kind != q.kind then .refuse (paramInvalid 16)
  else if held && kind = 2 && die != q.die then .refuse (paramInvalid 17)
  else if held && kind = 2 && first != q.group then .refuse (paramInvalid 24)
  else if s.breaks p kind cells then .refuse { status := 0x0405 }
  else if (kind = 1 && poolArea < s.areaUsed p + hbmTake n) || (kind = 2 && !s.groupsFree p die first n) then .refuse { status := 0x0406 }
  else .done success ((s.configPool p kind die first n cells).writePoolEntry p kind die first n)

/-- `POOL_CONFIG` (R296). -/
def execPoolConfig (x : CmdIn) (s : State) : Host.Outcome State Fault Refusal := .next (runCommand opPoolConfig ownPoolConfig x s)

/-- The first threshold of three that R302 refuses, as a byte offset. -/
def thresholdFault (w b c : Nat) : Option Nat :=
  if 1000 < w then some 16 else if 1000 < b then some 18 else if 1000 < c then some 20
  else if w ≤ b then some 16 else if b ≤ c then some 18 else none

/-- POOL_THRESHOLD (R302): in force at the pool's next allocation or free; at once for a pool that has none. -/
def ownPoolThreshold (_ : Waiter) (x : CmdIn) (s : State) : Own :=
  let p := x.pkt.unit
  let w := x.pkt.f 16 2
  let b := x.pkt.f 18 2
  let c := x.pkt.f 20 2
  match thresholdFault w b c with
  | some o => .refuse (paramInvalid o)
  | none =>
    let q := s.pool p
    let q' : Pool := if q.kind = 0 then { q with warn := w, bp := b, crit := c, nextThr := none } else { q with nextThr := some (w, b, c) }
    let s := s.setPool p q'
    .done success (s.writeSetting (0x200 + 16 * p + 8) (leBytes 2 w ++ leBytes 2 b ++ leBytes 2 c))

/-- `POOL_THRESHOLD` (R302). -/
def execPoolThreshold (x : CmdIn) (s : State) : Host.Outcome State Fault Refusal :=
  .next (runCommand opPoolThreshold ownPoolThreshold x s)

/-! ## Leak audit -/

/-- POOL_AUDIT (R304, R305): it completes with the audit. -/
def ownPoolAudit (w : Waiter) (x : CmdIn) (s : State) : Own :=
  let m := x.pkt.f 24 4
  if m = 0 || 65536 < m then .refuse (paramInvalid 24)
  else match hostAddress x 16 with
    | some r => .refuse r
    | none => .run (s.startAudit 0 (some w) success)

/-- `POOL_AUDIT` (R305). -/
def execPoolAudit (x : CmdIn) (s : State) : Host.Outcome State Fault Refusal := .next (runCommand opPoolAudit ownPoolAudit x s)

/-- GO of POOL_AUDIT_GO: an audit that runs is not started again. -/
def State.auditGo (s : State) (v : Nat) : State := if bit v 0 && s.mem.audits.isEmpty then s.startAudit 0 none success else s

/-- `POOL_AUDIT_GO` (R304). -/
def execPoolAuditGo (path v : Nat) (s : State) : Host.Outcome State Fault Refusal :=
  .next (s.gated path 0x00200010 (fun s => s.auditGo v))

/-- Owners with chains in breach of R306, ascending, with the cells of those chains. -/
def State.leakOwners (s : State) (kind : Nat) : List (Nat × Nat) :=
  let cs := (s.mem.chains.map (·.2)).filter (s.leaks kind)
  (sortNat (cs.map (·.owner))).map (fun o => (o, sumNat ((cs.filter (fun c => c.owner == o)).map (·.cells.length))))

/-- An audit ends (R305, R306): its summary shows, cells in breach are reported and freed, and its command completes. DEDUCED, log 75. -/
def State.auditEnds (s : State) (a : Audit) : State :=
  let rs := s.auditRecords
  let leaks := s.leakOwners a.kind
  let mem := { s.mem with auditOwners := rs.length, auditCells := sumNat (rs.map (·.2.2.1)), auditOldest := maxNat (rs.map (·.2.2.2)) }
  let s := { s with mem := mem }
  let s := leaks.foldl (fun s l => (s.raise evPoolLeak 4 (leBytes 2 l.1 ++ leBytes 4 l.2)).freeOwner a.kind l.1) s
  match a.cmd with
  | none => s
  | some w =>
    if w.opcode = 0x0303 then
      let out := rs.take (w.pkt.f 24 4)
      (s.emit (.hostWrite (w.pkt.f 16 8) (out.map leakRecordBytes).flatten)).finish w
        { status := 0, r0 := rs.length, r1 := out.length }
    else s.finish w a.result

/-- `LEAK_AUDIT_COMPLETE` (R306): the oldest audit in progress ends. -/
def execLeakAuditComplete (s : State) : Host.Outcome State Fault Refusal :=
  .next (match s.mem.audits with
    | [] => s
    | a :: rest => { s with mem := { s.mem with audits := rest } }.auditEnds a)

/-! ## Bank commands -/

/-- BANK_OWN (R282 to R284). DEDUCED, log 74. -/
def ownBankOwn (_ : Waiter) (x : CmdIn) (s : State) : Own :=
  let die := x.pkt.unit
  let b := x.pkt.f 16 2
  let v := x.pkt.f 18 2
  if dieBanks die ≤ b then .refuse (paramInvalid 16)
  else if !ownerOk (bits v 0 12) then .refuse (paramInvalid 18)
  else if !s.handoverOk die b (bits v 0 12) then .refuse (paramInvalid 16)
  else .done success (s.beginHandover die b (bits v 0 12) (bit v 12))

/-- `BANK_OWN` (R282). -/
def execBankOwn (x : CmdIn) (s : State) : Host.Outcome State Fault Refusal := .next (runCommand opBankOwn ownBankOwn x s)

/-- BANK_STATE (R285, R287). DEDUCED, log 74. -/
def ownBankState (_ : Waiter) (x : CmdIn) (s : State) : Own :=
  let die := x.pkt.unit
  let b := x.pkt.f 16 2
  let st := x.pkt.f 18 1
  if dieBanks die ≤ b then .refuse (paramInvalid 16)
  else if 2 < st || !s.bankMoveOk die b st then .refuse (paramInvalid 18)
  else .done success (s.beginBankMove die b st)

/-- `BANK_STATE` (R285). -/
def execBankState (x : CmdIn) (s : State) : Host.Outcome State Fault Refusal := .next (runCommand opBankState ownBankState x s)

/-- Index of a bank in RETIRED_BANKS: T0 first, hub last. -/
def bankIndex (die b : Nat) : Nat := 384 * die + b

/-- RETIRED_BANKS with a bank's bit set. -/
def retireBit (m : CMap Byte) (i : Nat) : CMap Byte :=
  let a := 0x600 + i / 8
  writeMem m a (leBytes 1 ((m.get 0 a).toNat ||| 2 ^ (i % 8)))

/-- The pool of a retired bank loses the bank's whole group. -/
def State.loseGroup (s : State) (p die g : Nat) : State :=
  let q := s.pool p
  let s := s.setPool p { q with lost := sortNat (g :: q.lost), cells := q.cells - 32768, target := q.target - 32768 }
  (s.poolBanks die [g] false).poolChanged p

/-- A bank is set OFF with owner 0x000 and RETIRED, and recorded (R294). -/
def State.retireBank (s : State) (die b : Nat) : State :=
  let k := s.bank die b
  ((s.clearBank die b).setBank die b { k with owner := 0, prev := 0, pending := none, state := 0, next := none, retired := true }).changeSettings
    (fun m => retireBit m (bankIndex die b))

/-- BANK_RETIRE (R294). `physOk` is clear when the owner holds data it cannot move. -/
def ownBankRetire (_ : Waiter) (x : CmdIn) (s : State) : Own :=
  let die := x.pkt.unit
  let b := x.pkt.f 16 2
  let k := s.bank die b
  if dieBanks die ≤ b then .refuse (paramInvalid 16)
  else if k.retired then .done success s
  else match s.bankPool die b with
    | some p =>
      let q := s.pool p
      if s.breaks p 2 (q.target - 32768) then .refuse { status := 0x0405 }
      else if !x.physOk || (s.usedCells p).any (fun c => q.target - 32768 ≤ c) then .refuse { status := 0x0312 }
      else .done success ((s.loseGroup p die (b / 16)).retireBank die b)
    | none =>
      if (k.owner = 1 || k.owner = 2 || k.owner = 3) && !x.physOk then .refuse { status := 0x0312 }
      else .done success (s.retireBank die b)

/-- `BANK_RETIRE` (R294). -/
def execBankRetire (x : CmdIn) (s : State) : Host.Outcome State Fault Refusal := .next (runCommand opBankRetire ownBankRetire x s)

/-- COLUMN_REPAIR (R292, R293). `physOk` says that the fuse reads back as written. -/
def ownColumnRepair (_ : Waiter) (x : CmdIn) (s : State) : Own :=
  let die := x.pkt.unit
  let b := x.pkt.f 16 2
  let sub := x.pkt.f 18 1
  let col := x.pkt.f 19 1
  let k := s.bank die b
  if dieBanks die ≤ b then .refuse (paramInvalid 16)
  else if 15 < sub then .refuse (paramInvalid 18)
  else if 63 < col then .refuse (paramInvalid 19)
  else if 4 ≤ (k.spares.filter (fun c => c.1 == sub)).length then .refuse { status := 0x040B }
  else if !x.physOk then .refuse { status := 0x0502 }
  else .done success (s.setBank die b { k with spares := k.spares ++ [(sub, col)] })

/-- `COLUMN_REPAIR` (R293). -/
def execColumnRepair (x : CmdIn) (s : State) : Host.Outcome State Fault Refusal :=
  .next (runCommand opColumnRepair ownColumnRepair x s)

/-! ## Rows of the BNK block -/

/-- Offset of a BNK register of a die (Table 01-6a). -/
def bnkReg (die off : Nat) : Nat := 0x00100000 + 0x4000 * die + off

/-- The die's LOCK. -/
def State.locked (s : State) (die : Nat) : Bool := bit s.mem.locks die

/-- `BNK_LOCK` (R307): LOCK sets and stays until a reset. -/
def execBnkLock (path die v : Nat) (s : State) : Host.Outcome State Fault Refusal :=
  .next (if die < 5 then s.gated path (bnkReg die 4) (fun s =>
      if bit v 0 then { s with mem := { s.mem with locks := s.mem.locks ||| 2 ^ die } } else s)
    else s)

/-- A write of BNK_OWN: the handover begins, or nothing and an event (R282 to R284, R307). -/
def State.writeBnkOwn (s : State) (path die b v : Nat) : State :=
  if s.locked die || !s.handoverOk die b (bits v 0 12) then s.regInvalid path (bnkReg die (0x800 + 8 * b))
  else s.beginHandover die b (bits v 0 12) (bit v 12)

/-- `BNK_OWN_WRITE` (R282). -/
def execBnkOwnWrite (path die bank v : Nat) (s : State) : Host.Outcome State Fault Refusal :=
  .next (if die < 5 && decide (bank < dieBanks die) then
      s.gated path (bnkReg die (0x800 + 8 * bank)) (fun s => s.writeBnkOwn path die bank v)
    else s)

/-- `BANK_HANDOVER_COMPLETE` (R282). -/
def execBankHandoverComplete (die bank : Nat) (s : State) : Host.Outcome State Fault Refusal := .next (s.endHandover die bank)

/-- A write of BNK_STATE (R285, R287, R290): FAULT is W1C; STATE 3 has no effect; a change that is not
allowed has no effect and raises an event. A locked STATE may be written with the value it holds. -/
def State.writeBnkState (s : State) (path die b v : Nat) : State :=
  let k := s.bank die b
  let s := if bit v 10 then s.setBank die b { k with fault := false } else s
  let st := bits v 0 2
  if st = 3 || (st = k.state && k.next.isNone) then s
  else if s.locked die || !s.bankMoveOk die b st then s.regInvalid path (bnkReg die (0x804 + 8 * b))
  else s.beginBankMove die b st

/-- `BNK_STATE_WRITE` (R285). -/
def execBnkStateWrite (path die bank v : Nat) (s : State) : Host.Outcome State Fault Refusal :=
  .next (if die < 5 && decide (bank < dieBanks die) then
      s.gated path (bnkReg die (0x804 + 8 * bank)) (fun s => s.writeBnkState path die bank v)
    else s)

/-- `BANK_TRANSITION_COMPLETE` (R285). -/
def execBankTransitionComplete (die bank : Nat) (s : State) : Host.Outcome State Fault Refusal := .next (s.endBankMove die bank)

end Sys2Proof.Machine
end

