-- ==== Sys2Proof/Machine/Flags.lean ====
section
/-! DEFINITION. What the power controller computes from its state: tile clock steps (R466), predicted power
(R468), the limit L and its source (R475), token figures (R473). -/

namespace Sys2Proof.Machine

/-- The part is an FK4800-H. -/
def State.isH (s : State) : Bool := s.sys.part == 2

/-- F_MAX in MHz. -/
def State.fMax (s : State) : Nat := if s.isH then 1800 else 1600

/-- Frequency of step k in MHz (R466). -/
def stepMhz (fMax k : Nat) : Nat := (400 * 15 + (fMax - 400) * k) / 15

/-- STEP_MAX of the settings image. -/
def State.stepMax (s : State) : Nat := min (s.setting 0x43 1) 15

/-- Tile clock in MHz. -/
def State.mhz (s : State) : Nat := stepMhz s.fMax s.pwr.step

/-- The predicted power at `f` is within `l` (R468): B + (P − B) × f / f_now ≤ L. -/
def fitsLimit (p b fNow f l : Nat) : Bool := decide (b * fNow + (p - b) * f ≤ l * fNow)

/-- Highest step up to `top` that satisfies `ok`, 0 where none does. -/
def highestStep (ok : Nat → Bool) : Nat → Nat
  | 0 => 0
  | k + 1 => if ok (k + 1) then k + 1 else highestStep ok k

/-- Highest step up to `top` whose predicted power is within the limit. -/
def State.fittingStep (s : State) (l top : Nat) : Nat :=
  highestStep (fun k => fitsLimit s.pwr.avg10 s.pwr.outside s.mhz (stepMhz s.fMax k) l) top

/-- The TDP term of Table 16-4. -/
def State.tdpTerm (s : State) : Nat := (if s.isH then 1300 else 1200) + (if s.pwr.boost then 100 else 0)

/-- POWER_POLICY: 1 BUDGET, 2 THERMAL, 3 BOTH. -/
def State.policy (s : State) : Nat := bits (s.setting 0x44 1) 0 2

/-- The terms of Table 16-4 that apply, as (source, W): 0 TDP, 1 boost, 2 budget, 3 thermal, 4 PROCHOT. -/
def State.limitTerms (s : State) : List (Nat × Nat) :=
  [(b2n s.pwr.boost, s.tdpTerm)]
  ++ (if s.policy = 1 || s.policy = 3 then [(2, s.pwr.budget.getD 600)] else [])
  ++ (if s.policy = 2 || s.policy = 3 then [(3, s.pwr.therm)] else [])
  ++ (if s.pwr.prochot then [(4, 10 * s.setting 0x48 1)] else [])

/-- The smallest term, the first of equal ones. -/
def State.limitTerm (s : State) : Nat × Nat :=
  s.limitTerms.foldl (fun a t => if t.2 < a.2 then t else a) (b2n s.pwr.boost, s.tdpTerm)

/-- L in W (R475). -/
def State.limitW (s : State) : Nat := s.limitTerm.2

/-- A frequency-scaled token figure: ceil(figure × f / F_MAX) (R473). -/
def State.scaled (s : State) (figure : Nat) : Nat := ceilDiv (figure * s.mhz) s.fMax

/-- Token figure of an engine class but TA, or of the control cores (class 7), Table 16-3. -/
def State.figure (s : State) (cls : Nat) : Nat :=
  match cls with
  | 0 => 1
  | 1 => 1
  | 2 => 3
  | 3 => 2
  | 5 => 2
  | 7 => if s.isH then 5 else 4
  | _ => 0

/-- Power figure of a TA pass by operand format (Table 08-7): 0 the 4-bit formats, 1 the 8-bit formats, 2 FP6,
3 the 16-bit formats, 4 FP32. DEDUCED, log 58. -/
def State.taFigure (s : State) (row : Nat) : Nat :=
  if s.isH then [38, 36, 35, 34, 21].getD row 0 else [33, 31, 30, 29, 18].getD row 0

/-- Zone of a junction sensor (R477): tiles 0–3, hub 4, L0 5, L1 6. -/
def zoneOf (i : Nat) : Nat := if i < 80 then i / 20 else if i < 88 then 4 else if i < 92 then 5 else 6

/-- ZLIM of a zone in °C. -/
def State.zlim (s : State) (z : Nat) : Int := (s.setting (0x49 + z) 1 : Nat)

/-- A valid sensor satisfies `f`, of its index and reading. -/
def State.anySensor (s : State) (f : Nat → Int → Bool) : Bool :=
  s.pwr.sensors.zipIdx.any (fun r => match r.1 with | some t => f r.2 t | none => false)

/-- Every valid sensor satisfies `f`. -/
def State.allSensors (s : State) (f : Nat → Int → Bool) : Bool := !s.anySensor (fun i t => !f i t)

/-- Domain of an engine or of the control cores of a tile (Table 01-7). -/
def engineDomain (tile cls idx : Nat) : Nat :=
  6 * tile + (match cls with
    | 0 => if idx < 12 then 0 else 1
    | 1 => if idx < 3 then 0 else 1
    | 4 => 2 + idx
    | 7 => 5
    | _ => 4)

/-- Tokens that a waking tile domain requests: those of its engines (R473). -/
def State.wakeTokens (s : State) (d : Nat) : Nat :=
  match d % 6 with
  | 0 => 15 * s.scaled 1
  | 1 => 15 * s.scaled 1
  | 2 => s.scaled (s.taFigure 0)
  | 3 => s.scaled (s.taFigure 0)
  | 4 => 8 * s.scaled (s.figure 2) + 4 * s.scaled (s.figure 3) + 2 * s.scaled (s.figure 5)
  | _ => s.scaled (s.figure 7)

end Sys2Proof.Machine
end

