-- ==== Sys2Proof/Machine/RefCache.lean ====
section
/-! DEFINITION. The reference cache of a tile (R152 to R156, R171): insertion, holding, eviction. -/

namespace Sys2Proof.Machine

/-- DEC_REFWIN of tile `n`: the cache's limit in bytes and its pool (Table 05-13, R171). -/
def State.refLimit (s : State) (n : Nat) : Nat := bits (s.setting (0x5C + 2 * n) 2) 0 8 * 16777216
def State.refPoolOf (s : State) (n : Nat) : Nat := bits (s.setting (0x5C + 2 * n) 2) 8 6

/-- Bytes of a list of cached frames. -/
def refBytes (rs : List RefFrame) : Nat := sumNat (rs.map (·.size))

/-- A sample holds the frame. -/
def State.refHeld (s : State) (n key : Nat) : Bool := s.samples.any (fun x => x.tile == n && x.refs.contains key)

/-- Frames of the cache of tile `n` dropped, with their chains. -/
def State.dropRefs (s : State) (n : Nat) (gone : List RefFrame) : State :=
  gone.foldl (fun s r => if (s.chain r.chain).isSome then s.freeChain r.chain else s)
    { s with tiles := updAt s.tiles n (fun t => { t with refs := t.refs.filter (fun r => !gone.contains r) }) }

/-- The cache of tile `n` is emptied (R156). -/
def State.emptyRefs (s : State) (n : Nat) : State :=
  let s := s.dropRefs n (s.tiles.getD n {}).refs
  { s with tiles := updAt s.tiles n (fun t => { t with cacheFull := false }) }

/-- What a cache keeps under a limit: frames no sample holds go, least recently used first, while it is above
the limit; frames of another pool go once no sample holds them (R154, R156). -/
def State.evicted (s : State) (n : Nat) : List RefFrame :=
  let rs := (s.tiles.getD n {}).refs
  (rs.foldl (fun (acc : List RefFrame × Nat) r =>
    let above := decide (s.refLimit n < acc.2) || refPool r.chain != s.refPoolOf n
    if above && !s.refHeld n r.key then (acc.1 ++ [r], acc.2 - r.size) else acc) ([], refBytes rs)).1

/-- Evictions of tile `n`. DEDUCED, log 64. -/
def State.trimRefs (s : State) (n : Nat) : State := s.dropRefs n (s.evicted n)

/-- A decoded frame enters the cache, or is declined (R154): the pool's back-pressure level is clear, the cache is
below its size, and the pool gives the cells. DEDUCED, log 64. -/
def State.insertRef (s : State) (n key size : Nat) : State :=
  let p := s.refPoolOf n
  let full := fun (s : State) b => { s with tiles := updAt s.tiles n (fun t => { t with cacheFull := b }) }
  if refBytes (s.tiles.getD n {}).refs < s.refLimit n && !(s.pool p).lvlBp then
    match s.allocate p (0x400 + 256 * n) size false with
    | some (c, s) =>
      let s := { s with tiles := updAt s.tiles n (fun t => { t with refs := t.refs ++ [{ key := key, size := size, chain := c }] }) }
      full s false
    | none => full s true
  else full s true

/-- Samples `is` of tile `n` hold the frame. -/
def State.holdRef (s : State) (n key : Nat) (is : List Nat) : State :=
  { s with samples := s.samples.zipIdx.map (fun e =>
      if is.contains e.2 && e.1.tile == n && !e.1.refs.contains key then { e.1 with refs := e.1.refs ++ [key] } else e.1) }

/-- The cached frame becomes the most recently used. -/
def State.touchRef (s : State) (n key : Nat) : State :=
  { s with tiles := updAt s.tiles n (fun t => { t with refs := t.refs.filter (fun r => r.key != key) ++ t.refs.filter (fun r => r.key == key) }) }

end Sys2Proof.Machine
end

