-- ==== Sys2Proof/Machine/Power.lean ====
section
/-! DEFINITION. Budgets, the Currant arbiter, clock steps, thermal limits, boost and held-frequency mode
(R466 to R485), power domains (R463 to R465), with their rows. -/

namespace Sys2Proof.Machine

/-- A register of the CUR block. -/
def curReg (off : Nat) : Nat := 0x00020000 + off

/-! ## Budgets and sensors -/

/-- A rack budget in W that R476 accepts: it takes effect at the next evaluation. -/
def State.takeBudget (s : State) (w : Nat) : State := { s with pwr := { s.pwr with nextBudget := some w } }

/-- BUDGET_SET: in units of 10 W, 60–130 (R476). -/
def ownBudgetSet (_ : Waiter) (x : CmdIn) (s : State) : Own :=
  let b := x.pkt.f 16 2
  if b < 60 || 130 < b then .refuse (paramInvalid 16) else .done success (s.takeBudget (10 * b))

/-- `BUDGET_SET` (R476). -/
def execBudgetSet (x : CmdIn) (s : State) : Host.Outcome State Fault Refusal := .next (runCommand opBudgetSet ownBudgetSet x s)

/-- `PLDM_BUDGET` (R476): in W; outside 600–1,300 or not a multiple of 10 it is refused. -/
def execPldmBudget (w : Nat) (s : State) : Host.Outcome State Fault Refusal :=
  .next (if !s.alive || w < 600 || 1300 < w || w % 10 != 0 then s else s.takeBudget w)

/-- `CURRENT_SENSOR_SAMPLE` (R473): B_m as the sensors give it. DESIGN CHOICE, log 113. -/
def execCurrentSensorSample (w : Nat) (s : State) : Host.Outcome State Fault Refusal :=
  .next { s with pwr := { s.pwr with fixed := w } }

/-- `PMBUS_READ` (R586): a regulator's voltage, current and temperature. DESIGN CHOICE, log 113. -/
def execPmbusRead (rail mv ma temp : Nat) (s : State) : Host.Outcome State Fault Refusal :=
  .next { s with pwr := { s.pwr with pmbus := s.pwr.pmbus.put rail (mv, ma, temp) } }

/-- `PROCHOT_CHANGE` (R476). -/
def execProchotChange (low : Bool) (s : State) : Host.Outcome State Fault Refusal :=
  .next { s with pwr := { s.pwr with prochot := low } }

/-! ## The Currant arbiter -/

/-- Tokens granted. -/
def PwrBlock.grantW (p : PwrBlock) : Nat := sumNat p.granted.vals

/-- `CURRANT_TOKEN_REFRESH` (R473): L − B_m. -/
def execCurrantTokenRefresh (now : Nat) (s : State) : Host.Outcome State Fault Refusal :=
  let s := s.advance now
  .next { s with pwr := { s.pwr with grantable := s.limitW - s.pwr.fixed } }

/-- Tokens are requested for a consumer (R473). -/
def State.requestTokens (s : State) (key n : Nat) : State := { s with pwr := { s.pwr with queue := s.pwr.queue ++ [(key, n)] } }

/-- A consumer's tokens return, and a request that still waits goes. -/
def State.returnTokens (s : State) (key : Nat) : State :=
  { s with pwr := { s.pwr with granted := s.pwr.granted.del key, queue := s.pwr.queue.filter (fun q => q.1 != key) } }

/-- Grants may go beyond L (R478): PEAK_EN, no clamp, no duty limit. -/
def State.peakOk (s : State) : Bool := bit (s.setting 0x45 1) 1 && !s.pwr.clamped && !s.pwr.duty

/-- The oldest request fits. -/
def State.grants (s : State) (n : Nat) : Bool :=
  decide (s.pwr.grantW + n ≤ s.pwr.grantable) || (s.peakOk && decide (s.pwr.fixed + s.pwr.grantW + n ≤ 1500))

/-- `TOKEN_GRANT` (R474): the oldest request is granted if it fits; otherwise it and all later ones wait. -/
def execTokenGrant (s : State) : Host.Outcome State Fault Refusal :=
  .next (match s.pwr.queue with
    | [] => s
    | q :: rest =>
      if s.grants q.2 then { s with pwr := { s.pwr with queue := rest, granted := s.pwr.granted.put q.1 q.2 } } else s)

/-- `PEAK_CLAMP` (R478): time above L within the last second, in µs. -/
def execPeakClamp (us : Nat) (s : State) : Host.Outcome State Fault Refusal :=
  let s := { s with pwr := { s.pwr with peakUs := us } }
  .next (if !bit (s.setting 0x45 1) 1 then s
    else if decide (20000 ≤ us) && !s.pwr.clamped then { s with pwr := { s.pwr with clamped := true } }.raise evPeakClamp 4 []
    else if us < 20000 then { s with pwr := { s.pwr with clamped := false } }
    else s)

/-! ## Held-frequency mode (R482 to R485) -/

/-- Frequencies in force, as (job, MHz). -/
def PwrBlock.holds (p : PwrBlock) : List (Nat × Nat) := (p.held.filter (fun h => h.2.mhz != 0)).map (fun h => (h.1, h.2.mhz))

/-- The lowest frequency held and its job. DEDUCED, log 96. -/
def PwrBlock.lowestHold (p : PwrBlock) : Option (Nat × Nat) :=
  match p.holds with
  | [] => none
  | h :: hs => some (hs.foldl (fun a x => if x.2 < a.2 then x else a) h)

/-- The tile clock follows the lowest frequency held: the highest step not above it (R482, R484). -/
def State.applyHold (s : State) : State :=
  match s.pwr.lowestHold with
  | some h => { s with pwr := { s.pwr with step := highestStep (fun k => decide (stepMhz s.fMax k ≤ h.2)) s.stepMax } }
  | none => s

/-- Two jobs hold different frequencies (R484). DEDUCED, log 96. -/
def PwrBlock.holdConflict (p : PwrBlock) : Bool :=
  match p.holds with
  | [] => false
  | h :: hs => hs.any (fun x => x.2 != h.2)

/-- FREQ_ANNOUNCE (R482). -/
def ownFreqAnnounce (_ : Waiter) (x : CmdIn) (s : State) : Own :=
  let p := x.pkt
  let mhz := p.f 18 2
  let t := p.f 24 8
  match s.jobNamed p.jobId with
  | none => .refuse jobUnknown
  | some _ =>
    if mhz != 0 && decide (mhz < 400) then .refuse (paramInvalid 18)
    else if s.now + 50000000 < t then .refuse (paramInvalid 24)
    else
      let h := (s.pwr.held.find p.jobId).getD { mhz := 0, next := none }
      .done success { s with pwr := { s.pwr with held := s.pwr.held.put p.jobId { h with next := some (mhz, t) } } }

/-- `FREQ_ANNOUNCE` (R482). -/
def execFreqAnnounce (x : CmdIn) (s : State) : Host.Outcome State Fault Refusal :=
  .next (runCommand opFreqAnnounce ownFreqAnnounce x s)

/-- A job's frequency in force changes; 0 ends its held mode. -/
def State.setHold (s : State) (jobId mhz : Nat) : State :=
  let s := { s with pwr := { s.pwr with
    held := if mhz = 0 then s.pwr.held.del jobId else s.pwr.held.put jobId { mhz := mhz, next := none },
    request := match s.pwr.request with
      | some (j, ask, at') => if j = jobId && decide (mhz ≤ ask) then none else some (j, ask, at')
      | none => none } }
  let s := s.applyHold
  if mhz != 0 && s.pwr.holdConflict then s.raise evFreqConflict 4 [] else s

/-- `HELD_FREQ_TIME_REACHED` (R482, R484, R485): an announcement takes effect at its time T, or on arrival if T has passed. -/
def execHeldFreqTimeReached (jobId now : Nat) (s : State) : Host.Outcome State Fault Refusal :=
  let s := s.advance now
  .next (match s.pwr.held.find jobId with
    | some h =>
      match h.next with
      | some (mhz, t) => if t ≤ s.now then s.setHold jobId mhz else s
      | none => s
    | none => s)

/-- What the evaluation does while a job is held (R485): within L the duty limit clears once no request is
open; beyond L duty limiting starts and a step-down is requested. -/
def State.evaluateHeld (s : State) (h : Nat × Nat) : State :=
  let l := s.limitW
  if fitsLimit s.pwr.avg10 s.pwr.outside s.mhz s.mhz l then
    (if s.pwr.request.isNone then { s with pwr := { s.pwr with duty := false } } else s)
  else
    let s := { s with pwr := { s.pwr with duty := true } }
    if s.pwr.request.isSome then s
    else
      let ask := stepMhz s.fMax (s.fittingStep l s.pwr.step)
      (({ s with pwr := { s.pwr with request := some (h.1, ask, s.now) } }).bump (curReg 0x48) 1).raise evStepdown 4 (leBytes 2 h.1 ++ leBytes 2 ask)

/-- `HELD_MODE_LEFT` (R485): 200 ms after a request that no announcement met. -/
def execHeldModeLeft (now : Nat) (s : State) : Host.Outcome State Fault Refusal :=
  let s := s.advance now
  .next (match s.pwr.request with
    | some (job, _, at') =>
      if at' + 200000000 ≤ s.now then
        let next := (s.pwr.held.find job).bind (·.next)
        let s := { s with pwr := { s.pwr with request := none, duty := false,
                                              held := match next with
                                                | some n => s.pwr.held.put job { mhz := 0, next := some n }
                                                | none => s.pwr.held.del job } }
        (s.applyHold.bump (curReg 0x4C) 1).raise evHeldLeft 4 (leBytes 2 job)
      else s
    | none => s)

/-! ## Clock steps -/

/-- The step outside held mode (R468): down at once, up by one step per 10 ms and not while cooling (R479). -/
def State.chooseStep (s : State) : State :=
  let k := s.fittingStep s.limitW s.stepMax
  if k < s.pwr.step then { s with pwr := { s.pwr with step := k } }
  else if decide (s.pwr.step < k) && !s.pwr.cooling && decide (s.pwr.lastUp + 10000000 ≤ s.now) then
    { s with pwr := { s.pwr with step := s.pwr.step + 1, lastUp := s.now } }
  else s

/-- `CLOCK_STEP_EVALUATION` (R468, R476, R485): every 1 ms, with the average power over 1 ms and 10 ms and
the part of it drawn outside domains 0–23. -/
def execClockStepEvaluation (now avg avg10 outside : Nat) (s : State) : Host.Outcome State Fault Refusal :=
  let s := s.advance now
  let s := { s with pwr := { s.pwr with avg := avg, avg10 := avg10, outside := outside,
                                        budget := s.pwr.nextBudget.orElse fun _ => s.pwr.budget, nextBudget := none } }
  let s := if s.pwr.duty then s.bump64 (curReg 0x40) 1000 else s
  .next (match s.pwr.lowestHold with
    | some h => s.evaluateHeld h
    | none => s.chooseStep)

/-! ## Thermal limit, boost and trip -/

/-- Every valid sensor has been below 90 °C since when (R479). -/
def State.noteCool (s : State) : State :=
  if s.allSensors (fun _ t => decide (t < 90)) then
    { s with pwr := { s.pwr with below90 := some (s.pwr.below90.getD s.now) } }
  else { s with pwr := { s.pwr with below90 := none } }

/-- `THERMAL_LIMIT_UPDATE` (R477): every 1 ms, with the readings of the 96 sensors. -/
def execThermalLimitUpdate (now : Nat) (readings : List (Option Int)) (s : State) : Host.Outcome State Fault Refusal :=
  let s := s.advance now
  let s := { s with pwr := { s.pwr with sensors := (readings ++ List.replicate 96 none).take 96 } }
  let th := s.pwr.therm
  let th' :=
    if s.anySensor (fun i t => decide (s.zlim (zoneOf i) < t)) then max (th - 10) 400
    else if s.allSensors (fun i t => decide (t + 3 ≤ s.zlim (zoneOf i))) then min (th + 10) s.tdpTerm
    else th
  .next ({ s with pwr := { s.pwr with therm := th' } }).noteCool.refreshWarning

/-- One sensor reads `t`. -/
def State.sense (s : State) (i : Nat) (t : Int) : State := { s with pwr := { s.pwr with sensors := s.pwr.sensors.set i (some t) } }

/-- `BOOST_END` (R479): a sensor reaches 95 °C while boost is armed. -/
def execBoostEnd (i : Nat) (temp : Int) (s : State) : Host.Outcome State Fault Refusal :=
  let s := (s.sense i temp).noteCool.refreshWarning
  .next (if s.pwr.boost && decide (95 ≤ temp) then
      { s with pwr := { s.pwr with boost := false, cooling := true, lastCool := s.now } }.raise evBoostEnd 4 []
    else s)

/-- `BOOST_COOLDOWN_STEP` (R479): one step down every 10 ms until every sensor is below 92 °C; not in held mode (R484). -/
def execBoostCooldownStep (now : Nat) (s : State) : Host.Outcome State Fault Refusal :=
  let s := s.advance now
  .next (if !s.pwr.cooling then s
    else if s.allSensors (fun _ t => decide (t < 92)) then { s with pwr := { s.pwr with cooling := false } }
    else if s.pwr.lowestHold.isNone && decide (s.pwr.lastCool + 10000000 ≤ s.now) then
      { s with pwr := { s.pwr with step := s.pwr.step - 1, lastCool := s.now } }
    else s)

/-- `BOOST_REARM` (R479): every sensor has stayed below 90 °C for 60 s. -/
def execBoostRearm (now : Nat) (s : State) : Host.Outcome State Fault Refusal :=
  let s := s.advance now
  .next (match s.pwr.below90 with
    | some t =>
      if bit (s.setting 0x45 1) 0 && !s.pwr.boost && decide (t + 60000000000 ≤ s.now) then
        { s with pwr := { s.pwr with boost := true, cooling := false } }
      else s
    | none => s)

/-- Die of a junction sensor, as events number dies. -/
def sensorDie (i : Nat) : Nat := zoneOf i

/-- `THERMTRIP` (R481, R532): a sensor at 110 °C; every clock but the Sloe island's stops, no flush runs. -/
def execThermtrip (i : Nat) (temp : Int) (s : State) : Host.Outcome State Fault Refusal :=
  .next (if decide (110 ≤ temp) && !s.pwr.tripped then
      let s := (s.sense i temp).latchOnly evThermtrip (sensorDie i) (leBytes 1 i)
      { s with pwr := { s.pwr with tripped := true }, sloe := { s.sloe with cause := s.sloe.cause ||| 2 } }
    else s)

/-! ## Power domains (R463 to R465) -/

/-- A power domain. -/
def State.domain (s : State) (d : Nat) : Domain := s.pwr.domains.getD d {}

/-- Domain `d` changed. -/
def State.updDomain (s : State) (d : Nat) (f : Domain → Domain) : State :=
  { s with pwr := { s.pwr with domains := updAt s.pwr.domains d f } }

/-- Key of a waking domain in the arbiter. -/
def wakeKey (d : Nat) : Nat := 4096 + d

/-- Work is posted to a domain: one that is on stays on; one that is off wakes, under its tokens; one whose
power-down has begun stays on. DEDUCED, log 98. -/
def State.postWork (s : State) (d : Nat) : State :=
  let k := s.domain d
  if k.on then s.updDomain d (fun k => { k with downing := false, lastUse := s.now })
  else if k.waking then s
  else (s.updDomain d (fun k => { k with waking := true })).requestTokens (wakeKey d) (s.wakeTokens d)

/-- A stage or job runs on an engine or the control cores of the domain. DEDUCED, log 98. -/
def State.domainBusy (s : State) (d : Nat) : Bool :=
  s.samples.any (fun x => match x.engine with | some e => engineDomain x.tile e.1 e.2 == d | none => false)
  || s.cxe.running.any (fun j => 6 * j.tile + 4 == d)

/-- Running slices that satisfy `f` are aborted (R542): they run again later. -/
def State.abortSlices (s : State) (f : Slice → Bool) : State :=
  let gone := s.tst.slices.filter f
  let s := { s with tst := { s.tst with slices := s.tst.slices.filter (fun v => !f v) } }
  gone.foldl (fun s v =>
    let s := s.bump 0x00E00020 1
    if v.cls < 6 then s.returnTokens (engineId v.tile v.cls v.idx)
    else if v.cls = 7 then s.setBank v.tile v.idx { s.bank v.tile v.idx with test := false }
    else s) s

/-- `DOMAIN_IDLE_TIMER` (R463): a tile domain has run no stage for SLEEP_IDLE; its power-down begins. -/
def execDomainIdleTimer (d now : Nat) (s : State) : Host.Outcome State Fault Refusal :=
  let s := s.advance now
  .next (if d < 24 && (s.domain d).on && !s.domainBusy d
      && decide ((s.domain d).lastUse + s.setting 0x46 2 * 1000000 ≤ s.now) then
      s.updDomain d (fun k => { k with downing := true })
    else s)

/-- A tile whose six domains are all off sleeps (R463, Table 04-8). -/
def State.noteAsleep (s : State) (n : Nat) : State :=
  if (List.range 6).all (fun i => !(s.domain (6 * n + i)).on) then
    { s with tiles := updAt s.tiles n (fun t => if t.state = 1 then { t with state := 4 } else t) }
  else s

/-- Turning off a tile's decode clusters empties its reference cache (R156). -/
def State.emptyCache (s : State) (d : Nat) : State :=
  if d % 6 ≤ 1 && !(s.domain (6 * (d / 6))).on && !(s.domain (6 * (d / 6) + 1)).on then
    s.emptyRefs (d / 6)
  else s

/-- `DOMAIN_POWER_DOWN_COMMIT` (R465): work posted before the commit aborts the power-down. -/
def execDomainPowerDownCommit (d : Nat) (work : Bool) (now : Nat) (s : State) : Host.Outcome State Fault Refusal :=
  let s := s.advance now
  .next (if !(s.domain d).downing then s
    else if work then s.postWork d
    else
      let s := s.abortSlices (fun v => v.cls < 6 && engineDomain v.tile v.cls v.idx == d)
      ((s.updDomain d (fun k => { k with on := false, downing := false, offSince := s.now })).emptyCache d).noteAsleep (d / 6))

/-- `DOMAIN_WAKE_COMPLETE` (R464): the domain is on; its tile serves. -/
def execDomainWakeComplete (d : Nat) (s : State) : Host.Outcome State Fault Refusal :=
  .next (if (s.domain d).waking && s.pwr.granted.has (wakeKey d) then
      let s := (s.updDomain d (fun k => { k with on := true, waking := false, lastUse := s.now })).returnTokens (wakeKey d)
      { s with tiles := updAt s.tiles (d / 6) (fun t => if t.state = 4 then { t with state := 1 } else t) }
    else s)

end Sys2Proof.Machine
end

