-- ==== Sys2Proof/Machine/Schedule.lean ====
section
/-! DEFINITION. Which engine or control core runs a stage (R95, R126), and the end of a job's samples when it
leaves (R456). -/

namespace Sys2Proof.Machine

/-! ## Stages and engines -/

/-- Tile `n`. -/
def State.tile (s : State) (n : Nat) : Tile := s.tiles.getD n {}

/-- Tile `n` changed. -/
def State.updTile (s : State) (n : Nat) (f : Tile → Tile) : State := { s with tiles := updAt s.tiles n f }

/-- The recipe that processes a sample. -/
def State.sampleRecipe (s : State) (x : Sample) : Option Recipe :=
  match s.jobs.find x.job with
  | some j => s.recipeFor j x.epoch
  | none => none

/-- The sample's demux and decode stages run on VDEs: its container is a video container and the recipe takes a
video track (Tables 03-1 and 05-2). -/
def Recipe.onVde (r : Recipe) (x : Sample) : Bool := decide (x.record.container ≤ 4) && field r.demux 0 1 != 0xFF

/-- Class of what a stage runs on (Table 04-1): class 7 stands for the control cores; none for fetch and deliver. -/
def State.stageClass (s : State) (x : Sample) : Option Nat :=
  match x.stage with
  | 1 => some (match s.sampleRecipe x with | some r => if r.onVde x then 0 else 1 | none => 1)
  | 2 => some (match s.sampleRecipe x with | some r => if r.onVde x then 0 else 1 | none => 1)
  | 3 => some 7
  | 4 => some 2
  | 5 => some 3
  | 6 => some 4
  | 7 => some 7
  | _ => none

/-- Engines of a class on a tile, or its 16 control cores (Table 01-3). -/
def unitCount (cls : Nat) : Nat := if cls = 7 then 16 else classCount cls

/-- Lowest bit of a class in TSCH_BYP_MISC (Table 04-10). -/
def miscBit (cls : Nat) : Nat := [0, 0, 8, 16, 20, 24].getD cls 0

/-- The engine is marked out in the bypass map (Tables 04-9, 04-10). -/
def Tile.out (t : Tile) (cls idx : Nat) : Bool :=
  if cls = 0 then bit t.bypVde idx else if cls < 6 then bit t.bypMisc (miscBit cls + idx) else false

/-- A tile with an engine marked out, or taken from the map. -/
def Tile.mark (t : Tile) (cls idx : Nat) (out : Bool) : Tile :=
  if cls = 0 then { t with bypVde := setBits t.bypVde idx 1 (b2n out) }
  else if cls < 6 then { t with bypMisc := setBits t.bypMisc (miscBit cls + idx) 1 (b2n out) }
  else t

/-- A sample's stage runs on the engine. -/
def State.engineBusy (s : State) (tile cls idx : Nat) : Bool :=
  s.samples.any (fun x => x.tile == tile && x.engine == some (cls, idx))

/-- The engine may take a sample's stage: not the one whose access was refused, while the class has another (R281). -/
def State.engineFits (s : State) (x : Sample) (cls i : Nat) : Bool :=
  !(s.tile x.tile).out cls i
  && (x.avoid != some i || (List.range (unitCount cls)).all (fun k => k == i || (s.tile x.tile).out cls k))

/-- The first engine of a class on a sample's tile that may take its stage. DEDUCED, log 57. -/
def State.freeEngine (s : State) (x : Sample) (cls : Nat) : Option Nat :=
  (List.range (unitCount cls)).find? (fun i => s.engineFits x cls i && !s.engineBusy x.tile cls i)

/-- A sample waits for an engine: it is not held for its parameter record nor for its slot, and its stage
runs on one. -/
def State.waits (s : State) (x : Sample) : Bool :=
  x.engine.isNone && x.held.isNone && (x.stage != 7 || x.slot.isSome) && (s.stageClass x).isSome

/-- Row of Table 08-7 of an operand format. -/
def taRow (fmt : Nat) : Nat :=
  if [8, 11, 16].contains fmt then 0 else if [4, 5, 9, 14, 15].contains fmt then 1
  else if [6, 7, 10].contains fmt then 2 else if [2, 3, 13].contains fmt then 3 else 4

/-- Image that a model index of a recipe names, where it is held. -/
def State.modelImage (s : State) (r : Recipe) (i : Nat) : Option Bytes :=
  match r.images[i]? with
  | some ref => if ref.1 = 0 then (s.loadEnv true none).image ref else none
  | none => none

/-- Power figure of a sample's score stage: the largest of its models' passes (R254). -/
def State.scoreFigure (s : State) (x : Sample) : Nat :=
  match s.sampleRecipe x with
  | none => s.taFigure 4
  | some r =>
    maxNat ((r.namedModels.map (fun p => match s.modelImage r p.1 with
      | some img => (parseModel img).layers.map (fun l => s.taFigure (max (taRow l.fmtA) (taRow l.fmtB)))
      | none => [])).flatten)

/-- Key of an engine, or of a tile's control cores, in the Currant arbiter. DESIGN CHOICE, log 95. -/
def tokenKey (tile cls idx : Nat) : Nat := engineId tile cls (if cls = 7 then 0 else idx)

/-- Tokens that a stage of a sample requests (R473). DEDUCED, log 58. -/
def State.stageTokens (s : State) (x : Sample) (cls : Nat) : Nat := s.scaled (if cls = 4 then s.scoreFigure x else s.figure cls)

/-- A tile's scheduler assigns stages: it is SERVING, DRAINING or ASLEEP (R126). -/
def State.tileRuns (s : State) (n : Nat) : Bool := (s.tile n).state == 1 || (s.tile n).state == 2 || (s.tile n).state == 4

/-- Sample `i` takes an engine: its slice is aborted, its tokens are requested and its domain gets work. -/
def State.assign (s : State) (i cls idx : Nat) : State :=
  match s.samples[i]? with
  | none => s
  | some x =>
    let s := s.abortSlices (fun v => v.tile == x.tile && v.cls == cls && v.idx == idx)
    let first := cls != 7 || !s.samples.any (fun y => y.tile == x.tile && (match y.engine with | some e => e.1 == 7 | none => false))
    let s := { s with samples := updAt s.samples i (fun y => { y with engine := some (cls, idx) }) }
    let s := if first then s.requestTokens (tokenKey x.tile cls idx) (s.stageTokens x cls) else s
    s.postWork (engineDomain x.tile cls idx)

/-- The samples of a tile that wait take free engines, oldest first. DEDUCED, log 57. -/
def State.schedule (s : State) (n : Nat) : State :=
  if !s.tileRuns n then s
  else (List.range s.samples.length).foldl (fun s i =>
    match s.samples[i]? with
    | some x =>
      if x.tile = n && s.waits x then
        match s.stageClass x with
        | some c =>
          match s.freeEngine x c with
          | some idx => s.assign i c idx
          | none => s
        | none => s
      else s
    | none => s) s

/-- The stage of a sample may end: its engine has its tokens and its domain is on. -/
def State.stageRuns (s : State) (x : Sample) : Bool :=
  match x.engine with
  | some e => s.pwr.granted.has (tokenKey x.tile e.1 e.2) && s.domainOn (engineDomain x.tile e.1 e.2)
  | none => false

/-- Sample `i` gives its engine up: its tokens return, and the engine is idle from now on. -/
def State.release (s : State) (i : Nat) : State :=
  match s.samples[i]? with
  | none => s
  | some x =>
    match x.engine with
    | none => s
    | some e =>
      let s := { s with samples := updAt s.samples i (fun y => { y with engine := none }) }
      let shared := e.1 == 7 && s.samples.any (fun y => y.tile == x.tile && (match y.engine with | some f => f.1 == 7 | none => false))
      let s := if shared then s else s.returnTokens (tokenKey x.tile e.1 e.2)
      let s := s.updDomain (engineDomain x.tile e.1 e.2) (fun k => { k with lastUse := s.now })
      { s with tst := { s.tst with idleSince := s.tst.idleSince.put (engineId x.tile e.1 e.2) s.now } }

/-! ## Leaving a job -/

/-- The samples of a job end: engines, tokens and reservations go back; their cells stay allocated (R456). -/
def State.endSamples (s : State) (slot : Nat) : State :=
  let s := (List.range s.samples.length).foldl (fun s i =>
    match s.samples[i]? with
    | some x => if x.job = slot then s.release i else s
    | none => s) s
  let gone := s.samples.filter (fun x => x.job == slot)
  gone.foldl (fun s x =>
    match s.sampleRecipe x with
    | some r => s.returnResv (r.desc x.bucket).pool x.reserved
    | none => s) { s with samples := s.samples.filter (fun x => x.job != slot) }

/-- Fetch and delivery of a job stop (R456): its samples end, only writes outstanding remain, and the engines go
to other work. -/
def State.haltJob (s : State) (slot : Nat) : State :=
  match s.jobs.find slot with
  | some j =>
    ((List.range 4).foldl State.schedule (s.endSamples slot)).setJob slot
      { j with ready := [], copies := j.copies.filter (fun c => c.phase == 1 || c.phase == 2) }
  | none => s

/-- The chains a job slot owns are marked for the next leak audit, which frees them (R456). DEDUCED, log 75. -/
def State.markLeft (s : State) (slot : Nat) : State :=
  let chains := s.mem.chains.map (fun c => if c.2.owner == 0xC00 + slot then (c.1, { c.2 with left := true }) else c)
  { s with mem := { s.mem with chains := chains } }

/-- A job leaves its slot without a word to anyone: its samples end, its plans are released, its cells are left to the
next leak audit (R456). -/
def State.dropJob (s : State) (slot : Nat) : State :=
  match s.jobs.find slot with
  | some j =>
    let s := j.plans.foldl (fun s p => s.releasePlan p) (s.endSamples slot)
    let s := s.markLeft slot
    { s with jobs := s.jobs.del slot, loads := s.loads.filter (fun l => l.job != slot),
             pwr := { s.pwr with held := s.pwr.held.del j.id,
                                 request := match s.pwr.request with
                                   | some r => if r.1 = j.id then none else some r
                                   | none => none } }
  | none => s

/-- JOB_END or JOB_LEAVE leaves a job (R334, R456): its partner is told, its waiting commands complete. -/
def State.leaveJob (s : State) (slot : Nat) : State :=
  match s.jobs.find slot with
  | some j => j.taken.foldl (fun s d => s.closeMirror j.id d) (((s.releaseMirror j).releaseWaiters slot).dropJob slot)
  | none => s

/-- The device leaves every job it serves (R496, R488, R549, R516): no release is sent, so that its partner
can take over from the mirrored cursor (R60, R334). -/
def State.leaveJobs (s : State) : State := s.jobs.keys.foldl (fun s k => (s.releaseWaiters k).dropJob k) s

/-- JOB_END or a leave that waited for its outstanding writes completes (R456). -/
def State.endIfQuiet (s : State) (slot : Nat) : State :=
  match s.jobs.find slot with
  | some j =>
    match j.ending with
    | some w => if j.quiet then (s.leaveJob slot).finish w success else s
    | none => s
  | none => s

end Sys2Proof.Machine
end

