-- ==== Sys2Proof/Machine/Stops.lean ====
section
/-! DEFINITION. The coolant-flow stop (R486 to R488) and the holdup flush (R549 to R551), with their rows. -/

namespace Sys2Proof.Machine

/-- Domains of the tiles and of the link dies: all but the hub's and the HBM PHY pairs (Table 01-7). -/
def stoppedDomain (d : Nat) : Bool := decide (d < 24) || (decide (28 ≤ d) && decide (d < 32))

/-- Domains that satisfy `f` turn off. -/
def State.domainsOff (s : State) (f : Nat → Bool) : State :=
  { s with pwr := { s.pwr with domains := s.pwr.domains.zipIdx.map (fun e =>
      if f e.2 then { e.1 with on := false, downing := false, waking := false, offSince := s.now } else e.1) } }

/-- The ports of the link dies go down. -/
def NetBlock.down (n : NetBlock) : NetBlock :=
  { n with ports := n.ports.map (fun p => { p with state := 0, ctrl := 0, request := none, exiting := false, unacked := [], timeHops := none }),
           eth := n.eth.map (fun e => { e with state := 0 }) }

/-- Tiles and link dies stop (R486 step 2, R549 step 2): the device leaves every job, compression commands
wait again, drains end, token requests go. DEDUCED, log 111. -/
def State.stopEngines (s : State) : State :=
  let s := s.leaveJobs.abortSlices (fun _ => true)
  let s := s.finishAll ((s.tiles.map (·.drainCmds)).flatten) success
  let s := s.domainsOff stoppedDomain
  let s := (List.range 4).foldl State.emptyRefs s
  { s with tiles := s.tiles.map (fun t => { t with state := 0, drainCmds := [] }),
           cxe := { queued := s.cxe.running ++ s.cxe.queued, running := [] }, net := s.net.down,
           pwr := { s.pwr with queue := [], granted := [] } }

/-- Erases and class-4 programs of a die are aborted; their source data stays valid (R549 step 3). -/
def Die.abortMoves (d : Die) : Die :=
  let keep := fun (o : NandOp) => o.kind != 2 && !(o.cls == 4 && o.kind == 1)
  { d with queue := d.queue.filter keep, running := d.running.filter keep, suspended := d.suspended.filter keep }

/-- A media flush begins: 1 on PWR_FAIL_N, 2 on a coolant-flow stop. Write admission stops. DEDUCED, log 111. -/
def State.beginFlush (s : State) (kind : Nat) : State :=
  { s with med := { s.med with flush := kind, state := 3, dies := s.med.dies.map (fun d => (d.1, d.2.abortMoves)) } }

/-- The flush ends: the media is sealed and FLUSH_DONE raised (R549 step 5). -/
def State.endFlush (s : State) : State :=
  let s := s.sealMedia
  ({ s with med := { s.med with state := 4, flush := 0 } }).raise evFlushDone 4 []

/-! ## Coolant -/

/-- COOLANT_FLOW_N is low from now on. -/
def State.flowLost (s : State) : State :=
  if s.pwr.flowLow then s else { s with pwr := { s.pwr with flowLow := true, flowAt := s.now } }

/-- COOLANT_FLOW_N returns high: the time it was low does not count against the 120 s of R508. -/
def State.flowBack (s : State) : State :=
  if s.pwr.flowLow then
    { s with pwr := { s.pwr with flowLow := false }, sys := { s.sys with suspended := s.sys.suspended + (s.now - s.pwr.flowAt) } }
  else s

/-- The coolant-flow stop is latched (R486, R532). -/
def State.latchStop (s : State) : State :=
  let s := s.latchOnly evCoolantStop 7 []
  { s with sloe := { s.sloe with cause := s.sloe.cause ||| 1 }, pwr := { s.flowLost.pwr with stopped := true } }

/-- A flush begins unless one runs (R488). -/
def State.stopFlush (s : State) : State := if s.med.flush = 0 then s.beginFlush 2 else s

/-- `COOLANT_STOP` (R486, R488, R532): COOLANT_FLOW_N low for 50 µs. A holdup flush in progress is not restarted. -/
def execCoolantStop (s : State) : Host.Outcome State Fault Refusal :=
  .next (if s.pwr.stopped || s.pwr.tripped || !s.sys.ready then s.flowLost else s.latchStop.stopEngines.stopFlush)

/-- `COOLANT_FLOW_RETURN` (R488). -/
def execCoolantFlowReturn (s : State) : Host.Outcome State Fault Refusal :=
  .next s.flowBack

/-- `COOLANT_FLUSH_END` (R486 step 4, R487): the flush has completed, or 2 s have passed and it has not; the
hub halts, and only domain 27 stays powered. -/
def execCoolantFlushEnd (done : Bool) (s : State) : Host.Outcome State Fault Refusal :=
  .next (if s.pwr.stopped && !s.pwr.halted then
      let s :=
        if s.med.flush = 0 then s
        else if done then s.endFlush
        else { s with med := { s.med with flush := 0, state := 0 }, sloe := { s.sloe with cause := s.sloe.cause ||| 4 } }.loseDirty
      let s := s.domainsOff (fun d => d != 27)
      { s with pwr := { s.pwr with halted := true }, sys := { s.sys with ready := false } }
    else s)

/-- Steps 1 to 7 of Table 17-2, as bits. -/
def stepsToHbm : Nat := 0xFE

/-- RESTART_AFTER_STOP (R488): steps 8 to 12 of Table 17-2 follow. -/
def ownRestartAfterStop (_ : Waiter) (_ : CmdIn) (s : State) : Own :=
  if !s.pwr.stopped || s.pwr.flowLow then .done { status := 1 } s
  else
    let s := [24, 25, 26, 32, 33, 34, 35].foldl (fun s d => s.updDomain d (fun k => { k with on := true })) s
    .done success { s with pwr := { s.pwr with stopped := false, halted := false },
                           sys := { s.sys with steps := stepsToHbm, ready := false },
                           med := { s.med with state := if s.med.flush = 0 then 0 else s.med.state } }

/-- `RESTART_AFTER_STOP` (R488). -/
def execRestartAfterStop (x : CmdIn) (s : State) : Host.Outcome State Fault Refusal :=
  .next (runCommand opRestartAfterStop ownRestartAfterStop x s)

/-! ## Power failure -/

/-- `PWR_FAIL_ASSERT` (R549, R550, R488): the flush is latched; one in progress goes on. -/
def execPwrFailAssert (s : State) : Host.Outcome State Fault Refusal :=
  let s := { s with pwr := { s.pwr with pwrFail := true } }
  .next (if s.med.flush != 0 || s.pwr.stopped || !s.alive || s.med.state = 0 then s
    else s.stopEngines.beginFlush 1)

/-- `HOLDUP_FLUSH_COMPLETE` (R549 step 5, R550): with power back, the media path, tiles and link dies start
again at steps 8 to 10 of Table 17-2. -/
def execHoldupFlushComplete (powerBack : Bool) (s : State) : Host.Outcome State Fault Refusal :=
  .next (if s.med.flush = 1 then
      let s := s.endFlush
      let s := { s with pwr := { s.pwr with pwrFail := !powerBack } }
      if powerBack && !s.pwr.stopped then
        { s with med := { s.med with state := 1 }, sys := { s.sys with steps := s.sys.steps &&& (0xFFFF - 0x700) } }
      else s
    else s)

end Sys2Proof.Machine
end

