-- ==== Sys2Proof/Machine/Boot.lean ====
section
/-! DEFINITION. Resets (R494 to R496), the start sequence (R497 to R499), failed starts (R508), with
their rows; the host link's pins and configuration requests; a fault of a hub unit (R31). -/

namespace Sys2Proof.Machine

/-! ## Resets -/

/-- PF1 is reset (R447, R562): every ring is disabled; what it fetched and did not accept is never
executed; completions of commands accepted are discarded; ring bindings end. DEDUCED, log 33. -/
def State.resetPf1 (s : State) : State :=
  let isRing := fun (x : Source) => match x with | .ring _ => true | _ => false
  { s with cmd := { s.cmd with rings := List.replicate 64 {}, fetched := [],
                               waiting := s.cmd.waiting.filter (fun d => !isRing d.cmd.src),
                               followers := s.cmd.followers.filter (fun f => !isRing f.2.src),
                               arrivals := s.cmd.arrivals.map (fun a => if isRing a.src then { a with post := false } else a) },
           sec := { s.sec with bindings := [] } }

/-- What a reset leaves of SYS (Table 17-9). -/
def SysBlock.afterReset (b : SysBlock) (cold : Bool) (cause now : Nat) : SysBlock :=
  { vendor := b.vendor, part := b.part, stepping := b.stepping, serial := b.serial, macBase := b.macBase, strap := b.strap,
    cause := cause, warms := if cold then 0 else satTo 32 (b.warms + 1), resetAt := now, rails := b.rails, standby := b.standby,
    perstLow := b.perstLow, perstSeen := b.perstSeen && !cold }

/-- What a reset leaves behind the UPD block: the xSPI memory (Table 17-1). -/
def UpdBlock.afterReset (b : UpdBlock) : UpdBlock :=
  { slotA := b.slotA, slotB := b.slotB, records := b.records, setA := b.setA, setB := b.setB, boots := b.boots,
    bootSeq := b.bootSeq, sloePending := b.sloePending, restart := b.sloePending }

/-- What a reset leaves of the enclave: credentials, fuses, the audit records in xSPI (R574). -/
def SecBlock.afterReset (b : SecBlock) : SecBlock :=
  { creds := b.creds, secver := b.secver, decommissioned := b.decommissioned, startNumber := b.startNumber,
    auditSeq := b.auditSeq, auditChain := b.auditChain, audit := b.audit.take 448 }

/-- A die after a reset: its operations are gone. -/
def Die.afterReset (d : Die) : Die := { state := if d.state = 2 then 2 else 0, retiredBlocks := d.retiredBlocks }

/-- What a reset leaves of the media: what NAND holds. DEDUCED, log 45. -/
def MedBlock.afterReset (b : MedBlock) : MedBlock :=
  { spaces := b.spaces, dies := (b.dies.map (fun d => (d.1, d.2.afterReset))).filter (fun d => decide (d.2 ≠ {})), wearMean := b.wearMean,
    wearMax := b.wearMax, slcFill := b.slcFill, folding := b.folding, capLow := b.capLow, journal := b.journal,
    flushed := b.journal, segments := b.segments, rootValid := b.rootValid, sealed := b.sealed, nextPiece := b.nextPiece,
    lastDie := b.lastDie, sanitize := b.sanitize, nextKey := b.nextKey }

/-- What a reset leaves of the power block: the levels of the pins, what sensors read, a latched trip. -/
def PwrBlock.afterReset (b : PwrBlock) (now : Nat) : PwrBlock :=
  { flowLow := b.flowLow, flowAt := now, pwrFail := b.pwrFail, prochot := b.prochot, tripped := b.tripped, sensors := b.sensors,
    pmbus := b.pmbus, fixed := b.fixed }

/-- Banks keep the spare columns that fuses hold (R293). -/
def keepSpares (m : CMap Bank) : CMap Bank :=
  (m.filter (fun b => !b.2.spares.isEmpty)).map (fun b => (b.1, { spares := b.2.spares }))

/-- Every die but the Sloe island is reset: volatile content is lost, the device has left its jobs (R494, R496). DEDUCED, log 36, 44. -/
def State.clearDies (s : State) (cold : Bool) (cause : Nat) : State :=
  let s := s.loseDirty.abortSelftest 2
  { pending := s.pending, emitted := s.emitted, fresh := s.fresh, now := s.now, sys := s.sys.afterReset cold cause s.now,
    upd := s.upd.afterReset, set := defaultSettings, run := defaultSettings, sloe := s.sloe, cmd := { nextSeq := s.cmd.nextSeq },
    evt := {}, sec := s.sec.afterReset, brm := {}, jobs := [], recipes := [], models := [], vocabs := [], grammars := [], loads := [],
    tiles := List.replicate 4 {}, samples := [], mem := { banks := keepSpares s.mem.banks }, cxe := {}, rma := {}, net := {},
    med := s.med.afterReset, nvme := { selfLog := s.nvme.selfLog }, pwr := s.pwr.afterReset s.now, tst := {},
    counters := if cold then [] else s.counters.filter (fun c => !isRc c.1), snaps := [], shadows := [] }

/-- A warm or cold reset: the start sequence begins, with the next start number (R564). DEDUCED, log 44, 45. -/
def State.deviceReset (s : State) (cold : Bool) (cause : Nat) : State :=
  let s := s.clearDies cold cause
  { s with sec := { s.sec with startNumber := s.sec.startNumber.map (fun n => (n + 1) % 2 ^ 32) } }

/-- The rails are up, no trip stands: the device runs its start sequence. -/
def State.canRun (s : State) : Bool := s.sys.rails && s.sys.standby && !s.pwr.tripped && !s.pwr.halted

/-- `WARM_RESET` (R494), with a cause of Table 17-9. -/
def execWarmReset (cause : Nat) (s : State) : Host.Outcome State Fault Refusal :=
  .next (if s.canRun && decide (2 ≤ cause) && decide (cause ≤ 6) then s.deviceReset false cause else s)

/-- `MAIN_RAIL_LOSS` (R590, R551): every die but the Sloe island is held in reset, and a flush ends. DEDUCED, log 97. -/
def execMainRailLoss (s : State) : Host.Outcome State Fault Refusal :=
  .next (if s.sys.rails then let s := s.clearDies true 7; { s with sys := { s.sys with rails := false } } else s)

/-- `MAIN_RAILS_VALID` (R590, R481): the device starts by cold reset; a trip ends there once every sensor is
below 100 °C. DEDUCED, log 97. -/
def execMainRailsValid (s : State) : Host.Outcome State Fault Refusal :=
  .next (if s.sys.rails || !s.sys.standby then s
    else
      let cool := s.allSensors (fun _ t => decide (t < 100))
      let trip := s.pwr.tripped
      let s := s.deviceReset true (if trip then 1 else s.sys.cause)
      { s with sys := { s.sys with rails := true }, pwr := { s.pwr with tripped := trip && !cool } })

/-- `STANDBY_RAILS_REMOVE` (R591, R508, R481): the Sloe island stops; what it held goes. -/
def execStandbyRailsRemove (s : State) : Host.Outcome State Fault Refusal :=
  .next (if s.sys.standby then
      let s := s.clearDies true 0
      { s with sys := { s.sys with standby := false, strap := 0 }, sloe := {}, pwr := { s.pwr with tripped := false } }
    else s)

/-- `STANDBY_RAILS_APPLY` (R462, R597, R587 step 3): the island starts on its RC oscillator with its reset values
and samples the straps; with the main rails up, the device starts by cold reset. -/
def execStandbyRailsApply (strap : Nat) (s : State) : Host.Outcome State Fault Refusal :=
  .next (if s.sys.standby then s
    else
      let s := if s.sys.rails then s.deviceReset true 0 else s
      { s with sys := { s.sys with standby := true, strap := bits strap 0 4, cause := 0 },
               sloe := { ticksAt := s.now, onRc := true }, upd := { s.upd with sloePending := false, restart := false } })

/-! ## Failed starts -/

/-- A start fails (R508): its record, the reason in the boot-attempt record, and a warm reset. On a slot on
trial, the record of the slot goes back to the previous one, with reason 0x0A (R514). -/
def State.failStart (s : State) (reason detail : Nat) : State :=
  let slot := s.upd.slot
  if s.upd.trial then
    let s := (s.bootRecord 0x0A slot).writeCount s.bootCount 0x0A
    let s := { s with upd := s.upd.writeRecord (1 - slot) false }
    (s.deviceReset false 5).raise evUpdReverted 4 (leBytes 1 slot)
  else ((s.bootRecord reason detail).writeCount s.bootCount reason).deviceReset false 2

/-- A live activation did not reach service ready: its slot is reverted (R514, R516). -/
def State.revertActivation (s : State) : State :=
  let slot := s.upd.slot
  let s := (s.bootRecord 0x0A (1 - slot)).writeCount s.bootCount 0x0A
  ({ s with upd := s.upd.writeRecord slot false }.deviceReset false 5).raise evUpdReverted 4 (leBytes 1 (1 - slot))

/-- `BOOT_WATCHDOG_EXPIRY` (R508, R499, R516): 120 s from the reset without service ready; not in Pit mode, and
not while flow is low; or 120 s of a live activation. -/
def execBootWatchdogExpiry (now : Nat) (s : State) : Host.Outcome State Fault Refusal :=
  let s := s.advance now
  .next (if s.canRun && !s.sys.readyOnce && !s.sys.pit && !s.pwr.flowLow
      && decide (s.sys.resetAt + 120000000000 + s.sys.suspended ≤ s.now) then s.failStart 8 s.lastStep
    else if s.canRun && s.upd.activating.isSome && decide (s.upd.activateAt + 120000000000 ≤ s.now) then s.revertActivation
    else s)

/-! ## Settings in force -/

/-- The bypass maps of the settings image (R128). -/
def State.loadBypass (s : State) : State :=
  { s with tiles := s.tiles.zipIdx.map (fun t =>
      { t.1 with bypVde := s.setting (0x64 + 4 * t.2) 4, bypMisc := s.setting (0x74 + 4 * t.2) 4 }) }

/-- The banks retired by RETIRED_BANKS: T0 first, hub last. -/
def State.loadRetired (s : State) : State :=
  (List.range 1664).foldl (fun s i =>
    if bit (s.set.get 0 (0x600 + i / 8)).toNat (i % 8) then
      let die := if i < 1536 then i / 384 else 4
      let b := i - 384 * die
      s.setBank die b { s.bank die b with owner := 0, prev := 0, pending := none, state := 0, next := none, retired := true }
    else s) s

/-- Port addressing and PTP of the NETWORK field. -/
def State.loadNetwork (s : State) : State :=
  let f := Config.netField (readMem s.set 0x100 256)
  { s with net := { s.net with
      ptp := f 8 0 % 2 ^ 15,
      eth := s.net.eth.zipIdx.map (fun e =>
        { e.1 with ipVersion := f e.2 0, prefixLen := f e.2 1, vlan := f e.2 2, addr := f e.2 3, mcVersion := f e.2 4, mcAddr := f e.2 5 }) } }

/-- A service as an entry of LIVE_SERVICES gives it. -/
def serviceOf (entry : Bytes) : Option Service :=
  if entry.all (· == 0) then none
  else
    let f := Config.serviceField entry
    some { port := f 1 % 8, ipv6 := f 2 % 2 == 1, specific := f 3 % 2 == 1, udp := f 4, program := f 5, duration := f 6, group := f 7,
           source := f 8, state := 1, rtp := false, window := [], nextSeq := none, counters := [], segment := [], segCount := 0,
           segStart := none, cutting := false, segs := [] }

/-- The service table of LIVE_SERVICES. -/
def State.loadServices (s : State) : State :=
  { s with net := { s.net with services := (List.range 512).filterMap (fun n =>
      (serviceOf (readMem s.set (0x11000 + 32 * n) 32)).map (fun v => (n, v))) } }

/-- The partner that the settings image names (R334). -/
def State.settingPartner (s : State) : Option Nat :=
  let v := s.setting 0x58 2
  if bit v 15 then some (bits v 0 13) else none

/-! ## Steps of Table 17-2 -/

/-- Step `k` has ended. -/
def State.stepDone (s : State) (k : Nat) : Bool := bit s.sys.steps k

/-- Steps that step `k` follows. -/
def State.stepsBefore (s : State) : Nat → List Nat
  | 0 => []
  | 1 => []
  | 2 => [1]
  | 3 => [2]
  | 4 => [3]
  | 5 => [4]
  | 6 => if s.sys.pitDue then [5] else [4]
  | 7 => [6]
  | 11 => [8, 9, 10]
  | 12 => [11]
  | _ => [7]

/-- A reference clock is GOOD. -/
def State.clockGood (s : State) (m : Nat) : Bool := (s.pwr.monitors.getD m {}).state == 0

/-- What holds a step back beside the steps before it: REFCLK_SYS (R593), Pit mode, flow (R499), the audit (R304). DEDUCED, log 100. -/
def State.stepFree (s : State) (k : Nat) : Bool :=
  match k with
  | 3 => s.clockGood 0
  | 5 => s.sys.pitDue
  | 7 => !s.sys.pit
  | 8 => !s.pwr.flowLow
  | 9 => !s.pwr.flowLow
  | 10 => !s.pwr.flowLow
  | 12 => s.mem.audits.all (fun a => a.kind != 1)
  | _ => true

/-- Step `k` runs and may end. DEDUCED, log 100. -/
def State.stepDue (s : State) (k : Nat) : Bool :=
  decide (1 ≤ k) && decide (k ≤ 12) && !s.stepDone k && s.canRun && (s.stepsBefore k).all s.stepDone && s.stepFree k

/-- Domains of a list turn on. -/
def State.domainsOn (s : State) (ds : List Nat) : State := ds.foldl (fun s d => s.updDomain d (fun k => { k with on := true, lastUse := s.now })) s

/-- Step 1: the hub is released; each clock monitor sees its clock or reports it lost (R593). DEDUCED, log 38. -/
def State.stepHub (s : State) (out : StartOut) : State :=
  let s := s.domainsOn [24, 25, 26, 27]
  let lost := fun m => bit out.missing m
  let s := { s with pwr := { s.pwr with
      onB := packFields [(0, 1, b2n (lost 2 && !lost 3)), (1, 1, b2n (lost 4 && !lost 5))],
      monitors := s.pwr.monitors.zipIdx.map (fun e =>
        if lost e.2 then { e.1 with state := 1, inUse := false, last := s.now }
        else { e.1 with state := 0, inUse := (e.2 != 3 && e.2 != 5) || lost (e.2 - 1) }) } }
  let s := if lost 6 || !s.sloe.onRc && s.sloe.xtal then s
    else { s with sloe := { s.sloe with ticks := s.sloeTicks, ticksAt := s.now, xtal := true, onRc := false } }
  ((List.range 7).filter lost).foldl (fun s m => (s.bump (0x30104 + 0x10 * m) 1).raise evClkLoss 4 (leBytes 1 m)) s

/-- The device rebuilds the audit head from the newest record, or starts a new chain (R575). DEDUCED, log 116. -/
def State.rebuildAudit (s : State) : State :=
  let first : AuditRec := { seq := 0, time := s.now, opcode := 0, status := 0, cred := 0, role := 0, route := 0, source := 0, leaf := [],
                            packet := [], count := 1, chain := [], prev := [] }
  let c := match s.sec.audit with
    | a :: _ => { s.sec with auditSeq := a.seq, auditChain := a.chain }
    | [] =>
      let r := first.sealed (zeros 48)
      { s.sec with audit := [r], auditSeq := 0, auditChain := r.chain }
  { s with sec := c }.raise evAuditHeadLost 4 []

/-- Records with neither slot valid at this start (R540, R564, R575): the count is 3, no record names a slot, the head is
rebuilt, the start number waits for time, no FTL root stands, a sanitize resumes. DEDUCED, log 116. -/
def State.tornRecords (s : State) (k torn : Nat) : State :=
  match k with
  | 2 => if bit torn 0 then { s with sloe := { s.sloe with count := none, countOld := none } } else s
  | 3 => if bit torn 1 then { s with upd := { s.upd with records := s.upd.records.map (fun r => { r with valid := false }) } } else s
  | 4 =>
    let s := if bit torn 2 then s.rebuildAudit else s
    if bit torn 3 then { s with sec := { s.sec with startNumber := none } } else s
  | 10 =>
    let s := if bit torn 4 then { s with med := { s.med with rootValid := false } } else s
    if bit torn 5 then { s with med := { s.med with sanitize := some (s.med.sanitize.getD 1) } } else s
  | _ => s

/-- Step 2: the boot-attempt check (R508, R578). -/
def State.stepCount (s : State) : State :=
  let s := { s with sys := { s.sys with pitDue := s.sys.pitDue || s.sec.decommissioned || decide (3 ≤ s.bootCount) } }
  if 3 ≤ s.bootCount then s else s.writeCount (s.bootCount + 1) s.bootReason

/-- Step 3: the firmware slot (R503); a fallback writes a record without a failed start. DESIGN CHOICE, log 101. -/
def State.stepFirmware (s : State) (out : StartOut) : State × Option (Nat × Nat) :=
  let okA := fwAccepted s.upd.slotA.data out.sigA s.sec.secver
  let okB := fwAccepted s.upd.slotB.data out.sigB s.sec.secver
  let active := match s.upd.activeRecord with | some r => r.slot | none => 0
  let trial := match s.upd.activeRecord with | some r => r.trial | none => false
  let okOf := fun i => if i = 0 then okA else okB
  let bad := packFields [(0, 1, b2n (!okA)), (1, 1, b2n (!okB))]
  let u := { s.upd with slotA := { s.upd.slotA with valid := okA }, slotB := { s.upd.slotB with valid := okB } }
  if !okA && !okB then ({ s with upd := { u with slot := active, trial := false } }, some (1, bad))
  else
    let back := !okOf active
    let slot := if back then 1 - active else active
    let img := (u.fwSlot slot).data
    let s := { s with upd := { u with slot := slot, trial := trial && !back, fallback := if back then some active else none },
                      sys := { s.sys with dl := fwDl img, fabricN := fwFabric img, version := fwVersion img, imageSec := fwSecurity img } }
    (if back then s.bootRecord 0x0C bad else s, none)

/-- Step 4: the newest valid settings copy (R505). -/
def State.stepSettings (s : State) : State × Option (Nat × Nat) :=
  match s.upd.activeCopy with
  | none => (s, some (2, 0))
  | some c =>
    let s := { s with set := c.body, run := c.body, upd := { s.upd with setSeq := c.seq } }
    let s := { s with sys := { s.sys with number := s.setting 0x40 2 }, rma := { s.rma with partner := s.settingPartner },
                      sec := { s.sec with signkeys := settingKeys s.set } }
    (s.loadBypass.loadRetired.loadNetwork.loadServices, none)

/-- Step 5: Pit mode; NAND and Bramble's domain stay off. -/
def State.stepPit (s : State) : State :=
  let s := s.domainsOff (fun d => d == 24 || d == 26)
  { s with sys := { s.sys with pit := true } }

/-- Step 7: HBM is trained, and the HBM event ring takes over (R534). DEDUCED, log 38. -/
def State.stepHbm (s : State) (out : StartOut) : State × Option (Nat × Nat) :=
  match out.hbmFail with
  | some n => (s, some (3, n))
  | none => ({ s with evt := { s.evt with early := false } }.domainsOn [32, 33, 34, 35], none)

/-- Microcode of tile `n` as the running image carries it: its VERSION by component type 4–8. -/
def UpdBlock.microcode (u : UpdBlock) : CMap Nat :=
  let img := (u.fwSlot u.slot).data
  (([4, 5, 6, 7, 8].filter (fun t => (fwComponents img).any (fun c => c.1 == t)))).map (fun t => (t, fwVersion img))

/-- A tile starts or stays OFFLINE (R498). -/
def State.startTile (s : State) (n : Nat) (ok : Bool) : State :=
  if ok then
    let s := s.domainsOn ((List.range 6).map (6 * n + ·))
    { s with tiles := updAt s.tiles n (fun t => { t with state := 1, share := Config.tileShare % 256, ucode := s.upd.microcode }) }
  else (s.domainsOff (fun d => d / 6 == n)).raise evTileStartFail n []

/-- Step 8: tiles. -/
def State.stepTiles (s : State) (out : StartOut) : State × Option (Nat × Nat) :=
  let s := { s with sys := { s.sys with tileFail := out.tileFail % 16 } }
  let s := (List.range 4).foldl (fun s n => s.startTile n (!bit out.tileFail n)) s
  if ((List.range 4).filter (fun n => !bit out.tileFail n)).length < s.runSetting 0x42 1 then (s, some (5, out.tileFail % 16)) else (s, none)

/-- A link die with a SerDes reference comes up: its fabric ports train (R346, R593). -/
def State.startLinkDie (s : State) (d : Nat) : State :=
  let s := s.domainsOn [28 + 2 * d, 29 + 2 * d]
  { s with net := { s.net with
      ports := s.net.ports.zipIdx.map (fun p => if p.2 / 8 = d then { p.1 with state := 1 } else p.1),
      eth := s.net.eth.zipIdx.map (fun e => if e.2 / 4 = d then { e.1 with state := 1 } else e.1) } }

/-- Step 9: link dies. Reports of the services that the settings hold are sent. -/
def State.stepLinks (s : State) (out : StartOut) : State × Option (Nat × Nat) :=
  let s := { s with sys := { s.sys with linkFail := out.linkFail % 4 } }
  let up := fun d => !bit out.linkFail d && (s.clockGood (2 + 2 * d) || s.clockGood (3 + 2 * d))
  let s := (List.range 2).foldl (fun s d => if bit out.linkFail d then s.raise evLinkDieFail (5 + d) [] else s) s
  let s := ((List.range 2).filter up).foldl State.startLinkDie s
  if up 0 || up 1 then (s.emitAll (s.net.services.vals.map (fun v => v.report true)), none) else (s, some (6, 0))

/-- Step 10: FTL recovery (R380, R397, R418, R550). Dies that do not match the NAND profile are left out. -/
def State.stepMedia (s : State) (out : StartOut) : State × Option (Nat × Nat) :=
  if !s.med.rootValid then (s, some (7, 1))
  else match out.ftlFail with
  | some k => (s, some (7, k))
  | none =>
    let s := (out.dies.filter (fun n => decide (n < 1024) && (s.die n).state != 2)).foldl (fun s n => s.setDie n { s.die n with state := 1 }) s
    let s := (out.mismatch.filter (· < 1024)).foldl (fun s n => (s.setDie n { s.die n with state := 3 }).raise evDieProfile 4 (leBytes 2 n)) s
    let s := { s with med := { s.med with state := 2, iface := out.iface, mts := out.mts, userCap := out.userCap, reserve := out.reserve,
                                          recoveryMs := out.recoveryMs } }
    (s.controllerReady.runHeld, none)

/-- Pool `j` as the settings image configures it. -/
def State.settingPool (s : State) (j : Nat) : State :=
  let p := poolSet s.set j
  let q := s.pool j
  let s := s.setPool j { q with warn := p.warn, bp := p.bp, crit := p.crit, nextThr := none }
  if p.kind = 0 then s else s.configPool j p.kind p.die p.first p.amount p.cells

/-- Step 11: pools, and the start-up leak audit. -/
def State.stepPools (s : State) : State := ((List.range 64).foldl State.settingPool s).startAudit 1 none success

/-- The slot on trial has reached service ready (R514, R569): its record is written again, and fuses advance. -/
def State.endTrial (s : State) : State :=
  if s.upd.trial then
    let s := { s with upd := { s.upd.writeRecord s.upd.slot false with trial := false } }
    if s.sec.secver < s.sys.imageSec then
      { s with sec := { s.sec with secver := min s.sys.imageSec 63 } }.raise evSecverAdvanced 4 (leBytes 1 s.sys.imageSec)
    else s
  else s

/-- After a fallback, the record names the slot in use (R503). -/
def State.endFallback (s : State) : State :=
  match s.upd.fallback with
  | some _ => { s with upd := { s.upd.writeRecord s.upd.slot false with fallback := none } }
  | none => s

/-- Step 12: service ready (R497, R498, R479). -/
def State.stepReady (s : State) : State :=
  let s := (s.writeCount 0 s.bootReason).endTrial.endFallback
  { s with sys := { s.sys with ready := true, readyOnce := true, bootMs := (s.now - s.sys.resetAt) / 1000000 },
           pwr := { s.pwr with boost := bit (s.setting 0x45 1) 0 } }

/-- The effect of a step, and the reason and detail with which the start fails. -/
def State.startStep (s : State) (k : Nat) (out : StartOut) : State × Option (Nat × Nat) :=
  match out.hubFail with
  | some u => (s, some (4, u))
  | none =>
    let s := s.tornRecords k out.torn
    match k with
    | 1 => if out.security then (s.stepHub out, none) else (s, some (0x0B, 0))
    | 2 => (s.stepCount, none)
    | 3 => s.stepFirmware out
    | 4 => s.stepSettings
    | 5 => (s.stepPit, none)
    | 7 => s.stepHbm out
    | 8 => s.stepTiles out
    | 9 => s.stepLinks out
    | 10 => s.stepMedia out
    | 11 => (s.stepPools, none)
    | 12 => (s.stepReady, none)
    | _ => (s, none)

/-- Step `k` is marked as ended. -/
def State.markStep (s : State) (k : Nat) : State := { s with sys := { s.sys with steps := s.sys.steps ||| 2 ^ k } }

/-- `START_STEP_COMPLETE` (R497, R498, R508): a step of Table 17-2 ends, well or with a failed start. -/
def execStartStepComplete (k now : Nat) (out : StartOut) (s : State) : Host.Outcome State Fault Refusal :=
  let s := s.advance now
  .next (if !s.stepDue k then s
    else match s.startStep k out with
      | (s', none) => s'.markStep k
      | (s', some f) => s'.failStart f.1 f.2)

/-! ## Faults of hub units, the host link -/

/-- A fatal event while the device starts fails the start (Table 17-6, reason 0x09). DEDUCED, log 118. -/
def State.fatalStart (s : State) (code : Nat) : State :=
  if s.canRun && s.sys.steps != 0 && !s.sys.readyOnce && !s.sys.pit then s.failStart 9 code else s

/-- `HUB_UNIT_FAULT` (R31): a device fault; the device's jobs go on at its partner. DEDUCED, log 118. -/
def execHubUnitFault (unit : Nat) (s : State) : Host.Outcome State Fault Refusal :=
  .next ((s.raise evHubUnitFault 4 (leBytes 1 unit)).leaveJobs.fatalStart 0x0106)

/-- `PF1_FLR` (R447, R412). DEDUCED, log 33. -/
def execPf1Flr (s : State) : Host.Outcome State Fault Refusal := .next s.resetPf1

/-- `PERST_ASSERT` (R494, R413): after the first deassertion since cold reset, the host PHY, PF0 and PF1 are reset. DEDUCED, log 93. -/
def execPerstAssert (s : State) : Host.Outcome State Fault Refusal :=
  let s := { s with sys := { s.sys with perstLow := true } }
  .next (if s.sys.perstSeen then
      let s := s.hostLinkDown.resetPf1
      { s with sys := { s.sys with perst := true } }
    else s)

/-- `PERST_DEASSERT` (R497). -/
def execPerstDeassert (now : Nat) (s : State) : Host.Outcome State Fault Refusal :=
  let s := s.advance now
  .next { s with sys := { s.sys with perstLow := false, perstSeen := true } }

/-- A dword of configuration space: identifiers and class codes (Tables 14-1 and 17-9); the rest is free. -/
def State.pciDword (s : State) (pf off : Nat) : Nat :=
  if off = 0 then packFields [(0, 16, s.sys.vendor), (16, 16, 0x4800)]
  else if off = 8 then
    packFields [(0, 8, bits (Config.pciConfig pf 8) 0 8), (8, 24, if pf = 0 then 0x010802 else 0x120000)]
  else Config.pciConfig pf off

/-- `CONFIGURATION_REQUEST` (R497): before step 6 with Configuration Request Retry Status. -/
def execConfigurationRequest (pf off : Nat) (s : State) : Host.Outcome State Fault Refusal :=
  .next (if s.hostUp && pf < 2 then
      (if s.stepDone 6 then s.emit (.config pf off (s.pciDword pf off) false) else s.emit (.config pf off 0 true))
    else s)

end Sys2Proof.Machine
end

