-- ==== Sys2Proof/Machine/Compress.lean ====
section
/-! DEFINITION. COMPRESS and DECOMPRESS (R268 to R271, R276) and the end of their jobs. -/

namespace Sys2Proof.Machine

/-- Offset of a register of tile n (Table 01-6b). -/
def tileReg (n off : Nat) : Nat := 0x00400000 + 0x100000 * n + off

/-! ## Descriptor -/

/-- CXE_DESC_INVALID with the byte of the field. -/
def descInvalid (off : Nat) : Result := { status := 0x0110, r0 := off }

/-- DIR and FRC of CODEC. -/
def Packet.cxeDecode (p : Packet) : Bool := bit (p.f 40 1) 0
def Packet.cxeFrc (p : Packet) : Bool := bit (p.f 40 1) 1

/-- FRC mode of a descriptor. -/
def Packet.frcMode (p : Packet) : FrcMode :=
  let m := p.f 41 1
  { slot := if bits m 0 2 = 1 then 128 else 64, escape := bit m 2, e := if bit m 3 then 16 else 8, signed := bit m 4,
    maxQ := p.f 43 1 }

/-- Bounded-loss FRC. -/
def Packet.boundedLoss (p : Packet) : Bool := p.cxeFrc && !bit (p.f 41 1) 2

/-- The field that lies outside Table 09-3, for the opcode of the direction `decode`. -/
def descFault (p : Packet) (decode : Bool) : Option Nat :=
  let ratio := bits (p.f 41 1) 0 2
  if p.f 24 4 = 0 then some 24
  else if p.f 28 4 = 0 then some 28
  else if p.cxeDecode != decode then some 40
  else if (if p.cxeFrc then ratio == 0 || ratio == 3 else p.f 41 1 != 0) then some 41
  else if (if p.cxeDecode || p.cxeFrc then p.f 42 1 != 0 else p.f 42 1 == 0 || decide (9 < p.f 42 1)) then some 42
  else if (if p.boundedLoss then decide (p.frcMode.e ≤ p.f 43 1) else p.f 43 1 != 0) then some 43
  else none

/-- The input and output ranges meet: host addresses, or the same chain. -/
def rangesMeet (p : Packet) : Bool :=
  if p.unit = 0 then decide (p.f 16 8 < p.f 32 8 + p.f 28 4) && decide (p.f 32 8 < p.f 16 8 + p.f 24 4) else p.f 16 8 == p.f 32 8

/-- A continuation point breaks R270. -/
def continuationBad (p : Packet) : Bool :=
  let i := p.f 44 4
  let o := p.f 48 4
  decide (p.f 24 4 < i) || decide (p.f 28 4 < o) || (i == 0 && o != 0 && !p.cxeFrc)
  || (if p.cxeFrc then (if p.cxeDecode then i != 0 || o != 0 else i % 256 != 0 || o % 64 != 0)
      else if p.cxeDecode then o % dictBlock != 0 else i % dictBlock != 0)

/-- Bytes of an FRC slot array. -/
def frcArray (m : FrcMode) (n : Nat) : Nat := ceilDiv n frcBlock * m.slot

/-- The checks of R269: the byte of the field at fault. -/
def cxeCheck (p : Packet) (decode : Bool) : Option Nat :=
  match descFault p decode with
  | some o => some o
  | none =>
    if rangesMeet p then some 32
    else if p.cxeFrc && !p.cxeDecode && decide (p.f 28 4 < frcArray p.frcMode (p.f 24 4)) then some 28
    else if continuationBad p then some 44
    else none

/-! ## Engines -/

/-- CXEs of a tile that may take a job: the tile is SERVING and they are not marked out. -/
def State.tileCxes (s : State) (n : Nat) : Nat :=
  let t := s.tiles.getD n {}
  if t.state = 1 then 2 - (b2n (bit t.bypMisc 24) + b2n (bit t.bypMisc 25)) else 0

/-- A tile with a CXE free. DEDUCED, log 72. -/
def State.freeCxe (s : State) : Option Nat :=
  (List.range 4).find? (fun n => decide ((s.cxe.running.filter (fun j => j.tile == n)).length < s.tileCxes n))

/-- A job starts on a free CXE, or waits. DEDUCED, log 72. -/
def State.placeJob (s : State) (j : CompJob) : State :=
  match s.freeCxe with
  | some n => { s with cxe := { s.cxe with running := s.cxe.running ++ [{ j with tile := n }] } }
  | none => { s with cxe := { s.cxe with queued := s.cxe.queued ++ [j] } }

/-- Input of a compression command: host memory, or a chain of the pool that UNIT names. -/
def State.cxeInput (s : State) (x : CmdIn) : (Result × Bool) ⊕ Bytes :=
  let p := x.pkt
  if p.unit = 0 then
    match hostAddress x 16 with
    | some r => .inl (r, false)
    | none => .inr (x.bytes (p.f 24 4))
  else
    let pool := p.unit - 64
    let ok := fun (r len : Nat) => s.refOk r 1 && refPool r == pool && (match s.chain r with
      | some c => decide (len ≤ c.length)
      | none => false)
    if !ok (p.f 16 8) (p.f 24 4) then .inl (descInvalid 16, true)
    else if !ok (p.f 32 8) (p.f 28 4) then .inl (descInvalid 32, true)
    else .inr (match s.chain (p.f 16 8) with | some c => c.read 0 (p.f 24 4) | none => [])

/-- COMPRESS or DECOMPRESS (R268, R269, R276). -/
def ownCxe (decode : Bool) (w : Waiter) (x : CmdIn) (s : State) : Own :=
  let p := x.pkt
  if 0 < p.unit && (p.unit < 64 || (s.pool (p.unit - 64)).kind != 1) then .refuse (targetInvalid 8)
  else match cxeCheck p decode with
    | some o => .refuse (descInvalid o)
    | none =>
      if 64 ≤ s.cxe.queued.length + s.cxe.running.length then .refuse { status := 0x040A }
      else match s.cxeInput x with
        | .inl (r, bad) => if bad then .done r (s.badRef (p.f r.r0 8)) else .refuse r
        | .inr b => .run (s.placeJob { cmd := w, input := b, tile := 0 })

/-- COMPRESS. -/
def ownCompress : Waiter → CmdIn → State → Own := ownCxe false
/-- DECOMPRESS. -/
def ownDecompress : Waiter → CmdIn → State → Own := ownCxe true

/-- `COMPRESS` (R268). -/
def execCompress (x : CmdIn) (s : State) : Host.Outcome State Fault Refusal := .next (runCommand opCompress ownCompress x s)

/-- `DECOMPRESS` (R268). -/
def execDecompress (x : CmdIn) (s : State) : Host.Outcome State Fault Refusal := .next (runCommand opDecompress ownDecompress x s)

/-! ## The end of a job -/

/-- What a job answers: its result, the bytes at offsets of the output buffer, and the counts of FRC
blocks with the largest q. -/
structure CxeOut where
  result : Result
  writes : List (Nat × Bytes)
  lossy  : Nat := 0
  escs   : Nat := 0
  qMax   : Nat := 0
  deriving DecidableEq, Repr

/-- Dictionary encoding block by block until the input or the output space ends (R270). -/
def dictEncodeJob (level outLen : Nat) : Nat → Bytes → Nat → Bytes → CxeOut
  | 0, _, used, out => { result := { status := 0, r0 := used, r1 := out.length }, writes := [(0, out)] }
  | n + 1, input, used, out =>
    let blk := input.take dictBlock
    let code := dictEncodeBlock level blk
    if outLen < out.length + code.length then
      { result := { status := 0x0409, r0 := used, r1 := out.length }, writes := [(0, out)] }
    else dictEncodeJob level outLen n (input.drop dictBlock) (used + blk.length) (out ++ code)

/-- Dictionary decoding block by block (R266, R270). `fuel` bounds the blocks. -/
def dictDecodeJob (outLen : Nat) : Nat → Bytes → Nat → Bytes → CxeOut
  | 0, _, used, out => { result := { status := 0, r0 := used, r1 := out.length }, writes := [(0, out)] }
  | n + 1, input, used, out =>
    if input.isEmpty then { result := { status := 0, r0 := used, r1 := out.length }, writes := [(0, out)] }
    else match dictDecodeBlock input with
      | none => { result := { status := 0x0501, r0 := used, r1 := out.length }, writes := [(0, out)] }
      | some (d, k) =>
        if outLen < out.length + d.length then { result := { status := 0x0409, r0 := used, r1 := out.length }, writes := [(0, out)] }
        else dictDecodeJob outLen n (input.drop k) (used + k) (out ++ d)

/-- FRC encoding block by block until the input or the escape area ends (R262, R263, R270). -/
def frcEncodeJob (m : FrcMode) (array space : Nat) : List Bytes → Nat → FrcStream → CxeOut
  | [], used, st =>
    { result := { status := 0, r0 := used, r1 := st.escArea.length }, writes := [(0, st.slots), (array, st.escArea)],
      lossy := st.lossy, escs := st.escs, qMax := st.qMax }
  | b :: bs, used, st =>
    let stop := fun (code : Nat) => ({
      result := { status := code, r0 := used, r1 := st.escArea.length }, writes := [(0, st.slots), (array, st.escArea)],
      lossy := st.lossy, escs := st.escs, qMax := st.qMax } : CxeOut)
    match frcEncodeBlock m b with
    | .lossLimit => stop 0x0110
    | .coded q slot =>
      frcEncodeJob m array space bs (used + b.length)
        { st with slots := st.slots ++ slot, qMax := max st.qMax q, lossy := st.lossy + (if q > 0 then 1 else 0) }
    | .escaped entry =>
      let next := st.escArea.length + roundUp entry.length 64
      if space < next then stop 0x0409
      else frcEncodeJob m array space bs (used + b.length)
        { st with slots := st.slots ++ escapeSlot m st.escArea.length entry.length, escs := st.escs + 1,
                  escArea := st.escArea ++ entry ++ zeros (roundUp entry.length 64 - entry.length) }

/-- What a descriptor makes of its input. -/
def cxeRun (p : Packet) (input : Bytes) : CxeOut :=
  let outLen := p.f 28 4
  if p.cxeFrc then
    if p.cxeDecode then
      match frcDecode p.frcMode input outLen with
      | some d => { result := { status := 0, r0 := input.length, r1 := d.length }, writes := [(0, d)] }
      | none => { result := { status := 0x0501 }, writes := [] }
    else
      let arr := frcArray p.frcMode input.length
      frcEncodeJob p.frcMode arr (outLen - arr) (frcBlocks input) 0
        { slots := [], escArea := [], qMax := 0, lossy := 0, escs := 0, blocks := 0, ok := true }
  else if p.cxeDecode then dictDecodeJob outLen input.length input 0 []
  else dictEncodeJob (p.f 42 1) outLen (ceilDiv input.length dictBlock) input 0 []

/-- A job's output goes to its buffer. -/
def State.cxeWrite (s : State) (p : Packet) (ws : List (Nat × Bytes)) : State :=
  ws.foldl (fun s w =>
    if w.2.isEmpty then s
    else if p.unit = 0 then s.emit (.hostWrite (p.f 32 8 + w.1) w.2)
    else s.writeChain (p.f 32 8) w.1 w.2) s

/-- Counters of a tile's CXE block after a job. -/
def State.cxeCount (s : State) (tile inLen outLen : Nat) (o : CxeOut) : State :=
  let r := fun off => tileReg tile (0x50000 + off)
  let s := (((s.bump64 (r 0x20) inLen).bump64 (r 0x28) outLen).bump64 (r 0x30) o.lossy).bump64 (r 0x38) o.escs
  s.setCounter (r 0x40) (max (s.counter (r 0x40)) o.qMax)

/-- `COMPRESSION_JOB_COMPLETE` (R270): running job `i` ends, and the oldest waiting job takes its CXE. -/
def execCompressionJobComplete (i : Nat) (s : State) : Host.Outcome State Fault Refusal :=
  .next (match s.cxe.running[i]? with
    | none => s
    | some j =>
      let o := cxeRun j.cmd.pkt j.input
      let s := { s with cxe := { s.cxe with running := s.cxe.running.eraseIdx i } }
      let s := (s.cxeWrite j.cmd.pkt o.writes).cxeCount j.tile o.result.r0 (sumNat (o.writes.map (·.2.length))) o
      let s := match s.cxe.queued with
        | [] => s
        | q :: rest => { s with cxe := { s.cxe with queued := rest } }.placeJob q
      let s := s.bump64 0x00800010 1
      let s := if o.result.status = 0x0409 then s.bump 0x00800018 1 else s
      s.finish j.cmd o.result)

end Sys2Proof.Machine
end

