-- ==== Sys2Proof/Machine/Rings.lean ====
section
/-! DEFINITION. Rows of the command rings and of forwarded packets: R444 to R447, R457, R460, R441. -/

namespace Sys2Proof.Machine

/-- Offset of a register of ring block r (Table 15-7). -/
def ringReg (r off : Nat) : Nat := 0x00081000 + 0x40 * r + off
/-- Offset of a register of parameter doorbell j. -/
def pringReg (j off : Nat) : Nat := 0x00084000 + 0x10 * j + off

/-- A ring's FAULT sets, with an event (R446). -/
def State.ringFault (s : State) (i path addr : Nat) : State :=
  (s.setRing i { s.ring i with fault := true }).regInvalid path addr

/-- CMD_SQ_TAIL (R445, R446, R460). -/
def State.writeSqTail (s : State) (path i v : Nat) : State :=
  let r := s.ring i
  let t := bits v 0 16
  if !r.en then s.regInvalid path (ringReg i 0x18)
  else if 2 ^ r.depthLog2 ≤ t then s.ringFault i path (ringReg i 0x18)
  else s.setRing i { r with sqTail := t }

/-- CMD_CQ_HEAD (R445, R446, R460): at or above the depth, or past the device's completion tail, FAULT. -/
def State.writeCqHead (s : State) (path i v : Nat) : State :=
  let r := s.ring i
  let h := bits v 0 16
  let depth := 2 ^ r.depthLog2
  if !r.en && !r.draining then s.regInvalid path (ringReg i 0x1C)
  else if decide (depth ≤ h) || decide ((r.cqTail + depth - r.cqHead) % depth < (h + depth - r.cqHead) % depth) then
    s.ringFault i path (ringReg i 0x1C)
  else s.setRing i { r with cqHead := h }

/-- CMD_RING_CFG, judged against EN as it reads before the write (R447, R460). -/
def State.writeRingCfg (s : State) (path i v : Nat) : State :=
  let r := s.ring i
  let en := bit v 0
  let depth := bits v 1 5
  let msix := bit v 6
  if r.en then
    let s := if depth = r.depthLog2 && msix = r.msix then s else s.regInvalid path (ringReg i 0)
    if en then s else s.setRing i { r with en := false, draining := r.inflight != 0 }
  else if en then
    if depth = 0 || decide (16 < depth) then s.regInvalid path (ringReg i 0)
    else s.setRing i { r with en := true, draining := false, depthLog2 := depth, msix := msix, sqHead := 0, sqTail := 0,
                              cqHead := 0, cqTail := 0, phase := 1, since := s.cmd.nextSeq }
  else s.setRing i { r with depthLog2 := depth, msix := msix }

/-- CMD_PRING_TAIL[j] (R457). -/
def State.writePringTail (s : State) (path j v : Nat) : State :=
  let t := bits v 0 20
  match s.jobs.find j with
  | some job =>
    match job.pring with
    | some (size, _) =>
      if 2 ^ size ≤ t then s.regInvalid path (pringReg j 0) else { s with jobs := s.jobs.put j { job with pringTail := t } }
    | none => s.regInvalid path (pringReg j 0)
  | none => s.regInvalid path (pringReg j 0)

/-- `CMD_SQ_TAIL_WRITE` (R445, R446, R460). -/
def execCmdSqTailWrite (path ring v : Nat) (s : State) : Host.Outcome State Fault Refusal :=
  .next (if ring < 64 then s.gated path (ringReg ring 0x18) (fun s => s.writeSqTail path ring v) else s)

/-- `CMD_CQ_HEAD_WRITE` (R445, R446, R460). -/
def execCmdCqHeadWrite (path ring v : Nat) (s : State) : Host.Outcome State Fault Refusal :=
  .next (if ring < 64 then s.gated path (ringReg ring 0x1C) (fun s => s.writeCqHead path ring v) else s)

/-- `CMD_RING_CFG_WRITE` (R447, R460). -/
def execCmdRingCfgWrite (path ring v : Nat) (s : State) : Host.Outcome State Fault Refusal :=
  .next (if ring < 64 then s.gated path (ringReg ring 0) (fun s => s.writeRingCfg path ring v) else s)

/-- `CMD_PRING_TAIL_WRITE` (R457). -/
def execCmdPringTailWrite (path j v : Nat) (s : State) : Host.Outcome State Fault Refusal :=
  .next (if j < 16 then s.gated path (pringReg j 0) (fun s => s.writePringTail path j v) else s)

/-- Completion entries written and not consumed. -/
def Ring.unconsumed (r : Ring) : Nat := (r.cqTail + 2 ^ r.depthLog2 - r.cqHead) % 2 ^ r.depthLog2

/-- The device can fetch an entry (R445): one is posted and a completion entry can be reserved, so that at
most depth − 1 commands are held that host software has not consumed. -/
def Ring.canFetch (r : Ring) : Bool :=
  r.en && r.sqHead != r.sqTail && decide (r.unconsumed + r.inflight < 2 ^ r.depthLog2 - 1)

/-- A packet fetched from ring `i`: a completion entry is reserved and the head advances (R445). -/
def State.fetchEntry (s : State) (i : Nat) (entry : Bytes) : State :=
  let r := s.ring i
  let (op, pkt) := parsePacket entry
  let s := s.setRing i { r with sqHead := (r.sqHead + 1) % 2 ^ r.depthLog2, inflight := r.inflight + 1 }
  let (w, s) := s.arrive (.ring i) op pkt
  if (opSpecOf op).isSome then { s with cmd := { s.cmd with fetched := s.cmd.fetched ++ [w] } }
  else if s.ready w then s.complete w { status := 0x0101 }
  else { s with cmd := { s.cmd with waiting := s.cmd.waiting ++ [{ opcode := op, cmd := { src := .ring i, pkt := pkt }, seq := w.seq }] } }

/-- `RING_ENTRY_FETCH` (R445): the 64 bytes at the ring's head; an opcode that Table 15-3 does not list
completes with OPCODE_UNKNOWN (R438 step 1). -/
def execRingEntryFetch (ring : Nat) (entry : Bytes) (s : State) : Host.Outcome State Fault Refusal :=
  .next (if ring < 64 && s.alive && s.hostUp && (s.ring ring).canFetch then s.fetchEntry ring entry else s)

/-- The forwarded command with an arrival number. -/
def State.forwardedBy (s : State) (seq : Nat) : Option Forwarded := s.cmd.forwarded.find? (fun f => f.cmd.seq == seq)

/-- A forwarded command ends: its completion is posted on its origin route (R441). -/
def State.endForwarded (s : State) (f : Forwarded) (r : Result) : State :=
  { s with cmd := { s.cmd with forwarded := s.cmd.forwarded.erase f } }.answer f.cmd r

/-- `FORWARD_RECEIPT` (R441). -/
def execForwardReceipt (seq : Nat) (s : State) : Host.Outcome State Fault Refusal :=
  .next { s with cmd := { s.cmd with forwarded := s.cmd.forwarded.map (fun f =>
    if f.cmd.seq = seq && !f.held then { f with receipt := true } else f) } }

/-- `FORWARDED_COMPLETION` (R441). -/
def execForwardedCompletion (seq : Nat) (r : Result) (s : State) : Host.Outcome State Fault Refusal :=
  .next (match s.forwardedBy seq with
    | some f => if f.held then s else s.endForwarded f r
    | none => s)

/-- `FAB_TIMEOUT` (R441): no receipt within CMD_FWD_TIMEOUT. -/
def execFabTimeout (seq now : Nat) (s : State) : Host.Outcome State Fault Refusal :=
  let s := s.advance now
  .next (match s.forwardedBy seq with
    | some f =>
      if !f.receipt && !f.held && decide (f.sentAt + s.cmd.timeout * 1000000 ≤ s.now) then s.endForwarded f { status := 0x0803 } else s
    | none => s)

/-- No route to a device has existed for 5 ms. -/
def State.noRoute5ms (s : State) (dev : Nat) : Bool :=
  match s.net.lost.find dev with
  | some (since, _) => decide (since + 5000000 ≤ s.now)
  | none => false

/-- `FAB_UNREACHABLE` (R441): with the receipt held, no route for 5 ms before the completion. -/
def execFabUnreachable (seq now : Nat) (s : State) : Host.Outcome State Fault Refusal :=
  let s := s.advance now
  .next (match s.forwardedBy seq with
    | some f => if f.receipt && s.noRoute5ms f.dev then s.endForwarded f { status := 0x0804 } else s
    | none => s)

end Sys2Proof.Machine
end

