-- ==== Sys2Proof/Machine/CmdJob.lean ====
section
/-! DEFINITION. Job commands: JOB_START, JOB_END, JOB_QUERY (R454 to R456, R612), EPOCH_PLAN (R84 to R91),
PARAM_TABLE and PARAM_RING (R116, R457), the recovery commands (R47 to R55, R60, R122, R540) and
PLAN_REISSUE (R92), with the end of a recovery. -/

namespace Sys2Proof.Machine

/-! ## JOB_START -/

/-- EPOCH field of a job command, byte 20 or 24. DEDUCED, log 61. -/
def Packet.epochAt (p : Packet) (off : Nat) : Nat := bits (p.f off 4) 0 20

/-- The shard ranges of a descriptor. -/
def descShards (d : Bytes) (count : Nat) : List (Nat × Nat) :=
  tabulate count (fun i => (bits (field d (64 + 16 * i) 8) 0 44, bits (field d (72 + 16 * i) 2) 0 13))

/-- Offset of the first reserved field of a descriptor that is not 0 (R612). -/
def descReserved (d : Bytes) (count : Nat) : Option Nat :=
  if !zeroAt d 18 6 then some 18
  else if !zeroAt d 36 28 then some 36
  else (List.range count).findSome? (fun i =>
    if bits (field d (64 + 16 * i) 8) 44 20 != 0 then some (64 + 16 * i)
    else if bits (field d (72 + 16 * i) 2) 13 3 != 0 then some (72 + 16 * i)
    else if !zeroAt d (74 + 16 * i) 6 then some (74 + 16 * i) else none)

/-- Offset of the first range field found wrong over `n` ordinals (R612). -/
def descRanges (d : Bytes) (count n : Nat) : Option Nat :=
  let sh := descShards d count
  (List.range count).findSome? (fun i =>
    let r := sh.getD i (0, 0)
    let prev := if i = 0 then none else sh[i - 1]?
    if (i == 0 && r.1 != 0) || (match prev with | some q => decide (r.1 ≤ q.1) | none => false) || n ≤ r.1 then some (64 + 16 * i)
    else if 6144 ≤ r.2 then some (72 + 16 * i) else none)

/-- A job as JOB_START sets it up (R455): recovery generation 0, delivery index 0 at START_STEP of EPOCH. -/
def newJob (p : Packet) (d : Bytes) (count : Nat) : Job :=
  let epoch := p.epochAt 24
  let start := bits (p.f 40 8) 0 44
  { id := p.jobId, dl := p.f 20 2, seed := field d 0 16, nsid := field d 16 2, catOffset := field d 24 8,
    shards := descShards d count, paramPool := p.f 19 1, bindings := [(epoch, p.f 18 1)], startEpoch := epoch, startStep := start,
    epoch := epoch, base := -(start : Int), g0 := 0, step := start, stops := [], gen := 0, recovery := none, taken := [],
    acting := [], plans := [], params := [], pring := none, pringHead := 0, pringTail := 0, dests := [], unbound := [],
    ready := [], copies := [], cancelled := [], cancels := [], verdicts := [], resolved := [], settled := [], mirror := none, drops := [],
    empties := [], ending := none }

/-- A namespace is an unsealed dataset namespace (R384). -/
def State.unsealed (s : State) (nsid : Nat) : Bool :=
  match s.space nsid with
  | some n => n.kind == 1 && !n.sealed
  | none => false

/-- The checks of R612 and R455 on a descriptor read, then the job slot. -/
def State.startJob (s : State) (p : Packet) (h : HeldRecipe) (d : Bytes) : Own :=
  let count := field d 32 4
  let len := p.f 28 4
  if count = 0 || 65536 < count || len != 64 + 16 * count then .refuse (dataInvalid 32)
  else match descReserved d count with
    | some o => .refuse (dataInvalid o)
    | none =>
      let j := newJob p d count
      if h.nsid != j.nsid || h.offset != j.catOffset then .refuse { status := 0x030A }
      else match s.space j.nsid with
        | none => .refuse (dataInvalid 16)
        | some n =>
          if !n.sealed then .refuse { status := 0x0313 }
          else match s.catalogOf j with
            | none => .done { status := 0x0503 } (s.lostRead j.nsid j.catOffset 4096)
            | some hdr =>
              match catalogFault hdr with
              | some o => .refuse { status := 0x0112, r0 := 0xFFFFFFFF, r1 := o }
              | none =>
                match descRanges d count (parseCatalog hdr).n with
                | some o => .refuse (dataInvalid o)
                | none =>
                  if !j.devices.contains s.self then .refuse (dataInvalid 72)
                  else if s.catalogNames j s.unsealed then .refuse { status := 0x0313 }
                  else match s.jobs.free 16 with
                    | none => .refuse { status := 0x0401 }
                    | some slot =>
                      let s := s.setJob slot j
                      .done success (match s.rma.partner with
                        | some dev => s.setupMirror slot dev
                        | none => s)

/-- JOB_START (R455). -/
def ownJobStart (_ : Waiter) (x : CmdIn) (s : State) : Own :=
  let p := x.pkt
  let len := p.f 28 4
  if 31 < p.f 18 1 then .refuse (paramInvalid 18)
  else if 63 < p.f 19 1 then .refuse (paramInvalid 19)
  else if (s.jobNamed p.jobId).isSome then .refuse { status := 0x0304 }
  else if (s.jobs.free 16).isNone then .refuse { status := 0x0401 }
  else if s.med.sanitize.isSome then .refuse { status := 0x0306 }
  else match s.recipes.find (p.f 18 1) with
    | none => .refuse (paramInvalid 18)
    | some h =>
      if (s.pool (p.f 19 1)).kind = 0 then .refuse (paramInvalid 19)
      else if p.f 20 2 != s.sys.dl then .refuse { status := 0x0601 }
      else match hostAddress x 32 with
        | some r => .refuse r
        | none => s.startJob p h (x.bytes (min len 1048640))

/-- `JOB_START` (R455). -/
def execJobStart (x : CmdIn) (s : State) : Host.Outcome State Fault Refusal := .next (runCommand opJobStart ownJobStart x s)

/-! ## JOB_END, JOB_QUERY -/

/-- JOB_END (R456): a job that is already ending is unknown. -/
def ownJobEnd (w : Waiter) (x : CmdIn) (s : State) : Own :=
  match s.jobNamed x.pkt.jobId with
  | none => .refuse jobUnknown
  | some (slot, j) =>
    if j.ending.isSome then .refuse jobUnknown
    else
      let s := s.haltJob slot
      if j.quiet then .done success (s.leaveJob slot)
      else match s.jobs.find slot with
        | some j' => .run (s.setJob slot { j' with ending := some w })
        | none => .run s

/-- `JOB_END` (R456). -/
def execJobEnd (x : CmdIn) (s : State) : Host.Outcome State Fault Refusal := .next (runCommand opJobEnd ownJobEnd x s)

/-- State of a job as JOB_QUERY shows it: 3 waiting for a resume, 1 delivering, 0 planning. -/
def State.jobPhase (s : State) (j : Job) : Nat :=
  if !j.stops.isEmpty then 3 else if (s.epochSteps j j.epoch).isSome then 1 else 0

/-- JOB_QUERY (Table 15-4). -/
def ownJobQuery (_ : Waiter) (x : CmdIn) (s : State) : Own :=
  match s.jobNamed x.pkt.jobId with
  | none => .refuse jobUnknown
  | some (_, j) => .done { status := 0, r0 := packFields [(0, 20, j.epoch), (20, 4, s.jobPhase j)], r1 := bits j.step 0 32 } s

/-- `JOB_QUERY` (R454). -/
def execJobQuery (x : CmdIn) (s : State) : Host.Outcome State Fault Refusal := .next (runCommand opJobQuery ownJobQuery x s)

/-! ## EPOCH_PLAN -/

/-- The plan of an epoch begins (R84 phases 1 and 2, R88). -/
def State.beginPlan (s : State) (w : Waiter) (slot : Nat) (j : Job) (epoch : Nat) : Own :=
  match s.catalogOf j with
  | none => .done { status := 0x0503 } (s.lostRead j.nsid j.catOffset 4096)
  | some hdr =>
    match catalogFault hdr with
    | some o => .done { status := 0x0112, r0 := 0xFFFFFFFF, r1 := o } (s.raise evPlanCatalog 4 (leBytes 6 (2 ^ 44 - 1)))
    | none =>
      let ranges := s.servedRanges j (parseCatalog hdr).n
      match s.badRecord j ranges with
      | some o => .done { status := 0x0603 } ((s.lostRead j.nsid (recordOffset j.catOffset o) 64).raise evPlanCatalog 4 (leBytes 6 o))
      | none =>
        let old := (j.plan epoch).getD (EpochPlan.blank epoch)
        let plan := fun (chain : Option Nat) => ({ old with
          phase := 1, recipe := (j.recipeSlot epoch).getD 0, digest := s.planDigest j epoch, ranks := s.ownRanks j,
          scanned := [], waiters := [w], chain := chain } : EpochPlan)
        if rangeTotal ranges = 0 then .run (s.setJob slot (j.setPlan (plan none)))
        else match s.allocate (s.runSetting 0x5B 1) 3 (16 * rangeTotal ranges) false with
          | none => .refuse { status := 0x0402 }
          | some (c, s) => .run (s.setJob slot (j.setPlan (plan (some c))))

/-- EPOCH_PLAN (R84, R89, R90). DEDUCED, log 35, 61. -/
def ownEpochPlan (w : Waiter) (x : CmdIn) (s : State) : Own :=
  let epoch := x.pkt.epochAt 20
  match s.jobNamed x.pkt.jobId with
  | none => .refuse jobUnknown
  | some (slot, j) =>
    if epoch < j.epoch || bits (x.pkt.f 20 4) 20 12 != 0 then .refuse (paramInvalid 20)
    else if j.epoch + 1 < epoch then .refuse { status := 0x0403 }
    else match j.plan epoch with
      | some p =>
        if p.phase = 6 || p.phase = 8 then .done { status := 1 } s
        else if p.building then .run (s.setJob slot (j.setPlan { p with waiters := p.waiters ++ [w] }))
        else s.beginPlan w slot j epoch
      | none => s.beginPlan w slot j epoch

/-- `EPOCH_PLAN` (R84). -/
def execEpochPlan (x : CmdIn) (s : State) : Host.Outcome State Fault Refusal := .next (runCommand opEpochPlan ownEpochPlan x s)

/-! ## Parameters -/

/-- PARAM_TABLE: the records are taken one by one (R116 to R119). -/
def ownParamTable (w : Waiter) (x : CmdIn) (s : State) : Own :=
  let p := x.pkt
  let n := p.f 32 8
  match s.jobNamed p.jobId with
  | none => .refuse jobUnknown
  | some (slot, _) =>
    if n = 0 || 2 ^ 32 < n then .refuse (paramInvalid 32)
    else match s.sourceBytes x 18 40 24 (64 * n) with
      | .inl r => s.sourceFails x 40 24 (64 * n) r
      | .inr b =>
        let recs := tabulate n (fun i => slice b (64 * i) 64)
        .run { s with loads := s.loads ++ [{ job := slot, epoch := p.epochAt 20, rest := recs, conflict := false, cmd := w }] }

/-- `PARAM_TABLE` (R116). -/
def execParamTable (x : CmdIn) (s : State) : Host.Outcome State Fault Refusal := .next (runCommand opParamTable ownParamTable x s)

/-- PARAM_RING (R457): binds the ring to the job's doorbell, or unbinds it. -/
def ownParamRing (_ : Waiter) (x : CmdIn) (s : State) : Own :=
  let p := x.pkt
  let size := p.f 18 1
  match s.jobNamed p.jobId with
  | none => .refuse jobUnknown
  | some (slot, j) =>
    if size = 0 then .done success (s.setJob slot { j with pring := none, pringHead := 0, pringTail := 0 })
    else if size < 6 || 20 < size then .refuse (paramInvalid 18)
    else if p.f 24 8 % 4096 != 0 then .refuse (paramInvalid 24)
    else match hostAddress x 24 with
      | some r => .refuse r
      | none => .done success (s.setJob slot { j with pring := some (size, p.f 24 8), pringHead := 0, pringTail := 0 })

/-- `PARAM_RING` (R457). -/
def execParamRing (x : CmdIn) (s : State) : Host.Outcome State Fault Refusal := .next (runCommand opParamRing ownParamRing x s)

/-! ## Recovery commands (Table 02-3) -/

/-- A new recovery starts at generation `g`: one in progress is abandoned (R52). -/
def State.startRecovery (s : State) (w : Waiter) (slot : Nat) : State :=
  match s.jobs.find slot with
  | some j =>
    let old := match j.recovery with
      | some r => if r.status = 0 && w.pkt.gen != j.gen then r.waiters else []
      | none => []
    let r : Recovery := { opcode := w.opcode, params := w.pkt.params.toNat, status := 0, waiters := [w] }
    let s := s.setJob slot { j with gen := w.pkt.gen, recovery := some r }
    s.finishAll old { status := 0x0307 }
  | none => s

/-- The rules of Table 02-3 about a recovery command; `start` holds the command's own checks and what it
begins with. -/
def State.recovery (s : State) (w : Waiter) (start : Nat → Job → State → Result ⊕ State) : Own :=
  match s.jobNamed w.pkt.jobId with
  | none => .refuse jobUnknown
  | some (slot, j) =>
    let go : Own := match start slot j s with
      | .inl r => .refuse r
      | .inr s' => .run (s'.startRecovery w slot)
    if w.pkt.gen < j.gen then .refuse { status := 0x0307 }
    else if j.gen < w.pkt.gen then go
    else match j.recovery with
      | some r =>
        if r.opcode = w.opcode && r.params = w.pkt.params.toNat then
          if r.status = 1 then .done success s
          else if r.status = 0 then .run (s.setJob slot { j with recovery := some { r with waiters := r.waiters ++ [w] } })
          else go
        else .refuse { status := 0x0602 }
      | none => .refuse { status := 0x0602 }

/-- A mirrored cursor record (Table 11-5), when its CRC, JOB_ID and DEVICE fit. -/
def cursorValid (b : Bytes) (jobId dev : Nat) : Bool :=
  b.length == 64 && crc32c (b.take 60) == field b 60 4 && field b 8 2 == jobId && bits (field b 10 2) 0 13 == dev

/-- The newest valid record of a mirror window (R47, R335). -/
def State.mirrorRecord (s : State) (m : MirrorWindow) : Option Bytes :=
  match s.rma.windows.find m.index with
  | some v =>
    match s.chain (cellRef v.pool v.cell) with
    | some c =>
      let a := c.read v.offset 64
      let b := c.read (v.offset + 64) 64
      match cursorValid a m.jobId m.device, cursorValid b m.jobId m.device with
      | true, true => if field a 0 8 < field b 0 8 then some b else some a
      | true, false => some a
      | false, true => some b
      | false, false => none
    | none => none
  | none => none

/-- Key of the mirror window of (job ID, device). -/
def mirrorKey (jobId dev : Nat) : Nat := jobId * 8192 + dev

/-- The packet of a plan reissue (R92). -/
def reissuePacket (jobId failed epoch from' self dev : Nat) : Packet :=
  { cred := 255, device := dev, remote := true,
    params := BitVec.ofNat 384 (packFields [(0, 16, jobId), (16, 13, failed), (32, 20, epoch), (64, 44, from'), (128, 13, self)]) }

/-- A plan that is complete goes into reissue for a failed device from a step on (R92). -/
def State.reissuePlan (s : State) (slot failed : Nat) (p : EpochPlan) (from' : Nat) : State :=
  match s.jobs.find slot with
  | some j =>
    let p' := { p with phase := 8, ranks := s.ownRanks j, scanned := [], markers := [], reissue := [(failed, s.self, from')] }
    let others := (sortNat (j.devices.map j.actor)).filter (fun d => d != s.self && d != failed)
    let s := s.setJob slot (j.setPlan p')
    others.foldl (fun s d =>
      let n := s.sec.fwdCount + 1
      { s with sec := { s.sec with fwdCount := n } }.emit
        (.forward d .firmware 0x0210 (reissuePacket j.id failed p.epoch from' s.self d)
          ((s.sec.startNumber.getD 0) * 2 ^ 32 + n % 2 ^ 32) s.now)) s
  | none => s

/-- The chain of a plan grows to the records of every sample now served; none where Bramble's pool
cannot hold it. -/
def State.growPlan (s : State) (slot : Nat) (p : EpochPlan) : Option State :=
  match s.jobs.find slot with
  | some j =>
    let n := rangeTotal (s.servedRanges j (s.catalogFor j).n)
    let s := s.releasePlan p
    match s.allocate (s.runSetting 0x5B 1) 3 (16 * n) false with
    | some (c, s) => some (s.setJob slot (j.setPlan { p with chain := some c }))
    | none => none
  | none => some s

/-- The failed device's share joins this device's (R47 to R49, R324): cursor at the lower of the two. -/
def takeShare (j : Job) (failed self : Nat) (rec : Bytes) : Job :=
  let e := bits (field rec 12 4) 0 20
  let t := bits (field rec 16 8) 0 44
  let j := { j with taken := if j.taken.contains failed then j.taken else j.taken ++ [failed],
                    acting := j.acting.filter (fun a => a.1 != failed) ++ [(failed, self)],
                    dests := j.dests.map (fun d => { d with lastRead := none, c := none }) }
  if e < j.epoch then { j with epoch := e, step := t, base := (field rec 24 8 : Int) - t }
  else if e = j.epoch && t < j.step then { j with step := t }
  else j

/-- What JOB_TAKEOVER begins (R47 to R50, R91, R92, R540). -/
def takeoverStart (failed slot : Nat) (j : Job) (s : State) : Result ⊕ State :=
  if 6144 ≤ failed then .inl (targetInvalid 18)
  else if failed = s.self || !j.devices.contains failed then .inl (paramInvalid 18)
  else if s.sys.dl != j.dl then .inl { status := 0x0601 }
  else match (s.rma.mirrors.find (mirrorKey j.id failed)).bind s.mirrorRecord with
    | none => .inl (paramInvalid 18)
    | some rec =>
      let complete := j.plans.filter (fun p => p.phase == 6 || p.phase == 8)
      let bad := if complete.isEmpty then none else s.badRecord j (j.rangesOf failed (s.catalogFor j).n)
      match bad with
      | some _ => .inl { status := 0x0603 }
      | none =>
        let s := (s.loseDevice slot failed true)
        match s.jobs.find slot with
        | none => .inr s
        | some j =>
          let e := bits (field rec 12 4) 0 20
          let t := bits (field rec 16 8) 0 44
          let s := s.setJob slot (takeShare j failed s.self rec)
          let step := fun (acc : Option State) (p : EpochPlan) =>
            match acc with
            | some s =>
              if p.epoch < e then some s
              else match s.growPlan slot p with
                | some s => some (match (s.jobs.find slot).bind (·.plan p.epoch) with
                    | some p => s.reissuePlan slot failed p (if p.epoch = e then t else 0)
                    | none => s)
                | none => none
            | none => none
          match (j.plans.filter (fun p => p.phase == 6 || p.phase == 8)).foldl step (some s) with
          | some s => .inr s
          | none => .inl { status := 0x0402 }

/-- JOB_TAKEOVER. -/
def ownJobTakeover (w : Waiter) (x : CmdIn) (s : State) : Own := s.recovery w (takeoverStart (bits (x.pkt.f 18 2) 0 13))

/-- `JOB_TAKEOVER` (R47). -/
def execJobTakeover (x : CmdIn) (s : State) : Host.Outcome State Fault Refusal := .next (runCommand opJobTakeover ownJobTakeover x s)

/-- A plan whose members from a step on may be admitted again: those in flight or resolved stay (R122). -/
def State.relaunch (s : State) (slot : Nat) (j : Job) (p : EpochPlan) (step : Nat) : EpochPlan :=
  { p with admitted := p.admitted.filter (fun a => decide (a.1 < step) || j.resolved.contains (p.epoch, a.1, a.2)
      || s.samples.any (fun x => x.job == slot && x.epoch == p.epoch && x.step == a.1 && x.member == a.2)) }

/-- What JOB_RESUME begins (R122): the cursor stands at the step, and its stops end. -/
def resumeStart (epoch step slot : Nat) (j : Job) (s : State) : Result ⊕ State :=
  if epoch != j.epoch && !(epoch == j.epoch + 1 && (s.epochSteps j j.epoch).isSome) then .inl (paramInvalid 20)
  else if (match s.epochSteps j epoch with | some n => decide (n ≤ step) | none => false) then .inl (paramInvalid 24)
  else
    let moved := epoch != j.epoch
    let base := (s.indexAt j epoch 0).getD j.base
    let g0 := s.ringOrigin j epoch
    let back := !moved && decide (step < j.step)
    let j1 := { j with stops := [], epoch := epoch, step := step, base := base, g0 := g0,
                       plans := if moved then j.plans.filter (fun p => p.epoch == epoch) else j.plans }
    let j2 := if back then
        { j1 with resolved := j1.resolved.filter (fun t => t.2.1 < step), settled := j1.settled.filter (fun t => t.2 < step),
                  ready := j1.ready.filter (fun r => r.step < step),
                  copies := j1.copies.filter (fun c => (c.index : Int) < base + step || c.phase == 1 || c.phase == 2) }
      else j1.trim epoch step
    let s := if moved then (match j.plan j.epoch with | some p => s.releasePlan p | none => s) else s
    .inr (s.setJob slot { j2 with plans := j2.plans.map (fun p => s.relaunch slot j2 p (if p.epoch = epoch then step else 0)) })

/-- JOB_RESUME. -/
def ownJobResume (w : Waiter) (x : CmdIn) (s : State) : Own :=
  if bits (x.pkt.f 20 4) 20 12 != 0 then
    (if (s.jobNamed x.pkt.jobId).isSome then .refuse (paramInvalid 20) else .refuse jobUnknown)
  else s.recovery w (resumeStart (x.pkt.epochAt 20) (bits (x.pkt.f 24 8) 0 44))

/-- `JOB_RESUME` (R122). -/
def execJobResume (x : CmdIn) (s : State) : Host.Outcome State Fault Refusal := .next (runCommand opJobResume ownJobResume x s)

/-- What JOB_LEAVE begins (R60, R91): the device fetches and delivers no more, and plans in progress are abandoned. -/
def leaveStart (slot : Nat) (_ : Job) (s : State) : Result ⊕ State := .inr ((s.loseDevice slot s.self true).haltJob slot)

/-- JOB_LEAVE. -/
def ownJobLeave (w : Waiter) (_ : CmdIn) (s : State) : Own := s.recovery w leaveStart

/-- `JOB_LEAVE` (R60). -/
def execJobLeave (x : CmdIn) (s : State) : Host.Outcome State Fault Refusal := .next (runCommand opJobLeave ownJobLeave x s)

/-- The bytes of a cursor record (Table 11-5). -/
def cursorBytes (seq jobId dev epoch step index gen dl time : Nat) : Bytes :=
  let b := leBytes 8 seq ++ leBytes 2 jobId ++ leBytes 2 dev ++ leBytes 4 epoch ++ leBytes 8 step ++ leBytes 8 index
    ++ leBytes 4 gen ++ leBytes 2 dl ++ zeros 2 ++ leBytes 8 time ++ zeros 12
  b ++ leBytes 4 (crc32c b)

/-- What CURSOR_RESET begins (R540): a record with the next SEQ goes into slot SEQ mod 2 of the mirror
window of (job, device). -/
def cursorStart (gen dev epoch step _slot : Nat) (j : Job) (s : State) : Result ⊕ State :=
  if 6144 ≤ dev then .inl (targetInvalid 18)
  else match s.rma.mirrors.find (mirrorKey j.id dev) with
    | none => .inl (paramInvalid 18)
    | some m =>
      match s.rma.windows.find m.index with
      | none => .inl (paramInvalid 18)
      | some v =>
        let seq := (match s.mirrorRecord m with | some r => field r 0 8 | none => 0) + 1
        let index := if epoch = j.epoch then (j.base + step).toNat else step
        .inr (s.writeChain (cellRef v.pool v.cell) (v.offset + 64 * (seq % 2))
          (cursorBytes seq j.id dev epoch step index gen j.dl s.now))

/-- CURSOR_RESET. -/
def ownCursorReset (w : Waiter) (x : CmdIn) (s : State) : Own :=
  if bits (x.pkt.f 20 4) 20 12 != 0 then
    (if (s.jobNamed x.pkt.jobId).isSome then .refuse (paramInvalid 20) else .refuse jobUnknown)
  else s.recovery w (cursorStart x.pkt.gen (bits (x.pkt.f 18 2) 0 13) (x.pkt.epochAt 20) (bits (x.pkt.f 24 8) 0 44))

/-- `CURSOR_RESET` (R540). -/
def execCursorReset (x : CmdIn) (s : State) : Host.Outcome State Fault Refusal := .next (runCommand opCursorReset ownCursorReset x s)

/-! ## PLAN_REISSUE and the end of a recovery -/

/-- PLAN_REISSUE (R92): the device scans its range again for the partner; the partner acts for the failed device. -/
def ownPlanReissue (w : Waiter) (x : CmdIn) (s : State) : Own :=
  let p := x.pkt
  let failed := bits (p.f 18 2) 0 13
  let partner := bits (p.f 32 2) 0 13
  match s.jobNamed p.jobId with
  | none => .refuse jobUnknown
  | some (slot, j) =>
    if !j.devices.contains failed then .refuse (paramInvalid 18)
    else if !j.devices.contains partner then .refuse (paramInvalid 32)
    else match j.plan (p.epochAt 20) with
      | none => .refuse (paramInvalid 20)
      | some q =>
        if q.phase != 6 && q.phase != 8 then .refuse (paramInvalid 20)
        else
          let q' := { q with phase := 8, ranks := s.ownRanks j, scanned := [], waiters := q.waiters ++ [w],
                             reissue := q.reissue ++ [(failed, partner, bits (p.f 24 8) 0 44)] }
          .run (s.setJob slot (Job.setPlan { j with acting := j.acting.filter (fun a => a.1 != failed) ++ [(failed, partner)] } q'))

/-- `PLAN_REISSUE` (R92). -/
def execPlanReissue (x : CmdIn) (s : State) : Host.Outcome State Fault Refusal := .next (runCommand opPlanReissue ownPlanReissue x s)

/-- A recovery can end: a leave with no write outstanding, a takeover with no plan in reissue. -/
def Job.recovered (j : Job) (r : Recovery) : Bool :=
  r.status == 0 && (r.opcode != 0x020D || j.quiet) && (r.opcode != 0x020B || j.plans.all (fun p => p.phase != 8))

/-- `RECOVERY_COMPLETE` (R52, R304): the recovery's commands complete, and a leak audit runs. -/
def execRecoveryComplete (jobId : Nat) (s : State) : Host.Outcome State Fault Refusal :=
  .next (match s.jobNamed jobId with
    | some (slot, j) =>
      match j.recovery with
      | some r =>
        if j.recovered r then
          let s := s.setJob slot { j with recovery := some { r with status := 1, waiters := [] } }
          let s := if r.opcode = 0x020D then s.leaveJob slot else State.advanceCursor slot 2 s
          (s.finishAll r.waiters success).startAudit 2 none success
        else s
      | none => s
    | none => s)

end Sys2Proof.Machine
end

