-- ==== Sys2Proof/Machine/Rma.lean ====
section
/-! DEFINITION. Remote memory access (R325 to R331) and partner cursor mirroring (R333 to R336), with their
rows and commands. -/

namespace Sys2Proof.Machine

/-! ## Mirror intervals -/

/-- A mirror interval of a job failed (R336). -/
def State.mirrorFailed (s : State) (slot : Nat) : State :=
  match s.jobs.find slot with
  | some j =>
    match j.mirror with
    | some m =>
      let n := m.missed + 1
      let s := (s.setJob slot { j with mirror := some { m with missed := n } }).bump 0x00A00054 1
      if 3 ≤ n && (n - 3) % 10 = 0 then s.raise evMirrorLag 4 (leBytes 2 (s.rma.partner.getD 0)) else s
    | none => s
  | none => s

/-- A mirror write of a job succeeded (R336). -/
def State.mirrorDone (s : State) (slot : Nat) : State :=
  match s.jobs.find slot with
  | some j => s.setJob slot { j with mirror := j.mirror.map (fun m => { m with missed := 0 }) }
  | none => s

/-! ## Requests issued -/

/-- A request goes out over its fabric class (R326). -/
def State.sendRequest (s : State) (r : RmaRequest) (key : Nat) (data : Bytes) : State :=
  let id := s.rma.nextReq
  { s with rma := { s.rma with nextReq := id + 1, requests := s.rma.requests.put id r } }.emit
    (.fabric r.cls r.target (if r.isWrite then "rma-write" else "rma-read") [id, r.window, key, r.offset, r.length] data)

/-- Data of a read stored where the command says: host memory, or a chain. -/
def State.storeRead (s : State) (r : RmaRequest) (data : Bytes) : State :=
  if r.isWrite then s
  else if r.localChain then s.writeChain r.localAddr r.localOff (data.take r.length)
  else s.emit (.hostWrite r.localAddr (data.take r.length))

/-- A request ends with a status: its command completes, or its mirror interval. -/
def State.endRequest (s : State) (id status : Nat) (data : Bytes) : State :=
  match s.rma.requests.find id with
  | some r =>
    let s := { s with rma := { s.rma with requests := s.rma.requests.del id } }
    let s := if status = 0 then s.storeRead r data else s
    match r.cmd, r.mirror with
    | some w, _ => s.finish w { status := status }
    | none, some slot => if status = 0 then s.mirrorDone slot else s.mirrorFailed slot
    | none, none => s
  | none => s

/-- Requests to devices without a route complete with RMA_PEER_LOST (R331). -/
def State.loseRequests (s : State) (devs : List Nat) : State :=
  ((s.rma.requests.filter (fun r => devs.contains r.2.target)).map (·.1)).foldl (fun s id => s.endRequest id 0x0802 []) s

/-- The class of an RMA command: 0 is taken as 4. -/
def rmaClass (c : Nat) : Nat := if c = 0 then 4 else c

/-- The local range of an RMA command: host memory (R442), or a chain under R298, whose reference or offset that
fails its check is reported. -/
def State.localRange (s : State) (x : CmdIn) : Option (Result × Bool) :=
  let p := x.pkt
  if p.f 37 1 = 0 then (hostAddress x 40).map (fun r => (r, false))
  else if !s.refOk (p.f 40 8) 1 then some (paramInvalid 40, true)
  else match s.chain (p.f 40 8) with
    | some c =>
      if c.length ≤ p.f 48 8 then some (paramInvalid 48, true)
      else if c.length < p.f 48 8 + p.f 32 4 then some (paramInvalid 32, false) else none
    | none => some (paramInvalid 40, true)

/-- Bytes that an RMA_WRITE sends. -/
def State.localBytes (s : State) (x : CmdIn) : Bytes :=
  let p := x.pkt
  if p.f 37 1 = 0 then x.bytes (p.f 32 4)
  else match s.chain (p.f 40 8) with
    | some c => c.read (p.f 48 8) (p.f 32 4)
    | none => []

/-- RMA_WRITE or RMA_READ (R326, R331, R461). -/
def ownRma (isWrite : Bool) (w : Waiter) (x : CmdIn) (s : State) : Own :=
  let p := x.pkt
  let target := bits (p.f 16 2) 0 13
  let len := p.f 32 4
  let cls := p.f 36 1
  if 6144 ≤ target then .refuse (targetInvalid 16)
  else if len = 0 || 16777216 < len then .refuse (paramInvalid 32)
  else if cls = 1 || cls = 2 || cls = 3 || cls = 5 || 15 < cls then .refuse (paramInvalid 36)
  else if 1 < p.f 37 1 then .refuse (paramInvalid 37)
  else match s.localRange x with
    | some (r, bad) => if bad then .done r (s.badRef (p.f 40 8)) else .refuse r
    | none =>
      if s.net.lost.has target then .fail { status := 0x0802 } s
      else
        let r : RmaRequest := { target := target, window := p.f 18 2, offset := p.f 24 8, length := len, isWrite := isWrite,
                                cls := rmaClass cls, localChain := p.f 37 1 != 0, localAddr := p.f 40 8, localOff := p.f 48 8,
                                sentAt := s.now, cmd := some w, mirror := none }
        .run (s.sendRequest r (p.f 20 4) (if isWrite then s.localBytes x else []))

/-- RMA_WRITE. -/
def ownRmaWrite : Waiter → CmdIn → State → Own := ownRma true
/-- RMA_READ. -/
def ownRmaRead : Waiter → CmdIn → State → Own := ownRma false

/-- `RMA_WRITE` (R326). -/
def execRmaWrite (x : CmdIn) (s : State) : Host.Outcome State Fault Refusal := .next (runCommand opRmaWrite ownRmaWrite x s)

/-- `RMA_READ` (R326). -/
def execRmaRead (x : CmdIn) (s : State) : Host.Outcome State Fault Refusal := .next (runCommand opRmaRead ownRmaRead x s)

/-- `RMA_RESPONSE_RECEIVE` (R326, R327): a response, or a NAK with its status. -/
def execRmaResponseReceive (id status : Nat) (data : Bytes) (s : State) : Host.Outcome State Fault Refusal :=
  .next (s.endRequest id status data)

/-- `RMA_TIMEOUT` (R331). -/
def execRmaTimeout (id now : Nat) (s : State) : Host.Outcome State Fault Refusal :=
  let s := s.advance now
  .next (match s.rma.requests.find id with
    | some r => if r.sentAt + 1000 * s.rma.timeoutUs ≤ s.now then s.endRequest id 0x0801 [] else s
    | none => s)

/-! ## Requests received -/

/-- The checks of Table 11-3 in their order: the status of the first that fails, 0 where none does. DESIGN CHOICE, log 80. -/
def rmaCheck (v : Option Window) (q : RmaIn) : Nat :=
  match v with
  | none => 0x0205
  | some v =>
    if v.closing.isSome then 0x0205
    else if q.key != v.key then 0x0206
    else if !v.any && v.requester != q.requester then 0x0207
    else if !(if q.isWrite then v.write else v.read) then 0x0208
    else if q.length = 0 || 16777216 < q.length || v.length < q.offset + q.length then 0x0209
    else 0

/-- DETAIL of RMA_VIOLATION and RMA_VIOLATION_REMOTE (R328): peer, window, offset, length and status. DESIGN CHOICE, log 23. -/
def violationDetail (peer window off len status : Nat) : Bytes :=
  leBytes 12 (packFields [(0, 13, peer), (13, 16, window), (29, 40, min off (2 ^ 40 - 1)),
    (69, 24, if 1 ≤ len ∧ len ≤ 16777216 then len - 1 else Config.violationLength len), (93, 3, status - 0x0204)])

/-- A refused request is reported at both ends (R327). -/
def State.refuseRequest (s : State) (q : RmaIn) (status : Nat) : State :=
  let s := s.emit (.fabric q.cls q.requester "rma-nak" [q.id, status] [])
  let s := (s.raise evRmaViolation 4 (violationDetail q.requester q.window q.offset q.length status)).bump 0x00A00030 1
  if s.net.lost.has q.requester then s.bump 0x00A00034 1
  else s.emit (.fabric 1 q.requester "rma-violation" [s.self, q.window, q.offset, q.length, status] [])

/-- A request that passed its checks is served: a write changes the window's bytes, a read returns them. DESIGN CHOICE, log 80. -/
def State.serveRequest (s : State) (q : RmaIn) (v : Window) : State :=
  let ref := cellRef v.pool v.cell
  if q.isWrite then
    ((s.writeChain ref (v.offset + q.offset) ((q.data ++ zeros (q.length - q.data.length)).take q.length)).bump64 0x00A00020 1).emit
      (.fabric q.cls q.requester "rma-ack" [q.id] [])
  else
    let data := match s.chain ref with | some c => c.read (v.offset + q.offset) q.length | none => zeros q.length
    (s.bump64 0x00A00028 1).emit (.fabric q.cls q.requester "rma-data" [q.id] data)

/-- `RMA_REQUEST_RECEIVE` (R326, R327, R329). -/
def execRmaRequestReceive (q : RmaIn) (s : State) : Host.Outcome State Fault Refusal :=
  let v := s.rma.windows.find q.window
  .next (match v, rmaCheck v q with
    | some v, 0 => s.serveRequest q v
    | _, st => s.refuseRequest q st)

/-- `RMA_VIOLATION_REMOTE` (R327, R328): the notification of a target device. -/
def execRmaViolationRemote (dev window off len status : Nat) (s : State) : Host.Outcome State Fault Refusal :=
  .next (s.raise evRmaViolationRemote 4 (violationDetail dev window off len status))

/-! ## Windows -/

/-- WINDOW_OPEN (R325). DEDUCED, log 79. -/
def ownWindowOpen (_ : Waiter) (x : CmdIn) (s : State) : Own :=
  let p := x.pkt
  let n := p.f 16 2
  let any := bit (p.f 19 1) 0
  let ref := p.f 24 8
  if 61440 ≤ n then .refuse (paramInvalid 16)
  else if !any && 6144 ≤ bits (p.f 20 2) 0 13 then .refuse (targetInvalid 20)
  else if s.rma.windows.has n then .refuse { status := 0x0311 }
  else if !s.refOk ref 1 then .done (paramInvalid 24) (s.badRef ref)
  else if (s.pool (refPool ref)).kind != 1 then .refuse (paramInvalid 24)
  else match s.chain ref with
    | none => .refuse (paramInvalid 24)
    | some c =>
      if c.length < p.f 32 8 then .refuse (paramInvalid 32)
      else if c.length < p.f 32 8 + p.f 40 8 then .refuse (paramInvalid 40)
      else match s.addRef ref with
        | (false, s) => .done (paramInvalid 24) s
        | (true, s) =>
          let v : Window := { pool := refPool ref, cell := refCell ref, offset := p.f 32 8, length := p.f 40 8, key := p.f 48 4,
                              read := bit (p.f 18 1) 0, write := bit (p.f 18 1) 1, any := any,
                              requester := bits (p.f 20 2) 0 13, closing := none }
          .done success { s with rma := { s.rma with windows := s.rma.windows.put n v } }

/-- `WINDOW_OPEN` (R325). -/
def execWindowOpen (x : CmdIn) (s : State) : Host.Outcome State Fault Refusal := .next (runCommand opWindowOpen ownWindowOpen x s)

/-- The open window of a command: the indices of the mirror windows are refused (R325). -/
def State.openWindow (s : State) (n : Nat) : Result ⊕ Window :=
  if 61440 ≤ n then .inl (paramInvalid 16)
  else match s.rma.windows.find n with
    | some v => if v.closing.isSome then .inl { status := 0x0205 } else .inr v
    | none => .inl { status := 0x0205 }

/-- WINDOW_CLOSE (R330). DEDUCED, log 79. -/
def ownWindowClose (w : Waiter) (x : CmdIn) (s : State) : Own :=
  match s.openWindow (x.pkt.f 16 2) with
  | .inl r => .refuse r
  | .inr _ => .run (s.closeWindow (x.pkt.f 16 2) (some w))

/-- `WINDOW_CLOSE` (R330). -/
def execWindowClose (x : CmdIn) (s : State) : Host.Outcome State Fault Refusal := .next (runCommand opWindowClose ownWindowClose x s)

/-- WINDOW_REKEY (R330): requests that arrive from now on are checked against the new key. -/
def ownWindowRekey (_ : Waiter) (x : CmdIn) (s : State) : Own :=
  match s.openWindow (x.pkt.f 16 2) with
  | .inl r => .refuse r
  | .inr v => .done success { s with rma := { s.rma with windows := s.rma.windows.put (x.pkt.f 16 2) { v with key := x.pkt.f 20 4 } } }

/-- `WINDOW_REKEY` (R330). -/
def execWindowRekey (x : CmdIn) (s : State) : Host.Outcome State Fault Refusal := .next (runCommand opWindowRekey ownWindowRekey x s)

/-- `WINDOW_CLOSE_COMPLETE` (R330): the last checked request of a closing window has ended. -/
def execWindowCloseComplete (window : Nat) (s : State) : Host.Outcome State Fault Refusal :=
  .next (match s.rma.windows.find window with
    | some v =>
      match v.closing with
      | some cmd =>
        let s := { s with rma := { s.rma with windows := s.rma.windows.del window } }.dropRef (cellRef v.pool v.cell)
        (match cmd with | some w => s.finish w success | none => s)
      | none => s
    | none => s)

/-! ## Mirroring -/

/-- A job's cursor record with the next SEQ is written to the partner's window (R333). -/
def State.mirrorCursor (s : State) (slot : Nat) (j : Job) (m : MirrorLink) (partner : Nat) : State :=
  let seq := m.seq + 1
  let rec' := cursorBytes seq j.id s.self j.epoch j.step (j.base + j.step).toNat j.gen j.dl s.now
  let r : RmaRequest := { target := partner, window := m.window, offset := 64 * (seq % 2), length := 64, isWrite := true, cls := 3,
                          localChain := false, localAddr := 0, localOff := 0, sentAt := s.now, cmd := none, mirror := some slot }
  (s.setJob slot { j with mirror := some { m with seq := seq } }).sendRequest r m.key rec'

/-- The mirror interval of one job (R333, R334, R336): without an open window, or without a route, it fails. DEDUCED, log 81. -/
def State.mirrorInterval (s : State) (slot : Nat) : State :=
  match s.jobs.find slot, s.rma.partner with
  | some j, some p =>
    match j.mirror with
    | some m => if m.state = 1 && !s.net.lost.has p then s.mirrorCursor slot j m p else s.mirrorFailed slot
    | none => s
  | _, _ => s

/-- `CURSOR_MIRROR_TIMER` (R333): every 100 ms of Estate time. -/
def execCursorMirrorTimer (now : Nat) (s : State) : Host.Outcome State Fault Refusal :=
  let s := s.advance now
  .next (if s.rma.mirroredAt + 100000000 ≤ s.now then
      s.jobs.keys.foldl State.mirrorInterval { s with rma := { s.rma with mirroredAt := s.now } }
    else s)

/-- `MIRROR_WRITE_FAIL` (R336): the mirror write outstanding for a job fails. -/
def execMirrorWriteFail (jobId : Nat) (s : State) : Host.Outcome State Fault Refusal :=
  .next (match s.jobNamed jobId with
    | some (slot, _) =>
      match s.rma.requests.find? (fun r => r.2.mirror == some slot) with
      | some (id, _) => { s with rma := { s.rma with requests := s.rma.requests.del id } }.mirrorFailed slot
      | none => s
    | none => s)

/-- A free index of the mirror windows' range (R325). -/
def State.freeMirror (s : State) : Option Nat := ((List.range 4096).map (61440 + ·)).find? (fun n => !s.rma.windows.has n)

/-- A mirror window opens for (job ID, device) on a chain of 128 zero bytes (R334 step 2). DEDUCED, log 81. -/
def State.openMirror (s : State) (jobId dev : Nat) : Option (MirrorWindow × State) :=
  match s.freeMirror, s.allocate (s.runSetting 0x5B 1) 8 128 false with
  | some n, some (ref, s) =>
    let (key, s) := s.draw 32
    let v : Window := { pool := refPool ref, cell := refCell ref, offset := 0, length := 128, key := key, read := false,
                        write := true, any := false, requester := dev, closing := none }
    let m : MirrorWindow := { jobId := jobId, device := dev, index := n, key := key }
    some (m, { s with rma := { s.rma with windows := s.rma.windows.put n v, mirrors := s.rma.mirrors.put (mirrorKey jobId dev) m } })
  | _, _ => none

/-- `MIRROR_SETUP_RECEIVE` (R334 steps 2 to 4): an older window of the same (job ID, device) closes. -/
def execMirrorSetupReceive (dev jobId : Nat) (s : State) : Host.Outcome State Fault Refusal :=
  .next (if !s.alive then s
    else
      let s := s.closeMirror jobId dev
      match s.openMirror jobId dev with
      | some (m, s) => s.emit (.fabric 3 dev "mirror-window" [jobId, m.index, m.key] [])
      | none => s.emit (.fabric 3 dev "mirror-refused" [jobId] []))

/-- A job's mirror link changed. -/
def State.updMirror (s : State) (jobId : Nat) (f : MirrorLink → MirrorLink) : State :=
  match s.jobNamed jobId with
  | some (slot, j) => s.setJob slot { j with mirror := j.mirror.map f }
  | none => s

/-- `MIRROR_SETUP_REPLY` (R334 steps 3 and 4). -/
def execMirrorSetupReply (jobId : Nat) (ok : Bool) (window key : Nat) (s : State) : Host.Outcome State Fault Refusal :=
  .next (s.updMirror jobId (fun m =>
    if m.state = 1 then m else if ok then { m with state := 1, window := window, key := key } else { m with state := 2 }))

/-- `MIRROR_SETUP_RETRY` (R334 step 4): every 1 s until the setup succeeds. -/
def execMirrorSetupRetry (now : Nat) (s : State) : Host.Outcome State Fault Refusal :=
  let s := s.advance now
  .next (match s.rma.partner with
    | some p =>
      s.jobs.foldl (fun s e =>
        match e.2.mirror with
        | some m =>
          if m.state != 1 && m.sentAt + 1000000000 ≤ s.now then
            (s.setJob e.1 { e.2 with mirror := some { m with state := 0, sentAt := s.now } }).emit
              (.fabric 3 p "mirror-setup" [e.2.id, s.self] [])
          else s
        | none => s) s
    | none => s)

/-- `MIRROR_RELEASE_RECEIVE` (R334 step 5): a device that has taken the job over keeps the window. -/
def execMirrorReleaseReceive (dev jobId : Nat) (s : State) : Host.Outcome State Fault Refusal :=
  .next (if (match s.jobNamed jobId with | some (_, j) => j.taken.contains dev | none => false) then s
    else s.closeMirror jobId dev)

end Sys2Proof.Machine
end

