-- ==== Sys2Proof/Machine/Shaping.lean ====
section
/-! DEFINITION. The traffic scheduler and shaper (R367 to R372): which waiting frame of a port starts,
token buckets, gate lists, and how a frame leaves a fabric or Ethernet port; rows of the SHP block. -/

namespace Sys2Proof.Machine

/-! ## Gate lists -/

/-- Sum of the intervals of a list: its cycle (R371). -/
def gateCycle (gs : List Gate) : Nat := sumNat (gs.map (·.ns))

/-- Entry in force at `pos` ns into the cycle, and the ns left of it. -/
def gateAt : List Gate → Nat → Nat → Nat × Nat
  | [], _, i => (i, 0)
  | g :: gs, pos, i => if pos < g.ns then (i, g.ns - pos) else gateAt gs (pos - g.ns) (i + 1)

/-- ns for which class `c` stays open over the entries of a list, up to the first that closes it. -/
def openRun (c : Nat) : List Gate → Nat
  | [] => 0
  | g :: gs => if bit g.gates c then g.ns + openRun c gs else 0

/-- ns for which the gate of class `c` stays open from Estate time `now`; none without end. -/
def Shaper.openFor (h : Shaper) (c now : Nat) : Option Nat :=
  match h.gateEn, h.oper with
  | true, some (base, gs) =>
    let (i, left) := gateAt gs ((now - base) % gateCycle gs) 0
    if gs.all (fun g => bit g.gates c) then none
    else if bit (gs.getD i {}).gates c then some (left + openRun c (gs.drop (i + 1) ++ gs.take i)) else some 0
  | _, _ => none

/-- Bytes of a frame as its class counts them (R368). DEDUCED, log 85. -/
def Shaper.counted (h : Shaper) (f : Frame) : Nat := f.len + h.fOverhead * f.count

/-- Transmission time in ns, rounded up, at a line rate in Gb/s. -/
def lineTime (gbps bytes : Nat) : Nat := ceilDiv (8 * bytes) gbps

/-- A frame's class may start it (R368). -/
def Shaper.mayStart (h : Shaper) (gbps now : Nat) (f : Frame) : Bool :=
  let k := h.classes.getD f.cls {}
  (match h.openFor f.cls now with
   | none => true
   | some ns => decide (lineTime gbps (h.counted f) ≤ ns) && ns != 0)
  && (!k.fEn || decide (0 ≤ k.tokens))

/-! ## Choice of a frame (R369) -/

/-- First frame of each class that waits. -/
def Shaper.heads (h : Shaper) : List Frame := (List.range 16).filterMap (fun c => h.queue.find? (fun f => f.cls == c))

/-- Class after `c` in cyclic order among `cs`. -/
def cyclicNext (cs : List Nat) (c : Nat) : Nat :=
  match cs.find? (fun k => c < k) with
  | some k => k
  | none => cs.headD 0

/-- Deficit round robin with a quantum of WEIGHT × 256 bytes: the frame served and the shaper afterwards. -/
def roundRobin (hs : List Frame) : Nat → Shaper → Option (Frame × Shaper)
  | 0, _ => none
  | fuel + 1, h =>
    match hs.find? (fun f => f.cls == h.turn) with
    | some f =>
      let k := h.classes.getD f.cls {}
      if (h.counted f : Int) ≤ k.deficit then some (f, h)
      else
        let c := cyclicNext (hs.map (·.cls)) h.turn
        roundRobin hs fuel { h with turn := c, classes := updAt h.classes c (fun k => { k with deficit := k.deficit + 256 * (k.fWeight : Int) }) }
    | none =>
      let c := cyclicNext (hs.map (·.cls)) h.turn
      roundRobin hs fuel { h with turn := c, classes := updAt h.classes c (fun k => { k with deficit := k.deficit + 256 * (k.fWeight : Int) }) }

/-- The frame that starts next among the heads that `ok` lets start: the highest PRIO, then round robin. -/
def Shaper.pick (h : Shaper) (ok : Frame → Bool) : Option (Frame × Shaper) :=
  let hs := h.heads.filter ok
  let prio := fun (f : Frame) => (h.classes.getD f.cls {}).fPrio
  let top := maxNat (hs.map prio)
  match hs.filter (fun f => prio f == top) with
  | [] => none
  | [f] => some (f, h)
  | fs => roundRobin fs 4096 h

/-- A frame starts: its class's tokens and deficit fall, and it leaves the queue. -/
def Shaper.start (h : Shaper) (f : Frame) : Shaper :=
  let n := h.counted f
  let q := h.queue.erase f
  { h with queue := q, classes := updAt h.classes f.cls (fun k =>
      { k with tokens := k.tokens - 8 * (n : Int), deficit := if q.any (fun g => g.cls == f.cls) then k.deficit - (n : Int) else 0 }) }

/-! ## Ports -/

/-- Shaped port `sp`. -/
def State.shaper (s : State) (sp : Nat) : Shaper := s.net.shapers.getD sp {}
/-- Shaped port `sp` replaced. -/
def State.setShaper (s : State) (sp : Nat) (h : Shaper) : State := { s with net := { s.net with shapers := s.net.shapers.set sp h } }
/-- Fabric port `f`. -/
def State.fabPort (s : State) (f : Nat) : FabPort := s.net.ports.getD f {}
/-- Fabric port `f` changed. -/
def State.updPort (s : State) (f : Nat) (g : FabPort → FabPort) : State := { s with net := { s.net with ports := updAt s.net.ports f g } }

/-- A register of the block of fabric port `f`. -/
def fabPortReg (f off : Nat) : Nat := 0x00B00000 + 0x80000 * (f / 8) + 0x1000 + 0x100 * (f % 8) + off
/-- A register of the block of Ethernet port `q`. -/
def ethPortReg (q off : Nat) : Nat := 0x00C01000 + 0x100 * q + off

/-- Line rate of a shaped port in Gb/s: 1,600 on a fabric port, 800 at a width of 4 lanes; 800 on an Ethernet port
(R351, R364). -/
def State.lineRate (s : State) (sp : Nat) : Nat := if sp < 16 && !(s.fabPort sp).half then 1600 else 800

/-- The port lets the frame leave: a fabric port in ACTIVE with a credit of the frame's channel; an Ethernet
port that is up, its priority not paused (R345, R361, R365). -/
def State.portTakes (s : State) (sp : Nat) (f : Frame) : Bool :=
  if sp < 16 then (s.fabPort sp).state == 2 && decide (0 < (s.fabPort sp).credits.getD f.vc 0)
  else
    let e := s.net.eth.getD (sp - 16) {}
    e.state == 2 && !(bit e.paused f.cls && bit e.pfcEn f.cls)

/-- A frame goes out: counted; on a fabric port it takes a credit and waits for acknowledgement. -/
def State.sendFrame (s : State) (sp : Nat) (f : Frame) : State :=
  let s := s.emit f.out
  if sp < 16 then
    (s.bump64 (fabPortReg sp 0x10) (f.len / 64)).updPort sp (fun p =>
      { p with credits := updAt p.credits f.vc (· - 1), unacked := p.unacked ++ [f] })
  else s.bump64 (ethPortReg (sp - 16) 0x08) f.count

/-- Frames of a shaped port start for as long as one may; `fuel` bounds their number. -/
def State.drain (sp : Nat) : Nat → State → State
  | 0, s => s
  | fuel + 1, s =>
    let h := s.shaper sp
    match h.pick (fun f => h.mayStart (s.lineRate sp) s.now f && s.portTakes sp f) with
    | some (f, h') => State.drain sp fuel ((s.setShaper sp (h'.start f)).sendFrame sp f)
    | none => s

/-- Every frame of a shaped port that may start does. -/
def State.serve (s : State) (sp : Nat) : State := State.drain sp (s.shaper sp).queue.length s

/-- A frame is queued at a shaped port, and starts when it may. DEDUCED, log 85. -/
def State.queueFrame (s : State) (sp : Nat) (f : Frame) : State :=
  let h := s.shaper sp
  (s.setShaper sp { h with queue := h.queue ++ [f] }).serve sp

/-- Every shaped port is served. -/
def State.serveAll (s : State) : State := (List.range 24).foldl (fun s sp => if (s.shaper sp).queue.isEmpty then s else s.serve sp) s

/-! ## Rows of the SHP block -/

/-- A register of shaped port `sp`. -/
def shpReg (sp off : Nat) : Nat := 0x00D10000 + 0x1000 * sp + off

/-- COMMIT (R372): the admin list becomes pending, or ERR sets. -/
def State.commitGates (s : State) (sp : Nat) : State :=
  let h := s.shaper sp
  let gs := tabulate h.adminLen (fun i => h.admin.get {} i)
  let ok := decide (1 ≤ h.adminLen) && decide (h.adminLen ≤ 256) && gs.all (fun g => decide (100 ≤ g.ns))
    && decide (gateCycle gs ≤ 1000000000) && decide (s.now + 10000 ≤ h.base)
  if ok then s.setShaper sp { h with pending := some (h.base, gs), err := false }
  else (s.setShaper sp { h with err := true }).raise evGclInvalid (if (if sp < 16 then sp / 8 else (sp - 16) / 4) = 0 then 5 else 6) []

/-- SHP_GCL_CTRL: ADMIN_LEN, ERR cleared by 1, COMMIT. -/
def State.writeGclCtrl (s : State) (sp v : Nat) : State :=
  let h := s.shaper sp
  let s := s.setShaper sp { h with adminLen := bits v 0 9, err := h.err && !bit v 18 }
  if bit v 16 then s.commitGates sp else s

/-- `SHP_GCL_COMMIT` (R372). -/
def execShpGclCommit (path sp v : Nat) (s : State) : Host.Outcome State Fault Refusal :=
  .next (if sp < 24 then s.gated path (shpReg sp 4) (fun s => s.writeGclCtrl sp v) else s)

/-- `GCL_BASE_TIME_REACHED` (R372): the pending list is operational, at entry 0. -/
def execGclBaseTimeReached (sp now : Nat) (s : State) : Host.Outcome State Fault Refusal :=
  let s := s.advance now
  let h := s.shaper sp
  .next (match h.pending with
    | some (b, gs) => if b ≤ s.now then (s.setShaper sp { h with oper := some (b, gs), pending := none, entry := 0 }).serve sp else s
    | none => s)

/-- `GATE_INTERVAL_END` (R371): the entry in force is the one of the present position in the cycle. -/
def execGateIntervalEnd (sp now : Nat) (s : State) : Host.Outcome State Fault Refusal :=
  let s := s.advance now
  let h := s.shaper sp
  .next (match h.oper with
    | some (b, gs) => (s.setShaper sp { h with entry := (gateAt gs ((s.now - b) % gateCycle gs) 0).1 }).serve sp
    | none => s)

/-- One refill of a class: what was written takes effect, RATE bits are added, the bucket is capped (R368, R370). -/
def ShapeClass.refill (k : ShapeClass) : ShapeClass :=
  { k with fRate := k.rate, fEn := k.en, fBurst := k.burst, fPrio := k.prio, fWeight := k.weight,
           tokens := min (k.tokens + (k.rate : Int)) (8 * (k.burst : Int)) }

/-- One refill of a shaped port. -/
def Shaper.refill (h : Shaper) : Shaper := { h with fOverhead := h.overhead, classes := h.classes.map ShapeClass.refill }

/-- `SHAPER_REFILL` (R368): at Estate times that are multiples of 1,000 ns. -/
def execShaperRefill (now : Nat) (s : State) : Host.Outcome State Fault Refusal :=
  let s := s.advance now
  .next (if s.net.refilled / 1000 < s.now / 1000 then
      { s with net := { s.net with refilled := s.now, shapers := s.net.shapers.map Shaper.refill } }.serveAll
    else s)

end Sys2Proof.Machine
end

