-- ==== Sys2Proof/Machine/Fabric.lean ====
section
/-! DEFINITION. Fabric ports and routing (R341 to R356), quiet states (R359 to R361) and the fabric events of
Table 11-4, with their rows and PORT_SERVICE. -/

namespace Sys2Proof.Machine

/-! ## Cabling (R341, R342, R347) -/

/-- Row distance of a port, 0 for none. -/
def rowDistance (f : Nat) : Nat := if f < 4 then f + 1 else if 8 ≤ f && f ≤ 10 then f - 3 else 0
/-- Column distance of a port, 0 for none. -/
def colDistance (f : Nat) : Nat := if f = 4 then 1 else if f = 11 then 2 else if f = 12 then 3 else 0
/-- The port of a row distance. -/
def rowPort (d : Nat) : Nat := if d ≤ 4 then d - 1 else d + 3
/-- The port of a column distance. -/
def colPort (d : Nat) : Nat := if d = 1 then 4 else if d = 2 then 11 else 12
/-- The port is a global port. -/
def isGlobal (f : Nat) : Bool := rowDistance f == 0 && colDistance f == 0

/-- The peer and its port that Table 12-1 and R342 require of a local port of device `dev`. -/
def requiredPeer (dev f : Nat) : Nat × Nat :=
  let orchard := dev / 32
  let r := dev % 32 / 8
  let c := dev % 8
  if rowDistance f != 0 then (32 * orchard + 8 * r + (c + rowDistance f) % 8, rowPort (8 - rowDistance f))
  else (32 * orchard + 8 * ((r + colDistance f) % 4) + c, colPort (4 - colDistance f))

/-- The peer fails R347. -/
def miswired (dev f peer peerPort : Nat) : Bool :=
  if isGlobal f then peer / 32 == dev / 32 else requiredPeer dev f != (peer, peerPort)

/-- The version at which devices of versions `n` and `m` link, none where they have no common one (R348). -/
def linkVersion (n m : Nat) : Option Nat := if n ≤ m + 2 && m ≤ n + 2 then some (min n m) else none

/-! ## Ports -/

/-- The port carries traffic. -/
def FabPort.carries (p : FabPort) : Bool := p.state == 2 || p.state == 3 || p.state == 4

/-- Die number of events of port `f`. -/
def fabDieOf (f : Nat) : Nat := 5 + f / 8

/-- Another port that carries traffic, the lowest. -/
def State.otherPort (s : State) (f : Nat) : Option Nat := (List.range 16).find? (fun g => g != f && (s.fabPort g).carries)

/-- Packets that wait at a port or are not acknowledged leave over another port (R349, R352). -/
def State.reroute (s : State) (f : Nat) : State :=
  match s.otherPort f with
  | none => s
  | some g =>
    let h := s.shaper f
    let back := (s.fabPort f).unacked ++ h.queue
    let s := (s.setShaper f { h with queue := [] }).updPort f (fun p => { p with unacked := [] })
    back.foldl (fun s k => s.queueFrame g k) s

/-- Devices to which no route exists any more, from now on; remote requests to them end (R331). DESIGN CHOICE, log 86. -/
def State.noteLost (s : State) (devs : List Nat) : State :=
  let lost := devs.foldl (fun (m : CMap (Nat × Bool)) d => if m.has d then m else m.put d (s.now, false)) s.net.lost
  { s with net := { s.net with lost := lost } }.loseRequests devs

/-- ROUTE_CHANGE with the count of affected devices (Table 11-4). -/
def State.routeChange (s : State) (affected : Nat) : State := if affected = 0 then s else s.raise evRouteChange 4 (leBytes 2 affected)

/-- A port stops carrying traffic: its packets go elsewhere, LINK_DOWN is raised. -/
def State.portStops (s : State) (f state : Nat) : State :=
  let was := (s.fabPort f).carries
  let s := (s.reroute f).updPort f (fun p => { p with state := state, request := none, exiting := false, timeHops := none })
  if was then s.raise evLinkDown (fabDieOf f) (leBytes 1 f) else s

/-- A fault interrupts every recovery in progress (R53). -/
def State.interruptRecoveries (s : State) : State := s.jobs.keys.foldl State.abandonRecovery s

/-- `LINK_DOWN` (R349, R332): a port stops carrying traffic; minimal routes to `affected` devices change, and
devices lose every route. DESIGN CHOICE, log 86. -/
def execLinkDown (f affected now : Nat) (lost : List Nat) (s : State) : Host.Outcome State Fault Refusal :=
  let s := s.advance now
  .next (if f < 16 && (s.fabPort f).carries then
      ((((s.portStops f 0).noteLost lost).routeChange affected)).interruptRecoveries
    else s)

/-- Lanes of a training that run: full width on 8 of the 9 lanes, half on 4 or more, none below. DEDUCED, log 83. -/
def goodLanes (failed : Nat) : Nat := ((List.range 9).filter (fun i => !bit failed i)).length

/-- The lane that the spare carries after a training with lanes `failed`. -/
def spareLane (failed : Nat) : Nat :=
  if bit failed 8 then 0xF else match (List.range 8).find? (fun i => bit failed i) with | some i => i | none => 0xF

/-- A port as its training leaves it: 1 up at full or half width. Full width returns after a half only by
recalibration (R351). DEDUCED, log 83. -/
def FabPort.trained (p : FabPort) (failed peer peerPort ver now : Nat) : FabPort :=
  let half := goodLanes failed < 8 || (p.half && p.ctrl != 2)
  { p with state := 2, half := half, failed := failed, spareFor := if half then 0xF else spareLane failed,
           spareUsed := !half && spareLane failed != 0xF, peer := peer, peerPort := peerPort, ver := ver, ctrl := 0,
           request := none, exiting := false, credits := List.replicate 8 Config.portCredits, lastRx := now, cmd := none }

/-- The command that waits for a port's work completes. -/
def State.portDone (s : State) (f : Nat) : State :=
  match (s.fabPort f).cmd with
  | some w => (s.updPort f (fun p => { p with cmd := none, ctrl := 0 })).finish w success
  | none => s.updPort f (fun p => { p with ctrl := 0 })

/-- The lane recalibration of a port ends (R352): the lane carries its traffic again. -/
def State.laneDone (s : State) (f failed : Nat) : State :=
  (s.updPort f (fun p => { p with spareUsed := false, spareFor := 0xF, failed := failed })).portDone f

/-- Training succeeds: the port comes up, routes through it are installed. DESIGN CHOICE, log 25. -/
def State.portUp (s : State) (f failed peer peerPort ver affected : Nat) (found : List Nat) : State :=
  let cmd := (s.fabPort f).cmd
  let s := s.updPort f (fun p => p.trained failed peer peerPort ver s.now)
  let s := s.raise evLinkUp (fabDieOf f) (leBytes 1 f ++ leBytes 2 ver)
  let s := if (s.fabPort f).half then s.raise evLinkDegraded (fabDieOf f) [] else s
  let s := { s with net := { s.net with lost := found.foldl (fun m d => m.del d) s.net.lost } }
  let s := (s.routeChange affected).serve f
  match cmd with
  | some w => s.finish w success
  | none => s

/-- Training fails: the port stays down, and its command completes with it. -/
def State.portFails (s : State) (f : Nat) : State := (s.updPort f (fun p => { p with state := 0, peer := 0, peerPort := 0, ver := 0 })).portDone f

/-- A link die's fabric domain is on. -/
def State.fabricOn (s : State) (f : Nat) : Bool := s.domainOn (28 + 2 * (f / 8))

/-- Both SerDes references of link die `d` are lost: its ports stay down (Table 16-2). -/
def State.dieUnclocked (s : State) (d : Nat) : Bool :=
  (s.pwr.monitors.getD (2 + 2 * d) {}).state == 1 && (s.pwr.monitors.getD (3 + 2 * d) {}).state == 1

/-- `PORT_TRAINING_COMPLETE` (R346 to R348, R351, R352): lanes that failed by bit, the peer's number, port and highest
fabric protocol version; devices whose minimal routes change, and those that have a route again. -/
def execPortTrainingComplete (f lanes peer peerPort ver affected now : Nat) (found : List Nat) (s : State) :
    Host.Outcome State Fault Refusal :=
  let s := s.advance now
  let p := s.fabPort f
  .next (if 16 ≤ f || !s.fabricOn f || s.dieUnclocked (f / 8) then s
    else if p.ctrl = 3 then s.laneDone f (lanes % 512)
    else if p.carries then s
    else if goodLanes lanes < 4 then s.portFails f
    else if miswired s.self f peer peerPort then (s.portFails f).raise evLinkMiswired (fabDieOf f) (leBytes 2 peer ++ leBytes 1 peerPort)
    else match linkVersion s.sys.fabricN ver with
      | none => (s.portFails f).raise evLinkVersion (fabDieOf f) []
      | some v => s.portUp f (lanes % 512) peer peerPort v affected found)

/-! ## Lane sparing and service -/

/-- The spare lane of a port is free and good. -/
def FabPort.spareFree (p : FabPort) : Bool := !p.spareUsed && !bit p.failed 8

/-- `LANE_FAIL` (R350, R351): the spare takes the lane over, or the port retrains alone at 4 lanes. -/
def execLaneFail (f lane affected now : Nat) (lost : List Nat) (s : State) : Host.Outcome State Fault Refusal :=
  let s := s.advance now
  let p := s.fabPort f
  .next (if 16 ≤ f || 8 < lane || !p.carries || bit p.failed lane then s
    else if lane = 8 && !p.spareUsed then s.updPort f (fun p => { p with failed := p.failed ||| 256 })
    else if lane != 8 && p.spareFree then
      (s.updPort f (fun p => { p with failed := p.failed ||| 2 ^ lane, spareUsed := true, spareFor := lane })).raise evLaneSpared (fabDieOf f) []
    else
      let s := s.updPort f (fun p => { p with failed := p.failed ||| 2 ^ lane, half := true, spareUsed := false, spareFor := 0xF })
      (((s.portStops f 1).noteLost lost).routeChange affected).interruptRecoveries)

/-- A whole port is retrained (1) or recalibrated (2) alone (R352). -/
def State.servicePort (s : State) (f ctrl : Nat) : State :=
  (s.portStops f (if ctrl = 1 then 1 else 5)).updPort f (fun p => { p with ctrl := ctrl })

/-- One lane is recalibrated live over the spare, or with the whole port where the spare is in use (R352). -/
def State.serviceLane (s : State) (f lane : Nat) : State :=
  let p := s.fabPort f
  if !p.carries then s.servicePort f 2
  else if lane = 8 && !p.spareUsed then s.updPort f (fun p => { p with ctrl := 3 })
  else if p.spareFree then s.updPort f (fun p => { p with ctrl := 3, spareUsed := true, spareFor := lane })
  else s.servicePort f 2

/-- The port is in TRAINING or RECAL, or a lane of it is recalibrated. -/
def FabPort.busy (p : FabPort) : Bool := p.state == 1 || p.state == 5 || p.ctrl != 0

/-- A write of FAB_PORT_CTRL (R374). -/
def State.writePortCtrl (s : State) (path f v : Nat) : State :=
  let lane := bits v 4 4
  let act := bits v 0 3
  if (act != 0 && act != 1 && act != 2 && act != 4) || (s.fabPort f).busy || 8 < lane then s.regInvalid path (fabPortReg f 0x0C)
  else
    let s := s.updPort f (fun p => { p with lane := lane })
    if act = 1 then s.servicePort f 1 else if act = 2 then s.servicePort f 2 else if act = 4 then s.serviceLane f lane else s

/-- A FAB_PORT_CTRL write on an access path. -/
def State.portCtrlRow (s : State) (path f v : Nat) : State :=
  if f < 16 then s.gated path (fabPortReg f 0x0C) (fun s => s.writePortCtrl path f v) else s

/-- `FAB_PORT_RETRAIN` (R352, R374). -/
def execFabPortRetrain (path f v : Nat) (s : State) : Host.Outcome State Fault Refusal := .next (s.portCtrlRow path f v)
/-- `FAB_PORT_RECAL` (R352, R374). -/
def execFabPortRecal (path f v : Nat) (s : State) : Host.Outcome State Fault Refusal := .next (s.portCtrlRow path f v)
/-- `FAB_LANE_RECAL` (R352, R374). -/
def execFabLaneRecal (path f v : Nat) (s : State) : Host.Outcome State Fault Refusal := .next (s.portCtrlRow path f v)

/-- PORT_SERVICE (R352, R461): it completes with the port's work. -/
def ownPortService (w : Waiter) (x : CmdIn) (s : State) : Own :=
  let f := x.pkt.unit
  let act := x.pkt.f 16 1
  let lane := x.pkt.f 17 1
  if 2 < act || (s.fabPort f).busy then .refuse (paramInvalid 16)
  else if 8 < lane then .refuse (paramInvalid 17)
  else if !s.fabricOn f then .refuse (targetInvalid 8)
  else
    let s := s.updPort f (fun p => { p with lane := lane, cmd := some w })
    .run (if act = 2 then s.serviceLane f lane else s.servicePort f (act + 1))

/-- `PORT_SERVICE` (R352). -/
def execPortService (x : CmdIn) (s : State) : Host.Outcome State Fault Refusal := .next (runCommand opPortService ownPortService x s)

/-! ## Peers and routes -/

/-- Ports whose peer is a device. -/
def State.portsTo (s : State) (dev : Nat) : List Nat := (List.range 16).filter (fun f => (s.fabPort f).carries && (s.fabPort f).peer == dev)

/-- `PEER_LOST` (R332): no packet from a directly attached device for 1 ms on any of its ports. -/
def execPeerLost (dev affected now : Nat) (lost : List Nat) (s : State) : Host.Outcome State Fault Refusal :=
  let s := s.advance now
  let ps := s.portsTo dev
  .next (if !ps.isEmpty && ps.all (fun f => decide ((s.fabPort f).lastRx + 1000000 ≤ s.now)) then
      ((s.raise evPeerLost 4 (leBytes 2 dev)).noteLost lost).routeChange affected
    else s)

/-- `DEVICE_UNREACHABLE` (R332, R91): no route to a member of a job for 5 ms; plans in progress are aborted. -/
def execDeviceUnreachable (dev now : Nat) (s : State) : Host.Outcome State Fault Refusal :=
  let s := s.advance now
  .next (match s.net.lost.find dev with
    | some (t, told) =>
      if s.noRoute5ms dev && !told then
        let s := { s with net := { s.net with lost := s.net.lost.put dev (t, true) } }
        (s.jobs.filter (fun j => j.2.devices.contains dev)).foldl (fun s j =>
          (s.raise evDeviceUnreachable 4 (leBytes 2 dev ++ leBytes 2 j.2.id)).loseDevice j.1 dev true) s
      else s
    | none => s)

/-! ## Packets -/

/-- The least occupied of some outputs. -/
def leastOccupied : List (Nat × Nat) → Option Nat
  | [] => none
  | p :: ps => some (ps.foldl (fun a x => if x.2 < a.2 then x else a) p).1

/-- The output of a transit packet and whether it takes a detour (R353, R354). -/
def State.route (s : State) (f : Nat) (p : FabricIn) : Option Nat × Bool :=
  let d := s.net.dies.getD (f / 8) {}
  let full := p.minimal.all (fun m => decide (d.detourThr < m.2))
  if full && d.detourEn && !p.detoured && decide (p.hops < 7) && !p.others.isEmpty then (leastOccupied p.others, true)
  else (leastOccupied p.minimal, false)

/-- A packet is queued at an output: a port in LOW or QUIET, or one about to enter it, comes back to ACTIVE (R360, R361). -/
def State.wakePort (s : State) (f : Nat) : State :=
  s.updPort f (fun p => { p with request := none, exiting := p.exiting || p.state == 3 || p.state == 4 })

/-- A transit packet leaves over an output, its channel one higher at a global hop and at a detour (R354). DEDUCED, log 84. -/
def State.transit (s : State) (f : Nat) (p : FabricIn) : State :=
  match s.route f p with
  | (some out, detour) =>
    let vc := min 7 (p.vc + b2n (isGlobal out) + b2n detour)
    let fr : Frame := { cls := p.cls, vc := vc, seq := p.seq, len := 64 * p.flits, count := 1,
                        out := .link out "packet" [p.src, p.dst, p.seq, p.cls, vc, p.hops + 1, b2n (p.detoured || detour)] }
    let reg := 0x00B00000 + 0x80000 * (f / 8)
    let s := s.bump64 (reg + 0x20) 1
    let s := if detour then s.bump (reg + 0x28) 1 else s
    (if p.cls = 0 then s else s.wakePort out).queueFrame out fr
  | (none, _) => s

/-- `FABRIC_PACKET_RECEIVE` (R344, R345, R349, R353 to R356): a flit whose CRC fails is replayed; a packet for this
device is taken once; any other goes on in transit. A credit returns to the sender. -/
def execFabricPacketReceive (f : Nat) (p : FabricIn) (s : State) : Host.Outcome State Fault Refusal :=
  .next (if 16 ≤ f || !(s.fabPort f).carries || 15 < p.cls || 7 < p.vc then s
    else if p.crcBad then (s.bump (fabPortReg f 0x20) 1).emit (.link f "replay" [p.seq])
    else
      let s := (s.bump64 (fabPortReg f 0x18) p.flits).updPort f (fun k => { k with lastRx := s.now })
      let s := if p.cls = 0 then s else s.wakePort f
      let s := s.emit (.link f "credit" [p.vc])
      if p.dst = s.self then
        (if s.net.seen.contains (p.src, p.seq) then s
         else { s with net := { s.net with seen := ((p.src, p.seq) :: s.net.seen).take 65536 } })
      else s.transit f p)

/-- `FLOW_CREDIT_RECEIVE` (R345): a credit of a channel returns, and with it the acknowledgement of its oldest packet. DEDUCED, log 84. -/
def execFlowCreditReceive (f vc : Nat) (s : State) : Host.Outcome State Fault Refusal :=
  .next (if 16 ≤ f || 7 < vc || !(s.fabPort f).carries then s
    else
      let s := s.updPort f (fun p =>
        { p with credits := updAt p.credits vc (· + 1),
                 unacked := match p.unacked.find? (fun k => k.vc == vc) with | some k => p.unacked.erase k | none => p.unacked })
      s.serve f)

/-! ## Quiet states -/

/-- The state that a port asks to enter at a load in per cent of 8 lanes over the last IDLE_US (Table 12-3). -/
def FabDie.quietTarget (d : FabDie) (state load : Nat) : Option Nat :=
  if d.quietEn && load = 0 && (state = 2 || state = 3) then some 4
  else if d.lowEn && load < 40 && state = 2 then some 3
  else none

/-- `PORT_IDLE_TIMER` (R359, R360): the port requests an entry on lane 0. -/
def execPortIdleTimer (f load now : Nat) (s : State) : Host.Outcome State Fault Refusal :=
  let s := s.advance now
  let p := s.fabPort f
  .next (match (s.net.dies.getD (f / 8) {}).quietTarget p.state load with
    | some t =>
      if f < 16 && p.request.isNone && !p.exiting && p.ctrl = 0 && (s.shaper f).queue.isEmpty then
        (s.updPort f (fun p => { p with request := some t })).emit (.link f "quiet-request" [t])
      else s
    | none => s)

/-- `QUIET_ENTRY_COMMIT` (R361): a packet whose first flit arrived before the commit aborts the entry. -/
def execQuietEntryCommit (f : Nat) (packet : Option Nat) (s : State) : Host.Outcome State Fault Refusal :=
  .next (match (s.fabPort f).request with
    | some t =>
      (match packet with
       | some _ => s.updPort f (fun p => { p with request := none })
       | none => s.updPort f (fun p => { p with request := none, state := t }))
    | none => s)

/-- `QUIET_EXIT_COMPLETE` (R361): the port is ACTIVE, and packets held leave. -/
def execQuietExitComplete (f : Nat) (s : State) : Host.Outcome State Fault Refusal :=
  .next (if (s.fabPort f).exiting then (s.updPort f (fun p => { p with exiting := false, state := 2 })).serve f else s)

/-- `QUIET_KEEPALIVE` (R360): every port in QUIET sends a keep-alive. -/
def execQuietKeepalive (now : Nat) (s : State) : Host.Outcome State Fault Refusal :=
  let s := s.advance now
  .next (((List.range 16).filter (fun f => (s.fabPort f).state == 4)).foldl (fun s f =>
    (s.bump64 (fabPortReg f 0x10) 1).emit (.link f "keep-alive" [])) s)

end Sys2Proof.Machine
end

