-- ==== Sys2Proof/Machine/Engines.lean ====
section
/-! DEFINITION. Engines and control cores of the tiles: which one runs a stage (R95, R126), the bypass map
and the handling of engine faults (R99, R127, R128, R544). -/

namespace Sys2Proof.Machine

/-! ## The bypass map -/

/-- Engine classes that a recipe's stages use (Table 04-1). -/
def Recipe.classes (r : Recipe) : List Nat :=
  (if r.holds 1 || r.holds 2 then [0, 1] else []) ++ (if r.holds 4 then [2] else []) ++ (if r.holds 5 then [3] else [])
  ++ (if r.holds 6 then [4] else []) ++ (if r.buckets.any (fun b => (r.packFrc b).isSome) then [5] else [])

/-- Classes that the recipes of running jobs use. -/
def State.usedClasses (s : State) : List Nat :=
  sortNat ((s.jobs.vals.map (fun j => match s.recipeFor j j.epoch with | some r => r.classes | none => [])).flatten)

/-- An engine of the class lies outside the map on a tile in one of the states. -/
def State.classHeld (s : State) (states : List Nat) (cls : Nat) : Bool :=
  s.tiles.any (fun t => states.contains t.state && (List.range (classCount cls)).any (fun i => !t.out cls i))

/-- A tile's maps written to the settings image (R128, Table 17-5). -/
def State.writeBypass (s : State) (n cls : Nat) : State :=
  if cls = 0 then s.writeSetting (0x64 + 4 * n) (leBytes 4 (s.tile n).bypVde)
  else s.writeSetting (0x74 + 4 * n) (leBytes 4 (s.tile n).bypMisc)

/-- The stages that an engine was running are abandoned and run again from their inputs (R99): a sample waits
again, and a compression job of the tile goes back to the head of its queue. -/
def State.abandonStages (s : State) (n cls idx : Nat) : State :=
  let s := (List.range s.samples.length).foldl (fun s i =>
    match s.samples[i]? with
    | some x => if x.tile = n && x.engine = some (cls, idx) then s.release i else s
    | none => s) s
  let mine := s.cxe.running.filter (fun j => j.tile == n)
  let cap := 2 - (b2n ((s.tile n).out 5 0) + b2n ((s.tile n).out 5 1))
  if cls = 5 && cap < mine.length then
    let gone := mine.drop cap
    { s with cxe := { queued := gone ++ s.cxe.queued, running := s.cxe.running.filter (fun j => !gone.contains j) } }
  else s

/-- An engine is marked out: the map, its copy in the settings image, and what it was running. -/
def State.markOut (s : State) (n cls idx : Nat) : State :=
  let s := s.updTile n (fun t => t.mark cls idx true)
  let s := (s.writeBypass n cls).abortSlices (fun v => v.tile == n && v.cls == cls && v.idx == idx)
  (s.abandonStages n cls idx).schedule n

/-- An engine fault (R544): marked out whatever R127 would say, with its events. -/
def State.engineFault (s : State) (n cls idx : Nat) : State :=
  let s := (s.markOut n cls idx).raise evEngineFault n []
  if s.usedClasses.contains cls && !s.classHeld [1, 4] cls then s.raise evClassLost 4 [] else s

/-- `ENGINE_SELF_FAULT` (R544): an engine detects a fault in itself while it runs a stage. -/
def execEngineSelfFault (tile cls idx : Nat) (s : State) : Host.Outcome State Fault Refusal :=
  .next (if tile < 4 && decide (idx < classCount cls) && !(s.tile tile).out cls idx then s.engineFault tile cls idx else s)

end Sys2Proof.Machine
end

