-- ==== Sys2Proof/Machine/Tiles.lean ====
section
/-! DEFINITION. Draining and rejoining tiles (R125, Table 04-8), the idle-time test and its runs (R541 to R546,
R554), and the engine-bypass command (R127, R548). -/

namespace Sys2Proof.Machine

/-! ## Drain and rejoin -/

/-- LAST of TSCH_STATE: the tile is the only one in SERVING or ASLEEP. -/
def State.lastTile (s : State) (n : Nat) : Bool :=
  let up := fun (t : Tile) => t.state == 1 || t.state == 4
  up (s.tile n) && s.tiles.zipIdx.all (fun t => t.2 == n || !up t.1)

/-- The tile takes a drain: it serves or sleeps and is not the last. -/
def State.drainOk (s : State) (n : Nat) : Bool := ((s.tile n).state == 1 || (s.tile n).state == 4) && !s.lastTile n

/-- A drain begins (R125): no sample is admitted to the tile from now on. -/
def State.beginDrain (s : State) (n : Nat) : State := s.updTile n (fun t => { t with state := 2, share := 0 })

/-- A DRAINED tile serves again (R125). -/
def State.rejoin (s : State) (n : Nat) : State :=
  if (s.tile n).state = 3 then s.updTile n (fun t => { t with state := 1, share := Config.tileShare % 256 }) else s

/-- The tile has nothing admitted: no sample before delivery, no compression job. -/
def State.tileEmpty (s : State) (n : Nat) : Bool :=
  s.samples.all (fun x => x.tile != n) && s.cxe.running.all (fun j => j.tile != n)

/-- `TILE_DRAINED` (R125): the last admitted sample of a draining tile has finished; commands that drain it complete. -/
def execTileDrained (tile : Nat) (s : State) : Host.Outcome State Fault Refusal :=
  .next (if (s.tile tile).state = 2 && s.tileEmpty tile then
      let cmds := (s.tile tile).drainCmds
      ((s.updTile tile (fun t => { t with state := 3, drainCmds := [] })).emptyRefs tile).finishAll cmds success
    else s)

/-- TILE_DRAIN (R125): it completes when the tile is DRAINED. DEDUCED, log 56. -/
def ownTileDrain (w : Waiter) (x : CmdIn) (s : State) : Own :=
  let n := x.pkt.unit
  let wait := fun (s : State) => s.updTile n (fun t => { t with drainCmds := t.drainCmds ++ [w] })
  if (s.tile n).state = 3 then .done success s
  else if (s.tile n).state = 2 then .run (wait s)
  else if s.drainOk n then .run (wait (s.beginDrain n))
  else .refuse (targetInvalid 8)

/-- `TILE_DRAIN` (R125). -/
def execTileDrain (x : CmdIn) (s : State) : Host.Outcome State Fault Refusal := .next (runCommand opTileDrain ownTileDrain x s)

/-- TILE_REJOIN (R125). DEDUCED, log 56. -/
def ownTileRejoin (_ : Waiter) (x : CmdIn) (s : State) : Own :=
  if (s.tile x.pkt.unit).state = 3 then .done success (s.rejoin x.pkt.unit) else .refuse (targetInvalid 8)

/-- `TILE_REJOIN` (R125). -/
def execTileRejoin (x : CmdIn) (s : State) : Host.Outcome State Fault Refusal := .next (runCommand opTileRejoin ownTileRejoin x s)

/-- A write of TSCH_CTRL (R125): bit 0 DRAIN, bit 1 REJOIN; a drain of the last tile, a rejoin of a tile not
DRAINED and both together have no effect and raise an event. -/
def State.writeTschCtrl (s : State) (path n v : Nat) : State :=
  if (bit v 0 && bit v 1) || (bit v 0 && s.lastTile n) || (bit v 1 && (s.tile n).state != 3) then s.regInvalid path (tileReg n 4)
  else if bit v 1 then s.rejoin n
  else if bit v 0 && s.drainOk n then s.beginDrain n
  else s

/-- `TSCH_DRAIN` (R125): a write of TSCH_CTRL that sets DRAIN. -/
def execTschDrain (path tile v : Nat) (s : State) : Host.Outcome State Fault Refusal :=
  .next (if tile < 4 then s.gated path (tileReg tile 4) (fun s => s.writeTschCtrl path tile v) else s)

/-- `TSCH_REJOIN` (R125): a write of TSCH_CTRL that sets REJOIN. -/
def execTschRejoin (path tile v : Nat) (s : State) : Host.Outcome State Fault Refusal :=
  .next (if tile < 4 then s.gated path (tileReg tile 4) (fun s => s.writeTschCtrl path tile v) else s)

/-! ## Slices of the idle-time test -/

/-- Slices of an engine in one cycle (Table 18-4): standards, formats, filters of its class. DEDUCED, log 76. -/
def sliceCount (cls : Nat) : Nat := [6, 8, 5, 1, 5, 1].getD cls 0

/-- Row of Table 18-4 of a slice's class: 6 is the spare lane, 7 the SRAM region. -/
def testItem (cls : Nat) : Nat := [2, 3, 4, 5, 1, 6, 7, 0].getD cls 0

/-- Key of what a slice tests. -/
def sliceKey (tile cls idx : Nat) : Nat :=
  if cls = 6 then 2048 + idx else if cls = 7 then 0x10000 + bankKey tile idx else engineId tile cls idx

/-- The item is enabled. -/
def State.itemOn (s : State) (cls : Nat) : Bool := bit s.tst.en (testItem cls)

/-- A TEST_RUN or a bypass clear still wants a slice of the key. DEDUCED, log 76. -/
def State.runWants (s : State) (key : Nat) : Bool := s.tst.runs.any (fun r => decide (0 < r.left.get 0 key))

/-- The engine has been idle for 200 µs and no stage of its class waits on its tile (R542). -/
def State.engineIdle (s : State) (n cls idx : Nat) : Bool :=
  !s.engineBusy n cls idx && decide (s.tst.idleSince.get 0 (engineId n cls idx) + 200000 ≤ s.now)
  && s.samples.all (fun x => !(x.tile == n && s.waits x && s.stageClass x == some cls))
  && !(cls == 5 && (s.cxe.running.any (fun j => j.tile == n) || !s.cxe.queued.isEmpty))

/-- A slice runs on what the key names. -/
def State.sliceRuns (s : State) (n cls idx : Nat) : Bool := s.tst.slices.any (fun v => v.tile == n && v.cls == cls && v.idx == idx)

/-- A slice starts. -/
def State.addSlice (s : State) (n cls idx : Nat) (forRun : Bool) : State :=
  { s with tst := { s.tst with slices := s.tst.slices ++ [{ tile := n, cls := cls, idx := idx, forRun := forRun }] } }

/-- An engine slice may start, and starts: a run wakes the engine's domain, the idle-time test does not. -/
def State.startEngineSlice (s : State) (n cls idx : Nat) : State :=
  let run := s.runWants (engineId n cls idx)
  let d := engineDomain n cls idx
  if idx < classCount cls && n < 4 && (run || (s.itemOn cls && !(s.tile n).out cls idx && s.tileRuns n))
      && s.engineIdle n cls idx && !s.sliceRuns n cls idx then
    if s.domainOn d then
      (s.addSlice n cls idx run).requestTokens (engineId n cls idx) (s.scaled (if cls = 4 then s.taFigure 0 else s.figure cls))
    else if run then s.postWork d else s
  else s

/-- Regions of a die under test. -/
def State.regionsActive (s : State) (die : Nat) : Nat := (s.tst.slices.filter (fun v => v.cls == 7 && v.tile == die)).length

/-- The die's banks respond. -/
def State.dieOn (s : State) (die : Nat) : Bool := s.domainOn (if die < 4 then 6 * die + 5 else 27)

/-- A region test may start on the bank (R288): its die allows region tests and a shadow buffer is free, the
bank is ON or in RETENTION, and no handover or transition is in progress. -/
def State.regionFree (s : State) (die b : Nat) : Bool :=
  die < 5 && decide (b < dieBanks die) && bit s.mem.testEn die && s.dieOn die
  && (s.bank die b).state != 0 && (s.bank die b).pending.isNone && (s.bank die b).next.isNone && !(s.bank die b).test
  && decide (s.regionsActive die < 4)

/-- A region test starts. -/
def State.startRegion (s : State) (die b : Nat) : State :=
  (s.addSlice die 7 b false).setBank die b { s.bank die b with test := true }

/-- The spare lane of a port is free and its link is up. -/
def State.laneFree (s : State) (f : Nat) : Bool := f < 16 && (s.fabPort f).carries && (s.fabPort f).spareFree

/-- `TEST_SLICE_START` (R542, R288, R545): `cls` 0–5 an engine, 6 the spare lane of fabric port `idx`, 7 a region of
bank `idx` of die `tile`. -/
def execTestSliceStart (tile cls idx now : Nat) (s : State) : Host.Outcome State Fault Refusal :=
  let s := s.advance now
  .next (if cls < 6 then s.startEngineSlice tile cls idx
    else if cls = 6 then
      (if (s.itemOn 6 || s.runWants (2048 + idx)) && s.laneFree idx && !s.sliceRuns 0 6 idx then
        s.addSlice 0 6 idx (s.runWants (2048 + idx)) else s)
    else if cls = 7 then (if s.itemOn 7 && s.regionFree tile idx then s.startRegion tile idx else s)
    else s)

/-! ## Progress -/

/-- Slices of a cycle still to run are counted against these: keys with their counts, of engines in the map's
reach, free spare lanes, and banks that are ON or in RETENTION. -/
def State.cycleWork (s : State) : List (Nat × Nat) :=
  (s.tiles.zipIdx.map (fun t => ((List.range 6).map (fun c =>
    ((List.range (classCount c)).filter (fun i => !t.1.out c i)).map (fun i => (engineId t.2 c i, sliceCount c)))).flatten)).flatten
  ++ ((List.range 16).filter (fun f => s.laneFree f)).map (fun f => (2048 + f, 1))
  ++ (s.mem.banks.filter (fun b => b.2.state != 0 && !b.2.retired)).map (fun b => (0x10000 + b.1, 64))

/-- Item of a slice key. -/
def keyItem (k : Nat) : Nat := if k < 2048 then testItem (engineClass k) else if k < 0x10000 then 7 else 0

/-- Per-mille of the cycle done, over the items that `f` takes. -/
def State.progress (s : State) (f : Nat → Bool) : Nat :=
  let w := s.cycleWork.filter (fun k => f (keyItem k.1))
  let all := sumNat (w.map (·.2))
  if all = 0 then 0 else sumNat (w.map (fun k => min k.2 (s.tst.done.get 0 k.1))) * 1000 / all

/-- A slice of the cycle is done; the last one ends the cycle (R543). -/
def State.sliceCounts (s : State) (key : Nat) : State :=
  let s := { s with tst := { s.tst with done := s.tst.done.put key (s.tst.done.get 0 key + 1) } }
  if s.cycleWork.all (fun k => decide (k.2 ≤ s.tst.done.get 0 k.1)) then
    { s with tst := { s.tst with done := [], cycleS := (s.now - s.tst.cycleAt) / 1000000000, cycleAt := s.now } }.bump64 0x00E00018 1
  else s

/-! ## The end of a slice -/

/-- A run with no slice left. -/
def TestRun.ended (r : TestRun) : Bool := r.left.all (fun k => k.2 == 0)

/-- A TEST_RUN ends with the leak audit of R304 (R546); a bypass clear clears its engine if every slice passed (R548). -/
def State.endRun (s : State) (r : TestRun) : State :=
  let res : Result := { status := 0, r0 := r.run, r1 := r.failed }
  if r.cmd.opcode = 0x0602 then s.startAudit 0 (some r.cmd) res
  else
    let e := r.cmd.pkt.unit
    let n := engineTile e
    if r.failed = 0 then
      let s := s.updTile n (fun t => t.mark (engineClass e) (engineIndex e) false)
      ((s.writeBypass n (engineClass e)).schedule n).finish r.cmd res
    else (s.raise evEngineFault n []).finish r.cmd res

/-- Every run counts a slice of the key, and the runs that are over end. -/
def State.countRuns (s : State) (key : Nat) (ok : Bool) : State :=
  let step := fun (r : TestRun) =>
    if 0 < r.left.get 0 key then
      { r with left := r.left.put key (r.left.get 0 key - 1), run := r.run + 1, failed := r.failed + b2n (!ok) }
    else r
  let rs := s.tst.runs.map step
  let s := { s with tst := { s.tst with runs := rs.filter (fun r => !r.ended) } }
  (rs.filter TestRun.ended).foldl (fun s r => s.endRun r) s

/-- A slice that failed (R544, R545, R290): an engine is marked out at its second failure. -/
def State.sliceFails (s : State) (v : Slice) (sub col : Nat) : State :=
  let s := s.bump 0x00E00024 1
  if v.cls < 6 then
    let e := engineId v.tile v.cls v.idx
    if s.tst.failedOnce.contains e then
      ({ s with tst := { s.tst with failedOnce := s.tst.failedOnce.filter (· != e) } }).engineFault v.tile v.cls v.idx
    else { s with tst := { s.tst with failedOnce := s.tst.failedOnce ++ [e] } }
  else if v.cls = 6 then
    (s.updPort v.idx (fun p => { p with failed := p.failed ||| 256 })).raise evLaneSpareFail (fabDieOf v.idx) []
  else
    (s.setBank v.tile v.idx { s.bank v.tile v.idx with fault := true }).raise evSramTest v.tile
      (leBytes 1 v.tile ++ leBytes 2 v.idx ++ leBytes 1 sub ++ leBytes 1 col)

/-- A slice that passed: an engine's failure before it is forgotten. -/
def State.slicePasses (s : State) (v : Slice) : State :=
  if v.cls < 6 then
    { s with tst := { s.tst with failedOnce := s.tst.failedOnce.filter (· != engineId v.tile v.cls v.idx) } }
  else s

/-- An uncorrectable word that a region test finds (R291): its check bits are poisoned. -/
def State.poison (s : State) (die b row : Nat) : State :=
  ({ s with mem := { s.mem with poisoned := s.mem.poisoned ++ [(bankKey die b, row)] } }).raise evSramUe die
    (leBytes 1 die ++ leBytes 2 b ++ leBytes 2 row)

/-- What a slice leaves behind: its tokens return, and its bank is no longer under test; regions go in order. -/
def State.sliceLeaves (s : State) (v : Slice) : State :=
  let s := { s with tst := { s.tst with slices := s.tst.slices.filter (· != v) } }
  if v.cls < 6 then s.returnTokens (engineId v.tile v.cls v.idx)
  else if v.cls = 7 then
    s.setBank v.tile v.idx { s.bank v.tile v.idx with test := false, region := s.tst.done.get 0 (sliceKey v.tile 7 v.idx) % 64 }
  else s

/-- `TEST_SLICE_COMPLETE` (R544, R545, R290, R291): a slice ends; a failing one of an engine is not done and runs
again. For a region, `sub` and `col` are the failing cell and `ue` a row found uncorrectable. -/
def execTestSliceComplete (tile cls idx : Nat) (ok : Bool) (sub col : Nat) (ue : Option Nat) (now : Nat) (s : State) :
    Host.Outcome State Fault Refusal :=
  let s := s.advance now
  .next (match s.tst.slices.find? (fun v => v.tile == tile && v.cls == cls && v.idx == idx) with
    | none => s
    | some v =>
      if v.cls < 6 && !s.pwr.granted.has (engineId tile cls idx) then s
      else
        let key := sliceKey tile cls idx
        let s := s.sliceLeaves v
        let s := if ok then s.slicePasses v else s.sliceFails v sub col
        let s := match ue with
          | some row => if v.cls = 7 then s.poison tile idx row else s
          | none => s
        let s := if ok || 6 ≤ v.cls then s.sliceCounts key else s
        s.countRuns key ok)

/-- `TEST_DOMAIN_WAKE_TIMER` (R542): a tile domain off for 4 h is woken once for its engines' slices. -/
def execTestDomainWakeTimer (d now : Nat) (s : State) : Host.Outcome State Fault Refusal :=
  let s := s.advance now
  let k := s.domain d
  .next (if d < 24 && s.tileRuns (d / 6) && !k.on && !k.waking && decide (k.offSince + 14400000000000 ≤ s.now)
      && s.tst.woken.find d != some k.offSince then
      ({ s with tst := { s.tst with woken := s.tst.woken.put d k.offSince } }).postWork d
    else s)

/-- `TST_CTRL_WRITE` (R554). -/
def execTstCtrlWrite (path v : Nat) (s : State) : Host.Outcome State Fault Refusal :=
  .next (s.gated path 0x00E00004 (fun s => { s with tst := { s.tst with en := bits v 0 8 } }))

/-! ## TEST_RUN and ENGINE_BYPASS -/

/-- A run of slices begins. -/
def State.beginRun (s : State) (w : Waiter) (left : CMap Nat) : State :=
  { s with tst := { s.tst with runs := s.tst.runs ++ [{ cmd := w, left := left, run := 0, failed := 0 }] } }

/-- Slices of every engine of a tile. -/
def tileSlices (n : Nat) : CMap Nat :=
  (((List.range 6).map (fun c => (List.range (classCount c)).map (fun i => (engineId n c i, sliceCount c)))).flatten).foldl
    (fun m k => m.put k.1 k.2) []

/-- TEST_RUN (R546). -/
def ownTestRun (w : Waiter) (x : CmdIn) (s : State) : Own :=
  let u := x.pkt.unit
  match x.pkt.f 16 1 with
  | 0 => if engineOk u then .run (s.beginRun w [(u, sliceCount (engineClass u))]) else .refuse (targetInvalid 8)
  | 1 => if u < 4 && (s.tile u).state == 3 then .run (s.beginRun w (tileSlices u)) else .refuse (targetInvalid 8)
  | 2 => if u < 16 && (s.fabPort u).spareFree then .run (s.beginRun w [(2048 + u, 1)]) else .refuse (targetInvalid 8)
  | _ => .refuse (paramInvalid 16)

/-- `TEST_RUN` (R546). -/
def execTestRun (x : CmdIn) (s : State) : Host.Outcome State Fault Refusal := .next (runCommand opTestRun ownTestRun x s)

/-- Marking the engine out would leave a class that a running job's recipe uses with no engine outside the map
on any tile in SERVING (R127). DEDUCED, log 55. -/
def State.bypassLeavesNone (s : State) (n cls idx : Nat) : Bool :=
  s.usedClasses.contains cls && !(s.updTile n (fun t => t.mark cls idx true)).classHeld [1] cls

/-- ENGINE_BYPASS (R127, R548): 1 marks out, 0 clears once the engine's slices pass. DEDUCED, log 55. -/
def ownEngineBypass (w : Waiter) (x : CmdIn) (s : State) : Own :=
  let e := x.pkt.unit
  match x.pkt.f 16 1 with
  | 0 => .run (s.beginRun w [(e, sliceCount (engineClass e))])
  | 1 =>
    if s.bypassLeavesNone (engineTile e) (engineClass e) (engineIndex e) then .refuse { status := 0x0310 }
    else .done success (s.markOut (engineTile e) (engineClass e) (engineIndex e))
  | _ => .refuse (paramInvalid 16)

/-- `ENGINE_BYPASS` (R127). -/
def execEngineBypass (x : CmdIn) (s : State) : Host.Outcome State Fault Refusal :=
  .next (runCommand opEngineBypass ownEngineBypass x s)

end Sys2Proof.Machine
end

