-- ==== Sys2Proof/Machine/BrmEval.lean ====
section
/-! DEFINITION. Permutation evaluations of the BRM block (R93, R94), with their rows. -/

namespace Sys2Proof.Machine

/-- The BRM block replaced. -/
def State.setBrm (s : State) (b : BrmBlock) : State := { s with brm := b }

/-- The keys an evaluation latches: the KEYi registers, or those of R69. -/
def BrmBlock.keysNow (b : BrmBlock) : List Nat := if b.keySrc then b.keys else roundKeys b.seed b.epoch b.n

/-- A write of BRM_EVAL_CTRL (R94): INVERSE and KEY_SRC, then GO where no evaluation runs. -/
def BrmBlock.writeCtrl (b : BrmBlock) (v : Nat) : BrmBlock :=
  let b := { b with inverse := bit v 1, keySrc := bit v 2 }
  if bit v 0 && b.running.isNone then
    { b with running := some { inverse := b.inverse, n := b.n, input := b.input, keys := b.keysNow }, done := false, err := false }
  else b

/-- `BRM_EVAL_GO` (R94). -/
def execBrmEvalGo (path v : Nat) (s : State) : Host.Outcome State Fault Refusal :=
  .next (s.gated path 0x00300040 (fun s => s.setBrm (s.brm.writeCtrl v)))

/-- The result of an evaluation with its passes beyond the first; none for N = 0 or IN ≥ N (Table 03-9). -/
def EvalJob.result (e : EvalJob) : Option (Nat × Nat) :=
  if e.n ≤ e.input then none
  else some (if e.inverse then ordinalOf e.keys e.n e.input else positionOf e.keys e.n e.input)

/-- `BRM_EVAL_DONE` (R94). -/
def execBrmEvalDone (s : State) : Host.Outcome State Fault Refusal :=
  .next (match s.brm.running with
    | none => s
    | some e =>
      match e.result with
      | none => s.setBrm { s.brm with running := none, err := true, out := 0, walks := 0 }
      | some r => (s.setBrm { s.brm with running := none, done := true, out := r.1, walks := min r.2 255 }).bump64 0x00300010 (r.2 + 1))

end Sys2Proof.Machine
end

