-- ==== Sys2Proof/Machine/Clocks.lean ====
section
/-! DEFINITION. Reference clocks (R469 to R472, Table 16-2), Estate time (R362, R363) and the Ethernet
ports' link state and flow control (R364, R365), with their rows. -/

namespace Sys2Proof.Machine

/-! ## Reference clocks -/

/-- A register of monitor `m`. -/
def clkReg (m off : Nat) : Nat := 0x00030100 + 0x10 * m + off

/-- Monitor `m`. -/
def State.monitor (s : State) (m : Nat) : ClockMon := s.pwr.monitors.getD m {}

/-- Monitor `m` changed. -/
def State.updMonitor (s : State) (m : Nat) (f : ClockMon → ClockMon) : State :=
  { s with pwr := { s.pwr with monitors := updAt s.pwr.monitors m f } }

/-- The other clock of the pair of a link die: 2 with 3, 4 with 5. -/
def pairClock (m : Nat) : Nat := if m % 2 = 0 then m + 1 else m - 1

/-- Fabric ports of link die `d`. -/
def diePorts (d : Nat) : List Nat := (List.range 8).map (8 * d + ·)

/-- The Ethernet ports of a link die go to a state. -/
def State.ethDie (s : State) (d state : Nat) : State :=
  { s with net := { s.net with eth := s.net.eth.zipIdx.map (fun e => if e.2 / 4 = d then { e.1 with state := state } else e.1) } }

/-- Ports of a link die that are not down stop and go to a state: 1 to train again, 0 down. -/
def State.dieStops (s : State) (d state : Nat) : State :=
  let live := (diePorts d).filter (fun f => (s.fabPort f).state != 0)
  let s := live.foldl (fun s f => s.portStops f state) s
  if s.domainOn (29 + 2 * d) then s.ethDie d state else s

/-- A SerDes reference of a link die is lost (R470): the other one takes over and the ports retrain, or all go down. -/
def State.serdesLost (s : State) (m : Nat) (used : Bool) : State :=
  let d := (m - 2) / 2
  let o := pairClock m
  if !used then s
  else if (s.monitor o).state = 0 then
    let s := s.updMonitor o (fun k => { k with inUse := true })
    { s with pwr := { s.pwr with onB := setBits s.pwr.onB d 1 (o % 2) } }.dieStops d 1
  else s.dieStops d 0

/-- A SerDes reference returns (R470): it is used where the die has none, and its ports train; else it stays idle. -/
def State.serdesBack (s : State) (m : Nat) : State :=
  let d := (m - 2) / 2
  if (s.monitor (pairClock m)).inUse then s
  else
    let s := s.updMonitor m (fun k => { k with inUse := true })
    let s := { s with pwr := { s.pwr with onB := setBits s.pwr.onB d 1 (m % 2) } }
    if s.domainOn (28 + 2 * d) then
      ((diePorts d).foldl (fun s f => s.updPort f (fun p => if p.state = 0 then { p with state := 1 } else p)) s).ethDie d 1
    else s

/-- The Sloe island changes clock: its ticks count on (Table 16-2). -/
def State.sloeClock (s : State) (rc : Bool) : State :=
  let b := s.sloe
  let ticks := b.ticks + (s.now - b.ticksAt) * (if b.onRc then 1000000 else 32768) / 1000000000
  { s with sloe := { b with ticks := ticks, ticksAt := s.now, onRc := rc, xtal := !rc, cause := if rc then b.cause ||| 8 else b.cause } }

/-- What a loss does beside its event (Table 16-2). -/
def State.clockLost (s : State) (m : Nat) (used : Bool) : State :=
  match m with
  | 0 => { s with pwr := { s.pwr with holdover := some s.now } }
  | 1 => s.hostLinkDown
  | 6 => s.sloeClock true
  | _ => s.serdesLost m used

/-- `CLK_LOSS` (R469, R470): monitor m finds its clock lost. -/
def execClkLoss (m now : Nat) (s : State) : Host.Outcome State Fault Refusal :=
  let s := s.advance now
  .next (if 6 < m || (s.monitor m).state = 1 then s
    else
      let used := (s.monitor m).inUse
      let s := s.updMonitor m (fun k => { k with state := 1, inUse := false, last := s.now })
      ((s.bump (clkReg m 4) 1).raise evClkLoss 4 (leBytes 1 m)).clockLost m used)

/-- What a return does beside its event (Table 16-2). -/
def State.clockBack (s : State) (m : Nat) : State :=
  match m with
  | 0 => { s.updMonitor 0 (fun k => { k with inUse := true }) with pwr := { (s.updMonitor 0 (fun k => { k with inUse := true })).pwr with holdover := none } }
  | 1 => s.updMonitor 1 (fun k => { k with inUse := true })
  | 6 => (s.updMonitor 6 (fun k => { k with inUse := true })).sloeClock false
  | _ => s.serdesBack m

/-- `CLK_RESTORED` (R471): a lost clock has shown in-window edges for 10 ms; a clock never seen before becomes
GOOD without an event. -/
def execClkRestored (m : Nat) (ppm : Int) (s : State) : Host.Outcome State Fault Refusal :=
  .next (if 6 < m || (s.monitor m).state = 0 then s
    else
      let was := (s.monitor m).state
      let s := s.updMonitor m (fun k => { k with state := 0, ppm := clampInt ppm (-32768) 32767 })
      let s := if was = 3 then s else s.raise evClkRestored 4 (leBytes 1 m)
      s.clockBack m)

/-- `CLK_HOLDOVER_EXPIRY` (R470): after 10 s of holdover CLK_LOSS is raised again. -/
def execClkHoldoverExpiry (now : Nat) (s : State) : Host.Outcome State Fault Refusal :=
  let s := s.advance now
  .next (match s.pwr.holdover with
    | some t => if t + 10000000000 ≤ s.now then s.raise evClkLoss 4 (leBytes 1 0) else s
    | none => s)

/-! ## Estate time -/

/-- ETH_PTP_CTRL.EN: the device is a time source (R362). -/
def NetBlock.isSource (n : NetBlock) : Bool := bit n.ptp 0

/-- A port's claim to be followed is better than another's: fewer hops, then the lower device number. DEDUCED, log 87. -/
def betterTime (a b : Nat × Nat × Nat) : Bool := decide (a.1 < b.1) || (a.1 == b.1 && decide (a.2.1 < b.2.1))

/-- The neighbour that the device follows, as (hops, device, port): the fewest hops to a source, the lower device
number on a tie. DEDUCED, log 87. -/
def NetBlock.follows (n : NetBlock) : Option (Nat × Nat × Nat) :=
  let cs := (n.ports.zipIdx.filter (fun p => p.1.carries)).filterMap (fun p => p.1.timeHops.map (fun h => (h, p.1.peer, p.2)))
  match cs with
  | [] => none
  | c :: rest => some (rest.foldl (fun a x => if betterTime x a then x else a) c)

/-- Estate time corrected by a signed amount in ns. -/
def State.correct (s : State) (d : Int) : State := { s with now := ((s.now : Int) + d).toNat }

/-- `LINK_DELAY_EXCHANGE` (R362): the two-way exchange on a port: whether the neighbour has a source, its hops, and
the correction it gives. Only the neighbour followed corrects Estate time. -/
def execLinkDelayExchange (f now hops : Nat) (corr : Int) (source : Bool) (s : State) : Host.Outcome State Fault Refusal :=
  let s := s.advance now
  .next (if 16 ≤ f || !(s.fabPort f).carries then s
    else
      let s := s.updPort f (fun p => { p with timeHops := if source then some hops else none, lastRx := s.now })
      if s.net.isSource then s
      else match s.net.follows with
        | some b =>
          let s := if b.2.2 = f then s.correct corr else s
          { s with net := { s.net with locked := true, hops := min 15 (b.1 + 1), holdover := false } }
        | none => { s with net := { s.net with locked := false, hops := 15 } })

/-- `PTP_MESSAGE_RECEIVE` (R362): a time source disciplines Estate time on the port of ETH_PTP_CTRL. -/
def execPtpMessageReceive (q : Nat) (offset : Int) (s : State) : Host.Outcome State Fault Refusal :=
  .next (if s.net.isSource && bits s.net.ptp 12 3 == q && (s.net.eth.getD q {}).state == 2 then
      { (s.correct (-offset)) with net := { s.net with ptpOffset := offset, ptpLocked := true, locked := true, hops := 0, holdover := false } }
    else s)

/-- `TIME_HOLDOVER` (R363): no source is reachable. -/
def execTimeHoldover (s : State) : Host.Outcome State Fault Refusal :=
  .next (if s.net.holdover then s
    else { s with net := { s.net with locked := false, hops := 15, ptpLocked := false, holdover := true } }.raise evTimeHoldover 4 [])

/-! ## Ethernet ports -/

/-- `ETH_PORT_LINK_CHANGE` (R364, R375): 0 down, 1 training, 2 up; up frames that waited leave. -/
def execEthPortLinkChange (q st : Nat) (s : State) : Host.Outcome State Fault Refusal :=
  .next (if q < 8 && st ≤ 2 && (st = 0 || s.domainOn (29 + 2 * (q / 4)) && !s.dieUnclocked (q / 4)) then
      ({ s with net := { s.net with eth := updAt s.net.eth q (fun e => { e with state := st, paused := if st = 2 then e.paused else 0 }) } }).serve (16 + q)
    else s)

/-- `PFC_FRAME_RECEIVE` (R365): a priority under PFC is paused or resumed; other frames are ignored. -/
def execPfcFrameReceive (q prio : Nat) (pause : Bool) (s : State) : Host.Outcome State Fault Refusal :=
  .next (if q < 8 && prio < 8 && bit (s.net.eth.getD q {}).pfcEn prio then
      ({ s with net := { s.net with eth := updAt s.net.eth q (fun e => { e with paused := setBits e.paused prio 1 (b2n pause) }) } }).serve (16 + q)
    else s)

end Sys2Proof.Machine
end

