-- ==== Sys2Proof/Machine/CmdRecipe.lean ====
section
/-! DEFINITION. Recipe and image commands: RECIPE_LOAD (R104 to R107), RECIPE_REPLACE (R110, R111),
RECIPE_UNLOAD (R112), IMAGE_LOAD and IMAGE_UNLOAD (R226, R208, R221, R240, R241). -/

namespace Sys2Proof.Machine

/-- The signature of an image verifies under a trusted signing key: its signer index names one (R106
check 3), and the verdict of the enclave is good. -/
def State.imageSigned (s : State) (img : Bytes) (sigOk : Bool) : Bool := sigOk && s.sec.signkeys.has (signerOf img)

/-- Catalog header at a place of a namespace. -/
def State.catalogAt (s : State) (nsid off : Nat) : Option Bytes := s.nsRead nsid off 4096

/-! ## RECIPE_LOAD -/

/-- RESULT0 and RESULT1 of a recipe load: RECIPE_ID with RECIPE_REVISION, and the slot that holds the image. -/
def recipeResult (img : Bytes) (status slot : Nat) : Result := { status := status, r0 := field img 8 4, r1 := slot }

/-- Steps 1 to 5 of R105 for an image read. -/
def State.loadRecipe (s : State) (x : CmdIn) (img : Bytes) : Own :=
  let p := x.pkt
  let slot := p.f 16 1
  let nsid := p.f 32 2
  let off := p.f 40 8
  let dig := sha384 img
  match s.recipes.find? (fun r => r.2.digest == dig && r.2.nsid == nsid && r.2.offset == off) with
  | some r => .done (recipeResult img 1 r.1) s
  | none =>
    if s.recipes.has slot then .refuse { status := 0x0308 }
    else match recipeCheck (s.loadEnv (s.imageSigned img x.sigOk) (s.catalogAt nsid off)) img with
      | some (st, r0, r1) =>
        let r : Result := { status := st, r0 := r0, r1 := r1 }
        if st = 0x0503 then .done r (s.lostRead nsid off 4096) else .refuse r
      | none =>
        if s.recipes.any (fun r => field r.2.image 8 4 == field img 8 4 && r.2.digest != dig) then .refuse { status := 0x0606 }
        else
          let h : HeldRecipe := { image := img, digest := dig, nsid := nsid, offset := off, signer := signerOf img }
          .done (recipeResult img 0 slot) { s with recipes := s.recipes.put slot h }

/-- The image at SRC and ADDR of RECIPE_LOAD, whose NSID is 0 with SRC 0 (Table 15-9). -/
def State.recipeBytes (s : State) (x : CmdIn) (len : Nat) : Result ⊕ Bytes :=
  if x.pkt.f 17 1 = 0 && x.pkt.f 18 2 != 0 then .inl (paramInvalid 18) else s.sourceBytes x 17 18 24 len

/-- RECIPE_LOAD: ranges of Table 15-9, then R105. DEDUCED, log 35. -/
def ownRecipeLoad (_ : Waiter) (x : CmdIn) (s : State) : Own :=
  let p := x.pkt
  let len := p.f 20 4
  if 31 < p.f 16 1 then .refuse (paramInvalid 16)
  else if len < 4096 || 16777216 < len then .refuse (paramInvalid 20)
  else match s.space (p.f 32 2) with
    | none => .refuse (paramInvalid 32)
    | some n =>
      if n.capacity < p.f 40 8 + 4096 then .refuse (paramInvalid 40)
      else match s.recipeBytes x len with
        | .inl r => s.sourceFails x 18 24 len r
        | .inr img => s.loadRecipe x img

/-- `RECIPE_LOAD` (R105). -/
def execRecipeLoad (x : CmdIn) (s : State) : Host.Outcome State Fault Refusal := .next (runCommand opRecipeLoad ownRecipeLoad x s)

/-! ## RECIPE_REPLACE, RECIPE_UNLOAD -/

/-- A plan is in progress or complete (R111). -/
def Job.planned (j : Job) (epoch : Nat) : Bool :=
  match j.plan epoch with
  | some p => p.building || p.phase == 6 || p.phase == 8
  | none => false

/-- RECIPE_REPLACE (R110, R111). -/
def ownRecipeReplace (_ : Waiter) (x : CmdIn) (s : State) : Own :=
  let p := x.pkt
  let k := p.f 18 1
  let e := bits (p.f 20 4) 0 20
  match s.jobNamed p.jobId with
  | none => .refuse jobUnknown
  | some (slot, j) =>
    match s.recipes.find k with
    | none => .refuse (paramInvalid 18)
    | some h =>
      if h.nsid != j.nsid || h.offset != j.catOffset then .refuse { status := 0x030A }
      else if e ≤ j.epoch || j.planned e then .refuse { status := 0x030C }
      else .done success (s.setJob slot { j with bindings := j.bindings.filter (fun b => b.1 != e) ++ [(e, k)] })

/-- `RECIPE_REPLACE` (R111). -/
def execRecipeReplace (x : CmdIn) (s : State) : Host.Outcome State Fault Refusal :=
  .next (runCommand opRecipeReplace ownRecipeReplace x s)

/-- RECIPE_UNLOAD (R112). -/
def ownRecipeUnload (_ : Waiter) (x : CmdIn) (s : State) : Own :=
  let k := x.pkt.f 16 1
  if 31 < k then .refuse (paramInvalid 16)
  else if !s.recipes.has k then .done { status := 1 } s
  else if s.jobs.any (fun j => j.2.binds k) then .refuse { status := 0x030D }
  else .done success { s with recipes := s.recipes.del k }

/-- `RECIPE_UNLOAD` (R112). -/
def execRecipeUnload (x : CmdIn) (s : State) : Host.Outcome State Fault Refusal :=
  .next (runCommand opRecipeUnload ownRecipeUnload x s)

/-! ## Images -/

/-- Images of a kind replaced. -/
def State.setImages (s : State) (kind : Nat) (m : CMap HeldImage) : State :=
  match kind with
  | 0 => { s with models := m }
  | 1 => { s with vocabs := m }
  | _ => { s with grammars := m }

/-- Largest IMAGE_LENGTH of a kind. -/
def imageLimit (kind : Nat) : Nat := if kind = 0 then 2147483648 else 268435456

/-- Images a kind's store holds. -/
def imageCount (kind : Nat) : Nat := if kind = 0 then 32 else 16

/-- The image's own checks (R226 step 2): a status, 0 when all pass. DEDUCED, log 119. -/
def imageCheck (kind : Nat) (img : Bytes) (signed : Bool) : Nat :=
  match kind with
  | 0 => [0, 0x010E, 0x010F, 0x0204, 0x010E].getD (modelCheck img signed) 0x010E
  | 1 => if vocabOk img then 0 else 0x010C
  | _ => if grammarOk img then 0 else 0x010D

/-- Bytes of the images of a kind. -/
def storedBytes (m : CMap HeldImage) : Nat := sumNat (m.vals.map (fun h => h.image.length))

/-- The image fits the store's limits (R226 step 3, R241). -/
def State.imageFits (s : State) (kind : Nat) (img : Bytes) : Bool :=
  decide ((s.images kind).length < imageCount kind) && (kind != 0 || decide (storedBytes s.models + img.length ≤ 2 ^ 34))

/-- RESULT1 of an image load: bytes 0–3 of its digest. -/
def imageResult (status idx : Nat) (dig : Bytes) : Result := { status := status, r0 := idx, r1 := field dig 0 4 }

/-- The order of R226 for an image read. -/
def State.loadImage (s : State) (kind : Nat) (sigOk : Bool) (img : Bytes) : Own :=
  let dig := sha384 img
  match (s.images kind).find? (fun h => h.2.digest == dig) with
  | some h => .done (imageResult 1 h.1 dig) s
  | none =>
    let st := imageCheck kind img (s.imageSigned img sigOk)
    if st ≠ 0 then .refuse (if st / 256 = 1 then { status := st, r0 := 0xFFFFFFFF } else { status := st })
    else if !s.imageFits kind img then .refuse { status := if kind = 0 then 0x0407 else 0x0408 }
    else match (s.images kind).free (imageCount kind) with
      | some i =>
        .done (imageResult 0 i dig) (s.setImages kind ((s.images kind).put i { image := img, digest := dig, signer := signerOf img }))
      | none => .refuse { status := if kind = 0 then 0x0407 else 0x0408 }

/-- IMAGE_LOAD: ranges of Table 15-9, then R226. -/
def ownImageLoad (_ : Waiter) (x : CmdIn) (s : State) : Own :=
  let len := x.pkt.f 20 4
  if len = 0 || imageLimit x.pkt.unit < len then .refuse (paramInvalid 20)
  else match s.sourceBytes x 17 18 24 len with
    | .inl r => s.sourceFails x 18 24 len r
    | .inr img => s.loadImage x.pkt.unit x.sigOk img

/-- `IMAGE_LOAD` (R226). -/
def execImageLoad (x : CmdIn) (s : State) : Host.Outcome State Fault Refusal := .next (runCommand opImageLoad ownImageLoad x s)

/-- A held recipe references the image (R226). -/
def State.imageInUse (s : State) (kind : Nat) (h : HeldImage) : Bool :=
  s.recipes.any (fun r => (parseRecipe r.2.image).images.any (fun i => i.1 == kind && i.2 == h.digest.take 24))

/-- IMAGE_UNLOAD (R226). -/
def ownImageUnload (_ : Waiter) (x : CmdIn) (s : State) : Own :=
  let kind := x.pkt.unit
  let i := x.pkt.f 16 1
  if imageCount kind ≤ i then .refuse (paramInvalid 16)
  else match (s.images kind).find i with
    | none => .done { status := 1 } s
    | some h => if s.imageInUse kind h then .refuse { status := 0x030E } else .done success (s.setImages kind ((s.images kind).del i))

/-- `IMAGE_UNLOAD` (R226). -/
def execImageUnload (x : CmdIn) (s : State) : Host.Outcome State Fault Refusal := .next (runCommand opImageUnload ownImageUnload x s)

end Sys2Proof.Machine
end

