-- ==== Sys2Proof/Machine/Delivery.lean ====
section
/-! DEFINITION. Delivery (R311 to R323): destinations, slot writes over RoCE, completion words, the consumed
word, retries and cancellation; the rate response of R366. -/

namespace Sys2Proof.Machine

/-! ## Destinations and places -/

/-- The binding of (rank, destination) of a job. -/
def Job.binding (j : Job) (rank dest : Nat) : Option Binding := j.dests.find? (fun d => d.rank == rank && d.dest == dest)

/-- The binding of (rank, destination) replaced, or added. -/
def Job.setBinding (j : Job) (b : Binding) : Job :=
  { j with dests := j.dests.filter (fun d => !(d.rank == b.rank && d.dest == b.dest)) ++ [b] }

/-- Queue pair `q`, none while it was neither bound nor connected. -/
def State.qp (s : State) (q : Nat) : Option QueuePair := s.rma.qps.find q

/-- Queue pair `q` changed. -/
def State.updQp (s : State) (q : Nat) (f : QueuePair → QueuePair) : State :=
  { s with rma := { s.rma with qps := s.rma.qps.upd q f } }

/-- Place of a slot in the rings of its destinations (R313): entry × PER_RANK + index. -/
def slotPlace (d : Delivery) (batch : Nat) (g g0 : Int) (slot : Nat) : Nat :=
  ((g - g0) % (d.depth : Int)).toNat * d.perRank + slot % (batch / d.ranks)

/-- Address of a slot's data (R313). -/
def dataAddress (b : Binding) (d : Delivery) (place : Nat) : Nat := b.dataAddr + place * d.stride
/-- Address of a slot's completion word (R313). -/
def wordAddress (b : Binding) (place : Nat) : Nat := b.cwAddr + place * 8

/-- The place of a ready slot under the recipe of its epoch. -/
def State.placeOf (s : State) (j : Job) (rc : Recipe) (r : ReadySlot) : Nat :=
  slotPlace rc.delivery (rc.desc r.bucket).batch r.index (s.ringOrigin j r.epoch) r.slot

/-! ## RoCE messages -/

/-- MTU in bytes of RMA_ROCE_CFG. -/
def rocePayload (cfg : Nat) : Nat := if bits cfg 11 3 = 3 then 1024 else if bits cfg 11 3 = 4 then 2048 else 4096

/-- A RoCE message of a queue pair is queued at its Ethernet port, in the class of ETH_PRIO.ROCE (R365, R367). -/
def State.sendRoce (s : State) (q : Nat) (len : Nat) (out : Output) : State :=
  match s.qp q with
  | some k =>
    s.queueFrame (16 + k.port) { cls := bits s.net.ethPrio 0 3, vc := 0, seq := 0, len := len,
                                 count := max 1 (ceilDiv len (rocePayload k.cfg)), out := out }
  | none => s

/-- The write of a slot's bytes (R318 step 1). -/
def State.sendData (s : State) (j : Job) (rc : Recipe) (r : ReadySlot) (b : Binding) : State :=
  s.sendRoce b.qp r.data.length (.rdmaWrite b.qp (dataAddress b rc.delivery (s.placeOf j rc r)) b.dataKey r.data)

/-- The write of a slot's completion word (R318 step 3). -/
def State.sendWord (s : State) (j : Job) (rc : Recipe) (r : ReadySlot) (b : Binding) : State :=
  s.sendRoce b.qp 8 (.rdmaWrite b.qp (wordAddress b (s.placeOf j rc r)) b.cwKey (leBytes 8 r.word))

/-- The read of a consumed word (R314). -/
def State.sendRead (s : State) (b : Binding) : State := s.sendRoce b.qp 8 (.rdmaRead b.qp b.consAddr b.consKey)

/-! ## Copies -/

/-- The copy of (index, slot) to a destination replaced, or added. -/
def Job.setCopy (j : Job) (c : SlotCopy) : Job :=
  { j with copies := j.copies.filter (fun k => !(k.index == c.index && k.slot == c.slot && k.rank == c.rank && k.dest == c.dest)) ++ [c] }

/-- The copy of (index, slot) to destination `dest`. -/
def Job.copyTo (j : Job) (index slot dest : Nat) : Option SlotCopy :=
  j.copies.find? (fun k => k.index == index && k.slot == slot && k.dest == dest)

/-- A write of (index, slot) is outstanding (R323). -/
def Job.outstanding (j : Job) (index slot : Nat) : Bool :=
  j.copies.any (fun k => k.index == index && k.slot == slot && (k.phase == 1 || k.phase == 2))

/-- The cancels whose slot has no write outstanding complete (R323). DEDUCED, log 78. -/
def State.finishCancels (s : State) (slot : Nat) : State :=
  match s.jobs.find slot with
  | some j =>
    let free := fun (c : Nat × Nat × Waiter) => !j.outstanding c.1 c.2.1
    (s.setJob slot { j with cancels := j.cancels.filter (fun c => !free c) }).finishAll ((j.cancels.filter free).map (·.2.2)) success
  | none => s

/-- What follows once writes of a job end: cancels, the cursor, a job that ends. -/
def State.writesEnded (s : State) (slot : Nat) : State := (State.advanceCursor slot 2 (s.finishCancels slot)).endIfQuiet slot

/-- A step with index g may be written to a destination (R314, R316). -/
def mayWrite (b : Binding) (d : Delivery) (g g0 : Int) : Bool :=
  match b.c with
  | some c => decide (g0 ≤ (c : Int)) && decide ((c : Int) ≤ g) && decide (g < (c : Int) + d.depth)
  | none => false

/-- The first write of a ready slot to a destination: its bytes, or the completion word of an empty slot (R318, R319). -/
def State.startCopy (s : State) (slot : Nat) (j : Job) (rc : Recipe) (r : ReadySlot) (b : Binding) : State :=
  let c : SlotCopy := { index := r.index, slot := r.slot, rank := b.rank, dest := b.dest, phase := if r.empty then 2 else 1 }
  let s := s.setJob slot (j.setCopy c)
  if r.empty then s.sendWord j rc r b else s.sendData j rc r b

/-- A slot held for a job, with its recipe. -/
def State.readySlot (s : State) (j : Job) (index slot : Nat) : Option (ReadySlot × Recipe) :=
  match j.ready.find? (fun r => r.index == index && r.slot == slot) with
  | some r => (s.recipeFor j r.epoch).map (fun rc => (r, rc))
  | none => none

/-- DEST_UNBOUND, once per (rank, destination) (R312). -/
def State.raiseUnbound (s : State) (slot : Nat) (j : Job) (rank dest : Nat) : State :=
  if j.unbound.contains (rank, dest) then s
  else (s.setJob slot { j with unbound := j.unbound ++ [(rank, dest)] }).raise evDestUnbound 4
    (leBytes 2 j.id ++ leBytes 2 rank ++ leBytes 1 dest)

/-- A ready slot goes to a destination of its rank, when R314, R316, R322 and R323 let it. -/
def State.writeSlot (s : State) (slot : Nat) (j : Job) (rc : Recipe) (r : ReadySlot) (dest : Nat) : State :=
  let rank := slotRank rc r.bucket r.slot
  if rc.delivery.dests ≤ dest || (j.copyTo r.index r.slot dest).isSome || j.cancelled.contains (r.index, r.slot)
      || j.stopped r.epoch r.step || j.ending.isSome then s
  else match j.binding rank dest with
    | none => s.raiseUnbound slot j rank dest
    | some b =>
      match s.qp b.qp with
      | some k =>
        if k.state = 1 && !b.error && mayWrite b rc.delivery r.index (s.ringOrigin j r.epoch) then s.startCopy slot j rc r b else s
      | none => s

/-- `SLOT_WRITE_READY` (R312 to R320). -/
def execSlotWriteReady (jobId index slot dest : Nat) (s : State) : Host.Outcome State Fault Refusal :=
  .next (match s.jobNamed jobId with
    | some (js, j) =>
      match s.readySlot j index slot with
      | some (r, rc) => s.writeSlot js j rc r dest
      | none => s
    | none => s)

/-- The slot's bytes are acknowledged: the completion word follows, but for a slot cancelled meanwhile or a
job that ends (R318, R323, R456). -/
def State.dataAcked (s : State) (js : Nat) (j : Job) (c : SlotCopy) : State :=
  match s.readySlot j c.index c.slot, j.binding c.rank c.dest with
  | some (r, rc), some b =>
    if j.cancelled.contains (c.index, c.slot) || j.ending.isSome then
      (s.setJob js { j with copies := j.copies.erase c }).writesEnded js
    else (s.setJob js (j.setCopy { c with phase := 2 })).sendWord j rc r b
  | _, _ => (s.setJob js { j with copies := j.copies.erase c }).writesEnded js

/-- A frame for a queue pair arrived: its retries start afresh. -/
def State.roceHeard (s : State) (q : Nat) : State :=
  match s.qp q with
  | some k => (s.updQp q (fun k => { k with retries := 0 })).bump64 (ethPortReg k.port 0x10) 1
  | none => s

/-- An empty slot written to every destination of its rank counts for its epoch (Table 03-10). DEDUCED, log 63. -/
def State.countEmpty (s : State) (js index slot : Nat) : State :=
  match s.jobs.find js with
  | some j =>
    match j.ready.find? (fun r => r.index == index && r.slot == slot) with
    | some r => if r.empty && s.slotDone j r then s.setJob js { j with empties := j.empties.put r.epoch ((j.empties.find r.epoch).getD 0 + 1) } else s
    | none => s
  | none => s

/-- `RDMA_WRITE_ACK` (R318): every write of the slot's bytes, or its completion word, is acknowledged. -/
def execRdmaWriteAck (jobId index slot dest : Nat) (s : State) : Host.Outcome State Fault Refusal :=
  .next (match s.jobNamed jobId with
    | some (js, j) =>
      match j.copyTo index slot dest with
      | some c =>
        let s := match j.binding c.rank c.dest with | some b => s.roceHeard b.qp | none => s
        if c.phase = 1 then s.dataAcked js j c
        else if c.phase = 2 then (((s.setJob js (j.setCopy { c with phase := 3 })).countEmpty js c.index c.slot).bump64 0x00A00038 1).writesEnded js
        else s
      | none => s
    | none => s)

/-! ## The consumed word -/

/-- A ready slot of (rank, destination) waits for the consumed word (R314, R316). DEDUCED, log 77. -/
def State.needsRead (s : State) (j : Job) (b : Binding) : Bool :=
  j.ready.any (fun r =>
    match s.recipeFor j r.epoch with
    | some rc =>
      slotRank rc r.bucket r.slot == b.rank && decide (b.dest < rc.delivery.dests) && !j.copyDone r.index r.slot (b.rank, b.dest)
      && (match b.c with
          | some c => decide ((c : Int) + rc.delivery.depth ≤ (r.index : Int)) || decide ((c : Int) < s.ringOrigin j r.epoch)
          | none => true)
    | none => false)

/-- `CONSUMED_WORD_READ` (R314): at most once per 2 µs and destination. -/
def execConsumedWordRead (jobId rank dest now : Nat) (s : State) : Host.Outcome State Fault Refusal :=
  let s := s.advance now
  .next (match s.jobNamed jobId with
    | some (js, j) =>
      match j.binding rank dest with
      | some b =>
        if !b.reading && !b.error && (match s.qp b.qp with | some k => k.state == 1 | none => false)
            && (match b.lastRead with | some t => decide (t + 2000 ≤ s.now) | none => true) && s.needsRead j b then
          (s.setJob js (j.setBinding { b with reading := true, lastRead := some s.now })).sendRead b
        else s
      | none => s
    | none => s)

/-- `CONSUMED_WORD_RESPONSE` (R314): a value lower than one already read is ignored. -/
def execConsumedWordResponse (jobId rank dest value : Nat) (s : State) : Host.Outcome State Fault Refusal :=
  .next (match s.jobNamed jobId with
    | some (js, j) =>
      match j.binding rank dest with
      | some b =>
        if b.reading then
          let c := max (b.c.getD 0) (bits value 0 44)
          ((s.roceHeard b.qp).setJob js (j.setBinding { b with reading := false, c := some c })).writesEnded js
        else s
      | none => s
    | none => s)

/-! ## Retries and errors -/

/-- Bindings of a queue pair, as (job slot, binding). -/
def State.bindingsOn (s : State) (q : Nat) : List (Nat × Binding) :=
  (s.jobs.map (fun p => (p.2.dests.filter (fun b => b.qp == q)).map (fun b => (p.1, b)))).flatten

/-- Something is outstanding for a binding. -/
def Job.busyOn (j : Job) (b : Binding) : Bool :=
  b.reading || j.copies.any (fun c => c.rank == b.rank && c.dest == b.dest && (c.phase == 1 || c.phase == 2))

/-- The messages outstanding for a binding are sent again, with the same bytes (R322). -/
def State.resend (s : State) (js : Nat) (b : Binding) : State :=
  match s.jobs.find js with
  | some j =>
    let cs := j.copies.filter (fun c => c.rank == b.rank && c.dest == b.dest && (c.phase == 1 || c.phase == 2))
    let s := cs.foldl (fun s c =>
      match s.readySlot j c.index c.slot with
      | some (r, rc) => (if c.phase = 1 then s.sendData j rc r b else s.sendWord j rc r b).bump64 0x00A00040 1
      | none => s) s
    if b.reading then (s.sendRead b).bump64 0x00A00040 1 else s
  | none => s

/-- A destination stops (R322): DELIVERY_QP_ERROR is raised, and its writes are outstanding no longer. -/
def State.stopDest (s : State) (js : Nat) (b : Binding) : State :=
  match s.jobs.find js with
  | some j =>
    let j := j.setBinding { b with error := true, reading := false }
    let j := { j with copies := j.copies.filter (fun c => !(c.rank == b.rank && c.dest == b.dest && c.phase != 3)) }
    ((s.setJob js j).raise evQpError 4 (leBytes 2 j.id ++ leBytes 2 b.rank ++ leBytes 1 b.dest)).writesEnded js
  | none => s

/-- A message of queue pair `q`. DESIGN CHOICE, log 8. -/
def Output.isRoce (q : Nat) : Output → Bool
  | .rdmaWrite k _ _ _ => k == q
  | .rdmaRead k _ _ => k == q
  | _ => false

/-- A queue pair goes to the error state (R322): its messages that wait at a port go too. -/
def State.qpError (s : State) (q : Nat) : State :=
  let s := (s.updQp q (fun k => { k with state := 2 })).bump 0x00A00048 1
  let drop := fun (h : Shaper) => ({ h with queue := h.queue.filter (fun f => !f.out.isRoce q) } : Shaper)
  let s := { s with net := { s.net with shapers := s.net.shapers.map drop } }
  (s.bindingsOn q).foldl (fun s p => s.stopDest p.1 p.2) s

/-- `ROCE_ACK_TIMEOUT` (R322). -/
def execRoceAckTimeout (qp : Nat) (s : State) : Host.Outcome State Fault Refusal :=
  .next (match s.qp qp with
    | some k =>
      let waiting := (s.bindingsOn qp).filter (fun p => match s.jobs.find p.1 with | some j => j.busyOn p.2 | none => false)
      if k.state != 1 || waiting.isEmpty then s
      else if k.retries < bits k.cfg 5 3 then
        waiting.foldl (fun s p => s.resend p.1 p.2) (s.updQp qp (fun k => { k with retries := k.retries + 1 }))
      else s.qpError qp
    | none => s)

/-! ## Rates (R366) -/

/-- 50 µs have passed since a time. -/
def after50us (t : Option Nat) (now : Nat) : Bool :=
  match t with
  | some t => decide (t + 50000 ≤ now)
  | none => true

/-- `CNP_RECEIVE` (R366). -/
def execCnpReceive (qp port now : Nat) (s : State) : Host.Outcome State Fault Refusal :=
  let s := s.advance now
  .next (if 8 ≤ port then s
    else
      let s := (s.bump64 (ethPortReg port 0x10) 1).bump (ethPortReg port 0x1C) 1
      s.updQp qp (fun k =>
        if after50us k.lastCut s.now then { k with rate := max 100 (k.rate - k.rate / 8), lastCut := some s.now, lastCnp := s.now }
        else { k with lastCnp := s.now }))

/-- `CE_PACKET_RECEIVE` (R366): a Congestion Notification Packet goes back, at most once per 50 µs. -/
def execCePacketReceive (qp port now : Nat) (s : State) : Host.Outcome State Fault Refusal :=
  let s := s.advance now
  .next (if 8 ≤ port then s
    else
      let s := s.bump64 (ethPortReg port 0x10) 1
      match s.qp qp with
      | some k =>
        if (s.ethPort port).ecnEn && after50us k.lastCnpSent s.now then
          ((s.updQp qp (fun k => { k with lastCnpSent := some s.now })).bump (ethPortReg port 0x20) 1).sendRoce qp 64
            (.ethernet port "cnp" [qp])
        else s
      | none => s)

/-- `ROCE_RATE_RECOVERY` (R366): 50 µs without a CNP. -/
def execRoceRateRecovery (qp now : Nat) (s : State) : Host.Outcome State Fault Refusal :=
  let s := s.advance now
  .next (s.updQp qp (fun k =>
    if k.lastCnp + 50000 ≤ s.now then { k with rate := min 800000 (k.rate + 2000), lastCnp := s.now } else k))

/-! ## DEST_BIND, SLOT_CANCEL -/

/-- A queue pair is bound (R322, R338): it takes RMA_ROCE_CFG, and one in error is connected again. One that
NETWORK_SET has not connected stays unconnected. DEDUCED, log 77. -/
def State.bindQp (s : State) (q : Nat) : State :=
  let k : QueuePair := match s.qp q with
    | some k => { k with state := if k.state = 2 then 1 else k.state, retries := 0, cfg := s.rma.roce }
    | none => { state := 0, ipVersion := 0, dscp := 0, port := 0, udp := 0, addr := 0, qpn := 0, psn := 0, cfg := s.rma.roce,
                retries := 0, rate := 800000, lastCut := none, lastCnpSent := none, lastCnp := 0 }
  { s with rma := { s.rma with qps := s.rma.qps.put q k } }

/-- DEST_BIND (R312, R322, R338). -/
def ownDestBind (_ : Waiter) (x : CmdIn) (s : State) : Own :=
  let p := x.pkt
  let q := bits (p.f 22 2) 0 14
  let bad := fun (off : Nat) => Own.refuse { status := 0x0111, r0 := off }
  match s.jobNamed p.jobId with
  | none => .refuse jobUnknown
  | some (js, j) =>
    if 7 < p.f 18 1 then .refuse (paramInvalid 18)
    else if p.f 24 8 % 64 != 0 then bad 24
    else if p.f 40 8 % 8 != 0 then bad 40
    else if p.f 48 8 % 8 != 0 then bad 48
    else
      let b : Binding := { rank := p.f 20 2, dest := p.f 18 1, qp := q, dataAddr := p.f 24 8, dataKey := p.f 32 4,
                           cwAddr := p.f 40 8, cwKey := p.f 36 4, consAddr := p.f 48 8, consKey := p.f 56 4, c := none,
                           lastRead := none, reading := false, error := false }
      .done success ((s.setJob js (j.setBinding b)).bindQp q)

/-- `DEST_BIND` (R312). -/
def execDestBind (x : CmdIn) (s : State) : Host.Outcome State Fault Refusal := .next (runCommand opDestBind ownDestBind x s)

/-- The device serves a slot of a delivery index: it holds it, or a plan gives it that member (R319). -/
def State.servesSlot (s : State) (j : Job) (index slot : Nat) : Bool :=
  j.ready.any (fun r => r.index == index && r.slot == slot) || j.copies.any (fun c => c.index == index && c.slot == slot)
  || j.plans.any (fun p => p.records.any (fun r =>
      !r.reserve && r.member == slot && s.indexAt j p.epoch r.step == some (index : Int)))

/-- SLOT_CANCEL (R323): no further write of the slot is issued. DEDUCED, log 78. -/
def ownSlotCancel (w : Waiter) (x : CmdIn) (s : State) : Own :=
  let p := x.pkt
  let slot := p.f 20 2
  let index := bits (p.f 24 8) 0 44
  match s.jobNamed p.jobId with
  | none => .refuse jobUnknown
  | some (js, j) =>
    if !s.servesSlot j index slot then .done { status := 1 } s else
    let j := { j with cancelled := if j.cancelled.contains (index, slot) then j.cancelled else j.cancelled ++ [(index, slot)] }
    if j.outstanding index slot then .run (s.setJob js { j with cancels := j.cancels ++ [(index, slot, w)] })
    else .done success (State.advanceCursor js 2 (s.setJob js j))

/-- `SLOT_CANCEL` (R323). -/
def execSlotCancel (x : CmdIn) (s : State) : Host.Outcome State Fault Refusal := .next (runCommand opSlotCancel ownSlotCancel x s)

end Sys2Proof.Machine
end

