-- ==== Sys2Proof/Machine/Events.lean ====
section
/-! DEFINITION. Reading, subscribing to and signalling events (R532 to R536, R552). -/

namespace Sys2Proof.Machine

/-! ## EVT_READ -/

/-- The records leave the ring; drops may then be reported (R527, R531). -/
def State.consumeEvents (s : State) (evs : List Event) : State :=
  ({ s with evt := { s.evt with ring := s.evt.ring.filter (fun e => !evs.contains e) } }).reportDrops

/-- Bytes of EVT_READ go to host memory, or to EVT_WIN for ADDR 0 (R533). -/
def State.deliverEvents (s : State) (addr : Nat) (data : Bytes) : State :=
  if addr = 0 then { s with evt := { s.evt with win := data ++ s.evt.win.drop data.length } }
  else if data.isEmpty then s else s.emit (.hostWrite addr data)

/-- EVT_READ: up to MAX unconsumed records in the order written, consumed with CONSUME. DEDUCED, log 48. -/
def ownEvtRead (_ : Waiter) (x : CmdIn) (s : State) : Own :=
  let p := x.pkt
  let addr := p.f 16 8
  let n := p.f 24 4
  match (if addr = 0 then none else hostAddress x 16) with
  | some r => .refuse r
  | none =>
    if n = 0 || decide (8192 < n) || (addr == 0 && decide (32 < n)) then .refuse (paramInvalid 24)
    else
      let evs := s.evt.ring.take n
      let s' := s.deliverEvents addr ((evs.map Event.bytes).flatten)
      let s' := if bit (p.f 28 1) 0 then s'.consumeEvents evs else s'
      .done { status := 0, r0 := evs.length, r1 := (match evs with | e :: _ => e.seq | [] => 0) } s'

/-- `EVT_READ` (R533). -/
def execEvtRead (x : CmdIn) (s : State) : Host.Outcome State Fault Refusal := .next (runCommand opEvtRead ownEvtRead x s)

/-! ## EVT_SUBSCRIBE -/

/-- EVT_SUBSCRIBE (R535). DEDUCED, log 48. -/
def ownEvtSubscribe (_ : Waiter) (x : CmdIn) (s : State) : Own :=
  let p := x.pkt
  let kind := p.f 17 1
  if 7 < p.f 16 1 then .refuse (paramInvalid 16)
  else if 2 < kind then .refuse (paramInvalid 17)
  else if kind == 1 && decide (6144 ≤ p.f 18 2) then .refuse (targetInvalid 18)
  else if 3 < p.f 20 1 then .refuse (paramInvalid 20)
  else
    let sub : Subscriber :=
      if kind = 0 then {} else { kind := kind, target := p.f 18 2, minSev := p.f 20 1, mask := p.f 24 2 }
    .done success { s with evt := { s.evt with subs := s.evt.subs.set (p.f 16 1) sub } }

/-- `EVT_SUBSCRIBE` (R535). -/
def execEvtSubscribe (x : CmdIn) (s : State) : Host.Outcome State Fault Refusal :=
  .next (runCommand opEvtSubscribe ownEvtSubscribe x s)

/-! ## EVT_CTRL and the interrupt -/

/-- Offset of EVT_CTRL. -/
def evtCtrlReg : Nat := 0x00040004

/-- A write of EVT_CTRL (R532, R536): clearing IRQ_EN discards a withheld signal; FATAL_CLR clears the latches. -/
def State.writeEvtCtrl (s : State) (v : Nat) : State :=
  let en := bit v 0
  let s := { s with evt := { s.evt with irqEn := en, irqSev := bits v 1 2, withheld := s.evt.withheld && en } }
  if bit v 3 then { s with sloe := { s.sloe with latches := List.replicate 6 none } } else s

/-- `EVT_FATAL_CLEAR` (R532): a write of EVT_CTRL with FATAL_CLR. -/
def execEvtFatalClear (path v : Nat) (s : State) : Host.Outcome State Fault Refusal :=
  .next (if bit v 3 then s.gated path evtCtrlReg (fun s => s.writeEvtCtrl v) else s)

/-- `EVENT_IRQ_HOLDOFF_EXPIRY` (R536): a withheld signal is sent once 100 µs have passed since the last. -/
def execEventIrqHoldoffExpiry (now : Nat) (s : State) : Host.Outcome State Fault Refusal :=
  let s := s.advance now
  .next (if s.evt.withheld && s.evt.irqEn
      && (match s.evt.lastIrq with | some t => decide (t + 100000 ≤ s.now) | none => true) then
      { s with evt := { s.evt with withheld := false, lastIrq := some s.now } }.emit (.msix 1 64)
    else s)

end Sys2Proof.Machine
end

