-- ==== Sys2Proof/Machine/Security.lean ====
section
/-! DEFINITION. Credentials, signing keys, ring bindings, SPDM, audit reading, debug unlock and
decommission (R557 to R581), with their rows. -/

namespace Sys2Proof.Machine

/-! ## Credential slots -/

/-- No ring is bound to a slot any more (R562). -/
def SecBlock.unbind (b : SecBlock) (slot : Nat) : SecBlock := { b with bindings := b.bindings.filter (fun p => p.2 != slot) }

/-- A slot takes a role for its place (R558): slot 1 is the installer's. -/
def roleFits (slot role : Nat) : Bool := decide (1 ≤ role) && decide (role ≤ 3) && (slot != 1 || role == 2)

/-- CRED_SET (R558, R559). `sigOk` is the enclave's verdict on the chain under the rule of its slot and role. DEDUCED, log 107. -/
def ownCredSet (_ : Waiter) (x : CmdIn) (s : State) : Own :=
  let p := x.pkt
  let slot := p.f 16 1
  let role := p.f 17 1
  let len := p.f 20 4
  if slot = 0 || slot = 255 then .refuse (paramInvalid 16)
  else if !roleFits slot role then .refuse (paramInvalid 17)
  else if 1 < p.f 18 1 then .refuse (paramInvalid 18)
  else if len = 0 || 8192 < len then .refuse (paramInvalid 20)
  else match s.windowBytes x (p.f 18 1 == 1) 24 len with
    | .inl r => .refuse r
    | .inr chain =>
      if !x.sigOk then .refuse (dataInvalid 0)
      else
        let c : Credential := { role := role, chain := chain, leaf := x.cert.leaf, notBefore := x.cert.notBefore,
                                notAfter := x.cert.notAfter, expired := false }
        .done success { s with sec := { s.sec.unbind slot with creds := s.sec.creds.put slot c } }

/-- `CRED_SET` (R558). -/
def execCredSet (x : CmdIn) (s : State) : Host.Outcome State Fault Refusal := .next (runCommand opCredSet ownCredSet x s)

/-- CRED_CLEAR (R565). -/
def ownCredClear (_ : Waiter) (x : CmdIn) (s : State) : Own :=
  let slot := x.pkt.f 16 1
  if slot = 0 || slot = 255 then .refuse (paramInvalid 16)
  else if slot = 1 && s.sec.creds.any (fun c => c.1 != 1 && c.2.role != 3) then .refuse (paramInvalid 16)
  else .done success { s with sec := { s.sec.unbind slot with creds := s.sec.creds.del slot } }

/-- `CRED_CLEAR` (R565). -/
def execCredClear (x : CmdIn) (s : State) : Host.Outcome State Fault Refusal := .next (runCommand opCredClear ownCredClear x s)

/-- `CREDENTIAL_EXPIRY` (R560): the slot's validity period has ended. -/
def execCredentialExpiry (slot now : Nat) (s : State) : Host.Outcome State Fault Refusal :=
  let s := s.advance now
  .next (match s.sec.creds.find slot with
    | some c =>
      if s.sec.timeChecked && !c.expired && decide (c.notAfter < s.now) then
        { s with sec := { s.sec with creds := s.sec.creds.put slot { c with expired := true } } }.raise evCredExpired 4 (leBytes 1 slot)
      else s
    | none => s)

/-- Packets held for a start number go out (R564). -/
def State.sendHeld (s : State) (n : Nat) : State :=
  let held := s.cmd.forwarded.filter (·.held)
  held.foldl (fun s f => s.sendForward f.cmd n)
    { s with cmd := { s.cmd with forwarded := s.cmd.forwarded.map (fun f => if f.held then { f with held := false, sentAt := s.now } else f) } }

/-- `FIRST_TIME_LOCK` (R560, R564): validity periods and forwarded times are checked from now on. -/
def execFirstTimeLock (now : Nat) (s : State) : Host.Outcome State Fault Refusal :=
  let s := s.advance now
  .next (if !s.alive || s.sec.timeChecked then s
    else
      let s := { s with sec := { s.sec with timeChecked := true } }
      match s.sec.startNumber with
      | some _ => s
      | none =>
        let n := s.now / 1000000000 % 2 ^ 32
        { s with sec := { s.sec with startNumber := some n } }.sendHeld n)

/-! ## Signing keys -/

/-- A signing key goes (R567): held images stay; the event carries the count of those signed by it. -/
def State.revokeKey (s : State) (i : Nat) : State :=
  let n := (s.recipes.filter (fun r => r.2.signer == i)).length + (s.models.filter (fun r => r.2.signer == i)).length
  { s with sec := { s.sec with signkeys := s.sec.signkeys.del i } }.raise evSignkeyRevoked 4 (leBytes 1 n)

/-- SIGNKEY_TRUST (R566). DEDUCED, log 107. -/
def ownSignkeyTrust (_ : Waiter) (x : CmdIn) (s : State) : Own :=
  let p := x.pkt
  let i := p.f 16 1
  let len := p.f 20 4
  if 31 < i then .refuse (paramInvalid 16)
  else if 1 < p.f 17 1 then .refuse (paramInvalid 17)
  else if len = 0 || 2046 < len then .refuse (paramInvalid 20)
  else match s.windowBytes x (p.f 17 1 == 1) 24 len with
    | .inl r => .refuse r
    | .inr der =>
      let s := { s with sec := { s.sec with signkeys := s.sec.signkeys.put i der } }
      .done success (s.writeSetting (0x15000 + 2048 * i) (leBytes 2 len ++ der ++ zeros (2046 - len)))

/-- `SIGNKEY_TRUST` (R566). -/
def execSignkeyTrust (x : CmdIn) (s : State) : Host.Outcome State Fault Refusal := .next (runCommand opSignkeyTrust ownSignkeyTrust x s)

/-- SIGNKEY_REVOKE (R567). -/
def ownSignkeyRevoke (_ : Waiter) (x : CmdIn) (s : State) : Own :=
  let i := x.pkt.f 16 1
  if 31 < i then .refuse (paramInvalid 16)
  else .done success ((s.revokeKey i).writeSetting (0x15000 + 2048 * i) (zeros 2048))

/-- `SIGNKEY_REVOKE` (R567). -/
def execSignkeyRevoke (x : CmdIn) (s : State) : Host.Outcome State Fault Refusal := .next (runCommand opSignkeyRevoke ownSignkeyRevoke x s)

/-! ## Audit reading -/

/-- AUDIT_READ (R575, Table 19-2): records still held, from FIRST_SEQ upward. -/
def ownAuditRead (_ : Waiter) (x : CmdIn) (s : State) : Own :=
  let p := x.pkt
  let addr := p.f 16 8
  let n := p.f 32 4
  let rs := ((s.sec.audit.filter (fun a => p.f 24 8 ≤ a.seq)).reverse).take n
  let data := (rs.map AuditRec.bytes).flatten
  let r : Result := { status := 0, r0 := rs.length, r1 := (match rs with | a :: _ => a.seq % 2 ^ 32 | [] => 0) }
  if n = 0 || (if addr = 0 then 32 else 65536) < n then .refuse (paramInvalid 32)
  else if addr = 0 then .done r { s with sec := { s.sec with auditWin := data ++ s.sec.auditWin.drop data.length } }
  else match hostAddress x 16 with
    | some e => .refuse e
    | none => .done r (if data.isEmpty then s else s.emit (.hostWrite addr data))

/-- `AUDIT_READ` (R575). -/
def execAuditRead (x : CmdIn) (s : State) : Host.Outcome State Fault Refusal := .next (runCommand opAuditRead ownAuditRead x s)

/-! ## Debug and decommission -/

/-- The warm reset of DEBUG_UNLOCK: into Pit mode, with JTAG open (R577). -/
def State.debugReset (s : State) : State :=
  let s := s.deviceReset false 6
  { s with sys := { s.sys with pitDue := true }, sec := { s.sec with debug := true } }.raise evDebugUnlocked 4 []

/-- DEBUG_UNLOCK (R577): the media is sealed, the command completes, and the device resets. -/
def ownDebugUnlock (_ : Waiter) (_ : CmdIn) (s : State) : Own :=
  if !s.jobs.isEmpty then .refuse { status := 0x0305 }
  else .last success (if s.mediaReady then s.endFlush else s) State.debugReset

/-- `DEBUG_UNLOCK` (R577). -/
def execDebugUnlock (x : CmdIn) (s : State) : Host.Outcome State Fault Refusal := .next (runCommand opDebugUnlock ownDebugUnlock x s)

/-- DECOMMISSION (R578). -/
def ownDecommission (_ : Waiter) (x : CmdIn) (s : State) : Own :=
  if x.pkt.f 16 4 != 0x44434D4D then .refuse (paramInvalid 16)
  else if !s.jobs.isEmpty then .refuse { status := 0x0305 }
  else
    let s := { s with med := s.med.rekeyAll, sec := { s.sec with creds := [], signkeys := [], bindings := [], decommissioned := true } }
    .done success ((s.writeSetting 0x15000 (zeros 65536)).raise evDecommissioned 4 [])

/-- `DECOMMISSION` (R578). -/
def execDecommission (x : CmdIn) (s : State) : Host.Outcome State Fault Refusal := .next (runCommand opDecommission ownDecommission x s)

/-! ## Ring bindings -/

/-- A register of the SEC block. -/
def secReg (off : Nat) : Nat := 0x00050000 + off

/-- A fresh 48-byte nonce (R562 step 2). -/
def State.newNonce (s : State) : State :=
  let (n, s) := s.draw 384
  { s with sec := { s.sec with nonce := tabulate 12 (fun i => bits n (32 * i) 32), nonceAt := some s.now } }

/-- A nonce was placed within the last 60 s. DEDUCED, log 108. -/
def State.nonceGood (s : State) : Bool := match s.sec.nonceAt with | some t => decide (s.now ≤ t + 60000000000) | none => false

/-- GO (R562): the signature in SEC_BIND_SIG verifies, or the binding fails and the earlier one stands. DEDUCED, log 108. -/
def State.bindGo (s : State) (sigOk : Bool) : State :=
  let slot := s.sec.bindSlot
  let good := sigOk && s.nonceGood && s.sec.creds.has slot
  if good then
    let pair := (s.sec.bindRing, slot)
    { s with sec := { s.sec with bindOk := true, bindings := if s.sec.bindings.contains pair then s.sec.bindings else s.sec.bindings ++ [pair] } }
  else { s with sec := { s.sec with bindOk := false } }.raise evBindFail 4 []

/-- A write of SEC_BIND_CTRL: SLOT and RING, then START, then GO. -/
def State.writeBindCtrl (s : State) (v : Nat) (sigOk : Bool) : State :=
  let s := { s with sec := { s.sec with bindSlot := bits v 0 8, bindRing := bits v 8 6 } }
  let s := if bit v 14 then s.newNonce else s
  if bit v 15 then s.bindGo sigOk else s

/-- `SEC_BIND_START` (R562). -/
def execSecBindStart (path v : Nat) (s : State) : Host.Outcome State Fault Refusal :=
  .next (s.gated path (secReg 0x10) (fun s => s.writeBindCtrl v false))

/-- `SEC_BIND_GO` (R562): `sigOk` is the verdict on the 96 bytes of SEC_BIND_SIG over the nonce, the device
number, ring and slot. -/
def execSecBindGo (path v : Nat) (sigOk : Bool) (s : State) : Host.Outcome State Fault Refusal :=
  .next (s.gated path (secReg 0x10) (fun s => s.writeBindCtrl v sigOk))

/-! ## SPDM -/

/-- The settings image in force as bytes: its header, and the fields of Table 17-5. DESIGN CHOICE, log 21. -/
def State.settingsBytes (s : State) : Bytes := tabulate 64 (Config.settingsHeader s.upd.setSeq) ++ readMem s.set 0x40 (0x25000 - 0x40)

/-- A measurement of Table 19-3. -/
def State.measurement (s : State) (i : Nat) : Bytes :=
  match i with
  | 1 => tabulate 48 (Config.spdmByte 0xE0 1)
  | 2 => slice (s.upd.fwSlot s.upd.slot).data 40 24 ++ leBytes 4 s.sys.version ++ leBytes 4 s.sys.imageSec
  | 3 => sha384 s.settingsBytes
  | 4 => leBytes 1 s.sec.secver ++ leBytes 1 (b2n s.sec.decommissioned) ++ leBytes 1 (b2n s.sec.debug)
  | 5 => leBytes 2 s.sys.dl ++ leBytes 2 s.sys.fabricN
  | 6 => sha384 (tabulate 32 (fun k => match s.sec.signkeys.find k with | some d => (d ++ zeros 2046).take 2046 | none => zeros 2046)).flatten
  | 7 => sha384 (tabulate 254 (fun k => match s.sec.creds.find (k + 1) with | some c => (c.leaf ++ zeros 48).take 48 | none => zeros 48)).flatten
  | _ => []

/-- SPDM 1.2 request codes with the names of their responses. PRESUMED, log 109. -/
def spdmResponse (code : Nat) : Option String :=
  [(0x84, "VERSION"), (0xE1, "CAPABILITIES"), (0xE3, "ALGORITHMS"), (0x81, "DIGESTS"), (0x82, "CERTIFICATE"),
   (0x83, "CHALLENGE_AUTH"), (0xE0, "MEASUREMENTS"), (0xE4, "KEY_EXCHANGE_RSP"), (0xE5, "FINISH_RSP"),
   (0xEC, "END_SESSION_ACK")].find? (fun r => r.1 == code) |>.map (·.2)

/-- What a response carries beside its name: the measurement asked for (all for 255), and bytes that the manual does not give. DESIGN CHOICE, log 22. -/
def State.spdmData (s : State) (code arg : Nat) : Bytes :=
  if code = 0xE0 then
    (if arg = 0 then [7] else if arg = 255 then ((List.range 7).map (fun i => s.measurement (i + 1))).flatten else s.measurement arg)
  else tabulate 48 (Config.spdmByte code arg)

/-- The session state after a request: a key exchange, its end with the requester's leaf, or the end of the session. -/
def SecBlock.spdmStep (b : SecBlock) (eid code : Nat) (leaf : Bytes) : SecBlock :=
  if code = 0xE4 then { b with exchanges := eid :: b.exchanges.filter (· != eid) }
  else if code = 0xE5 then { b with exchanges := b.exchanges.filter (· != eid), sessions := b.sessions.put eid leaf }
  else if code = 0xEC then { b with sessions := b.sessions.del eid }
  else b

/-- The request fits its place: FINISH follows KEY_EXCHANGE, END_SESSION ends a session, a measurement index is 0–7 or all. PRESUMED, log 109. -/
def SecBlock.spdmFits (b : SecBlock) (eid code arg : Nat) : Bool :=
  if code = 0xE5 then b.exchanges.contains eid
  else if code = 0xEC then b.sessions.has eid
  else if code = 0xE0 then decide (arg ≤ 7) || arg == 255
  else true

/-- `SPDM_REQUEST` (R570, R561): `ok` is the enclave's verdict on the message, `leaf` the digest of the
requester's certificate in FINISH. -/
def execSpdmRequest (eid code arg : Nat) (leaf : Bytes) (ok : Bool) (s : State) : Host.Outcome State Fault Refusal :=
  .next (if !s.alive then s
    else match spdmResponse code with
      | none => s.emit (.mctp eid "ERROR" [code] [])
      | some name =>
        if ok && s.sec.spdmFits eid code arg then
          { s with sec := s.sec.spdmStep eid code leaf }.emit (.mctp eid name [code, arg] (s.spdmData code arg))
        else s.emit (.mctp eid "ERROR" [code] []))

end Sys2Proof.Machine
end

