-- ==== Sys2Proof/Machine/Update.lean ====
section
/-! DEFINITION. Staging, verifying and activating images, live and by restart (R510 to R518), engine
microcode (R61), with their rows. -/

namespace Sys2Proof.Machine

/-- UPD_BUSY. -/
def updBusy : Result := { status := 0x0705 }
/-- UPD_IMAGE_INVALID. -/
def updInvalid : Result := { status := 0x0701 }

/-! ## UPD_WINDOW, PIT_CLEAR -/

/-- A register of the UPD block. -/
def updReg (off : Nat) : Nat := 0x00060000 + off

/-- `UPD_WINDOW_WRITE` (R511, R522): a word of UPD_WINDOW. -/
def execUpdWindowWrite (path off v : Nat) (s : State) : Host.Outcome State Fault Refusal :=
  .next (if off < 65536 && off % 4 = 0 then
      s.gated path (updReg (0x10000 + off)) (fun s => { s with upd := { s.upd with window := writeMem s.upd.window off (leBytes 4 v) } })
    else s)

/-- PIT_CLEAR (R510). -/
def ownPitClear (_ : Waiter) (_ : CmdIn) (s : State) : Own :=
  if s.sys.pit then .last success (s.writeCount 0 s.bootReason) (fun s => s.deviceReset false 3) else .done { status := 1 } s

/-- `PIT_CLEAR` (R510). -/
def execPitClear (x : CmdIn) (s : State) : Host.Outcome State Fault Refusal := .next (runCommand opPitClear ownPitClear x s)

/-! ## UPD_STAGE -/

/-- Staging of firmware (0) or settings (1). -/
def UpdBlock.staging (u : UpdBlock) (unit : Nat) : Staging := if unit = 0 then u.fw else u.set

/-- The staging of a unit, with what the target holds: the inactive slot or the older settings copy (R512). -/
def UpdBlock.stage (u : UpdBlock) (unit : Nat) (g : Staging) : UpdBlock :=
  let u := { u with staged := g.data.length }
  if unit = 0 then { u with fw := g }.setFwSlot (1 - u.slot) { data := g.data, valid := false }
  else
    let u := { u with set := g }
    if u.newestA then { u with setB := { u.setB with valid := false } } else { u with setA := { u.setA with valid := false } }

/-- Largest image of a unit. -/
def stageLimit (unit : Nat) : Nat := if unit = 0 then 65011712 else 1048576

/-- UPD_STAGE (R511, R512). DEDUCED, log 103. -/
def ownUpdStage (_ : Waiter) (x : CmdIn) (s : State) : Own :=
  let p := x.pkt
  let off := p.f 20 4
  let len := p.f 24 4
  let win := p.f 16 1 == 1
  let g := s.upd.staging p.unit
  if s.upd.activating.isSome then .refuse updBusy
  else if 1 < p.f 16 1 then .refuse (paramInvalid 16)
  else if off != 0 && (!g.started || off != g.data.length) then .refuse (paramInvalid 20)
  else if len = 0 || (if win then 65536 else 65011712) < len || stageLimit p.unit < off + len then .refuse (paramInvalid 24)
  else match s.windowBytes x win 32 len with
    | .inl r => .refuse r
    | .inr b =>
      let old := if off = 0 then [] else g.data
      .done success { s with upd := s.upd.stage p.unit { data := old ++ b, started := true, verified := false } }

/-- `UPD_STAGE` (R512). -/
def execUpdStage (x : CmdIn) (s : State) : Host.Outcome State Fault Refusal := .next (runCommand opUpdStage ownUpdStage x s)

/-! ## UPD_VERIFY -/

/-- What UPD_VERIFY finds wrong with a firmware image (R503, R513, R569). -/
def State.fwFault (s : State) (b : Bytes) (sigOk : Bool) : Option Result :=
  if !fwFormOk b || 63 < fwSecurity b || fwFabric b + 1 < s.sys.fabricN || s.sys.fabricN + 1 < fwFabric b then some updInvalid
  else if !fwSigned b sigOk then some { status := 0x0702 }
  else if fwSecurity b < s.sec.secver then some { status := 0x0703 }
  else none

/-- What UPD_VERIFY finds wrong with a settings image (R504, R505, R513). DEDUCED, log 103. -/
def State.settingsFault (s : State) (b : Bytes) : Option Result :=
  if !settingsFormOk b || !settingsFieldsOk s.set (settingsBody b) || field b 16 8 != s.upd.setSeq || field b 8 8 ≤ s.upd.setSeq then some updInvalid
  else none

/-- The unit is verified. -/
def UpdBlock.verify (u : UpdBlock) (unit : Nat) : UpdBlock :=
  if unit = 0 then { u with fw := { u.fw with verified := true } } else { u with set := { u.set with verified := true } }

/-- UPD_VERIFY (R511, R513). -/
def ownUpdVerify (_ : Waiter) (x : CmdIn) (s : State) : Own :=
  let unit := x.pkt.unit
  let b := (s.upd.staging unit).data
  if s.upd.activating.isSome then .refuse updBusy
  else match (if unit = 0 then s.fwFault b x.sigOk else s.settingsFault b) with
    | some r => .refuse r
    | none =>
      let r : Result := if unit = 0 then { status := 0, r0 := fwVersion b, r1 := packFields [(0, 16, fwDl b), (16, 16, fwFabric b)] }
        else { status := 0, r0 := field b 8 4 }
      .done r { s with upd := s.upd.verify unit }

/-- `UPD_VERIFY` (R513). -/
def execUpdVerify (x : CmdIn) (s : State) : Host.Outcome State Fault Refusal := .next (runCommand opUpdVerify ownUpdVerify x s)

/-! ## UPD_ACTIVATE, settings -/

/-- Signing keys that an activation removes are revoked, and the others taken over (Table 17-5). -/
def State.takeKeys (s : State) : State :=
  let new := settingKeys s.set
  let gone := s.sec.signkeys.filter (fun k => new.find k.1 != some k.2)
  let s := gone.foldl (fun s k => s.revokeKey k.1) s
  { s with sec := { s.sec with signkeys := new } }

/-- The service table changes to that of the image: services that change leave, new ones join. -/
def State.takeServices (s : State) : State :=
  let new := (List.range 512).filterMap (fun n => (serviceOf (readMem s.set (0x11000 + 32 * n) 32)).map (fun v => (n, v)))
  let same := fun (a b : Service) => a.port == b.port && a.ipv6 == b.ipv6 && a.specific == b.specific && a.udp == b.udp
    && a.program == b.program && a.duration == b.duration && a.group == b.group && a.source == b.source
  let keep := fun (n : Nat) (v : Service) => match s.net.services.find n with | some o => same o v | none => false
  let s := (s.net.services.keys.filter (fun n => !(match CMap.find new n with | some v => keep n v | none => false))).foldl State.leaveService s
  (new.filter (fun e => !s.net.services.has e.1)).foldl (fun s e =>
    { s with net := { s.net with services := s.net.services.put e.1 e.2 } }.emit (e.2.report true)) s

/-- Live power fields: boost is disarmed where BOOST_EN is clear, a held frequency keeps below STEP_MAX. DEDUCED, log 105. -/
def State.takePower (s : State) : State :=
  { s with pwr := { s.pwr with boost := s.pwr.boost && bit (s.setting 0x45 1) 0 } }.applyHold

/-- Live fields of an activated image take effect (R507). -/
def State.takeLive (s : State) : State :=
  let s := (s.loadBypass.loadRetired.loadNetwork.takeKeys.takeServices).changePartner (s.settingPartner)
  let s := s.takePower
  (List.range 4).foldl State.trimRefs ((List.range 64).foldl State.settingPool s)

/-- The staged settings image is in force (R507, R514). -/
def State.activateSettings (s : State) : State :=
  let b := s.upd.set.data
  let c : SetCopy := { valid := true, seq := field b 8 8, body := settingsBody b }
  let u := { s.upd with setSeq := c.seq, set := {}, restart := s.upd.restart || s.restartDiffers c.body }
  let s := { s with set := c.body, upd := if u.newestA then { u with setB := c } else { u with setA := c } }
  if s.sys.ready then s.takeLive else s

/-! ## UPD_ACTIVATE, firmware -/

/-- The staged image changes a component type. -/
def UpdBlock.changes (u : UpdBlock) (t : Nat) : Bool :=
  fwComponent u.fw.data t != fwComponent (u.fwSlot u.slot).data t

/-- The active-slot record names the staged slot, on trial (R514). -/
def UpdBlock.recordStaged (u : UpdBlock) : UpdBlock :=
  { (u.setFwSlot (1 - u.slot) { data := u.fw.data, valid := true }).writeRecord (1 - u.slot) true with
    sloePending := u.sloePending || u.changes 11, restart := u.restart || u.changes 10 || u.changes 11 }

/-- Steps 1 to 3 of Table 17-7b: with new management firmware the device leaves its jobs, programs its dirty
data and writes through; the record is written. DEDUCED, log 104. -/
def State.beginActivation (s : State) (w : Waiter) : State :=
  let s := if s.upd.changes 1 then
      let s := s.leaveJobs.allDone
      { s with med := { s.med with writeThrough := true } }
    else s
  { s with upd := { s.upd.recordStaged with activating := some w, activateAt := s.now } }

/-- An activation by restart, or in Pit mode: the count is 0 in Pit mode, and a warm reset follows (R495, R510). -/
def State.activateReset (s : State) : State :=
  (if s.sys.pit then s.writeCount 0 s.bootReason else s).deviceReset false 4

/-- UPD_ACTIVATE (R511, R514, R516). -/
def ownUpdActivate (w : Waiter) (x : CmdIn) (s : State) : Own :=
  let p := x.pkt
  let restart := bit (p.f 16 1) 0 || s.sys.pit
  let leaves := !s.jobs.isEmpty && (restart || (p.unit == 0 && s.upd.changes 1))
  if s.upd.activating.isSome then .refuse updBusy
  else if !(s.upd.staging p.unit).verified then .refuse { status := 0x0704 }
  else if bit (p.f 16 1) 1 && leaves then .refuse { status := 0x0305 }
  else if p.unit = 1 then
    (if restart then .last success s.activateSettings State.activateReset else .done success s.activateSettings)
  else if restart then .last success { s with upd := s.upd.recordStaged } State.activateReset
  else .run (s.beginActivation w)

/-- `UPD_ACTIVATE` (R516). -/
def execUpdActivate (x : CmdIn) (s : State) : Host.Outcome State Fault Refusal := .next (runCommand opUpdActivate ownUpdActivate x s)

/-- Link-die firmware is applied (R517, R349): fabric ports go down and retrain, Ethernet ports keep their state. -/
def State.retrainLinks (s : State) : State :=
  (List.range 16).foldl (fun s f => if (s.fabPort f).state = 0 then s else s.portStops f 1) s

/-- Steps 4 to 6 of Table 17-7b: the staged slot runs, trial ends, the command completes. DEDUCED, log 104. -/
def State.endActivation (s : State) (w : Waiter) : State :=
  let mgmt := s.upd.changes 1
  let link := s.upd.changes 9
  let img := s.upd.fw.data
  let s := { s with upd := { s.upd with slot := 1 - s.upd.slot, trial := true, fw := {}, activating := none },
                    sys := { s.sys with dl := fwDl img, fabricN := fwFabric img, version := fwVersion img, imageSec := fwSecurity img,
                                        mgmt := s.sys.mgmt || mgmt } }
  let s := if mgmt then { s with tiles := s.tiles.map (fun t => if t.state = 0 then t else { t with ucode := s.upd.microcode }) } else s
  let s := if link then s.retrainLinks else s
  let s := s.endTrial
  (if mgmt then s.measureHoldup else s).finish w success

/-- `LIVE_ACTIVATION_READY` (R516). -/
def execLiveActivationReady (now : Nat) (s : State) : Host.Outcome State Fault Refusal :=
  let s := s.advance now
  .next (match s.upd.activating with
    | some w => s.endActivation w
    | none => s)

/-! ## UCODE_APPLY -/

/-- Microcode components of an image that a TYPE names: 0 for every one. -/
def microcodeOf (img : Bytes) (t : Nat) : List Nat :=
  [4, 5, 6, 7, 8].filter (fun k => (t = 0 || t = k) && (fwComponents img).any (fun c => c.1 == k))

/-- UCODE_APPLY (R61, R461): to a DRAINED tile, from the active slot or a verified staged one. DEDUCED, log 105. -/
def ownUcodeApply (_ : Waiter) (x : CmdIn) (s : State) : Own :=
  let p := x.pkt
  let slot := p.f 16 1
  let t := p.f 17 1
  let img := (s.upd.fwSlot slot).data
  let held := slot == s.upd.slot || s.upd.fw.verified || s.upd.activating.isSome
  if s.upd.activating.isSome && s.upd.changes 1 then .refuse updBusy
  else if (s.tiles.getD p.unit {}).state != 3 then .refuse (targetInvalid 8)
  else if 1 < slot || !held then .refuse (paramInvalid 16)
  else if (t != 0 && !([4, 5, 6, 7, 8].contains t)) || (t != 0 && (microcodeOf img t).isEmpty) then .refuse (paramInvalid 17)
  else if fwDl img != s.sys.dl && !s.jobs.isEmpty then .refuse { status := 0x0601 }
  else
    let apply := fun (u : CMap Nat) => (microcodeOf img t).foldl (fun u k => u.put k (fwVersion img)) u
    .done success { s with tiles := updAt s.tiles p.unit (fun y => { y with ucode := apply y.ucode }) }

/-- `UCODE_APPLY` (R61). -/
def execUcodeApply (x : CmdIn) (s : State) : Host.Outcome State Fault Refusal := .next (runCommand opUcodeApply ownUcodeApply x s)

end Sys2Proof.Machine
end

