-- ==== Sys2Proof/Machine/RegHub.lean ====
section
/-! DEFINITION. What the registers of SYS, SLOE, CUR, CLK, EVT, SEC, UPD and CMD show: Tables 15-7, 15-8,
16-6 to 16-10, 17-8, 17-9, 18-7, 19-5. An offset without a register, a reserved field and a WO field
read 0 (R11, R24). -/

namespace Sys2Proof.Machine

/-- Low half of a 64-bit quantity. -/
def lo32 (v : Nat) : Nat := bits v 0 32
/-- High half. -/
def hi32 (v : Nat) : Nat := bits v 32 32

/-- SNAP of the block whose SNAP register stands at `a`. -/
def State.snapped (s : State) (a : Nat) : Nat := b2n (s.snaps.has a)

/-- SYS (Table 17-9). -/
def State.regSys (s : State) (o : Nat) : Nat :=
  let up := (s.now - s.sys.resetAt) / 1000000
  match o with
  | 0x00 => packFields [(0, 16, s.sys.vendor), (16, 16, 0x4800)]
  | 0x04 => packFields [(0, 4, s.sys.part), (4, 8, s.sys.stepping)]
  | 0x08 => s.snapped 0x08
  | 0x0C => packFields [(0, 16, s.sys.dl), (16, 16, s.sys.fabricN)]
  | 0x10 => lo32 s.sys.serial
  | 0x14 => hi32 s.sys.serial
  | 0x18 => lo32 s.sys.macBase
  | 0x1C => bits s.sys.macBase 32 16
  | 0x20 => bits s.sys.strap 0 4
  | 0x24 => packFields [(0, 4, s.sys.cause), (4, 1, b2n s.sys.perst), (5, 1, b2n s.sys.mgmt)]
  | 0x28 => s.sys.warms
  | 0x30 => lo32 up
  | 0x34 => hi32 up
  | _ => 0

/-- Byte `i` of a byte string, as the 32-bit register that starts there. -/
def wordAt (b : Bytes) (i : Nat) : Nat := field b i 4

/-- A slot of the boot-attempt count record (R508): SEQ, COUNT, REASON, and the CRC-32C of bytes 0–27. -/
def countSlot (seq : Nat) (c : Nat × Nat) : Bytes :=
  let b := leBytes 8 seq ++ leBytes 1 c.1 ++ leBytes 1 c.2 ++ zeros 18
  b ++ leBytes 4 (crc32c b)

/-- The retention records of SLOE at offsets 0x0100 to 0x01FF (R508, R532): the record with an even SEQ stands
in the first slot. -/
def SloeBlock.records (b : SloeBlock) : Bytes :=
  let now' := match b.count with | some c => countSlot b.countSeq c | none => zeros 32
  let old := match b.countOld with | some c => countSlot (b.countSeq - 1) c | none => zeros 32
  (if b.countSeq % 2 = 0 then now' ++ old else old ++ now')
  ++ (b.latches.map (fun l => match l with | some e => e.bytes | none => zeros 32)).flatten

/-- SLOE (Table 16-10). -/
def State.regSloe (s : State) (o : Nat) : Nat :=
  if 0x100 ≤ o && o < 0x200 then wordAt s.sloe.records (o - 0x100)
  else match o with
    | 0x00 => packFields [(0, 1, b2n s.sloe.xtal), (1, 1, b2n s.sloe.onRc), (2, 1, b2n s.pwr.stopped), (3, 1, b2n s.pwr.flowLow),
                          (4, 1, b2n s.pwr.pwrFail), (5, 1, b2n s.pwr.prochot)]
    | 0x04 => bits s.sloe.cause 0 4
    | 0x08 => lo32 s.sloeTicks
    | 0x0C => hi32 s.sloeTicks
    | _ => 0

/-! ## CUR and CLK -/

/-- The hottest of the sensors that `f` takes, as (reading, index); none valid gives none. -/
def State.hottest (s : State) (f : Nat → Bool) : Option (Int × Nat) :=
  s.pwr.sensors.zipIdx.foldl (fun a r =>
    match r.1 with
    | some t => if !f r.2 then a else match a with | some m => if m.1 < t then some (t, r.2) else a | none => some (t, r.2)
    | none => a) none

/-- Frequency held, 0 when none is (R482). -/
def PwrBlock.heldMhz (p : PwrBlock) : Nat := match p.lowestHold with | some h => h.2 | none => 0

/-- A bit for each domain that is on. -/
def PwrBlock.onBits (p : PwrBlock) : Nat := packFields (p.domains.zipIdx.map (fun d => (d.2, 1, b2n d.1.on)))

/-- CUR_STATUS (Table 16-7). -/
def State.curStatus (s : State) : Nat :=
  packFields [(0, 1, b2n (s.pwr.heldMhz != 0)), (1, 1, b2n s.pwr.duty), (2, 1, b2n (decide (s.limitW < s.pwr.fixed + s.pwr.grantW))),
    (3, 1, b2n s.pwr.boost), (4, 1, b2n s.pwr.cooling), (5, 1, b2n s.pwr.prochot), (6, 1, b2n s.pwr.request.isSome)]

/-- CUR_CFG (Table 16-7), from the settings image. -/
def State.curCfg (s : State) : Nat :=
  packFields [(0, 2, s.policy), (2, 1, s.setting 0x45 1), (3, 1, s.setting 0x45 1 / 2), (4, 10, s.setting 0x46 2),
    (14, 8, s.setting 0x48 1), (22, 4, s.setting 0x43 1)]

/-- CUR_ZONE[z] (Table 16-8). -/
def State.curZone (s : State) (z : Nat) : Nat :=
  packFields [(0, 8, s.setting (0x49 + z) 1),
    (8, 8, match s.hottest (fun i => zoneOf i == z) with | some m => unsigned 8 m.1 | none => 0),
    (16, 1, b2n (s.anySensor (fun i t => zoneOf i == z && decide (s.zlim z < t))))]

/-- CUR_SENSOR[i] (Table 16-8). -/
def State.curSensor (s : State) (i : Nat) : Nat :=
  match s.pwr.sensors.getD i none with
  | some t => packFields [(0, 8, unsigned 8 t), (8, 1, 1)]
  | none => 0

/-- CUR (Tables 16-6 and 16-7). -/
def State.regCur (s : State) (o : Nat) : Nat :=
  if 0x200 ≤ o && o < 0x380 then s.curSensor ((o - 0x200) / 4)
  else if 0x100 ≤ o && o < 0x11C then s.curZone ((o - 0x100) / 4)
  else match o with
    | 0x00 => packFields [(0, 6, 0x24), (6, 7, 0x60), (13, 5, 0x10), (18, 12, s.fMax)]
    | 0x04 => s.curStatus
    | 0x08 => s.snapped (curReg 0x08)
    | 0x0C => s.curCfg
    | 0x10 => packFields [(0, 8, s.pwr.budget.getD 0 / 10), (8, 1, b2n s.pwr.budget.isSome)]
    | 0x14 => packFields [(0, 11, s.limitW), (12, 3, s.limitTerm.1), (16, 11, s.pwr.therm)]
    | 0x18 => packFields [(0, 11, s.pwr.avg), (16, 11, s.pwr.grantW)]
    | 0x1C => packFields [(0, 12, s.mhz), (12, 4, s.pwr.step), (16, 12, s.pwr.heldMhz)]
    | 0x20 => bits (min s.pwr.peakUs 32767) 0 15
    | 0x24 => match s.hottest (fun _ => true) with | some m => packFields [(0, 8, unsigned 8 m.1), (8, 7, m.2)] | none => 0
    | 0x28 => lo32 s.pwr.onBits
    | 0x2C => bits s.pwr.onBits 32 4
    | 0x40 => lo32 (s.counter (curReg 0x40))
    | 0x44 => hi32 (s.counter (curReg 0x40))
    | 0x48 => s.counter (curReg 0x48)
    | 0x4C => s.counter (curReg 0x4C)
    | _ => 0

/-- A register of clock monitor `m` (Table 16-9). -/
def State.regMonitor (s : State) (m o : Nat) : Nat :=
  let k := s.monitor m
  match o with
  | 0x0 => packFields [(0, 2, k.state), (2, 1, b2n k.inUse), (16, 16, unsigned 16 k.ppm)]
  | 0x4 => s.counter (clkReg m 4)
  | 0x8 => lo32 k.last
  | 0xC => hi32 k.last
  | _ => 0

/-- CLK (Table 16-9). -/
def State.regClk (s : State) (o : Nat) : Nat :=
  if 0x100 ≤ o && o < 0x170 then s.regMonitor ((o - 0x100) / 0x10) (o % 0x10)
  else match o with
    | 0x00 => 7
    | 0x04 => packFields [(0, 1, b2n s.pwr.holdover.isSome), (1, 1, b2n s.sloe.onRc), (2, 1, b2n (s.dieUnclocked 0)), (3, 1, b2n (s.dieUnclocked 1)),
                          (4, 1, b2n ((s.monitor 1).state == 1)), (5, 2, s.pwr.onB)]
    | 0x08 => s.snapped 0x30008
    | 0x0C => match s.pwr.holdover with | some t => satTo 32 ((s.now - t) / 1000000) | none => 0
    | _ => 0

/-! ## EVT, SEC, UPD -/

/-- EVT (Table 18-7, R534). -/
def State.regEvt (s : State) (o : Nat) : Nat :=
  if 0x1000 ≤ o && o < 0x1400 then wordAt s.evt.win (o - 0x1000)
  else if 0x100 ≤ o && o < 0x140 then (s.evt.drops.getD ((o - 0x100) / 4) {}).count
  else match o with
    | 0x00 => packFields [(0, 14, if s.evt.early then 0x100 else 0x2000), (14, 7, if s.evt.early then 0x8 else 0x40), (21, 4, 8)]
    | 0x04 => packFields [(0, 1, b2n s.evt.irqEn), (1, 2, s.evt.irqSev)]
    | 0x08 => s.snapped 0x40008
    | 0x10 => packFields [(0, 13, s.evt.general), (16, 7, s.evt.reserved)]
    | 0x14 => s.evt.seq
    | 0x18 => s.latched
    | 0x1C => s.counter 0x4001C
    | 0x20 => lo32 (s.counter 0x40020)
    | 0x24 => hi32 (s.counter 0x40020)
    | _ => 0

/-- SEC_SLOT_INFO of the slot selected (Table 19-5). -/
def State.slotInfo (s : State) : Nat :=
  match s.sec.creds.find s.sec.slotSel with
  | some c => packFields [(0, 2, c.role), (2, 1, b2n (s.credValid c)), (3, 1, b2n (s.sec.bindings.any (fun b => b.2 == s.sec.slotSel)))]
  | none => 0

/-- SEC (Table 19-5): no register shows a key or a fused secret (R580). -/
def State.regSec (s : State) (o : Nat) : Nat :=
  if 0x1000 ≤ o && o < 0x2000 then wordAt s.sec.auditWin (o - 0x1000)
  else if 0x20 ≤ o && o < 0x50 then s.sec.nonce.getD ((o - 0x20) / 4) 0
  else match o with
    | 0x00 => packFields [(0, 8, 0xFE), (8, 6, 0x20)]
    | 0x04 => packFields [(0, 1, b2n (s.sec.creds.has 1)), (1, 1, b2n s.sec.debug), (2, 1, b2n s.sec.decommissioned),
                          (3, 1, b2n s.sec.timeChecked), (4, 6, s.sec.secver)]
    | 0x08 => s.sec.slotSel
    | 0x0C => s.slotInfo
    | 0x10 => packFields [(0, 8, s.sec.bindSlot), (8, 6, s.sec.bindRing), (16, 1, b2n s.sec.bindOk)]
    | 0xC0 => lo32 s.sec.auditSeq
    | 0xC4 => hi32 s.sec.auditSeq
    | _ => 0

/-- A field of a firmware slot's header, 0 while the slot is invalid. -/
def FwSlot.shows (f : FwSlot) (g : Bytes → Nat) : Nat := if f.valid then g f.data else 0

/-- UPD_STATUS (Table 17-8). -/
def State.updStatus (s : State) : Nat :=
  let u := s.upd
  packFields [(0, 1, b2n u.activating.isSome), (1, 1, b2n u.fw.started), (2, 1, b2n u.fw.verified), (3, 1, b2n u.set.started),
    (4, 1, b2n u.set.verified), (5, 1, b2n u.restart), (6, 1, b2n u.trial), (7, 1, u.slot), (8, 1, b2n s.sys.ready)]

/-- UPD_BOOT (Table 17-8): REASON is that of the newest boot-failure record. DEDUCED, log 102. -/
def State.updBoot (s : State) : Nat :=
  packFields [(0, 2, s.bootCount), (2, 1, b2n s.sys.pit), (8, 8, match s.upd.boots.head? with | some r => r.reason | none => 0),
    (16, 4, s.lastStep)]

/-- DETAIL of the newest boot-failure record. DESIGN CHOICE, log 101. -/
def UpdBlock.bootDetail (u : UpdBlock) : Nat := match u.boots.head? with | some r => r.detail | none => 0

/-- UPD (Table 17-8). -/
def State.regUpd (s : State) (o : Nat) : Nat :=
  let u := s.upd
  match o with
  | 0x00 => packFields [(0, 8, 2), (8, 8, 0x40)]
  | 0x04 => s.updStatus
  | 0x08 => u.staged
  | 0x10 => u.slotA.shows fwVersion
  | 0x14 => u.slotB.shows fwVersion
  | 0x18 => packFields [(0, 16, u.slotA.shows fwDl), (16, 16, u.slotB.shows fwDl)]
  | 0x1C => packFields [(0, 16, u.slotA.shows fwFabric), (16, 16, u.slotB.shows fwFabric)]
  | 0x20 => s.sys.version
  | 0x28 => lo32 u.setSeq
  | 0x2C => hi32 u.setSeq
  | 0x30 => s.updBoot
  | 0x34 => s.sys.bootMs
  | 0x38 => lo32 u.bootDetail
  | 0x3C => hi32 u.bootDetail
  | _ => 0

/-! ## CMD -/

/-- A register of ring block i (Table 15-8). DEDUCED, log 34. -/
def State.regRing (s : State) (i o : Nat) : Nat :=
  let r := s.ring i
  match o with
  | 0x00 => packFields [(0, 1, b2n r.en), (1, 5, r.depthLog2), (6, 1, b2n r.msix)]
  | 0x04 => packFields [(0, 1, b2n r.en), (1, 1, b2n r.draining), (2, 1, b2n r.fault), (3, 1, r.phase)]
  | 0x08 => lo32 r.sqBase
  | 0x0C => hi32 r.sqBase
  | 0x10 => lo32 r.cqBase
  | 0x14 => hi32 r.cqBase
  | 0x18 => bits r.sqTail 0 16
  | 0x1C => bits r.cqHead 0 16
  | 0x20 => bits r.sqHead 0 16
  | _ => 0

/-- A register of parameter doorbell j (Table 15-8). -/
def State.regPring (s : State) (j o : Nat) : Nat :=
  match s.jobs.find j with
  | some job =>
    match job.pring with
    | some (size, _) =>
      (match o with
       | 0x0 => bits job.pringTail 0 20
       | 0x4 => bits job.pringHead 0 20
       | 0x8 => packFields [(0, 1, 1), (1, 5, size), (6, 16, job.id)]
       | _ => 0)
    | none => 0
  | none => 0

/-- CMD (Table 15-7). -/
def State.regCmd (s : State) (o : Nat) : Nat :=
  if 0x1000 ≤ o && o < 0x2000 then s.regRing ((o - 0x1000) / 0x40) (o % 0x40)
  else if 0x4000 ≤ o && o < 0x4100 then s.regPring ((o - 0x4000) / 0x10) (o % 0x10)
  else match o with
    | 0x00 => packFields [(0, 7, 0x40), (7, 5, 0x10)]
    | 0x04 => (s.cmd.rings.filter (·.en)).length
    | 0x08 => s.snapped 0x80008
    | 0x0C => s.cmd.timeout
    | 0x10 => lo32 (s.counter 0x80010)
    | 0x14 => hi32 (s.counter 0x80010)
    | 0x18 => s.counter 0x80018
    | _ => 0

end Sys2Proof.Machine
end

