-- ==== Sys2Proof/Machine/Params.lean ====
section
/-! DEFINITION. Parameter records (R114 to R122): their checks, the store of a job, and samples held for them,
with the rows. -/

namespace Sys2Proof.Machine

/-! ## Samples and their steps -/

/-- The catalog record at an ordinal of a job's catalog, where it reads and passes R67. -/
def State.recordAt (s : State) (j : Job) (ord : Nat) : Option CatRecord :=
  match s.nsRead j.nsid (recordOffset j.catOffset ord) 64 with
  | some b => if recordOk (s.catalogFor j) ord b then some (parseRecord b) else none
  | none => none

/-- The step that a plan gives to a sample ID, among the records that this device holds. -/
def State.stepOf (s : State) (j : Job) (epoch sample : Nat) : Option Nat :=
  match j.plan epoch with
  | some p => (p.records.find? (fun r => (s.recordAt j r.ordinal).map (·.sample) == some sample)).map (·.step)
  | none => none

/-- DETAIL of an event that names a sample (R525). DEDUCED, log 39. -/
def sampleDetail (sample : Nat) : Bytes := leBytes 6 sample

/-! ## Parameter records -/

/-- SAMPLE_ID, EPOCH, SCHEMA and JOB_ID of a record (Table 04-6). -/
def recSample (b : Bytes) : Nat := bits (field b 0 8) 0 44
def recEpoch (b : Bytes) : Nat := bits (field b 8 4) 0 20
def recJob (b : Bytes) : Nat := field b 14 2

/-- The record is well formed (R118): its CRC and reserved fields. -/
def recFormOk (b : Bytes) : Bool :=
  field b 60 4 == crc32c (b.take 60) && bits (field b 0 8) 44 20 == 0 && bits (field b 8 4) 20 12 == 0

/-- The record fits the job it names (R118): its epoch is the delivering one or the next, and its SCHEMA is that
of the recipe of that epoch. -/
def State.recFits (s : State) (j : Job) (b : Bytes) : Bool :=
  (recEpoch b == j.epoch || recEpoch b == j.epoch + 1)
  && (match s.recipeFor j (recEpoch b) with
      | some r => r.hasParams && r.schema == field b 12 2
      | none => false)

/-- A sample of a job that waits for the record of (epoch, sample) goes on (R120). -/
def State.freeHeld (s : State) (slot epoch sample : Nat) : State :=
  let hit := fun (x : Sample) => x.job == slot && x.epoch == epoch && x.record.sample == sample && x.held.isSome
  let tiles := sortNat ((s.samples.filter hit).map (·.tile))
  let s := { s with samples := s.samples.map (fun x => if hit x then { x with held := none } else x) }
  tiles.foldl (fun s n => s.schedule n) s

/-- What becomes of a record (R117 to R119): taken, with whether it conflicts, or no room. -/
inductive Taken where
  | taken (conflict : Bool) (s : State)
  | noRoom
  deriving DecidableEq, Repr

/-- A record with another payload: the job stops for the sample's step, now where the plan names it, else when the
sample is admitted. DEDUCED, log 60. -/
def State.conflictOf (s : State) (slot : Nat) (j : Job) (epoch sample : Nat) : State :=
  let s := s.raise evParamConflict 4 []
  match s.stepOf j epoch sample with
  | some t => s.stopJob slot epoch t
  | none => s.setJob slot { j with params := j.params.map (fun r =>
      if r.sample = sample && r.epoch = epoch then { r with conflict := true } else r) }

/-- A record reaches the device. -/
def State.takeRecord (s : State) (b : Bytes) : Taken :=
  match s.jobNamed (recJob b) with
  | none => .taken false (s.raise evParamInvalid 4 [])
  | some (slot, j) =>
    if !recFormOk b || !s.recFits j b then .taken false (s.raise evParamInvalid 4 [])
    else
      let payload := slice b 16 44
      match j.params.find? (fun r => r.sample == recSample b && r.epoch == recEpoch b) with
      | some r =>
        if r.payload = payload then .taken false s else .taken true (s.conflictOf slot j (recEpoch b) (recSample b))
      | none =>
        match (if (s.pool j.paramPool).lvlBp then none else s.allocate j.paramPool (0xC00 + slot) 64 false) with
        | none => .noRoom
        | some (c, s) =>
          let r : ParamRec := { sample := recSample b, epoch := recEpoch b, payload := payload, chain := c, conflict := false }
          .taken false (((s.writeChain c 0 b).setJob slot { j with params := j.params ++ [r] }).freeHeld slot (recEpoch b) (recSample b))

/-- The record at the head of a job's ring is taken (R457). -/
def State.takeFromRing (s : State) (slot : Nat) (b : Bytes) : State :=
  match s.jobs.find slot with
  | none => s
  | some j =>
    match j.pring with
    | none => s
    | some (size, _) =>
      if j.pringHead = j.pringTail || !s.hostUp then s
      else match s.takeRecord b with
        | .noRoom => s
        | .taken _ s => { s with jobs := s.jobs.upd slot (fun j => { j with pringHead := (j.pringHead + 1) % 2 ^ size }) }

/-- The next record of table load `i` is taken (R116); the command completes with the last one, with
PARAM_CONFLICT where one conflicted. DEDUCED, log 60. -/
def State.takeFromTable (s : State) (i : Nat) : State :=
  match s.loads[i]? with
  | none => s
  | some l =>
    match l.rest with
    | [] => s
    | b :: rest =>
      match s.takeRecord b with
      | .noRoom => s
      | .taken c s =>
        let l := { l with rest := rest, conflict := l.conflict || c }
        if rest.isEmpty then
          { s with loads := s.loads.eraseIdx i }.finish l.cmd (if l.conflict then { status := 0x0607 } else success)
        else { s with loads := s.loads.set i l }

/-- `PARAM_RECORD_RECEIVE` (R116 to R119, R457): a record from the ring of job slot `j`, as read at its head, or the next
record of table load `j`; one for which the store has no room is not taken. -/
def execParamRecordReceive (fromRing : Bool) (j : Nat) (rec : Bytes) (s : State) : Host.Outcome State Fault Refusal :=
  .next (if !s.alive then s else if fromRing then s.takeFromRing j ((rec ++ zeros 64).take 64) else s.takeFromTable j)

/-! ## Samples held for a record -/

/-- The first stage that reads the parameter record: the first of select, transform and pack that the recipe holds. DEDUCED, log 59. -/
def Recipe.paramStage (r : Recipe) : Nat := if r.holds 3 then 3 else if r.holds 4 then 4 else 7

/-- The stored record of a sample. DEDUCED, log 59. -/
def Job.paramOf (j : Job) (epoch sample : Nat) : Option ParamRec :=
  j.params.find? (fun r => r.epoch == epoch && r.sample == sample)

/-- PAYLOAD of a sample's record; zeros where its recipe has no parameters (nothing then reads it). -/
def State.payloadOf (s : State) (x : Sample) : Bytes :=
  match s.jobs.find x.job with
  | some j => (match j.paramOf x.epoch x.record.sample with | some r => r.payload | none => zeros 44)
  | none => zeros 44

/-- A sample leaves its tile: its engine and tokens, its chains and what is left of its reservation go back. -/
def State.dropSample (s : State) (i : Nat) : State :=
  match s.samples[i]? with
  | none => s
  | some x =>
    let s := s.release i
    let s := { s with samples := s.samples.eraseIdx i }
    let s := x.chains.foldl (fun s c => s.freeChain (cellRef c.1 c.2)) s
    let pool := match s.sampleRecipe x with | some r => some (r.desc x.bucket).pool | none => none
    let s := match pool with
      | some p => s.returnResv p x.reserved
      | none => s
    s.schedule x.tile

/-- A sample's job stops under R40 for its step, with an event that names the sample, and the sample is dropped
from processing. -/
def State.stopSample (s : State) (i : Nat) (k : EvKind) (detail : Bytes) : State :=
  match s.samples[i]? with
  | none => s
  | some x => (((s.raise k x.tile (sampleDetail x.record.sample ++ detail)).stopJob x.job x.epoch x.step).dropSample i)

/-- `PARAM_MISSING` (R120): PARAM_TIMEOUT has passed since the sample became ready for the stage that reads its record. -/
def execParamMissing (i now : Nat) (s : State) : Host.Outcome State Fault Refusal :=
  let s := s.advance now
  .next (match s.samples[i]? with
    | none => s
    | some x =>
      match x.held, s.sampleRecipe x with
      | some t, some r =>
        if t + r.paramTimeout * 1000000 ≤ s.now then s.stopSample i evParamMissing (leBytes 3 x.epoch) else s
      | _, _ => s)

end Sys2Proof.Machine
end

