-- ==== Sys2Proof/Machine/Samples.lean ====
section
/-! DEFINITION. A sample's way over its stages (R95): the order of the stages, the hold of R120, admission to a tile
(R300), and the reference cache's row (R152 to R154). -/

namespace Sys2Proof.Machine

/-! ## The samples of a device -/

/-- Sample `i` changed. -/
def State.updSample (s : State) (i : Nat) (f : Sample → Sample) : State := { s with samples := updAt s.samples i f }

/-- The intermediate results of sample `i` changed. -/
def State.updWork (s : State) (i : Nat) (f : Work → Work) : State := s.updSample i (fun x => { x with work := f x.work })

/-- The stage after `st` that a recipe holds, up to deliver; a text container skips demux and decode (R129). -/
def Recipe.nextStage (r : Recipe) (container st : Nat) : Nat :=
  ((List.range 9).find? (fun c => decide (st < c) && r.holds c && !(container == 7 && decide (c ≤ 2)))).getD 8

/-- Sample `i` becomes ready for a stage: before the first that reads its parameter record it is held until the record
is there (R120). -/
def State.enterStage (s : State) (i st : Nat) : State :=
  match s.samples[i]? with
  | none => s
  | some x =>
    let missing := match s.jobs.find x.job, s.sampleRecipe x with
      | some j, some r => r.hasParams && st == r.paramStage && (j.paramOf x.epoch x.record.sample).isNone
      | _, _ => false
    let s := s.updSample i (fun x => { x with stage := st, refusals := 0, avoid := none, held := if missing then some s.now else none })
    s.schedule x.tile

/-! ## Stops that name a sample -/

/-- SAMPLE_UNRECOVERABLE (R39). -/
def State.unrecoverable (s : State) (i : Nat) : State := s.stopSample i evSampleUnrecoverable []
/-- CATALOG_SIZE_MISMATCH with its reason (R123). DEDUCED, log 65. -/
def State.sizeMismatch (s : State) (i reason : Nat) : State := s.stopSample i evSizeMismatch (leBytes 1 reason)
/-- DECODE_UNSUPPORTED with its reason (R134). DEDUCED, log 53. -/
def State.unsupported (s : State) (i reason : Nat) : State := s.stopSample i evDecodeUnsupported (leBytes 1 reason)
/-- PARAM_VALUE_INVALID (R184, R192). -/
def State.badParam (s : State) (i : Nat) : State := s.stopSample i evParamValue []
/-- STAGE_FAULT (R98, R281). -/
def State.stageFault (s : State) (i : Nat) : State := s.stopSample i evStageFault []

/-! ## Admission (R300) -/

/-- Cells of Q_b of a bucket's pool (R107), and at least those of the sample's bytes. DEDUCED, log 49. -/
def State.needCells (s : State) (j : Job) (r : Recipe) (bucket len : Nat) : Nat :=
  max (ceilDiv (bucketNeed r (s.catalogFor j) bucket) (s.pool (r.desc bucket).pool).cellSize)
      (ceilDiv len (s.pool (r.desc bucket).pool).cellSize)

/-- A sample as it is admitted. DEDUCED, log 49. -/
def newSample (job epoch tile : Nat) (r : PlanRec) (c : CatRecord) (cells : Nat) : Sample :=
  { job := job, epoch := epoch, step := r.step, member := r.member, bucket := r.bucket, reserve := r.reserve, record := c,
    tile := tile, stage := 0, engine := none, held := none, chains := [], reserved := cells, replicas := [], refusals := 0,
    avoid := none, refs := [], concealed := false, work := Work.empty, verdict := none, slot := none }

/-- The fetch chain of a new sample, of LENGTH bytes, from its reservation. -/
def State.fetchChain (s : State) (x : Sample) (pool : Nat) : Sample × State :=
  match s.allocate pool (0xC00 + x.job) x.record.length true with
  | some (c, s) => ({ x with chains := [(refPool c, refCell c)],
                             reserved := x.reserved - ceilDiv x.record.length (s.pool pool).cellSize }, s)
  | none => (x, s)

/-- A member of a plan is admitted to a tile: its reservation, its bytes read from NAND (R123: no byte beyond
LENGTH), and a stop for a conflicting record that came before (R119). -/
def State.admitSlot (s : State) (slot : Nat) (j : Job) (p : EpochPlan) (rec' : PlanRec) (c : CatRecord) (rc : Recipe) (tile : Nat) : State :=
  let pool := (rc.desc rec'.bucket).pool
  let n := s.needCells j rc rec'.bucket c.length
  let s := s.setJob slot (j.setPlan { p with admitted := p.admitted ++ [(rec'.step, rec'.member)] })
  let r := (s.takeResv pool n).fetchChain (newSample slot p.epoch tile rec' c n) pool
  let s := { r.2 with samples := r.2.samples ++ [r.1] }
  let s := s.mediaRead c.nsid c.offset c.length 3
  match j.paramOf p.epoch c.sample with
  | some q => if q.conflict then s.stopJob slot p.epoch rec'.step else s
  | none => s

/-- The tile takes new samples, or holds them until it wakes (R125, R126). -/
def State.tileAdmits (s : State) (n : Nat) : Bool := n < 4 && ((s.tile n).state == 1 || (s.tile n).state == 4)

/-- The member is still to be processed: not admitted, at or above the cursor, and its job goes on. -/
def Job.wants (j : Job) (p : EpochPlan) (r : PlanRec) : Bool :=
  (p.phase == 6 || p.phase == 8) && !p.admitted.contains (r.step, r.member)
  && (p.epoch != j.epoch || decide (j.step ≤ r.step)) && j.ending.isNone

/-- `SAMPLE_ADMIT` (R300): record `idx` of a plan, once its pool grants the reservation. -/
def execSampleAdmit (jobId epoch idx tile : Nat) (s : State) : Host.Outcome State Fault Refusal :=
  .next (match s.jobNamed jobId with
    | none => s
    | some (slot, j) =>
      match j.plan epoch, s.recipeFor j epoch with
      | some p, some rc =>
        match p.records[idx]? with
        | none => s
        | some r =>
          match s.recordAt j r.ordinal with
          | none => s
          | some c =>
            if s.mediaReady && s.tileAdmits tile && j.wants p r
                && s.grantsResv (rc.desc r.bucket).pool (s.needCells j rc r.bucket c.length) then
              let s := s.admitSlot slot j p r c rc tile
              if (s.tile tile).state = 4 then s.postWork (6 * tile) else s
            else s
      | _, _ => s)

/-! ## The reference cache (R152 to R154) -/

/-- Samples of `is` on tile `n` that decode under REF_SHARE. -/
def State.sharers (s : State) (n : Nat) (is : List Nat) : List Nat :=
  is.filter (fun i => match s.samples[i]? with
    | some x => x.tile == n && x.stage == 2 && x.engine.isSome
        && (match s.sampleRecipe x with | some r => bit (field r.decode 2 1) 1 | none => false)
    | none => false)

/-- The decode of the frame `key` ends for the samples that need it: one that the cache holds saves every decode; a new one
saves all but the first, and enters the cache where R154 lets it; an abandoned one leaves the cache. -/
def State.refDecoded (s : State) (n key size : Nat) (is : List Nat) (ok : Bool) : State :=
  let held := (s.tile n).refs.any (fun r => r.key == key)
  if !ok then s.dropRefs n ((s.tile n).refs.filter (fun r => r.key == key))
  else if is.isEmpty then s
  else
    let saved := if held then is.length else is.length - 1
    let s := (s.bump64 (tileReg n 0x10028) saved).holdRef n key is
    if held then s.touchRef n key else (s.insertRef n key size).trimRefs n

/-- `REF_FRAME_DECODED` (R152 to R154): `size` bytes as coded; `takers` are the samples that wait for the frame or made it. -/
def execRefFrameDecoded (tile key size : Nat) (takers : List Nat) (ok : Bool) (s : State) : Host.Outcome State Fault Refusal :=
  .next (if tile < 4 && s.refLimit tile != 0 then s.refDecoded tile key size (s.sharers tile takers) ok else s)

end Sys2Proof.Machine
end

