-- ==== Sys2Proof/Machine/StageWork.lean ====
section
/-! DEFINITION. What the stages of a sample compute from what it holds (R95): transform (R181 to R198), ROI evaluation
(R189, R190), text (R205 to R217), score (R243 to R251) and pack (R197 to R201, R252, R264). -/

namespace Sys2Proof.Machine

/-! ## Transform: windows -/

/-- The crop window of R182 for a frame size. -/
def cropWindow (t : TransformSettings) (payload : Bytes) (fw fh : Nat) : Window2 :=
  match augFind t.aug 1 with
  | some a => { x0 := field payload a.off 2, y0 := field payload (a.off + 2) 2, wc := field payload (a.off + 4) 2, hc := field payload (a.off + 6) 2 }
  | none => defaultWindow t.windowW t.windowH fw fh

/-- The window of a frame after one that used `w`, before any ROI move (R182, R188): the same where the size is the
same, else recomputed in size with its origin clamped. DEDUCED, log 66. -/
def carryWindow (t : TransformSettings) (payload : Bytes) (w : Window2) (pw ph fw fh : Nat) : Window2 :=
  let size := if pw = fw && ph = fh then w else cropWindow t payload fw fh
  clampWindow { x0 := w.x0, y0 := w.y0, wc := size.wc, hc := size.hc } fw fh

/-- Width and height of a decoded picture. -/
def Decoded.w (f : Decoded) : Nat := match f.planes with | y :: _ => y.w | [] => 0
def Decoded.h (f : Decoded) : Nat := match f.planes with | y :: _ => y.h | [] => 0

/-- Windows of the frames in order without ROI (R182, R188). -/
def fixedWindows (t : TransformSettings) (payload : Bytes) : List Decoded → List Window2
  | [] => []
  | f :: fs =>
    (fs.foldl (fun (acc : List Window2 × Window2 × Decoded) g =>
      let w := carryWindow t payload acc.2.1 acc.2.2.w acc.2.2.h g.w g.h
      (acc.1 ++ [w], w, g)) ([cropWindow t payload f.w f.h], cropWindow t payload f.w f.h, f)).1

/-- The frames that the transform stage takes: every picture that deinterlacing gives (R157, R181). -/
def transformFrames (r : Recipe) (fs : List Decoded) : List Decoded :=
  fs.flatMap (deinterlace (field r.decode 0 1) (field r.decode 1 1))

/-- Payload values outside Table 06-6 or R192 for the first frame. -/
def augBad (r : Recipe) (payload : Bytes) (fs : List Decoded) : Bool :=
  match fs with
  | f :: _ => r.transform.aug.any (fun a => !augValid payload f.w f.h a)
  | [] => r.transform.aug.any (fun a => a.op != 1 && !augValid payload 0 0 a)

/-- A window breaks the bound of R184 for a bucket. -/
def ratioBad (r : Recipe) (bucket : Nat) (w : Window2) : Bool :=
  let p := r.packShape bucket
  let s := placedSize r.transform.letterbox w.wc w.hc p.w p.h
  !(ratioOk w.wc s.1 && ratioOk w.hc s.2)

/-! ## Transform: frames -/

/-- One frame through steps 2 and 4 to 9 of Table 06-5. -/
def transformFrame (r : Recipe) (bucket : Nat) (payload : Bytes) (f : Decoded) (w : Window2) : Picture :=
  let t := r.transform
  let p := r.packShape bucket
  let v := toWorking t.matrix t.range t.luma f
  let s := placedSize t.letterbox w.wc w.hc p.w p.h
  let a : Picture := { w := s.1, h := s.2, ch := v.ch.map (resizeChannel t.filter t.antialias v.w v.h w.x0 w.y0 w.wc w.hc s.1 s.2) }
  let a := match augFind t.aug 2 with
    | some o => flipPic (bit (field payload o.off 1) 0) (bit (field payload o.off 1) 1) a
    | none => a
  let turns := match augFind t.aug 3 with | some o => field payload o.off 1 % 4 | none => 0
  let a := (List.range turns).foldl (fun q _ => rot90 q) a
  let a := place p.w p.h p.pad (photometric payload t.aug a)
  match augFind t.aug 8 with | some o => erase payload o a | none => a

/-- The placed area of a frame: OX, OY, w′, h′ (R187, Table 06-8). -/
def placedArea (r : Recipe) (bucket : Nat) (payload : Bytes) (w : Window2) : Nat × Nat × Nat × Nat :=
  let p := r.packShape bucket
  let s := placedSize r.transform.letterbox w.wc w.hc p.w p.h
  let odd := match augFind r.transform.aug 3 with | some o => field payload o.off 1 % 2 == 1 | none => false
  let s := if odd then (s.2, s.1) else s
  ((p.w - s.1) / 2, (p.h - s.2) / 2, s.1, s.2)

/-- Frames padded to T at PAD (R198). -/
def padFrames (r : Recipe) (bucket : Nat) (ps : List Picture) : List Picture :=
  let p := r.packShape bucket
  ps ++ List.replicate (p.t - ps.length) (padPicture p.w p.h r.channels p.pad)

/-- The audio part of the transform stage: channels at AUDIO_RATE, none where no table lists the source's rate (R193,
R194); a sample without audio has no rate, and its channels hold no samples. -/
def transformAudio (r : Recipe) (w : Work) : Option (List (List Int)) :=
  let t := r.transform
  if t.audioChannels = 0 then some []
  else if w.audio.isEmpty then some (List.replicate t.audioChannels [])
  else (audioChannels t.audioChannels w.audio).foldr (fun c acc =>
    match audioChannel r.tables w.audioRate t.audioRate c, acc with
    | some x, some xs => some (x :: xs)
    | _, _ => none) (some [])

/-- How the transform stage ends. -/
inductive Transformed where
  | done (w : Work)
  | badParam
  | tooLong
  | rateUnlisted
  deriving DecidableEq, Repr

/-- The windows of a sample's frames: those of ROI evaluation, or the fixed ones. -/
def stageWindows (r : Recipe) (payload : Bytes) (w : Work) (fs : List Decoded) : List Window2 :=
  if r.transform.roi then (if w.windows.isEmpty then (fixedWindows r.transform payload (fs.take 1)) else w.windows)
  else fixedWindows r.transform payload fs

/-- The transform stage (R181 to R198). -/
def transformWork (r : Recipe) (bucket : Nat) (payload : Bytes) (w : Work) : Transformed :=
  let p := r.packShape bucket
  let fs := transformFrames r w.frames
  let ws := stageWindows r payload w fs
  if augBad r payload fs || (p.t != 0 && !fs.isEmpty && ws.any (ratioBad r bucket)) then .badParam
  else if p.t < fs.length then .tooLong
  else match transformAudio r w with
    | none => .rateUnlisted
    | some au =>
      let len := maxNat (au.map List.length)
      .done { w with
        pictures := padFrames r bucket ((List.zip fs ws).map (fun e => transformFrame r bucket payload e.1 e.2)),
        placed := (match ws with | v :: _ => if fs.isEmpty then (0, 0, 0, 0) else placedArea r bucket payload v | [] => (0, 0, 0, 0)),
        validT := fs.length, audioOut := au.map (fitAudio p.audioLen), audioLen := min len p.audioLen,
        audioCut := decide (p.audioLen < len), frames := [], audio := [] }

/-- The pictures of a recipe without the transform stage: decoded frames as working values, placed on the bucket's
shape and padded. DEDUCED, log 54. -/
def plainWork (r : Recipe) (bucket : Nat) (w : Work) : Transformed :=
  let p := r.packShape bucket
  if p.t < w.frames.length then .tooLong
  else .done { w with pictures := padFrames r bucket (w.frames.map (fun f => place p.w p.h p.pad (toWorking 0 0 false f))),
                      validT := w.frames.length, frames := [], audio := [] }

/-! ## Region of interest (R189, R190) -/

/-- The ROI model's input: the whole frame resized to its input size (R189). -/
def roiInput (r : Recipe) (md : Model) (f : Decoded) : Tensor :=
  let t := r.transform
  let v := toWorking t.matrix t.range t.luma f
  pictureInput md [v.ch.map (resizeChannel 1 true v.w v.h 0 0 v.w v.h md.inW md.inH)]

/-- The ROI model's result on a frame, with the NaNs counted (R245). -/
def roiEval (r : Recipe) (img : Bytes) (f : Decoded) : RoiResult × Nat :=
  let md := parseModel img
  let o := modelOutputs img md (roiInput r md f) 5
  let v := fun k => o.1.getD k 0
  ({ x0 := roiCoord (v 0), y0 := roiCoord (v 1), x1 := roiCoord (v 2), y1 := roiCoord (v 3), conf := roiConf (v 4) }, o.2)

/-- Frame k's ROI result fixes the window of frame k + 1 (R190). -/
def roiNext (r : Recipe) (payload : Bytes) (w : Work) (fs : List Decoded) (k : Nat) (res : RoiResult) : Work :=
  let ws := stageWindows r payload w fs
  match ws[k]?, fs[k]? with
  | some v, some f =>
    let moved := roiStep r.transform.roiAlpha r.transform.roiMaxStep r.transform.roiConfMin f.w f.h v res
    let next := match fs[k + 1]? with
      | some g => [carryWindow r.transform payload moved f.w f.h g.w g.h]
      | none => []
    { w with windows := ws ++ next, roiFrames := k + 1 }
  | _, _ => w

/-! ## Text (R205 to R217) -/

/-- The text region of a sample, with the bytes of its documents and its tokens. -/
def textWork (r : Recipe) (v : Vocab) (w : Work) : TextRegion × Nat :=
  let docs := documents r.text.source w.text w.captions
  (packText r.text v (docs.map (tokenize v)), sumNat (docs.map List.length))

/-! ## Score (R243 to R251) -/

/-- The input of a model by its kind (R244). -/
def modelInput (md : Model) (w : Work) : Tensor :=
  match md.inKind with
  | 0 => pictureInput md (w.pictures.map (·.ch))
  | 1 => tokenInput (match w.region with | some t => t.tokens | none => [])
  | _ => audioInput md w.audioOut

/-- What a score stage found, with its counts for TNS and TXT: passes, evaluations, label tokens, masks, NaNs and
subparts replaced. -/
structure Scored where
  scores : List Nat
  embed  : List Nat
  dup    : Nat
  label  : Option LabelResult
  text   : Bytes
  passes : Nat
  infer  : Nat
  tokens : Nat
  masks  : Nat
  nans   : Nat
  repl   : Nat
  deriving DecidableEq, Repr

/-- Tokens of a kept label. -/
def LabelResult.tokens : LabelResult → List Nat
  | .keep ts => ts
  | _ => []

/-- Tokens generated, those of a drop included. -/
def LabelResult.generated : LabelResult → List Nat
  | .keep ts => ts
  | .deadEnd ts => ts
  | .tooLong ts => ts

/-- Masks computed: one for each token, and the empty one of a dead end (R249). -/
def LabelResult.masks : LabelResult → Nat
  | .deadEnd ts => ts.length + 1
  | l => l.generated.length

/-- The images a score stage works with: filter, embedding and label model, vocabulary and grammar. -/
structure ScoreImages where
  filter : Option Bytes
  embed  : Option Bytes
  label  : Option Bytes
  vocab  : Option Bytes
  grammar : Option Bytes
  deriving DecidableEq, Repr

/-- The score stage's evaluations (R243 to R251). -/
def scoreWork (r : Recipe) (im : ScoreImages) (w : Work) : Scored :=
  let fo := match im.filter with
    | some img => modelOutputs img (parseModel img) (modelInput (parseModel img) w) (parseModel img).outCount
    | none => ([], 0)
  let eo := match im.embed with
    | some img => modelOutputs img (parseModel img) (modelInput (parseModel img) w) (parseModel img).outDim
    | none => ([], 0)
  let dup := match im.embed with
    | some img => if r.thresholds.dupEn = 1 then dupSim eo.1 (parseModel img).refs else 0xFF800000
    | none => 0xFF800000
  let lab := match im.label, im.vocab with
    | some img, some vi =>
      some (generateLabel (parseVocab vi) (im.grammar.map parseGrammar) img
        (((modelInput (parseModel img) w).codes ++ (modelInput (parseModel img) w).scales).flatMap (leBytes 4)) r.score.labelMax)
    | _, _ => none
  let toks := match lab with | some l => l.tokens | none => []
  let txt := match im.vocab with
    | some vi => detokenize (parseVocab vi) r.score.detokDrop toks
    | none => ([], 0)
  let layers := fun (o : Option Bytes) => match o with | some img => (parseModel img).layers.length | none => 0
  { scores := fo.1, embed := eo.1, dup := dup, label := lab, text := txt.1,
    passes := layers im.filter + layers im.embed + layers im.label,
    infer := b2n im.filter.isSome + b2n im.embed.isSome + b2n im.label.isSome,
    tokens := (match lab with | some l => l.generated.length | none => 0),
    masks := if im.grammar.isSome then (match lab with | some l => l.masks | none => 0) else 0, nans := fo.2 + eo.2, repl := txt.2 }

/-- The filter of R246 passes: every rule holds and, with DUP_EN, DUP_SIM lies below DUP_MAX. -/
def filterPasses (t : Thresholds) (scores : List Nat) (dup : Nat) : Bool :=
  t.rules.all (fun q => q.holds scores) && (t.dupEn == 0 || (ofFp32 dup).lt (ofFp32 t.dupMax))

/-- The score stage keeps the sample (R246, R249): the filter passes and label generation did not end with a drop. -/
def Scored.keeps (sc : Scored) (r : Recipe) : Bool :=
  filterPasses r.thresholds sc.scores sc.dup
  && (match sc.label with
      | some (.keep _) => true
      | none => true
      | _ => false)

/-! ## Pack (R197 to R201, R252, R264) -/

/-- Values of the picture tensor in memory order. Without the transform stage the working values' own range is kept. -/
def pictureValues (r : Recipe) (bucket : Nat) (w : Work) : List Fp :=
  let t := r.transform
  let nm := if r.holds 4 then t.normM else [0, 0, 0]
  let ns := if r.holds 4 then t.normS else [0x3F800000, 0x3F800000, 0x3F800000]
  pictureTensor nm ns (r.packShape bucket).layout w.pictures

/-- Values of the audio tensor in memory order. -/
def audioValues (r : Recipe) (bucket : Nat) (w : Work) : List Fp :=
  let p := r.packShape bucket
  if r.audioCh = 0 then [] else (audioOrder p.interleaved p.audioLen w.audioOut).map (audioValue r.transform.audioS)

/-- The header of a slot (Table 06-8). -/
def slotHeader (sample : Nat) (concealed reserve : Bool) (w : Work) : SlotHeader :=
  { sample := sample, concealed := concealed, reserve := reserve, audioCut := w.audioCut, validT := w.validT, ox := w.placed.1,
    oy := w.placed.2.1, validW := w.placed.2.2.1, validH := w.placed.2.2.2, validLen := w.audioLen }

/-- Elements and scale bytes of values in a format, nothing of no values. -/
def tensorParts (fmt : Nat) (ys : List Fp) : Bytes × Bytes := if ys.isEmpty then ([], []) else encodeTensor fmt ys

/-- Parts of the score region (R252). -/
def scoreParts (r : Recipe) (pad : Nat) (w : Work) : List Bytes :=
  if !r.hasScoreRegion then [] else
  let s := r.score
  let em := tensorParts s.embedFormat (w.embed.map ofFp32)
  [leBytes 2 w.scores.length ++ leBytes 2 w.label.length ++ leBytes 4 w.labelText.length
     ++ leBytes 4 (packFields [(0, 1, b2n w.labelRepl)]) ++ leBytes 4 w.dup,
   if s.scoresOut then w.scores.flatMap (leBytes 4) else [],
   if s.embedOut then em.1 ++ em.2 else [],
   if s.tokensOut then (w.label ++ List.replicate (s.labelMax - w.label.length) pad).flatMap (leBytes 4) else [],
   if s.textOut then (w.labelText ++ zeros (64 * s.labelMax - w.labelText.length)).take (64 * s.labelMax) else []]

/-- Parts of the text region (R217). -/
def textParts (r : Recipe) (w : Work) : List Bytes :=
  if r.holds 5 then (match w.region with | some t => t.parts r.text.token16 | none => []) else []

/-- A packed slot: its bytes, padded to `size`, the conversions that saturated, and what FRC did; none where a block
exceeds MAX_Q. -/
structure Packed where
  data : Bytes
  sat  : Nat
  frc  : Option (Nat × FrcStream)
  ok   : Bool
  deriving DecidableEq, Repr

/-- Conversions of values to a format that saturate (R199, R200). -/
def satCount (fmt : Nat) (ys : List Fp) : Nat :=
  if isMx fmt then
    sumNat ((mxBlocks ys).map (fun b => (b.filter (fun y => saturates fmt (y.scale (-((mxScale fmt b).getD 0))))).length))
  else (ys.filter (saturates fmt)).length

/-- The pack stage (R197, R199, R252, R264). -/
def packWork (r : Recipe) (bucket size pad sample : Nat) (concealed reserve : Bool) (w : Work) : Packed :=
  let fmt := (r.desc bucket).format
  let pv := pictureValues r bucket w
  let av := audioValues r bucket w
  let pic := tensorParts fmt pv
  let au := tensorParts fmt av
  let coded := (r.packFrc bucket).map (fun m => frcEncode m pic.1)
  let picBytes := match coded with | some c => c.slots | none => pic.1
  let hdr := if r.holds 4 && r.transform.header then (slotHeader sample concealed reserve w).bytes else []
  let body := layRegions ([hdr, picBytes, pic.2, au.1, au.2] ++ textParts r w ++ scoreParts r pad w)
  { data := body ++ zeros (size - body.length), sat := satCount fmt pv + satCount fmt av,
    frc := coded.map (fun c => (pic.1.length, c)), ok := match coded with | some c => c.ok | none => true }

/-- The completion word of a slot (Table 11-2). -/
def completionWord (sample step epoch : Nat) (empty reserve concealed : Bool) : Nat :=
  packFields [(0, 44, sample), (44, 12, step % 4096), (56, 4, epoch % 16), (60, 1, b2n empty), (61, 1, b2n reserve),
              (62, 1, b2n concealed), (63, 1, 1)]

end Sys2Proof.Machine
end

