-- ==== Sys2Proof/Machine/Verdicts.lean ====
section
/-! DEFINITION. Verdicts and the batch coordinator (R78 to R80, R248): a member's keep or drop, the placement of reserves,
empty slots, and the slots ready for delivery (R317, R319). -/

namespace Sys2Proof.Machine

/-! ## Batches -/

/-- Every plan record of a complete plan, of all plan ranks (R83): the gathers that a device holds fix them. -/
def State.allRecords (s : State) (j : Job) (p : EpochPlan) : List PlanRec :=
  (List.range j.planRanks).flatMap (fun d => rankRecords p (s.assignRank j p d) d)

/-- A plan record put into ascending members. -/
def insertRec (r : PlanRec) : List PlanRec → List PlanRec
  | [] => [r]
  | q :: qs => if r.member < q.member then r :: q :: qs else q :: insertRec r qs

/-- Members of a step's batch, in order (R74). -/
def State.batchOf (s : State) (j : Job) (epoch step : Nat) : List PlanRec :=
  match j.plan epoch with
  | some p =>
    if p.phase = 6 || p.phase = 8 then ((s.allRecords j p).filter (fun r => r.step == step)).foldl (fun acc r => insertRec r acc) []
    else []
  | none => []

/-- Device that acts for a plan record's sample. -/
def Job.server (j : Job) (r : PlanRec) : Nat := j.actor (j.shardOf r.ordinal)

/-- The batch coordinator: the device serving member 0 (R80). DEDUCED, log 62. -/
def State.coordinator (j : Job) (batch : List PlanRec) : Option Nat := (batch.head?).map j.server

/-! ## Slots -/

/-- A slot becomes ready for delivery. -/
def State.addReady (s : State) (slot : Nat) (r : ReadySlot) : State :=
  { s with jobs := s.jobs.upd slot (fun j => { j with ready := j.ready.filter (fun q => !(q.index == r.index && q.slot == r.slot)) ++ [r] }) }

/-- An empty slot of a step, with the sample ID of its completion word (R79, R319). -/
def State.addEmpty (s : State) (slot epoch step bucket k sample : Nat) : State :=
  match s.jobs.find slot with
  | none => s
  | some j =>
    match s.indexAt j epoch step with
    | none => s
    | some g =>
      s.addReady slot { epoch := epoch, step := step, index := g.toNat, slot := k, bucket := bucket, data := [], empty := true,
                        word := completionWord sample step epoch true false false }

/-- A member of the share is done (its slot is ready, or it is not delivered). -/
def State.addResolved (s : State) (slot epoch step member : Nat) : State :=
  { s with jobs := s.jobs.upd slot (fun j => { j with resolved := (j.resolved.filter (· != (epoch, step, member))) ++ [(epoch, step, member)] }) }

/-- Index of the sample of a job's member. -/
def State.memberAt (s : State) (slot epoch step member : Nat) : Option Nat :=
  (List.range s.samples.length).find? (fun i => match s.samples[i]? with
    | some x => x.job == slot && x.epoch == epoch && x.step == step && x.member == member
    | none => false)

/-- Placement code of a reserve that is not needed. -/
def notNeeded : Nat := 0xFFFF

/-- A kept reserve learns its slot, or that it is not needed and leaves (R78, R80). -/
def State.placeReserve (s : State) (slot epoch step member k : Nat) : State :=
  match s.memberAt slot epoch step member with
  | none => s
  | some i =>
    match s.samples[i]? with
    | none => s
    | some x =>
      if !x.reserve || x.slot.isSome || x.verdict != some true then s
      else if k = notNeeded then State.advanceCursor slot 2 ((s.dropSample i).addResolved slot epoch step member)
      else (s.updSample i (fun x => { x with slot := some k })).schedule x.tile

/-- `RESERVE_PLACEMENT_RECEIVE` (R80): the coordinator's message for a reserve that this device serves. -/
def execReservePlacementReceive (jobId epoch step member slot : Nat) (s : State) : Host.Outcome State Fault Refusal :=
  .next (match s.jobNamed jobId with
    | some (js, _) => s.placeReserve js epoch step member slot
    | none => s)

/-! ## The coordinator -/

/-- The verdict of a member, once in. -/
def Job.verdictOf (j : Job) (epoch step member : Nat) : Option Verdict :=
  j.verdicts.find? (fun v => v.epoch == epoch && v.step == step && v.member == member)

/-- A placement told to the device serving the reserve. DEDUCED, log 63. -/
def State.tellPlacement (s : State) (slot : Nat) (j : Job) (epoch step : Nat) (r : PlanRec) (k : Nat) : State :=
  if j.server r = s.self then s.placeReserve slot epoch step r.member k
  else s.emit (.fabric 2 (j.server r) "reserve-placement" [j.id, epoch, step, r.member, k] [])

/-- The slot that a kept reserve takes under a list of replacements. -/
def slotFor (reps : List (Nat × Option Nat)) (member : Nat) : Nat :=
  match reps.find? (fun e => e.2 == some member) with
  | some e => e.1
  | none => notNeeded

/-- Slots that no member fills, with the sample ID of the dropped primary, 0 where there is none (R79, R75). -/
def emptySlots (b : Nat) (reps : List (Nat × Option Nat)) (vs : List Verdict) : List (Nat × Nat) :=
  (reps.filter (fun e => e.2.isNone)).map (fun e => (e.1, match vs[e.1]? with | some v => v.sample | none => 0))
  ++ ((List.range b).filter (vs.length ≤ ·)).map (fun k => (k, 0))

/-- A batch whose verdicts are all in is settled (R78 to R80). Under STOP a slot without a replacement stops the job
and nothing of the step is written. -/
def State.settleWith (s : State) (slot : Nat) (j : Job) (rc : Recipe) (epoch step : Nat) (batch : List PlanRec) (vs : List Verdict) : State :=
  let bucket := match batch.head? with | some r => r.bucket | none => 0
  let b := (rc.desc bucket).batch
  let reps := replacements b (vs.map (·.keep))
  let s := (batch.filter (fun r => r.reserve && (match vs[r.member]? with | some v => v.keep | none => false))).foldl
    (fun s r => s.tellPlacement slot j epoch step r (slotFor reps r.member)) s
  if rc.reserveStop && reps.any (fun e => e.2.isNone) then (s.raise evReserveExhausted 4 []).stopJob slot epoch step
  else
    let s := { s with jobs := s.jobs.upd slot (fun j => { j with settled := j.settled ++ [(epoch, step)] }) }
    State.advanceCursor slot 2 ((emptySlots b reps vs).foldl (fun s e => s.addEmpty slot epoch step bucket e.1 e.2) s)

/-- A batch is settled once, when every member's verdict is in. -/
def State.settleBatch (s : State) (slot epoch step : Nat) : State :=
  match s.jobs.find slot with
  | none => s
  | some j =>
    let batch := s.batchOf j epoch step
    let vs := batch.filterMap (fun r => j.verdictOf epoch step r.member)
    match s.recipeFor j epoch with
    | some rc =>
      if j.settled.contains (epoch, step) || batch.isEmpty || vs.length != batch.length || State.coordinator j batch != some s.self then s
      else s.settleWith slot j rc epoch step batch vs
    | none => s

/-- A verdict reaches the coordinator. -/
def State.takeVerdict (s : State) (slot : Nat) (v : Verdict) : State :=
  let other := fun (w : Verdict) => !(w.epoch == v.epoch && w.step == v.step && w.member == v.member)
  let s := { s with jobs := s.jobs.upd slot (fun j => { j with verdicts := j.verdicts.filter other ++ [v] }) }
  s.settleBatch slot v.epoch v.step

/-- `MEMBER_VERDICT_RECEIVE` (R80). -/
def execMemberVerdictReceive (jobId epoch step member : Nat) (keep : Bool) (sample : Nat) (s : State) : Host.Outcome State Fault Refusal :=
  .next (match s.jobNamed jobId with
    | some (slot, j) =>
      if epoch = j.epoch || epoch = j.epoch + 1 then
        s.takeVerdict slot { epoch := epoch, step := step, member := member, keep := keep, sample := sample }
      else s
    | none => s)

/-- A verdict goes to the coordinator: here, or over the fabric (R80, R248). DEDUCED, log 63. -/
def State.sendVerdict (s : State) (slot : Nat) (v : Verdict) : State :=
  match s.jobs.find slot with
  | none => s
  | some j =>
    match State.coordinator j (s.batchOf j v.epoch v.step) with
    | some d =>
      if d = s.self then s.takeVerdict slot v
      else s.emit (.fabric 2 d "member-verdict" [j.id, v.epoch, v.step, v.member, b2n v.keep, v.sample] [])
    | none => s

/-! ## The verdict of a sample -/

/-- A dropped member leaves its tile (R78, Table 03-10). -/
def State.dropMember (s : State) (i : Nat) (x : Sample) : State :=
  let s := (s.dropSample i).addResolved x.job x.epoch x.step x.member
  { s with jobs := s.jobs.upd x.job (fun j => { j with drops := j.drops.put x.epoch ((j.drops.find x.epoch).getD 0 + 1) }) }

/-- Sample `i` has its verdict (R248): `scored` is what the score stage says. A kept primary takes its own slot; a kept
reserve waits for the coordinator. -/
def State.judge (s : State) (i : Nat) (scored : Bool) : State :=
  match s.samples[i]? with
  | none => s
  | some x =>
    let drops := match s.sampleRecipe x with | some r => x.concealed && r.dropConcealed | none => false
    let keep := scored && !drops
    let v : Verdict := { epoch := x.epoch, step := x.step, member := x.member, keep := keep, sample := x.record.sample }
    let s := if keep then
        (s.updSample i (fun x => { x with verdict := some true, slot := if x.reserve then none else some x.member })).enterStage i 7
      else s.dropMember i x
    State.advanceCursor x.job 2 (s.sendVerdict x.job v)

end Sys2Proof.Machine
end

