-- ==== Sys2Proof/Machine/Stages.lean ====
section
/-! DEFINITION. The end of a stage (R95 to R99): what it computes and where the sample goes; refusals (R281), uncorrectable
reads (R279), concealment (R149), region-of-interest results (R190). -/

namespace Sys2Proof.Machine

/-! ## From stage to stage -/

/-- The sample's CONCEALED flag once its frames, audio and captions are selected, with its event (R149). DEDUCED, log 65. -/
def State.noteConcealed (s : State) (i : Nat) : State :=
  match s.samples[i]? with
  | none => s
  | some x =>
    let n := (x.work.frames.filter (·.concealed)).length
    if n = 0 && !x.work.lost then s
    else (s.updSample i (fun x => { x with concealed := true })).raise evDecodeConcealed x.tile (sampleDetail x.record.sample ++ leBytes 3 n)

/-- Sample `i` enters stage `t`, or has its verdict first where it reaches pack without one (R80, R248). -/
def State.goStage (s : State) (i t : Nat) (scored : Bool) : State :=
  match s.samples[i]? with
  | none => s
  | some x => if decide (7 ≤ t) && x.verdict.isNone then s.judge i scored else s.enterStage i t

/-- Sample `i` leaves stage `st` with its output committed: the stages its recipe leaves out pass it on. -/
def State.leaveStage (s : State) (i st : Nat) (scored : Bool) : State :=
  match s.samples[i]? with
  | none => s
  | some x =>
    match s.sampleRecipe x with
    | none => s
    | some r =>
      let t := r.nextStage x.record.container st
      if st ≤ 3 && 4 ≤ t then
        let s := s.noteConcealed i
        if t = 4 then s.goStage i t scored
        else match plainWork r x.bucket x.work with
          | .done w => (s.updWork i (fun _ => w)).goStage i t scored
          | _ => s.sizeMismatch i 2
      else s.goStage i t scored

/-! ## Refusals and uncorrectable reads -/

/-- Owner ID of what runs a sample's stage (Table 10-1). -/
def Sample.owner (x : Sample) : Nat :=
  match x.engine with
  | some e => if e.1 = 7 then 0x800 + 16 * x.tile + e.2 else 0x400 + engineId x.tile e.1 e.2
  | none => 0

/-- A stage met a refusal: it runs again once on another engine, and a second refusal stops the job (R281). -/
def State.refuseStage (s : State) (i : Nat) (x : Sample) : State :=
  if 1 ≤ x.refusals then s.stageFault i
  else ((s.release i).updSample i (fun y => { y with refusals := 1, avoid := x.engine.map (·.2) })).schedule x.tile

/-- A bank refused an access of the stage (R280): an OFF bank with its own event (Table 10-2). DEDUCED, log 73. -/
def State.bankRefusal (s : State) (i : Nat) (x : Sample) (die b : Nat) : State :=
  let s := s.bump (bnkReg die 0x1C) 1
  let s := if (s.bank die b).state = 0 then s.raise evBankOff die (leBytes 2 b ++ leBytes 2 x.owner)
           else s.raise evBankRefused die (leBytes 2 b ++ leBytes 2 x.owner)
  s.refuseStage i x

/-- An uncorrectable read in sample data (R279): the sample starts again from its fetch, and the region is tested. DEDUCED, log 73. -/
def State.restartSample (s : State) (i : Nat) (x : Sample) (die b row : Nat) : State :=
  let s := (s.bump (bnkReg die 0x18) 1).raise evSramUe die (leBytes 1 die ++ leBytes 2 b ++ leBytes 2 row)
  let s := (s.release i).updSample i (fun y =>
    { y with stage := 0, held := none, replicas := [], refusals := 0, avoid := none, refs := [], concealed := false, work := Work.empty })
  let s := s.mediaRead x.record.nsid x.record.offset x.record.length 3
  (if s.regionFree die b then s.startRegion die b else s).schedule x.tile

/-! ## Decode and select -/

/-- PCM values as signed 24 bits (R193): form 0 is IEEE float codes. -/
def pcmIn (fmt : Nat) (v : Int) : Int := if fmt = 0 then floatTo24 v.toNat (ofFp32 v.toNat) else pcmTo24 fmt v

/-- The decode stage ends (R95, R149, R170). DESIGN CHOICE, log 10. -/
def State.decodeEnds (s : State) (i : Nat) (x : Sample) (fs : List Decoded) (rate fmt : Nat) (au : List (List Int))
    (caps : List Caption) (lost : Bool) : State :=
  let s := (s.bump64 (tileReg x.tile 0x10020) fs.length).bump64 (tileReg x.tile 0x10030) (fs.filter (·.concealed)).length
  let set := fun (w : Work) =>
    { w with frames := fs, audioRate := rate, audio := au.map (fun c => c.map (pcmIn fmt)), captions := caps, lost := lost }
  let s := (s.release i).updSample i (fun y => { y with refs := [], work := set y.work })
  (s.trimRefs x.tile).leaveStage i 2 true

/-- The select stage ends with the program's choice (R95, R96). DESIGN CHOICE, log 52. -/
def State.selectEnds (s : State) (i : Nat) (fs : List Nat) (af al tf tl : Nat) (lost : Bool) : State :=
  let s := (s.release i).updWork i (fun w =>
    { w with frames := fs.filterMap (fun k => w.frames[k]?), audio := w.audio.map (fun c => (c.drop af).take al),
             text := slice w.text tf tl, lost := lost })
  s.leaveStage i 3 true

/-! ## Transform, text, score -/

/-- The frames of a sample in its transform stage. -/
def Recipe.stageFrames (r : Recipe) (x : Sample) : List Decoded := transformFrames r x.work.frames

/-- Every frame's ROI result is in (R190). -/
def Recipe.roiDone (r : Recipe) (x : Sample) : Bool := !r.transform.roi || x.work.roiFrames == (r.stageFrames x).length

/-- The transform stage ends. DEDUCED, log 54, 68. -/
def State.transformEnds (s : State) (i : Nat) (x : Sample) (r : Recipe) : State :=
  match transformWork r x.bucket (s.payloadOf x) x.work with
  | .badParam => s.badParam i
  | .tooLong => s.sizeMismatch i 2
  | .rateUnlisted => s.stopSample i evAudioRate []
  | .done w =>
    let p := r.packShape x.bucket
    let reg := fun off => tileReg x.tile (0x20000 + off)
    let s := ((s.bump64 (reg 0x20) w.validT).bump64 (reg 0x28) (w.validT * (p.h * p.w))).bump64 (reg 0x38) (w.audioLen * r.transform.audioChannels)
    ((s.release i).updWork i (fun _ => w)).leaveStage i 4 true

/-- An image that a recipe's IMAGES index names. -/
def State.imageAt (s : State) (r : Recipe) (k : Nat) : Option Bytes :=
  match r.images[k]? with
  | some ref => (s.loadEnv true none).image ref
  | none => none

/-- The text stage ends (R205 to R217). -/
def State.textEnds (s : State) (i : Nat) (x : Sample) (r : Recipe) : State :=
  match s.imageAt r r.text.vocab with
  | none => s
  | some vi =>
    let v := parseVocab vi
    let t := textWork r v x.work
    let reg := fun off => tileReg x.tile (0x30000 + off)
    let fallback := (t.1.tokens.filter (fun k => decide (v.byteBase ≤ k) && decide (k < v.byteBase + 256))).length
    let s := ((s.bump64 (reg 0x20) t.2).bump64 (reg 0x28) t.1.validTokens).bump64 (reg 0x38) fallback
    if t.1.overflow then s.sizeMismatch i 2
    else ((s.release i).updWork i (fun w => { w with region := some t.1 })).leaveStage i 5 true

/-- Images of the score stage. -/
def State.scoreImages (s : State) (r : Recipe) : ScoreImages :=
  let at' := fun k => if k = 0xFF then none else s.imageAt r k
  { filter := at' r.score.filterModel, embed := at' r.score.embedModel, label := at' r.score.labelModel,
    vocab := s.imageAt r r.text.vocab, grammar := at' r.score.grammar }

/-- The score stage ends with the sample's verdict (R242 to R251). -/
def State.scoreEnds (s : State) (i : Nat) (x : Sample) (r : Recipe) : State :=
  let sc := scoreWork r (s.scoreImages r) x.work
  let reg := fun off => tileReg x.tile (0x40000 + off)
  let s := ((s.bump64 (reg 0x20) sc.passes).bump64 (reg 0x28) sc.infer).bump64 (reg 0x30) sc.tokens
  let s := (s.bump (reg 0x38) sc.nans).bump64 (tileReg x.tile 0x30030) sc.masks
  let s := s.bump (tileReg x.tile 0x30040) sc.repl
  let label := match sc.label with | some l => l.tokens | none => []
  let s := (s.release i).updWork i (fun w =>
    { w with scores := sc.scores, embed := sc.embed, dup := sc.dup, label := label, labelText := sc.text, labelRepl := decide (0 < sc.repl) })
  s.leaveStage i 6 (sc.keeps r)

/-! ## Pack -/

/-- Counters of FRC coding in the pack stage (R264). -/
def State.countFrc (s : State) (tile : Nat) (f : Option (Nat × FrcStream)) : State :=
  match f with
  | some (n, c) =>
    s.cxeCount tile n c.slots.length { result := success, writes := [], lossy := c.lossy, escs := c.escs, qMax := c.qMax }
  | none => s

/-- The sample's packed slot. DEDUCED, log 68. -/
def State.packed (s : State) (x : Sample) (r : Recipe) : Packed :=
  let o := outDims (s.loadEnv true none) r
  let pad := match s.imageAt r r.text.vocab with | some vi => (parseVocab vi).pad | none => 0
  packWork r x.bucket (r.slotSize x.bucket o.1 o.2) pad x.record.sample x.concealed x.reserve x.work

/-- The sample leaves its tile with its slot ready for delivery (R317 to R319). -/
def State.finishSample (s : State) (i : Nat) (x : Sample) (k index : Nat) (data : Bytes) : State :=
  let s := (s.bump64 (tileReg x.tile 0x30) 1).dropSample i
  let ready : ReadySlot := { epoch := x.epoch, step := x.step, index := index, slot := k, bucket := x.bucket, data := data, empty := false,
                             word := completionWord x.record.sample x.step x.epoch false x.reserve x.concealed }
  State.advanceCursor x.job 2 ((s.addReady x.job ready).addResolved x.job x.epoch x.step x.member)

/-- The pack stage ends; the delivery index of its step must be known (R313). -/
def State.packEnds (s : State) (i : Nat) (x : Sample) (r : Recipe) : State :=
  match s.jobs.find x.job, x.slot with
  | some j, some k =>
    match s.indexAt j x.epoch x.step with
    | none => s
    | some g =>
      let p := s.packed x r
      let s := (s.bump (tileReg x.tile 0x20040) p.sat).countFrc x.tile p.frc
      if !p.ok then s.stopSample i evFrcLoss [] else s.finishSample i x k g.toNat p.data
  | _, _ => s

/-! ## Rows -/

/-- A stage ends whose output is computed from what the sample holds. -/
def State.computedEnds (s : State) (i : Nat) (x : Sample) (r : Recipe) : State :=
  match x.stage with
  | 1 => (s.release i).leaveStage i 1 true
  | 3 => (s.release i).leaveStage i 3 true
  | 4 => if r.roiDone x then s.transformEnds i x r else s
  | 5 => s.textEnds i x r
  | 6 => s.scoreEnds i x r
  | 7 => s.packEnds i x r
  | _ => s

/-- A sample's stage ends in a way that fits it. -/
def State.stageEnds (s : State) (i : Nat) (x : Sample) (r : Recipe) (out : StageOut) : State :=
  match out with
  | .computed => s.computedEnds i x r
  | .decoded fs rate fmt au caps lost => if x.stage = 2 then s.decodeEnds i x fs rate fmt au caps lost else s
  | .selected fs af al tf tl lost => if x.stage = 3 then s.selectEnds i fs af al tf tl lost else s
  | .trap => if x.stage = 3 || x.stage = 7 then s.stageFault i else s
  | .bankRefused die b => if die < 5 && b < dieBanks die then s.bankRefusal i x die b else s
  | .refRefused pool => if pool < 64 then (s.badRef (cellRef pool 0)).refuseStage i x else s
  | .mismatch reason => if reason = 1 || reason = 2 then s.sizeMismatch i reason else s
  | .unsupported reason => if x.stage = 1 || x.stage = 2 then s.unsupported i reason else s
  | .uncorrectable die b row => if die < 5 && b < dieBanks die then s.restartSample i x die b row else s

/-- `STAGE_COMPLETE` (R95): the stage that sample `i` runs ends. -/
def execStageComplete (i : Nat) (out : StageOut) (s : State) : Host.Outcome State Fault Refusal :=
  .next (match s.samples[i]? with
    | none => s
    | some x =>
      match s.sampleRecipe x with
      | some r => if s.stageRuns x then s.stageEnds i x r out else s
      | none => s)

/-- `ROI_RESULT` (R189, R190): the ROI model has run on frame k of sample `i`, the next one without a result. -/
def execRoiResult (i k : Nat) (s : State) : Host.Outcome State Fault Refusal :=
  .next (match s.samples[i]? with
    | none => s
    | some x =>
      match s.sampleRecipe x with
      | none => s
      | some r =>
        match (r.stageFrames x)[k]?, s.imageAt r r.transform.roiModel with
        | some f, some img =>
          if x.stage != 4 || !r.transform.roi || !s.stageRuns x || k != x.work.roiFrames then s
          else if augBad r (s.payloadOf x) (r.stageFrames x) then s.badParam i
          else
            let e := roiEval r img f
            let reg := fun off => tileReg x.tile off
            let s := ((s.bump64 (reg 0x20030) 1).bump64 (reg 0x40020) (parseModel img).layers.length).bump64 (reg 0x40028) 1
            (s.bump (reg 0x40038) e.2).updWork i (fun w => roiNext r (s.payloadOf x) w (r.stageFrames x) k e.1)
        | _, _ => s)

end Sys2Proof.Machine
end

