-- ==== Sys2Proof/Machine/RegMem.lean ====
section
/-! DEFINITION. What the registers of BNK, POOL, BRM, the tiles' blocks and CMPX show: Tables 03-5 to 03-10,
04-7 to 04-10, 05-10 to 05-13, 06-11 to 06-14, 07-7 to 07-10, 08-8 to 08-10, 09-6 to 09-9, 10-5 to 10-9. -/

namespace Sys2Proof.Machine

/-! ## BNK and POOL -/

/-- BNK_OWN[b] (Table 10-7). -/
def Bank.ownWord (k : Bank) : Nat := packFields [(0, 12, k.owner), (16, 12, k.prev), (31, 1, b2n k.pending.isSome)]

/-- BNK_STATE[b] (Table 10-7). -/
def Bank.stateWord (k : Bank) : Nat :=
  packFields [(0, 2, k.state), (2, 1, b2n k.next.isSome), (3, 1, b2n k.test), (4, 6, k.region), (10, 1, b2n k.fault),
    (11, 1, b2n k.retired), (12, 7, k.spares.length)]

/-- BNK of a die (Tables 10-5 and 10-6). -/
def State.regBnk (s : State) (die o : Nat) : Nat :=
  if 0x800 ≤ o && o < 0x800 + 8 * dieBanks die then
    let k := s.bank die ((o - 0x800) / 8)
    if o % 8 = 0 then k.ownWord else if o % 8 = 4 then k.stateWord else 0
  else match o with
    | 0x00 => packFields [(0, 10, dieBanks die), (10, 5, dieGroups die), (16, 4, 4), (20, 4, 4)]
    | 0x04 => b2n (s.locked die)
    | 0x08 => s.snapped (bnkReg die 0x08)
    | 0x0C => packFields [(0, 1, s.mem.testEn >>> die), (1, 3, s.regionsActive die)]
    | 0x10 => lo32 (s.counter (bnkReg die 0x10))
    | 0x14 => hi32 (s.counter (bnkReg die 0x10))
    | 0x18 => s.counter (bnkReg die 0x18)
    | 0x1C => s.counter (bnkReg die 0x1C)
    | _ => 0

/-- Pool block j (Table 10-9). -/
def State.regPool (s : State) (j o : Nat) : Nat :=
  let q := s.pool j
  match o with
  | 0x00 => packFields [(0, 2, q.kind), (2, 3, q.die), (5, 1, b2n (decide (q.target < q.cells)))]
  | 0x04 => bits q.mib 0 20
  | 0x08 => satTo 32 (s.freeCount j)
  | 0x0C => satTo 32 q.resv
  | 0x10 => q.warn
  | 0x14 => q.bp
  | 0x18 => q.crit
  | 0x1C => packFields [(0, 1, b2n q.lvlWarn), (1, 1, b2n q.lvlBp), (2, 1, b2n q.lvlCrit)]
  | 0x20 => lo32 (s.counter (poolReg j 0x20))
  | 0x24 => hi32 (s.counter (poolReg j 0x20))
  | 0x28 => s.counter (poolReg j 0x28)
  | 0x2C => s.counter (poolReg j 0x2C)
  | _ => 0

/-- POOL (Table 10-8). -/
def State.regPools (s : State) (o : Nat) : Nat :=
  if 0x100 ≤ o && o < 0x1100 then s.regPool ((o - 0x100) / 0x40) (o % 0x40)
  else match o with
    | 0x00 => packFields [(0, 7, 0x40), (8, 8, 0x09), (16, 8, 0x07)]
    | 0x04 => b2n (!s.mem.audits.isEmpty)
    | 0x08 => s.snapped 0x200008
    | 0x0C => (poolArea - s.areaUsed 64) / 1048576
    | 0x10 => b2n (!s.mem.audits.isEmpty)
    | 0x14 => s.mem.auditOwners
    | 0x18 => lo32 s.mem.auditCells
    | 0x1C => hi32 s.mem.auditCells
    | 0x20 => lo32 s.mem.auditOldest
    | 0x24 => hi32 s.mem.auditOldest
    | _ => 0

/-! ## BRM -/

/-- State code of the plan of an epoch, 0 without one (Table 03-10). -/
def Job.planState (j : Job) (epoch : Nat) : Nat := match j.plan epoch with | some p => p.phase | none => 0

/-- The second plan rank the device acts for. -/
def Job.rank2 (j : Job) : Nat := match j.taken.head? with | some d => j.rankOfDev d | none => 0

/-- Job-slot block j of a job (Table 03-10). -/
def State.regJobSlot (s : State) (j : Job) (o : Nat) : Nat :=
  let n := (s.catalogFor j).n
  let steps := (s.epochSteps j j.epoch).getD 0
  let recs := match j.plan j.epoch with | some p => p.records.length | none => 0
  match o with
  | 0x00 => packFields [(0, 16, j.id), (16, 1, 1)]
  | 0x04 => packFields [(0, 4, j.planState j.epoch), (4, 4, j.planState (j.epoch + 1)), (8, 1, b2n (!j.taken.isEmpty))]
  | 0x08 => bits j.epoch 0 20
  | 0x0C => if (j.plan (j.epoch + 1)).isSome then bits (j.epoch + 1) 0 20 else 0
  | 0x10 => lo32 n
  | 0x14 => bits n 32 12
  | 0x18 => lo32 steps
  | 0x1C => hi32 steps
  | 0x20 => lo32 recs
  | 0x24 => hi32 recs
  | 0x28 => packFields [(0, 13, j.rankOfDev s.self), (16, 13, j.planRanks)]
  | 0x2C => satTo 32 ((j.drops.find j.epoch).getD 0)
  | 0x30 => satTo 32 ((j.empties.find j.epoch).getD 0)
  | 0x34 => bits j.rank2 0 13
  | _ => 0

/-- A plan is being built or reissued. -/
def State.planBusy (s : State) : Bool := s.jobs.any (fun e => e.2.plans.any (fun p => p.building || p.phase == 8))

/-- BRM (Tables 03-5 to 03-9). -/
def State.regBrm (s : State) (o : Nat) : Nat :=
  let b := s.brm
  if 0x100 ≤ o && o < 0x500 then
    match s.jobs.find ((o - 0x100) / 0x40) with
    | some j => s.regJobSlot j (o % 0x40)
    | none => 0
  else if 0x80 ≤ o && o < 0xB0 then
    let k := b.keys.getD ((o - 0x80) / 8) 0
    if o % 8 = 0 then lo32 k else hi32 k
  else if 0x64 ≤ o && o < 0x74 then bits b.seed (8 * (o - 0x64)) 32
  else match o with
    | 0x00 => packFields [(0, 8, 0x40), (8, 5, 0x10), (16, 4, 2), (20, 4, 6), (24, 8, 8)]
    | 0x04 => packFields [(0, 1, b2n s.planBusy), (1, 5, s.jobs.length)]
    | 0x08 => s.snapped 0x300008
    | 0x10 => lo32 (s.counter 0x300010)
    | 0x14 => hi32 (s.counter 0x300010)
    | 0x40 => packFields [(0, 1, b2n b.running.isSome), (1, 1, b2n b.inverse), (2, 1, b2n b.keySrc)]
    | 0x44 => packFields [(0, 1, b2n b.running.isSome), (1, 1, b2n b.done), (2, 1, b2n b.err), (8, 8, b.walks)]
    | 0x48 => lo32 b.n
    | 0x4C => bits b.n 32 12
    | 0x50 => lo32 b.input
    | 0x54 => bits b.input 32 12
    | 0x58 => lo32 b.out
    | 0x5C => hi32 b.out
    | 0x60 => bits b.epoch 0 20
    | _ => 0

/-! ## Tiles -/

/-- A bit for each engine of a class that runs a stage. -/
def State.busyBits (s : State) (n cls : Nat) : Nat := packFields ((List.range (classCount cls)).map (fun i => (i, 1, b2n (s.engineBusy n cls i))))

/-- Samples of tile `n` that satisfy `f`. -/
def State.countSamples (s : State) (n : Nat) (f : Sample → Bool) : Nat := (s.samples.filter (fun x => x.tile == n && f x)).length

/-- TSCH of tile `n` (Tables 04-7 to 04-10). DESIGN CHOICE, log 24. -/
def State.regTsch (s : State) (n o : Nat) : Nat :=
  let t := s.tile n
  match o with
  | 0x00 => packFields [(0, 3, t.state), (3, 1, b2n (s.lastTile n)), (4, 8, t.share)]
  | 0x04 => b2n (t.state == 2)
  | 0x08 => s.snapped (tileReg n 8)
  | 0x10 => bits t.bypVde 0 24
  | 0x14 => packFields [(0, 6, t.bypMisc), (8, 8, t.bypMisc >>> 8), (16, 4, t.bypMisc >>> 16), (20, 2, t.bypMisc >>> 20), (24, 2, t.bypMisc >>> 24)]
  | 0x18 => s.busyBits n 0
  | 0x1C => packFields ([1, 2, 3, 4, 5].map (fun c => (miscBit c, classCount c, s.busyBits n c)))
  | 0x20 => packFields ((List.range 16).map (fun j => (j, 1, b2n (s.samples.any (fun x => x.tile == n && x.job == j)))))
  | 0x24 => bits (s.countSamples n (fun x => x.held.isSome)) 0 20
  | 0x30 => lo32 (s.counter (tileReg n 0x30))
  | 0x34 => hi32 (s.counter (tileReg n 0x30))
  | _ => 0

/-- A 64-bit counter pair of a tile, seen at its _LO or _HI offset. -/
def State.tilePair (s : State) (n off : Nat) : Nat :=
  let v := s.counter (tileReg n (off - off % 8))
  if off % 8 = 0 then lo32 v else hi32 v

/-- DEC of tile `n` (Tables 05-10 to 05-13). -/
def State.regDec (s : State) (n o : Nat) : Nat :=
  let t := s.tile n
  let on := s.refLimit n != 0 && (s.pool (s.refPoolOf n)).kind != 0
  if 0x20 ≤ o && o < 0x38 then s.tilePair n (0x10000 + o)
  else match o with
    | 0x00 => packFields [(0, 8, 0x18), (8, 8, 0x06), (16, 6, 0x3F)]
    | 0x04 => packFields [(0, 1, b2n on), (1, 1, b2n t.cacheFull)]
    | 0x08 => s.snapped (tileReg n 0x10008)
    | 0x0C => packFields [(0, 16, t.ucode.get 0 4), (16, 16, t.ucode.get 0 4)]
    | 0x10 => packFields [(0, 8, s.refLimit n / 16777216), (8, 6, s.refPoolOf n)]
    | 0x14 => bits (ceilDiv (refBytes t.refs) 1048576) 0 16
    | _ => 0

/-- The sample's transform stage waits for an ROI result. DEDUCED, log 112. -/
def State.roiWaits (s : State) (x : Sample) : Bool :=
  x.stage == 4 && x.engine.isSome && (match s.sampleRecipe x with | some r => r.transform.roi && !r.roiDone x | none => false)

/-- XFM of tile `n` (Tables 06-11 to 06-14). -/
def State.regXfm (s : State) (n o : Nat) : Nat :=
  if 0x20 ≤ o && o < 0x40 then s.tilePair n (0x20000 + o)
  else match o with
    | 0x00 => packFields [(0, 8, 0x08), (8, 5, 0x1F), (16, 8, 0x60)]
    | 0x04 => satTo 8 (s.countSamples n s.roiWaits)
    | 0x08 => s.snapped (tileReg n 0x20008)
    | 0x0C => bits ((s.tile n).ucode.get 0 5) 0 16
    | 0x40 => s.counter (tileReg n 0x20040)
    | _ => 0

/-- The sample's score stage runs and holds a grammar context (R222). DEDUCED, log 112. -/
def State.holdsContext (s : State) (x : Sample) : Bool :=
  x.stage == 6 && x.engine.isSome
  && (match s.sampleRecipe x with | some r => r.score.labelModel != 0xFF && r.score.grammar != 0xFF | none => false)

/-- TXT of tile `n` (Tables 07-7 to 07-10). -/
def State.regTxt (s : State) (n o : Nat) : Nat :=
  if 0x20 ≤ o && o < 0x40 then s.tilePair n (0x30000 + o)
  else match o with
    | 0x00 => packFields [(0, 8, 0x04), (8, 8, 0x40), (16, 5, 0x14), (21, 7, 0x40)]
    | 0x04 => min 256 (s.countSamples n s.holdsContext)
    | 0x08 => s.snapped (tileReg n 0x30008)
    | 0x0C => bits ((s.tile n).ucode.get 0 6) 0 16
    | 0x40 => s.counter (tileReg n 0x30040)
    | _ => 0

/-- TNS of tile `n` (Tables 08-8 to 08-10). -/
def State.regTns (s : State) (n o : Nat) : Nat :=
  if 0x20 ≤ o && o < 0x38 then s.tilePair n (0x40000 + o)
  else match o with
    | 0x00 => packFields [(0, 8, 2), (8, 8, 0x80), (16, 8, 8), (24, 8, 8)]
    | 0x04 => packFields [(0, 2, s.busyBits n 4), (8, 8, satTo 8 (s.countSamples n (fun x => s.waits x && s.stageClass x == some 4)))]
    | 0x08 => s.snapped (tileReg n 0x40008)
    | 0x0C => bits ((s.tile n).ucode.get 0 7) 0 16
    | 0x10 => packFields [(0, 8, s.pwr.granted.get 0 (tokenKey n 4 0)), (8, 8, s.pwr.granted.get 0 (tokenKey n 4 1))]
    | 0x38 => s.counter (tileReg n 0x40038)
    | _ => 0

/-- CXEs of tile `n` that run compression jobs: the lowest ones not marked out. -/
def State.cxeBusy (s : State) (n : Nat) : Nat :=
  let k := (s.cxe.running.filter (fun j => j.tile == n)).length
  packFields ((((List.range 2).filter (fun i => !(s.tile n).out 5 i)).take k).map (fun i => (i, 1, 1)))

/-- CXE of tile `n` (Tables 09-6 to 09-8). -/
def State.regCxe (s : State) (n o : Nat) : Nat :=
  if 0x20 ≤ o && o < 0x40 then s.tilePair n (0x50000 + o)
  else match o with
    | 0x00 => packFields [(0, 8, 2), (8, 4, 9), (12, 2, 3)]
    | 0x04 => packFields [(0, 2, s.cxeBusy n), (8, 8, satTo 8 (s.countSamples n (fun x => x.stage == 7 && x.engine.isNone)))]
    | 0x08 => s.snapped (tileReg n 0x50008)
    | 0x0C => bits ((s.tile n).ucode.get 0 8) 0 16
    | 0x40 => s.counter (tileReg n 0x50040)
    | _ => 0

/-- The blocks of tile `n` (Table 01-6b). -/
def State.regTile (s : State) (n o : Nat) : Nat :=
  match o / 0x10000 with
  | 0 => s.regTsch n o
  | 1 => s.regDec n (o % 0x10000)
  | 2 => s.regXfm n (o % 0x10000)
  | 3 => s.regTxt n (o % 0x10000)
  | 4 => s.regTns n (o % 0x10000)
  | 5 => s.regCxe n (o % 0x10000)
  | _ => 0

/-- CMPX (Table 09-9). -/
def State.regCmpx (s : State) (o : Nat) : Nat :=
  match o with
  | 0x00 => packFields [(0, 8, 0x40), (8, 8, 0x14), (16, 8, 0x10)]
  | 0x04 => packFields [(0, 8, s.cxe.queued.length), (8, 4, s.cxe.running.length)]
  | 0x10 => lo32 (s.counter 0x800010)
  | 0x14 => hi32 (s.counter 0x800010)
  | 0x18 => s.counter 0x800018
  | _ => 0

end Sys2Proof.Machine
end

