-- ==== Sys2Proof/Machine/Live.lean ====
section
/-! DEFINITION. Live ingest (R163 to R167): datagrams of a service, their order and losses, and the cutting of
segments, with its rows. -/

namespace Sys2Proof.Machine

/-- A register of service `n` (Table 12-9). -/
def svcReg (n off : Nat) : Nat := 0x00C10000 + 0x20 * n + off

/-- Service `n` replaced. -/
def State.setService (s : State) (n : Nat) (v : Service) : State :=
  { s with net := { s.net with services := s.net.services.put n v } }

/-! ## Datagrams -/

/-- Bytes of a TS packet (R164). -/
def tsSize : Nat := 188

/-- A payload of 1 to 7 whole TS packets (R164). -/
def tsOk (b : Bytes) : Bool :=
  b.length % tsSize == 0 && decide (tsSize ≤ b.length) && decide (b.length ≤ 7 * tsSize)
  && (chunks tsSize 7 b).all (fun p => p.take 1 == [0x47])

/-- The sequence number and payload of an RTP packet (RFC 3550): version 2, contributing sources, an extension and
padding left out. -/
def rtpOf (b : Bytes) : Option (Nat × Bytes) :=
  let f := field b 0 1
  if bits f 6 2 != 2 || b.length < 12 then none
  else
    let h := 12 + 4 * bits f 0 4
    let h := if bit f 4 then h + 4 + 4 * beNat (slice b (h + 2) 2) else h
    let pad := if bit f 5 then field b (b.length - 1) 1 else 0
    some (beNat (slice b 2 2), (b.take (b.length - pad)).drop h)

/-- TS packets lost before one, from the continuity counter of its PID (ISO/IEC 13818-1): a packet with payload
carries the next count, or repeats the last. -/
def ccLoss (m : CMap Nat) (p : Bytes) : Nat × CMap Nat :=
  let pid := beNat (slice p 1 2) % 8192
  let b3 := field p 3 1
  let cc := b3 % 16
  let fresh := bit b3 5 && decide (0 < field p 4 1) && bit (field p 5 1) 7
  if pid = 8191 || !bit b3 4 then (0, m)
  else match m.find pid with
    | none => (0, m.put pid cc)
    | some last => ((if fresh || cc = last then 0 else (cc + 31 - last) % 16), m.put pid cc)

/-- TS packets lost raise LIVE_LOSS and are counted (R165). -/
def State.liveLoss (s : State) (n lost : Nat) : State :=
  if lost = 0 then s else (s.bump (svcReg n 0x10) lost).raise evLiveLoss 7 []

/-! ## Segments -/

/-- Sample ID of segment `k` of service `n` (R166). -/
def liveSample (n k : Nat) : Nat := packFields [(0, 35, k), (35, 9, n)]

/-- The nominal start that follows a random-access point at `pts`: starts fall every `d` from `first`. -/
def nextNominal (first d pts : Nat) : Nat := first + ((pts - first) / max 1 d + 1) * max 1 d

/-- A random-access point at PTS `pts` in service `n` (R166): one at or after the nominal start ends the segment
being cut and begins the next. -/
def State.liveRap (s : State) (n pts : Nat) : State :=
  match s.net.services.find n with
  | none => s
  | some v =>
    match v.segStart with
    | none => s.setService n { v with cutting := true, segment := [], segStart := some (nextNominal pts v.duration pts) }
    | some t =>
      if pts < t then s
      else
        let v' := { v with segment := [], segCount := v.segCount + 1, segStart := some (nextNominal t v.duration pts),
                           segs := v.segs ++ [(liveSample n v.segCount, v.segment)] }
        (s.setService n v').bump64 (svcReg n 0x18) 1

/-- One TS packet of service `n`. -/
def State.livePacket (s : State) (n : Nat) (rap : Option Nat) (p : Bytes) : State :=
  let s := match rap with | some pts => s.liveRap n pts | none => s
  match s.net.services.find n with
  | none => s
  | some v =>
    let c := ccLoss v.counters p
    let s := s.setService n { v with counters := c.2, segment := if v.cutting then v.segment ++ p else v.segment }
    (s.bump64 (svcReg n 8) 1).liveLoss n c.1

/-- The TS packets of one datagram, in order; `raps` are the packets that begin a random-access point, with
their PTS. -/
def State.liveBurst (s : State) (n : Nat) (b : Bytes) (raps : List (Nat × Nat)) : State :=
  (chunks tsSize 7 b).zipIdx.foldl (fun s p => s.livePacket n ((raps.find? (fun r => r.1 == p.2)).map (·.2)) p.1) s

/-- How far an RTP sequence number lies ahead, modulo 65,536. DEDUCED, log 67. -/
def rtpAhead (seq next : Nat) : Nat := (seq + 65536 - next) % 65536

/-- Packets of the reorder window that are next leave it in order; `fuel` bounds their number. -/
def State.drainWindow (n : Nat) : Nat → State → State
  | 0, s => s
  | fuel + 1, s =>
    match s.net.services.find n with
    | none => s
    | some v =>
      match v.nextSeq with
      | none => s
      | some k =>
        match v.window.find k with
        | none => s
        | some b =>
          State.drainWindow n fuel
            ((s.setService n { v with window := v.window.del k, nextSeq := some ((k + 1) % 65536) }).liveBurst n b.1 b.2)

/-- Waiting packets leave the window up to where `seq` lies within 64 numbers: what is missing on the way is lost. -/
def State.slideWindow (n seq : Nat) : Nat → State → State
  | 0, s => s
  | fuel + 1, s =>
    match s.net.services.find n with
    | none => s
    | some v =>
      match v.nextSeq with
      | none => s
      | some k =>
        if rtpAhead seq k < 64 then s
        else
          let s := match v.window.find k with
            | some b => (s.setService n { v with window := v.window.del k, nextSeq := some ((k + 1) % 65536) }).liveBurst n b.1 b.2
            | none => (s.setService n { v with nextSeq := some ((k + 1) % 65536) }).raise evLiveLoss 7 []
          State.slideWindow n seq fuel s

/-- An RTP packet of service `n` (R164): it waits for those before it within a window of 64 sequence numbers; one
that comes too late is lost; one far away starts the order anew. DEDUCED, log 67. -/
def State.rtpPacket (s : State) (n seq : Nat) (b : Bytes) (raps : List (Nat × Nat)) : State :=
  match s.net.services.find n with
  | none => s
  | some v =>
    let k := v.nextSeq.getD seq
    let a := rtpAhead seq k
    if 32768 ≤ a then s
    else
      let s := if 1024 ≤ a then (s.setService n { v with window := [], nextSeq := some seq }).raise evLiveLoss 7 []
        else (s.setService n { v with nextSeq := some k })
      let s := State.slideWindow n seq 1024 s
      match s.net.services.find n with
      | some v => State.drainWindow n 65 (s.setService n { v with window := v.window.put seq (b, raps) })
      | none => s

/-! ## Rows -/

/-- The port of a service receives frames. -/
def State.liveOn (s : State) (v : Service) : Bool := (s.net.eth.getD v.port {}).state == 2

/-- `LIVE_DATAGRAM_RECEIVE` (R164 to R166): a datagram of the service's group and UDP port; `raps` gives the TS
packets of it that begin a random-access point of the service's program, with their unwrapped PTS, as the video
standards define them (R133, R166). -/
def execLiveDatagramReceive (service : Nat) (data : Bytes) (raps : List (Nat × Nat)) (s : State) :
    Host.Outcome State Fault Refusal :=
  .next (match s.net.services.find service with
    | none => s
    | some v =>
      if !s.liveOn v then s
      else if data.take 1 = [0x47] then
        (if tsOk data then (s.setService service { v with state := 2, rtp := false }).liveBurst service data raps else s)
      else match rtpOf data with
        | some (seq, b) => if tsOk b then (s.setService service { v with state := 2, rtp := true }).rtpPacket service seq b raps else s
        | none => s)

/-- `LIVE_STREAM_STOP` (R167): the service is stalled and produces no segment until the stream returns. -/
def execLiveStreamStop (service : Nat) (s : State) : Host.Outcome State Fault Refusal :=
  .next (match s.net.services.find service with
    | some v => if v.state = 2 then s.setService service { v with state := 3 } else s
    | none => s)

end Sys2Proof.Machine
end

