-- ==== Sys2Proof/Machine/RegNet.lean ====
section
/-! DEFINITION. What the registers of MED, RMA, FAB, ETH, SHP and TST show: Tables 11-6 to 11-9, 12-5 to 12-11,
13-3 to 13-6, 18-8. -/

namespace Sys2Proof.Machine

/-! ## MED -/

/-- MED_STATUS (Table 13-4, R393, R406). -/
def State.medStatus (s : State) : Nat :=
  let m := s.med
  let waits := s.nvme.writes.any (fun w => decide (262144 * w.admitted < w.data.length))
  packFields [(0, 3, m.state), (3, 1, b2n m.writeThrough), (4, 1, b2n waits), (5, 1, b2n (decide (90 < m.slcFill))),
    (6, 1, b2n (m.folding != 0)), (7, 1, b2n (decide (m.reserve < m.limit + 268435456))), (8, 7, m.slcFill),
    (15, 1, b2n m.capLow), (16, 11, m.retired)]

/-- Die positions of channel `ch` in a state, one bit each. -/
def State.chanDies (s : State) (ch st : Nat) : Nat := packFields ((List.range 16).map (fun i => (i, 1, b2n ((s.die (16 * ch + i)).state == st))))

/-- Channel block (Table 13-6). -/
def State.regChan (s : State) (ch o : Nat) : Nat :=
  match o with
  | 0x00 => packFields [(0, 16, s.chanDies ch 1), (16, 16, s.chanDies ch 2)]
  | 0x04 => packFields [(0, 2, s.med.iface), (2, 12, s.med.mts)]
  | 0x08 => lo32 (s.counter (channelReg ch 8))
  | 0x0C => hi32 (s.counter (channelReg ch 8))
  | 0x10 => s.counter (channelReg ch 0x10)
  | 0x14 => s.counter (channelReg ch 0x14)
  | _ => 0

/-- MED (Tables 13-3 to 13-5). -/
def State.regMed (s : State) (o : Nat) : Nat :=
  let m := s.med
  if 0x1000 ≤ o && o < 0x1800 then s.regChan ((o - 0x1000) / 0x20) (o % 0x20)
  else match o with
    | 0x00 => packFields [(0, 7, 0x40), (7, 5, 0x10), (12, 3, 4), (16, 4, 3)]
    | 0x04 => s.medStatus
    | 0x08 => s.snapped (medReg 8)
    | 0x0C => packFields [(0, 10, s.setting 0x50 2), (10, 4, s.runSetting 0x52 1), (14, 6, s.runSetting 0x53 1)]
    | 0x10 => packFields [(0, 16, s.setting 0x54 2), (16, 16, s.setting 0x56 2)]
    | 0x14 => packFields [(0, 16, m.v), (16, 16, m.e)]
    | 0x18 => satTo 32 (m.limit / 1048576)
    | 0x1C => satTo 32 (ceilDiv m.dirtyBytes 1048576)
    | 0x20 => lo32 m.userCap
    | 0x24 => hi32 m.userCap
    | 0x28 => bits m.recoveryMs 0 16
    | 0x2C => packFields [(0, 16, m.wearMean), (16, 16, m.wearMax)]
    | 0x40 => lo32 (s.counter (medReg 0x40))
    | 0x44 => hi32 (s.counter (medReg 0x40))
    | 0x48 => lo32 (s.counter (medReg 0x48))
    | 0x4C => hi32 (s.counter (medReg 0x48))
    | 0x50 => s.counter (medReg 0x50)
    | 0x54 => s.counter (medReg 0x54)
    | 0x58 => s.counter (medReg 0x58)
    | _ => 0

/-! ## RMA -/

/-- A register of the RMA block. -/
def rmaReg (o : Nat) : Nat := 0x00A00000 + o

/-- Queue pairs that a destination of a job is bound to. -/
def State.boundQps (s : State) : List Nat := sortNat ((s.jobs.vals.map (fun j => j.dests.map (·.qp))).flatten)

/-- Largest number of consecutive failed mirror intervals of a job (R336). -/
def State.missed (s : State) : Nat := maxNat (s.jobs.vals.map (fun j => match j.mirror with | some m => m.missed | none => 0))

/-- RMA_WIN_INFO (Table 11-9). -/
def State.winInfo (s : State) : Nat :=
  match s.rma.windows.find s.rma.winSel with
  | some v => packFields [(0, 1, b2n v.closing.isNone), (1, 1, b2n v.read), (2, 1, b2n v.write), (3, 1, b2n v.any), (4, 13, v.requester)]
  | none => 0

/-- Length of the selected window. -/
def State.winLength (s : State) : Nat := match s.rma.windows.find s.rma.winSel with | some v => v.length | none => 0

/-- RMA (Tables 11-6 to 11-9). -/
def State.regRma (s : State) (o : Nat) : Nat :=
  let pair := fun b => s.counter (rmaReg b)
  match o with
  | 0x00 => packFields [(0, 5, 0x10), (5, 5, 0x0E), (10, 4, 8), (14, 4, 0xC)]
  | 0x04 => packFields [(0, 15, s.boundQps.length), (15, 17, (s.rma.windows.filter (fun w => w.2.closing.isNone)).length)]
  | 0x08 => s.snapped (rmaReg 8)
  | 0x0C => bits s.rma.timeoutUs 0 20
  | 0x10 => bits s.rma.roce 0 14
  | 0x20 => lo32 (pair 0x20)
  | 0x24 => hi32 (pair 0x20)
  | 0x28 => lo32 (pair 0x28)
  | 0x2C => hi32 (pair 0x28)
  | 0x30 => pair 0x30
  | 0x34 => pair 0x34
  | 0x38 => lo32 (pair 0x38)
  | 0x3C => hi32 (pair 0x38)
  | 0x40 => lo32 (pair 0x40)
  | 0x44 => hi32 (pair 0x40)
  | 0x48 => pair 0x48
  | 0x50 => packFields [(0, 13, s.rma.partner.getD 0), (13, 1, b2n s.rma.partner.isSome), (16, 8, satTo 8 s.missed)]
  | 0x54 => pair 0x54
  | 0x60 => bits s.rma.winSel 0 16
  | 0x64 => s.winInfo
  | 0x68 => lo32 s.winLength
  | 0x6C => hi32 s.winLength
  | _ => 0

/-! ## FAB and ETH -/

/-- A register of link die `d`'s FAB block. -/
def fabReg (d o : Nat) : Nat := 0x00B00000 + 0x80000 * d + o

/-- Port block of fabric port `f` (Table 12-7). -/
def State.regFabPort (s : State) (f o : Nat) : Nat :=
  let p := s.fabPort f
  match o with
  | 0x00 => packFields [(0, 3, p.state), (3, 1, b2n p.spareUsed), (4, 1, b2n p.half), (5, 13, p.peer), (18, 4, p.peerPort)]
  | 0x04 => bits p.ver 0 16
  | 0x08 => packFields [(0, 9, p.failed), (9, 4, p.spareFor)]
  | 0x0C => packFields [(0, 1, b2n (p.ctrl == 1)), (1, 1, b2n (p.ctrl == 2)), (2, 1, b2n (p.ctrl == 3)), (4, 4, p.lane)]
  | 0x10 => lo32 (s.counter (fabPortReg f 0x10))
  | 0x14 => hi32 (s.counter (fabPortReg f 0x10))
  | 0x18 => lo32 (s.counter (fabPortReg f 0x18))
  | 0x1C => hi32 (s.counter (fabPortReg f 0x18))
  | 0x20 => s.counter (fabPortReg f 0x20)
  | 0x24 => s.counter (fabPortReg f 0x24)
  | _ => 0

/-- FAB of link die `d` (Tables 12-5 and 12-6): the device number is valid once the settings image has given it. -/
def State.regFab (s : State) (d o : Nat) : Nat :=
  let k := s.net.dies.getD d {}
  if 0x1000 ≤ o && o < 0x1800 then s.regFabPort (8 * d + (o - 0x1000) / 0x100) (o % 0x100)
  else match o with
    | 0x00 => packFields [(0, 4, 8), (4, 4, 9), (8, 4, 8)]
    | 0x04 => packFields [(0, 13, s.self), (13, 1, b2n (bit s.sys.steps 4 && decide (s.self < 6144)))]
    | 0x08 => packFields [(0, 16, s.sys.fabricN), (16, 16, s.sys.fabricN - 2)]
    | 0x0C => s.snapped (fabReg d 0x0C)
    | 0x10 => packFields [(0, 8, k.detourThr), (8, 1, b2n k.detourEn)]
    | 0x14 => packFields [(0, 1, b2n k.lowEn), (1, 1, b2n k.quietEn), (2, 14, k.idleUs)]
    | 0x18 => packFields [(0, 1, b2n s.net.locked), (1, 1, b2n s.net.isSource), (2, 4, min 15 s.net.hops)]
    | 0x20 => lo32 (s.counter (fabReg d 0x20))
    | 0x24 => hi32 (s.counter (fabReg d 0x20))
    | 0x28 => s.counter (fabReg d 0x28)
    | _ => 0

/-- Port block of Ethernet port `q` (Table 12-9). -/
def State.regEthPort (s : State) (q o : Nat) : Nat :=
  let p := s.net.eth.getD q {}
  match o with
  | 0x00 => packFields [(0, 2, p.state), (2, 8, p.paused)]
  | 0x04 => packFields [(0, 8, p.pfcEn), (8, 1, b2n p.ecnEn)]
  | 0x08 => lo32 (s.counter (ethPortReg q 0x08))
  | 0x0C => hi32 (s.counter (ethPortReg q 0x08))
  | 0x10 => lo32 (s.counter (ethPortReg q 0x10))
  | 0x14 => hi32 (s.counter (ethPortReg q 0x10))
  | 0x18 => s.counter (ethPortReg q 0x18)
  | 0x1C => s.counter (ethPortReg q 0x1C)
  | 0x20 => s.counter (ethPortReg q 0x20)
  | 0x24 => s.counter (ethPortReg q 0x24)
  | _ => 0

/-- Service block n (Table 12-9). -/
def State.regService (s : State) (n o : Nat) : Nat :=
  match o with
  | 0x00 => (match s.net.services.find n with | some v => packFields [(0, 2, v.state), (2, 1, b2n v.rtp)] | none => 0)
  | 0x08 => lo32 (s.counter (svcReg n 0x08))
  | 0x0C => hi32 (s.counter (svcReg n 0x08))
  | 0x10 => s.counter (svcReg n 0x10)
  | 0x18 => lo32 (s.counter (svcReg n 0x18))
  | 0x1C => hi32 (s.counter (svcReg n 0x18))
  | _ => 0

/-- ETH (Table 12-8). -/
def State.regEth (s : State) (o : Nat) : Nat :=
  if 0x10000 ≤ o && o < 0x14000 then s.regService ((o - 0x10000) / 0x20) (o % 0x20)
  else if 0x1000 ≤ o && o < 0x1800 then s.regEthPort ((o - 0x1000) / 0x100) (o % 0x100)
  else match o with
    | 0x00 => packFields [(0, 4, 8), (4, 10, 0x200)]
    | 0x04 => s.net.ethPrio
    | 0x08 => s.snapped 0xC00008
    | 0x10 => bits s.net.ptp 0 15
    | 0x14 => b2n s.net.ptpLocked
    | 0x18 => lo32 (unsigned 64 s.net.ptpOffset)
    | 0x1C => hi32 (unsigned 64 s.net.ptpOffset)
    | _ => 0

/-! ## SHP and TST -/

/-- A class of a shaped port (Table 12-11). -/
def ShapeClass.reg (k : ShapeClass) (o : Nat) : Nat :=
  match o with
  | 0x0 => packFields [(0, 21, k.rate), (31, 1, b2n k.en)]
  | 0x4 => bits k.burst 0 24
  | 0x8 => packFields [(0, 3, k.prio), (8, 8, k.weight)]
  | 0xC => unsigned 32 (clampInt k.tokens (-2147483648) 2147483647)
  | _ => 0

/-- Entries and base time of the operational list. -/
def Shaper.operLen (h : Shaper) : Nat := match h.oper with | some (_, gs) => gs.length | none => 0
def Shaper.operBase (h : Shaper) : Nat := match h.oper with | some (b, _) => b | none => 0

/-- A shaped port (Table 12-11). -/
def Shaper.reg (h : Shaper) (o : Nat) : Nat :=
  if 0x800 ≤ o && o < 0x1000 then
    let g := h.admin.get {} ((o - 0x800) / 8)
    if o % 8 = 0 then g.gates else if o % 8 = 4 then g.ns else 0
  else if 0x100 ≤ o && o < 0x200 then (h.classes.getD ((o - 0x100) / 0x10) {}).reg (o % 0x10)
  else match o with
    | 0x00 => packFields [(0, 6, h.overhead), (6, 1, b2n h.gateEn)]
    | 0x04 => packFields [(0, 9, h.adminLen), (17, 1, b2n h.pending.isSome), (18, 1, b2n h.err), (19, 9, h.operLen)]
    | 0x08 => lo32 h.base
    | 0x0C => hi32 h.base
    | 0x10 => lo32 h.operBase
    | 0x14 => hi32 h.operBase
    | _ => 0

/-- SHP (Table 12-10). -/
def State.regShp (s : State) (o : Nat) : Nat :=
  if 0x10000 ≤ o && o < 0x28000 then (s.shaper ((o - 0x10000) / 0x1000)).reg (o % 0x1000)
  else if o = 0 then packFields [(0, 5, 0x18), (5, 5, 0x10), (10, 9, 0x100)]
  else 0

/-- TST (Table 18-8). -/
def State.regTst (s : State) (o : Nat) : Nat :=
  if 0x100 ≤ o && o < 0x120 then s.progress (fun i => i == (o - 0x100) / 4)
  else match o with
    | 0x00 => 8
    | 0x04 => s.tst.en
    | 0x08 => s.snapped 0xE00008
    | 0x10 => packFields [(0, 10, s.progress (fun _ => true)), (10, 1, b2n (!s.tst.runs.isEmpty))]
    | 0x14 => s.tst.cycleS
    | 0x18 => lo32 (s.counter 0xE00018)
    | 0x1C => hi32 (s.counter 0xE00018)
    | 0x20 => s.counter 0xE00020
    | 0x24 => s.counter 0xE00024
    | _ => 0

end Sys2Proof.Machine
end

