-- ==== Sys2Proof/Machine/Registers.lean ====
section
/-! DEFINITION. Reading registers: the live value of every offset of BAR0, register pairs and their shadows
(R538), frozen copies (R539), read-clear counters, with their rows; reads over MCTP (R443). -/

namespace Sys2Proof.Machine

/-! ## Live values -/

/-- Live value of an offset of the hub's small blocks. -/
def State.liveHub (s : State) (a : Nat) : Nat :=
  if a < 0x10000 then s.regSys a
  else if a < 0x20000 then s.regSloe (a - 0x10000)
  else if a < 0x30000 then s.regCur (a - 0x20000)
  else if a < 0x40000 then s.regClk (a - 0x30000)
  else if a < 0x50000 then s.regEvt (a - 0x40000)
  else if a < 0x60000 then s.regSec (a - 0x50000)
  else if a < 0x80000 then s.regUpd (a - 0x60000)
  else s.regCmd (a - 0x80000)

/-- Live value of an offset of BAR0 (Table 01-6a). -/
def State.live (s : State) (a : Nat) : Nat :=
  if a < 0x100000 then s.liveHub a
  else if a < 0x200000 then (if a < 0x114000 then s.regBnk ((a - 0x100000) / 0x4000) ((a - 0x100000) % 0x4000) else 0)
  else if a < 0x300000 then s.regPools (a - 0x200000)
  else if a < 0x400000 then s.regBrm (a - 0x300000)
  else if a < 0x800000 then s.regTile ((a - 0x400000) / 0x100000) (a % 0x100000)
  else if a < 0x900000 then s.regCmpx (a - 0x800000)
  else if a < 0xA00000 then s.regMed (a - 0x900000)
  else if a < 0xB00000 then s.regRma (a - 0xA00000)
  else if a < 0xC00000 then s.regFab ((a - 0xB00000) / 0x80000) (a % 0x80000)
  else if a < 0xD00000 then s.regEth (a - 0xC00000)
  else if a < 0xE00000 then s.regShp (a - 0xD00000)
  else if a < 0xF00000 then s.regTst (a - 0xE00000)
  else 0

/-! ## Frozen copies (R539) -/

/-- Each SNAP register with the ranges it freezes, as (first offset, bytes). -/
def snapSets : List (Nat × List (Nat × Nat)) :=
  [(0x000008, [(0x000024, 0x14)]), (0x020008, [(0x020010, 0x40)]), (0x030008, [(0x030100, 0x70)]),
   (0x040008, [(0x040010, 0x130)]), (0x080008, [(0x080010, 0x0C)]), (0x200008, [(0x200100, 0x1000)]),
   (0x300008, [(0x300100, 0x400)]), (0x900008, [(0x900040, 0x1C), (0x901000, 0x800)]), (0xA00008, [(0xA00020, 0x38)]),
   (0xC00008, (List.range 8).map (fun q => (ethPortReg q 8, 0x20)) ++ (List.range 512).map (fun n => (svcReg n 8, 0x18))),
   (0xE00008, [(0xE00010, 0x130)])]
  ++ (List.range 5).map (fun d => (bnkReg d 8, [(bnkReg d 0x10, 0x10)]))
  ++ ((List.range 4).map (fun n =>
      [(tileReg n 0x00008, [(tileReg n 0x00010, 0x30)]), (tileReg n 0x10008, [(tileReg n 0x10020, 0x18)]),
       (tileReg n 0x20008, [(tileReg n 0x20020, 0x24)]), (tileReg n 0x30008, [(tileReg n 0x30020, 0x24)]),
       (tileReg n 0x40008, [(tileReg n 0x40020, 0x1C)]), (tileReg n 0x50008, [(tileReg n 0x50020, 0x24)])])).flatten
  ++ (List.range 2).map (fun d => (fabReg d 0x0C,
      (fabReg d 0x20, 0x0C) :: (List.range 8).map (fun p => (fabPortReg (8 * d + p) 0x10, 0x18))))

/-- The offset lies in one of the ranges. -/
def inRanges (rs : List (Nat × Nat)) (a : Nat) : Bool := rs.any (fun r => decide (r.1 ≤ a) && decide (a < r.1 + r.2))

/-- The SNAP register that freezes an offset. -/
def frozenBy (a : Nat) : Option Nat := (snapSets.find? (fun e => inRanges e.2 a)).map (·.1)

/-- The offset is a SNAP register. -/
def isSnap (a : Nat) : Bool := snapSets.any (fun e => e.1 == a)

/-- Offsets of the registers of ranges. -/
def rangeOffsets (rs : List (Nat × Nat)) : List Nat := (rs.map (fun r => (List.range (r.2 / 4)).map (fun i => r.1 + 4 * i))).flatten

/-- A copy of registers, all at one instant. DEDUCED, log 43. -/
def State.copyRegs (s : State) (offs : List Nat) : CMap Nat := offs.foldl (fun m a => m.set 0 a (s.live a)) []

/-- A write of a SNAP register: 1 takes the copy, 0 releases it. DEDUCED, log 43. -/
def State.writeSnap (s : State) (a v : Nat) : State :=
  if bit v 0 then
    match snapSets.find? (fun e => e.1 == a) with
    | some e => { s with snaps := s.snaps.put a (s.copyRegs (rangeOffsets e.2)) }
    | none => s
  else { s with snaps := s.snaps.del a }

/-- The copy that shows an offset, if one is held. -/
def State.copyOf (s : State) (a : Nat) : Option (CMap Nat) :=
  match frozenBy a with
  | some r => s.snaps.find r
  | none => none

/-- What a read of an offset gives, pairs and clearing apart: the copy while its block's SNAP is 1. -/
def State.value (s : State) (a : Nat) : Nat :=
  match s.copyOf a with
  | some m => m.get 0 a
  | none => s.live a

/-! ## Register pairs (R538) -/

/-- _LO registers of the hub's small blocks, BNK, POOL, BRM and a tile. -/
def loHub (a : Nat) : Bool :=
  [0x00010, 0x00018, 0x00030, 0x10008, 0x20040, 0x40020, 0x500C0, 0x60028, 0x60038, 0x80010].contains a
  || (decide (0x30100 ≤ a) && decide (a < 0x30170) && a % 0x10 == 8)
  || (decide (0x81000 ≤ a) && decide (a < 0x82000) && (a % 0x40 == 8 || a % 0x40 == 0x10))
def loPool (o : Nat) : Bool := o == 0x18 || o == 0x20 || (decide (0x100 ≤ o) && decide (o < 0x1100) && (o - 0x100) % 0x40 == 0x20)
def loBrm (o : Nat) : Bool :=
  [0x10, 0x48, 0x50, 0x58].contains o || (decide (0x80 ≤ o) && decide (o < 0xB0) && o % 8 == 0)
  || (decide (0x100 ≤ o) && decide (o < 0x500) && [0x10, 0x18, 0x20].contains (o % 0x40))
def loTile (o : Nat) : Bool :=
  [0x00030, 0x10020, 0x10028, 0x10030, 0x20020, 0x20028, 0x20030, 0x20038, 0x30020, 0x30028, 0x30030, 0x30038,
   0x40020, 0x40028, 0x40030, 0x50020, 0x50028, 0x50030, 0x50038].contains o
/-- _LO registers of MED, RMA, FAB, ETH and SHP. -/
def loMed (o : Nat) : Bool := [0x20, 0x40, 0x48].contains o || (decide (0x1000 ≤ o) && decide (o < 0x1800) && o % 0x20 == 8)
def loRma (o : Nat) : Bool := [0x20, 0x28, 0x38, 0x40, 0x68].contains o
def loFab (o : Nat) : Bool := o == 0x20 || (decide (0x1000 ≤ o) && decide (o < 0x1800) && (o % 0x100 == 0x10 || o % 0x100 == 0x18))
def loEth (o : Nat) : Bool :=
  o == 0x18 || (decide (0x1000 ≤ o) && decide (o < 0x1800) && (o % 0x100 == 8 || o % 0x100 == 0x10))
  || (decide (0x10000 ≤ o) && decide (o < 0x14000) && (o % 0x20 == 8 || o % 0x20 == 0x18))
def loShp (o : Nat) : Bool := decide (0x10000 ≤ o) && decide (o < 0x28000) && (o % 0x1000 == 8 || o % 0x1000 == 0x10)

/-- The offset is the _LO register of a pair. DEDUCED, log 42. -/
def isLo (a : Nat) : Bool :=
  if a < 0x100000 then loHub a
  else if a < 0x200000 then decide (a < 0x114000) && (a - 0x100000) % 0x4000 == 0x10
  else if a < 0x300000 then loPool (a - 0x200000)
  else if a < 0x400000 then loBrm (a - 0x300000)
  else if a < 0x800000 then loTile (a % 0x100000)
  else if a < 0x900000 then a == 0x800010
  else if a < 0xA00000 then loMed (a - 0x900000)
  else if a < 0xB00000 then loRma (a - 0xA00000)
  else if a < 0xC00000 then loFab (a % 0x80000)
  else if a < 0xD00000 then loEth (a - 0xC00000)
  else if a < 0xE00000 then loShp (a - 0xD00000)
  else a == 0xE00018

/-- The offset is the _HI register of a pair. DEDUCED, log 42. -/
def isHi (a : Nat) : Bool := decide (4 ≤ a) && isLo (a - 4)

/-- Key of the shadow of a _HI register on an access path. -/
def shadowKey (path a : Nat) : Nat := path * 2 ^ 32 + a

/-! ## Reads -/

/-- An access of a path reaches the device: the management cores run, and for PF1 its host link is up. -/
def State.reaches (s : State) (path : Nat) : Bool := s.alive && !(path == 0 && !s.hostUp)

/-- The block of an offset answers (R25, R26). -/
def State.responds (s : State) (a : Nat) : Bool := !(s.sys.pit && !pitBlock a) && s.powered a

/-- An aligned read of a register: its value, and what the read does (R24 to R26, R538, R539). -/
def State.readReg (s : State) (path a : Nat) : Nat × State :=
  if !s.responds a then (0, s)
  else if isHi a then
    match s.shadows.find (shadowKey path a) with
    | some v => (v, { s with shadows := s.shadows.del (shadowKey path a) })
    | none => (s.value a, s)
  else if isLo a then (s.value a, { s with shadows := s.shadows.put (shadowKey path (a + 4)) (s.value (a + 4)) })
  else if isRc a && (s.copyOf a).isNone then (s.value a, s.setCounter a 0)
  else (s.value a, s)

/-- A read on an access path, with its answer. -/
def State.readRow (s : State) (path a : Nat) : State :=
  if s.reaches path then
    let r := s.readReg path a
    r.2.emit (.regValue path a r.1)
  else s

/-- `RC_COUNTER_READ` (R539). -/
def execRcCounterRead (path addr : Nat) (s : State) : Host.Outcome State Fault Refusal :=
  .next (if isRc addr then s.readRow path addr else s)

/-- `COUNTER_PAIR_LO_READ` (R538). -/
def execCounterPairLoRead (path addr : Nat) (s : State) : Host.Outcome State Fault Refusal :=
  .next (if isLo addr then s.readRow path addr else s)

/-- `COUNTER_PAIR_HI_READ` (R538). -/
def execCounterPairHiRead (path addr : Nat) (s : State) : Host.Outcome State Fault Refusal :=
  .next (if isHi addr then s.readRow path addr else s)

/-- `SNAP_WRITE` (R539). -/
def execSnapWrite (path addr v : Nat) (s : State) : Host.Outcome State Fault Refusal :=
  .next (if isSnap addr then s.gated path addr (fun s => s.writeSnap addr v) else s)

/-- `INVALID_REGISTER_ACCESS` (R9): an access of another size than 4 bytes, or not aligned: no effect, all-ones on
a read, and an event. -/
def execInvalidRegisterAccess (path addr size : Nat) (write : Bool) (s : State) : Host.Outcome State Fault Refusal :=
  .next (if s.reaches path && !(size == 4 && addr % 4 == 0) then
      let s := s.regInvalid path addr
      if write then s else s.emit (.regValue path addr (2 ^ (8 * size) - 1))
    else s)

/-! ## Reads over MCTP -/

/-- A register access over MCTP refused (R443): REG_ACCESS_INVALID with access path 1. -/
def State.mctpRefused (s : State) (off value : Nat) : State := (s.regInvalid 1 off).emit (.mctpRegister 1 value)

/-- An offset that R443 refuses: not 4-byte aligned, or beyond BAR0. -/
def badOffset (off : Nat) : Bool := off % 4 != 0 || decide (0x04000000 ≤ off)

/-- `MCTP_REGISTER_READ` (R443): an unknown KIND is answered by the result byte alone. DEDUCED, log 46. -/
def execMctpRegisterRead (eid kind off : Nat) (s : State) : Host.Outcome State Fault Refusal :=
  .next (if !s.alive || kind = 0 || kind = 2 then s
    else if kind != 1 then (s.regInvalid 1 0xFFFFFFFF).emit (.mctp eid "result" [1] [])
    else if badOffset off then s.mctpRefused off 0xFFFFFFFF
    else
      let r := s.readReg 1 off
      r.2.emit (.mctpRegister 0 r.1))

end Sys2Proof.Machine
end

