-- ==== Sys2Proof/Machine/Telemetry.lean ====
section
/-! DEFINITION. TELEMETRY_GET (R461): the registers of a telemetry set, in offset order, at one instant. -/

namespace Sys2Proof.Machine

/-- The registers at `n` words from offset `a`. -/
def regRun (a n : Nat) : List Nat := (List.range n).map (fun i => a + 4 * i)

/-- The same registers in each of `n` blocks `stride` apart. -/
def regBlocks (a stride n : Nat) (offs : List Nat) : List Nat :=
  ((List.range n).map (fun i => offs.map (fun o => a + stride * i + o))).flatten

/-- Set 0: CUR and CLK. -/
def telemetryPower : List Nat :=
  regRun 0x20000 12 ++ regRun 0x20040 4 ++ regRun 0x20100 7 ++ regRun 0x20200 96 ++ regRun 0x30000 4 ++ regRun 0x30100 28

/-- Set 1: POOL. -/
def telemetryPools : List Nat := regRun 0x200000 10 ++ regBlocks 0x200100 0x40 64 (regRun 0 12)

/-- Set 2: MED. -/
def telemetryMedia : List Nat := regRun 0x900000 12 ++ regRun 0x900040 7 ++ regBlocks 0x901000 0x20 64 (regRun 0 6)

/-- Set 3: FAB of both link dies. -/
def telemetryFabric : List Nat :=
  ((List.range 2).map (fun d => regRun (fabReg d 0) 7 ++ regRun (fabReg d 0x20) 3 ++ regBlocks (fabReg d 0x1000) 0x100 8 (regRun 0 10))).flatten

/-- Set 4: ETH and SHP. -/
def telemetryEthernet : List Nat :=
  regRun 0xC00000 8 ++ regBlocks 0xC01000 0x100 8 (regRun 0 10) ++ regBlocks 0xC10000 0x20 512 ([0] ++ regRun 8 3 ++ regRun 0x18 2)
  ++ [0xD00000] ++ regBlocks 0xD10000 0x1000 24 (regRun 0 6 ++ regRun 0x100 64 ++ regRun 0x800 512)

/-- Set 5: the blocks of the four tiles. -/
def telemetryTiles : List Nat :=
  regBlocks 0x400000 0x100000 4
    (regRun 0x00000 3 ++ regRun 0x00010 6 ++ regRun 0x00030 2 ++ regRun 0x10000 6 ++ regRun 0x10020 6 ++ regRun 0x20000 4 ++ regRun 0x20020 9
     ++ regRun 0x30000 4 ++ regRun 0x30020 9 ++ regRun 0x40000 5 ++ regRun 0x40020 7 ++ regRun 0x50000 4 ++ regRun 0x50020 9)

/-- The registers of a SET. DEDUCED, log 47. -/
def telemetrySet (n : Nat) : List Nat :=
  match n with
  | 0 => telemetryPower
  | 1 => telemetryPools
  | 2 => telemetryMedia
  | 3 => telemetryFabric
  | 4 => telemetryEthernet
  | _ => telemetryTiles

/-- What TELEMETRY_GET copies of an offset: no read-clear register is cleared and no shadow moves. DEDUCED, log 47. -/
def State.telemetryWord (s : State) (a : Nat) : Nat := if s.responds a then s.live a else 0

/-- TELEMETRY_GET (R461): the set is cut at LENGTH. -/
def ownTelemetryGet (_ : Waiter) (x : CmdIn) (s : State) : Own :=
  let p := x.pkt
  if 5 < p.f 16 1 then .refuse (paramInvalid 16)
  else match hostAddress x 24 with
    | some r => .refuse r
    | none =>
      let data := ((telemetrySet (p.f 16 1)).map (fun a => leBytes 4 (s.telemetryWord a))).flatten
      let cut := data.take (p.f 32 4)
      .done { status := 0, r0 := cut.length, r1 := data.length } (s.emit (.hostWrite (p.f 24 8) cut))

/-- `TELEMETRY_GET` (R461). -/
def execTelemetryGet (x : CmdIn) (s : State) : Host.Outcome State Fault Refusal :=
  .next (runCommand opTelemetryGet ownTelemetryGet x s)

end Sys2Proof.Machine
end

