-- ==== Sys2Proof/Machine/Deferred.lean ====
section
/-! DEFINITION. Commands that wait and are accepted later (R448 to R450): each opcode with its own checks and effect. -/

namespace Sys2Proof.Machine

/-- Each opcode of Table 15-3 with what it does once steps 1 to 5 of R438 are passed. -/
def opMeanings : List (OpSpec × (Waiter → CmdIn → State → Own)) :=
  [(opIdentify, ownIdentify), (opNetworkSet, ownNetworkSet), (opPartnerSet, ownPartnerSet), (opLiveServiceSet, ownLiveServiceSet),
   (opLiveServiceRemove, ownLiveServiceRemove), (opRecipeLoad, ownRecipeLoad), (opRecipeReplace, ownRecipeReplace), (opRecipeUnload, ownRecipeUnload),
   (opImageLoad, ownImageLoad), (opImageUnload, ownImageUnload), (opJobStart, ownJobStart), (opJobEnd, ownJobEnd),
   (opEpochPlan, ownEpochPlan), (opParamTable, ownParamTable), (opParamRing, ownParamRing), (opJobTakeover, ownJobTakeover),
   (opJobResume, ownJobResume), (opJobLeave, ownJobLeave), (opCursorReset, ownCursorReset), (opJobQuery, ownJobQuery),
   (opPlanReissue, ownPlanReissue), (opPoolConfig, ownPoolConfig), (opPoolThreshold, ownPoolThreshold), (opPoolAudit, ownPoolAudit),
   (opBankOwn, ownBankOwn), (opBankState, ownBankState), (opBankRetire, ownBankRetire), (opCompress, ownCompress),
   (opDecompress, ownDecompress), (opNsCreate, ownNsCreate), (opNsDelete, ownNsDelete), (opNsSeal, ownNsSeal),
   (opReplicaSet, ownReplicaSet), (opDieRetire, ownDieRetire), (opSanitize, ownSanitize), (opBudgetSet, ownBudgetSet),
   (opFreqAnnounce, ownFreqAnnounce), (opRestartAfterStop, ownRestartAfterStop), (opSelftest, ownSelftest), (opTestRun, ownTestRun),
   (opEngineBypass, ownEngineBypass), (opTileDrain, ownTileDrain), (opTileRejoin, ownTileRejoin), (opColumnRepair, ownColumnRepair),
   (opPitClear, ownPitClear), (opCredSet, ownCredSet), (opCredClear, ownCredClear), (opSignkeyTrust, ownSignkeyTrust),
   (opSignkeyRevoke, ownSignkeyRevoke), (opAuditRead, ownAuditRead), (opDebugUnlock, ownDebugUnlock), (opDecommission, ownDecommission),
   (opUpdStage, ownUpdStage), (opUpdVerify, ownUpdVerify), (opUpdActivate, ownUpdActivate), (opUcodeApply, ownUcodeApply),
   (opEvtRead, ownEvtRead), (opEvtSubscribe, ownEvtSubscribe), (opTelemetryGet, ownTelemetryGet), (opDestBind, ownDestBind),
   (opSlotCancel, ownSlotCancel), (opWindowOpen, ownWindowOpen), (opWindowClose, ownWindowClose), (opWindowRekey, ownWindowRekey),
   (opRmaWrite, ownRmaWrite), (opRmaRead, ownRmaRead), (opPortService, ownPortService)]

/-- A waiting command is accepted: OPCODE_UNKNOWN where Table 15-3 does not list it (R438 step 1). -/
def State.acceptDeferred (s : State) (d : Deferred) : State :=
  match opMeanings.find? (fun m => m.1.opcode == d.opcode) with
  | some m => s.accept m.1 m.2 d.waiter d.cmd
  | none => s.complete d.waiter { status := 0x0101 }

/-- `DEFERRED_COMMAND_ACCEPT` (R448 to R450): the waiting command at place `idx`, once its turn has come. DEDUCED, log 32. -/
def execDeferredCommandAccept (idx : Nat) (s : State) : Host.Outcome State Fault Refusal :=
  .next (match s.cmd.waiting[idx]? with
    | some d =>
      if s.alive && s.ready d.waiter then { s with cmd := { s.cmd with waiting := s.cmd.waiting.eraseIdx idx } }.acceptDeferred d
      else s
    | none => s)

end Sys2Proof.Machine
end

