-- ==== Sys2Proof/Machine/Fetch.lean ====
section
/-! DEFINITION. The fetch stage (R38, R123, R129): bytes from NAND and from replicas (R399 to R401). -/

namespace Sys2Proof.Machine

/-- The bytes of a copy pass the content check of the record (R38). -/
def contentOk (r : CatRecord) (b : Bytes) : Bool := b.length == r.length && sha384h b == r.check

/-- Sample `i`'s bytes are there: they go to the first stage its recipe holds; a stage left out passes them on. DEDUCED, log 53. -/
def State.fetched (s : State) (i : Nat) (b : Bytes) : State :=
  match s.samples[i]? with
  | none => s
  | some x =>
    match s.sampleRecipe x with
    | none => s
    | some r =>
      let s := match x.chains.head? with | some c => s.writeChain (cellRef c.1 c.2) 0 b | none => s
      if 8 ≤ x.record.container then s.unsupported i 1
      else
        let raw := x.record.container == 7 || !r.holds 1
        let s := s.updSample i (fun x => { x with replicas := [], work := { x.work with bytes := b, text := if raw then b else [] } })
        s.leaveStage i 0 true

/-- The next replica device is asked over fabric class 5, or none is left (R39, R399). -/
def State.askReplica (s : State) (i : Nat) (devs : List Nat) : State :=
  match devs, s.samples[i]? with
  | d :: _, some x =>
    ((s.updSample i (fun x => { x with replicas := devs })).bump (medReg 0x54) 1).emit
      (.fabric 5 d "replica-fetch" [x.record.nsid, x.record.offset, x.record.length] [])
  | [], some _ => s.unrecoverable i
  | _, none => s

/-- Replica devices of a dataset namespace, in fetch order; a block namespace has none (R399, R401). -/
def State.replicasOf (s : State) (nsid : Nat) : List Nat :=
  match s.space nsid with
  | some n => if n.kind = 1 then n.replicas.filter (· != s.self) else []
  | none => []

/-- `FETCH_READ_COMPLETE` (R38): the bytes of sample `i` arrive from NAND and are checked; bytes that fail are an
uncorrectable read of the copy. -/
def execFetchReadComplete (i : Nat) (s : State) : Host.Outcome State Fault Refusal :=
  .next (match s.samples[i]? with
    | none => s
    | some x =>
      if x.stage != 0 || !x.replicas.isEmpty then s
      else match s.nsRead x.record.nsid x.record.offset x.record.length with
        | some b => if contentOk x.record b then s.fetched i b else s.askReplica i (s.replicasOf x.record.nsid)
        | none => s.askReplica i (s.replicasOf x.record.nsid))

/-- `REPLICA_FETCH_REQUEST` (R399): served from local media over class 5. DEDUCED, log 91. -/
def execReplicaFetchRequest (dev nsid off len : Nat) (s : State) : Host.Outcome State Fault Refusal :=
  .next (if !s.alive then s
    else match (if s.mediaReady then s.nsRead nsid off len else none) with
      | some b => (s.mediaRead nsid off len 3).emit (.fabric 5 dev "replica-data" [nsid, off] b)
      | none => s.emit (.fabric 5 dev "replica-fail" [nsid, off] []))

/-- The local units of a sample are written again from a good copy (R400). DEDUCED, log 91. -/
def State.repairUnits (s : State) (nsid off : Nat) (b : Bytes) : State :=
  let cs := codewords off b.length
  let s := { s with med := { s.med with spaces := s.med.spaces.upd nsid (fun n => { n.write off b with bad := n.bad.filter (fun c => !cs.contains c) }) } }
  let s := match s.space nsid with | some n => s.mapChange nsid (n.unitsOf off b.length) | none => s
  ((s.program { cls := 4, kind := 1 }).bump (medReg 0x58) 1).raise evMediaRepaired 4 (leBytes 2 nsid ++ leBytes 6 off)

/-- `REPLICA_FETCH_RESPONSE` (R399, R400): the copy of device `dev` for sample `i`, none where it has none; one that
passes its check is used and written back, else the next replica is asked. -/
def execReplicaFetchResponse (i dev : Nat) (data : Option Bytes) (s : State) : Host.Outcome State Fault Refusal :=
  .next (match s.samples[i]? with
    | none => s
    | some x =>
      match x.stage, x.replicas with
      | 0, d :: rest =>
        if d != dev then s
        else match data with
          | some b => if contentOk x.record b then (s.repairUnits x.record.nsid x.record.offset b).fetched i b else s.askReplica i rest
          | none => s.askReplica i rest
      | _, _ => s)

end Sys2Proof.Machine
end

