-- ==== Sys2Proof/Machine/RegWrites.lean ====
section
/-! DEFINITION. Writes of registers (R10, R11, R24 to R26): what a write of any offset of BAR0 does, with the
rows of registers without a row of their own and of writes over MCTP (R443). A reserved field, a RO field and an
offset without a register take no write. -/

namespace Sys2Proof.Machine

/-! ## Hub -/

/-- SYS_RESET_CAUSE: PERST and MGMT_RESTART are W1C (Table 17-9). -/
def State.writeSys (s : State) (o v : Nat) : State :=
  if o = 0x24 then { s with sys := { s.sys with perst := s.sys.perst && !bit v 4, mgmt := s.sys.mgmt && !bit v 5 } } else s

/-- SLOE_CAUSE: W1C; COOLANT_STOP stays while STOPPED is 1 (R493). -/
def State.writeSloe (s : State) (o v : Nat) : State :=
  if o = 0x04 then
    let clear := bits v 0 4 - (if s.pwr.stopped then bits v 0 1 else 0)
    { s with sloe := { s.sloe with cause := s.sloe.cause - (s.sloe.cause &&& clear) } }
  else s

/-- SEC: SEC_SLOT_SEL, SEC_BIND_CTRL, SEC_BIND_SIG (Table 19-5). -/
def State.writeSec (s : State) (o v : Nat) (sigOk : Bool) : State :=
  if o = 0x08 then { s with sec := { s.sec with slotSel := bits v 0 8 } }
  else if o = 0x10 then s.writeBindCtrl v sigOk
  else if 0x60 ≤ o && o < 0xC0 then { s with sec := { s.sec with sig := s.sec.sig.set ((o - 0x60) / 4) v } }
  else s

/-- UPD_WINDOW (Table 17-8). -/
def State.writeUpd (s : State) (o v : Nat) : State :=
  if 0x10000 ≤ o && o < 0x20000 then { s with upd := { s.upd with window := writeMem s.upd.window (o - 0x10000) (leBytes 4 v) } } else s

/-- A base register of a ring is locked while EN is set; bits [11:0] of _LO are reserved (Table 15-8). DEDUCED, log 34. -/
def Ring.writeBase (r : Ring) (o v : Nat) : Ring :=
  if r.en then r
  else match o with
    | 0x08 => { r with sqBase := setBits r.sqBase 0 32 (v / 4096 * 4096) }
    | 0x0C => { r with sqBase := setBits r.sqBase 32 32 v }
    | 0x10 => { r with cqBase := setBits r.cqBase 0 32 (v / 4096 * 4096) }
    | _ => { r with cqBase := setBits r.cqBase 32 32 v }

/-- Ring block i (Table 15-8). -/
def State.writeRing (s : State) (path i o v : Nat) : State :=
  match o with
  | 0x00 => s.writeRingCfg path i v
  | 0x04 => if bit v 2 then s.setRing i { s.ring i with fault := false } else s
  | 0x08 => s.setRing i ((s.ring i).writeBase o v)
  | 0x0C => s.setRing i ((s.ring i).writeBase o v)
  | 0x10 => s.setRing i ((s.ring i).writeBase o v)
  | 0x14 => s.setRing i ((s.ring i).writeBase o v)
  | 0x18 => s.writeSqTail path i v
  | 0x1C => s.writeCqHead path i v
  | _ => s

/-- CMD (Tables 15-7 and 15-8): CMD_FWD_TIMEOUT takes 1 to 60,000. -/
def State.writeCmd (s : State) (path o v : Nat) : State :=
  if 0x1000 ≤ o && o < 0x2000 then s.writeRing path ((o - 0x1000) / 0x40) (o % 0x40) v
  else if 0x4000 ≤ o && o < 0x4100 then (if o % 0x10 = 0 then s.writePringTail path ((o - 0x4000) / 0x10) v else s)
  else if o = 0x0C then
    if bits v 0 16 = 0 || 60000 < bits v 0 16 then s.regInvalid path 0x8000C
    else { s with cmd := { s.cmd with timeout := bits v 0 16 } }
  else s

/-- The hub's small blocks. -/
def State.writeHub (s : State) (path a v : Nat) (sigOk : Bool) : State :=
  if a < 0x10000 then s.writeSys a v
  else if a < 0x20000 then s.writeSloe (a - 0x10000) v
  else if a < 0x40000 then s
  else if a < 0x50000 then (if a = 0x40004 then s.writeEvtCtrl v else s)
  else if a < 0x60000 then s.writeSec (a - 0x50000) v sigOk
  else if a < 0x80000 then s.writeUpd (a - 0x60000) v
  else s.writeCmd path (a - 0x80000) v

/-! ## BNK, BRM, tiles -/

/-- BNK of a die (Tables 10-5 to 10-7). -/
def State.writeBnk (s : State) (path die o v : Nat) : State :=
  if 0x800 ≤ o && o < 0x800 + 8 * dieBanks die then
    if o % 8 = 0 then s.writeBnkOwn path die ((o - 0x800) / 8) v else s.writeBnkState path die ((o - 0x800) / 8) v
  else if o = 0x04 then (if bit v 0 then { s with mem := { s.mem with locks := s.mem.locks ||| 2 ^ die } } else s)
  else if o = 0x0C then { s with mem := { s.mem with testEn := setBits s.mem.testEn die 1 v } }
  else s

/-- The evaluation registers of BRM (Tables 03-5 and 03-9, R94). -/
def BrmBlock.write (b : BrmBlock) (o v : Nat) : BrmBlock :=
  if 0x80 ≤ o && o < 0xB0 then
    let i := (o - 0x80) / 8
    { b with keys := b.keys.set i (setBits (b.keys.getD i 0) (if o % 8 = 0 then 0 else 32) 32 v) }
  else if 0x64 ≤ o && o < 0x74 then { b with seed := setBits b.seed (8 * (o - 0x64)) 32 v }
  else match o with
    | 0x40 => b.writeCtrl v
    | 0x44 => { b with done := b.done && !bit v 1, err := b.err && !bit v 2 }
    | 0x48 => { b with n := setBits b.n 0 32 v }
    | 0x4C => { b with n := setBits b.n 32 12 v }
    | 0x50 => { b with input := setBits b.input 0 32 v }
    | 0x54 => { b with input := setBits b.input 32 12 v }
    | 0x60 => { b with epoch := bits v 0 20 }
    | _ => b

/-- Offsets from BNK to the tiles. -/
def State.writeMid (s : State) (path a v : Nat) : State :=
  if a < 0x200000 then (if a < 0x114000 then s.writeBnk path ((a - 0x100000) / 0x4000) ((a - 0x100000) % 0x4000) v else s)
  else if a < 0x300000 then (if a = 0x200010 then s.auditGo v else s)
  else if a < 0x400000 then s.setBrm (s.brm.write (a - 0x300000) v)
  else if a % 0x100000 = 4 then s.writeTschCtrl path ((a - 0x400000) / 0x100000) v
  else s

/-! ## RMA, FAB, ETH, SHP, TST -/

/-- RMA_ROCE_CFG: an MTU other than 3, 4, 5 leaves the field as it is (Table 11-8). DEDUCED, log 88. -/
def roceWritten (old v : Nat) : Nat :=
  let v := bits v 0 14
  if 3 ≤ bits v 11 3 && bits v 11 3 ≤ 5 then v else setBits v 11 3 (bits old 11 3)

/-- RMA (Tables 11-8 and 11-9). -/
def State.writeRma (s : State) (path o v : Nat) : State :=
  match o with
  | 0x0C =>
    if bits v 0 20 < 100 || 1000000 < bits v 0 20 then s.regInvalid path (rmaReg 0x0C)
    else { s with rma := { s.rma with timeoutUs := bits v 0 20 } }
  | 0x10 => { s with rma := { s.rma with roce := roceWritten s.rma.roce v } }
  | 0x60 => { s with rma := { s.rma with winSel := bits v 0 16 } }
  | _ => s

/-- FAB_ROUTE_CFG or FAB_QUIET_CFG of a link die; none where a field is out of its range (R374). -/
def FabDie.write (k : FabDie) (o v : Nat) : Option FabDie :=
  if o = 0x10 then
    if bits v 0 8 = 0 || 100 < bits v 0 8 then none else some { k with detourThr := bits v 0 8, detourEn := bit v 8 }
  else if bits v 2 14 < 10 || 10000 < bits v 2 14 then none
  else some { k with lowEn := bit v 0, quietEn := bit v 1, idleUs := bits v 2 14 }

/-- FAB of link die `d` (Tables 12-5 to 12-7). -/
def State.writeFab (s : State) (path d o v : Nat) : State :=
  if 0x1000 ≤ o && o < 0x1800 then
    (if o % 0x100 = 0x0C then s.writePortCtrl path (8 * d + (o - 0x1000) / 0x100) v else s)
  else if o = 0x10 || o = 0x14 then
    match (s.net.dies.getD d {}).write o v with
    | some k => { s with net := { s.net with dies := s.net.dies.set d k } }
    | none => s.regInvalid path (fabReg d o)
  else s

/-- ETH (Tables 12-8 and 12-9). -/
def State.writeEth (s : State) (o v : Nat) : State :=
  if o = 0x04 then { s with net := { s.net with ethPrio := v &&& 0x777 } }
  else if 0x1000 ≤ o && o < 0x1800 && o % 0x100 = 4 then
    { s with net := { s.net with eth := updAt s.net.eth ((o - 0x1000) / 0x100) (fun p => { p with pfcEn := bits v 0 8, ecnEn := bit v 8 }) } }
  else s

/-- A register of a class; none where R377 refuses the write: a RATE above the line rate, a WEIGHT of 0. -/
def ShapeClass.write (k : ShapeClass) (line o v : Nat) : Option ShapeClass :=
  match o with
  | 0x0 => if line < bits v 0 21 then none else some { k with rate := bits v 0 21, en := bit v 31 }
  | 0x4 => some { k with burst := bits v 0 24 }
  | 0x8 => if bits v 8 8 = 0 then none else some { k with prio := bits v 0 3, weight := bits v 8 8 }
  | _ => some k

/-- A plain register of a shaped port: SHP_PORT_CFG, the admin base time, an admin entry. -/
def Shaper.write (h : Shaper) (o v : Nat) : Shaper :=
  if 0x800 ≤ o && o < 0x1000 then
    let i := (o - 0x800) / 8
    let g := h.admin.get {} i
    { h with admin := h.admin.set {} i (if o % 8 = 0 then { g with gates := bits v 0 16 } else { g with ns := v }) }
  else match o with
    | 0x00 => { h with overhead := bits v 0 6, gateEn := bit v 6 }
    | 0x08 => { h with base := setBits h.base 0 32 v }
    | 0x0C => { h with base := setBits h.base 32 32 v }
    | _ => h

/-- SHP (Table 12-11, R377). -/
def State.writeShp (s : State) (path sp o v : Nat) : State :=
  let h := s.shaper sp
  if o = 0x04 then s.writeGclCtrl sp v
  else if 0x100 ≤ o && o < 0x200 then
    let c := (o - 0x100) / 0x10
    match (h.classes.getD c {}).write (if sp < 16 then 1600000 else 800000) (o % 0x10) v with
    | some k => s.setShaper sp { h with classes := h.classes.set c k }
    | none => s.regInvalid path (shpReg sp o)
  else (s.setShaper sp (h.write o v)).serve sp

/-- Offsets from RMA upward. -/
def State.writeHigh (s : State) (path a v : Nat) : State :=
  if a < 0xA00000 then s
  else if a < 0xB00000 then s.writeRma path (a - 0xA00000) v
  else if a < 0xC00000 then s.writeFab path ((a - 0xB00000) / 0x80000) (a % 0x80000) v
  else if a < 0xD00000 then s.writeEth (a - 0xC00000) v
  else if a < 0xE00000 then
    (if 0xD10000 ≤ a && a < 0xD28000 then s.writeShp path ((a - 0xD10000) / 0x1000) (a % 0x1000) v else s)
  else if a = 0xE00004 then { s with tst := { s.tst with en := bits v 0 8 } }
  else s

/-! ## Rows -/

/-- A write of an aligned register: `v` its 32 bits, `sigOk` the verdict on SEC_BIND_SIG where the write sets GO. DEDUCED, log 41. -/
def State.writeReg (s : State) (path a v : Nat) (sigOk : Bool) : State :=
  s.gated path a (fun s =>
    if isSnap a then s.writeSnap a v
    else if a < 0x100000 then s.writeHub path a v sigOk
    else if a < 0x800000 then s.writeMid path a v
    else s.writeHigh path a v)

/-- `REGISTER_WRITE` (R10): an aligned write of a register. -/
def execRegisterWrite (path addr v : Nat) (sigOk : Bool) (s : State) : Host.Outcome State Fault Refusal :=
  .next (if addr % 4 = 0 then s.writeReg path addr (bits v 0 32) sigOk else s)

/-- The endpoint's SPDM session was made with the leaf of a valid installer credential (R443, R561). -/
def State.installerSession (s : State) (eid : Nat) : Bool :=
  match s.sec.sessions.find eid with
  | some leaf => s.sec.creds.vals.any (fun c => c.role == 2 && s.credValid c && c.leaf == leaf)
  | none => false

/-- `MCTP_REGISTER_WRITE` (R443). DEDUCED, log 46. -/
def execMctpRegisterWrite (eid off v : Nat) (sigOk : Bool) (s : State) : Host.Outcome State Fault Refusal :=
  .next (if !s.alive then s
    else if badOffset off || !s.installerSession eid then s.mctpRefused off 0
    else (s.writeReg 1 off (bits v 0 32) sigOk).emit (.mctpRegister 0 0))

end Sys2Proof.Machine
end

