-- ==== Sys2Proof/Machine/Dispatch.lean ====
section
/-! DEFINITION. One arm per command: what each command does to everything but the queue. -/

namespace Sys2Proof.Machine

def exec (i : Instr) (s : State) : Host.Outcome State Fault Refusal :=
  match i with
  | .identify x => Sys2Proof.Machine.execIdentify x s
  | .networkSet x => Sys2Proof.Machine.execNetworkSet x s
  | .partnerSet x => Sys2Proof.Machine.execPartnerSet x s
  | .liveServiceSet x => Sys2Proof.Machine.execLiveServiceSet x s
  | .liveServiceRemove x => Sys2Proof.Machine.execLiveServiceRemove x s
  | .recipeLoad x => Sys2Proof.Machine.execRecipeLoad x s
  | .recipeReplace x => Sys2Proof.Machine.execRecipeReplace x s
  | .recipeUnload x => Sys2Proof.Machine.execRecipeUnload x s
  | .imageLoad x => Sys2Proof.Machine.execImageLoad x s
  | .imageUnload x => Sys2Proof.Machine.execImageUnload x s
  | .jobStart x => Sys2Proof.Machine.execJobStart x s
  | .jobEnd x => Sys2Proof.Machine.execJobEnd x s
  | .epochPlan x => Sys2Proof.Machine.execEpochPlan x s
  | .paramTable x => Sys2Proof.Machine.execParamTable x s
  | .paramRing x => Sys2Proof.Machine.execParamRing x s
  | .jobTakeover x => Sys2Proof.Machine.execJobTakeover x s
  | .jobResume x => Sys2Proof.Machine.execJobResume x s
  | .jobLeave x => Sys2Proof.Machine.execJobLeave x s
  | .cursorReset x => Sys2Proof.Machine.execCursorReset x s
  | .jobQuery x => Sys2Proof.Machine.execJobQuery x s
  | .planReissue x => Sys2Proof.Machine.execPlanReissue x s
  | .poolConfig x => Sys2Proof.Machine.execPoolConfig x s
  | .poolThreshold x => Sys2Proof.Machine.execPoolThreshold x s
  | .poolAudit x => Sys2Proof.Machine.execPoolAudit x s
  | .bankOwn x => Sys2Proof.Machine.execBankOwn x s
  | .bankState x => Sys2Proof.Machine.execBankState x s
  | .bankRetire x => Sys2Proof.Machine.execBankRetire x s
  | .compress x => Sys2Proof.Machine.execCompress x s
  | .decompress x => Sys2Proof.Machine.execDecompress x s
  | .nsCreate x => Sys2Proof.Machine.execNsCreate x s
  | .nsDelete x => Sys2Proof.Machine.execNsDelete x s
  | .nsSeal x => Sys2Proof.Machine.execNsSeal x s
  | .replicaSet x => Sys2Proof.Machine.execReplicaSet x s
  | .dieRetire x => Sys2Proof.Machine.execDieRetire x s
  | .sanitize x => Sys2Proof.Machine.execSanitize x s
  | .budgetSet x => Sys2Proof.Machine.execBudgetSet x s
  | .freqAnnounce x => Sys2Proof.Machine.execFreqAnnounce x s
  | .restartAfterStop x => Sys2Proof.Machine.execRestartAfterStop x s
  | .selftest x => Sys2Proof.Machine.execSelftest x s
  | .testRun x => Sys2Proof.Machine.execTestRun x s
  | .engineBypass x => Sys2Proof.Machine.execEngineBypass x s
  | .tileDrain x => Sys2Proof.Machine.execTileDrain x s
  | .tileRejoin x => Sys2Proof.Machine.execTileRejoin x s
  | .columnRepair x => Sys2Proof.Machine.execColumnRepair x s
  | .pitClear x => Sys2Proof.Machine.execPitClear x s
  | .credSet x => Sys2Proof.Machine.execCredSet x s
  | .credClear x => Sys2Proof.Machine.execCredClear x s
  | .signkeyTrust x => Sys2Proof.Machine.execSignkeyTrust x s
  | .signkeyRevoke x => Sys2Proof.Machine.execSignkeyRevoke x s
  | .auditRead x => Sys2Proof.Machine.execAuditRead x s
  | .debugUnlock x => Sys2Proof.Machine.execDebugUnlock x s
  | .decommission x => Sys2Proof.Machine.execDecommission x s
  | .updStage x => Sys2Proof.Machine.execUpdStage x s
  | .updVerify x => Sys2Proof.Machine.execUpdVerify x s
  | .updActivate x => Sys2Proof.Machine.execUpdActivate x s
  | .ucodeApply x => Sys2Proof.Machine.execUcodeApply x s
  | .evtRead x => Sys2Proof.Machine.execEvtRead x s
  | .evtSubscribe x => Sys2Proof.Machine.execEvtSubscribe x s
  | .telemetryGet x => Sys2Proof.Machine.execTelemetryGet x s
  | .destBind x => Sys2Proof.Machine.execDestBind x s
  | .slotCancel x => Sys2Proof.Machine.execSlotCancel x s
  | .windowOpen x => Sys2Proof.Machine.execWindowOpen x s
  | .windowClose x => Sys2Proof.Machine.execWindowClose x s
  | .windowRekey x => Sys2Proof.Machine.execWindowRekey x s
  | .rmaWrite x => Sys2Proof.Machine.execRmaWrite x s
  | .rmaRead x => Sys2Proof.Machine.execRmaRead x s
  | .portService x => Sys2Proof.Machine.execPortService x s
  | .cmdSqTailWrite path ring v => Sys2Proof.Machine.execCmdSqTailWrite path ring v s
  | .ringEntryFetch ring entry => Sys2Proof.Machine.execRingEntryFetch ring entry s
  | .cmdCqHeadWrite path ring v => Sys2Proof.Machine.execCmdCqHeadWrite path ring v s
  | .cmdRingCfgWrite path ring v => Sys2Proof.Machine.execCmdRingCfgWrite path ring v s
  | .cmdPringTailWrite path j v => Sys2Proof.Machine.execCmdPringTailWrite path j v s
  | .deferredCommandAccept idx => Sys2Proof.Machine.execDeferredCommandAccept idx s
  | .forwardReceipt seq => Sys2Proof.Machine.execForwardReceipt seq s
  | .forwardedCompletion seq r => Sys2Proof.Machine.execForwardedCompletion seq r s
  | .fabTimeout seq now => Sys2Proof.Machine.execFabTimeout seq now s
  | .fabUnreachable seq now => Sys2Proof.Machine.execFabUnreachable seq now s
  | .mctpRegisterRead eid kind off => Sys2Proof.Machine.execMctpRegisterRead eid kind off s
  | .mctpRegisterWrite eid off v sigOk => Sys2Proof.Machine.execMctpRegisterWrite eid off v sigOk s
  | .spdmRequest eid code arg leaf ok => Sys2Proof.Machine.execSpdmRequest eid code arg leaf ok s
  | .pldmBudget w => Sys2Proof.Machine.execPldmBudget w s
  | .registerWrite path addr v sigOk => Sys2Proof.Machine.execRegisterWrite path addr v sigOk s
  | .invalidRegisterAccess path addr size write => Sys2Proof.Machine.execInvalidRegisterAccess path addr size write s
  | .rcCounterRead path addr => Sys2Proof.Machine.execRcCounterRead path addr s
  | .counterPairLoRead path addr => Sys2Proof.Machine.execCounterPairLoRead path addr s
  | .counterPairHiRead path addr => Sys2Proof.Machine.execCounterPairHiRead path addr s
  | .snapWrite path addr v => Sys2Proof.Machine.execSnapWrite path addr v s
  | .brmEvalGo path v => Sys2Proof.Machine.execBrmEvalGo path v s
  | .brmEvalDone => Sys2Proof.Machine.execBrmEvalDone s
  | .tschDrain path tile v => Sys2Proof.Machine.execTschDrain path tile v s
  | .tschRejoin path tile v => Sys2Proof.Machine.execTschRejoin path tile v s
  | .tileDrained tile => Sys2Proof.Machine.execTileDrained tile s
  | .bnkLock path die v => Sys2Proof.Machine.execBnkLock path die v s
  | .bnkOwnWrite path die bank v => Sys2Proof.Machine.execBnkOwnWrite path die bank v s
  | .bankHandoverComplete die bank => Sys2Proof.Machine.execBankHandoverComplete die bank s
  | .bnkStateWrite path die bank v => Sys2Proof.Machine.execBnkStateWrite path die bank v s
  | .bankTransitionComplete die bank => Sys2Proof.Machine.execBankTransitionComplete die bank s
  | .poolAuditGo path v => Sys2Proof.Machine.execPoolAuditGo path v s
  | .leakAuditComplete => Sys2Proof.Machine.execLeakAuditComplete s
  | .fabPortRetrain path f v => Sys2Proof.Machine.execFabPortRetrain path f v s
  | .fabPortRecal path f v => Sys2Proof.Machine.execFabPortRecal path f v s
  | .fabLaneRecal path f v => Sys2Proof.Machine.execFabLaneRecal path f v s
  | .shpGclCommit path sp v => Sys2Proof.Machine.execShpGclCommit path sp v s
  | .gclBaseTimeReached sp now => Sys2Proof.Machine.execGclBaseTimeReached sp now s
  | .shaperRefill now => Sys2Proof.Machine.execShaperRefill now s
  | .updWindowWrite path off v => Sys2Proof.Machine.execUpdWindowWrite path off v s
  | .evtFatalClear path v => Sys2Proof.Machine.execEvtFatalClear path v s
  | .secBindStart path v => Sys2Proof.Machine.execSecBindStart path v s
  | .secBindGo path v sigOk => Sys2Proof.Machine.execSecBindGo path v sigOk s
  | .tstCtrlWrite path v => Sys2Proof.Machine.execTstCtrlWrite path v s
  | .paramRecordReceive fromRing j rec => Sys2Proof.Machine.execParamRecordReceive fromRing j rec s
  | .paramMissing n now => Sys2Proof.Machine.execParamMissing n now s
  | .countEntryReceive rank jobId epoch digest counts => Sys2Proof.Machine.execCountEntryReceive rank jobId epoch digest counts s
  | .stepEntryReceive rank jobId epoch entries => Sys2Proof.Machine.execStepEntryReceive rank jobId epoch entries s
  | .planRecordReceive jobId epoch rec => Sys2Proof.Machine.execPlanRecordReceive jobId epoch rec s
  | .endMarkerReceive rank jobId epoch count => Sys2Proof.Machine.execEndMarkerReceive rank jobId epoch count s
  | .planScanComplete jobId epoch rank => Sys2Proof.Machine.execPlanScanComplete jobId epoch rank s
  | .abortMessageReceive rank jobId epoch lost => Sys2Proof.Machine.execAbortMessageReceive rank jobId epoch lost s
  | .sampleAdmit jobId epoch idx tile => Sys2Proof.Machine.execSampleAdmit jobId epoch idx tile s
  | .fetchReadComplete idx => Sys2Proof.Machine.execFetchReadComplete idx s
  | .replicaFetchRequest dev nsid off len => Sys2Proof.Machine.execReplicaFetchRequest dev nsid off len s
  | .replicaFetchResponse idx dev data => Sys2Proof.Machine.execReplicaFetchResponse idx dev data s
  | .stageComplete idx out => Sys2Proof.Machine.execStageComplete idx out s
  | .refFrameDecoded tile key size takers ok => Sys2Proof.Machine.execRefFrameDecoded tile key size takers ok s
  | .roiResult idx k => Sys2Proof.Machine.execRoiResult idx k s
  | .engineSelfFault tile cls idx => Sys2Proof.Machine.execEngineSelfFault tile cls idx s
  | .memberVerdictReceive jobId epoch step member keep sample => Sys2Proof.Machine.execMemberVerdictReceive jobId epoch step member keep sample s
  | .reservePlacementReceive jobId epoch step member slot => Sys2Proof.Machine.execReservePlacementReceive jobId epoch step member slot s
  | .slotWriteReady jobId index slot dest => Sys2Proof.Machine.execSlotWriteReady jobId index slot dest s
  | .rdmaWriteAck jobId index slot dest => Sys2Proof.Machine.execRdmaWriteAck jobId index slot dest s
  | .consumedWordResponse jobId rank dest value => Sys2Proof.Machine.execConsumedWordResponse jobId rank dest value s
  | .roceAckTimeout qp => Sys2Proof.Machine.execRoceAckTimeout qp s
  | .cnpReceive qp port now => Sys2Proof.Machine.execCnpReceive qp port now s
  | .cePacketReceive qp port now => Sys2Proof.Machine.execCePacketReceive qp port now s
  | .roceRateRecovery qp now => Sys2Proof.Machine.execRoceRateRecovery qp now s
  | .cursorMirrorTimer now => Sys2Proof.Machine.execCursorMirrorTimer now s
  | .mirrorWriteFail jobId => Sys2Proof.Machine.execMirrorWriteFail jobId s
  | .mirrorSetupReceive dev jobId => Sys2Proof.Machine.execMirrorSetupReceive dev jobId s
  | .mirrorSetupReply jobId ok window key => Sys2Proof.Machine.execMirrorSetupReply jobId ok window key s
  | .mirrorSetupRetry now => Sys2Proof.Machine.execMirrorSetupRetry now s
  | .mirrorReleaseReceive dev jobId => Sys2Proof.Machine.execMirrorReleaseReceive dev jobId s
  | .rmaRequestReceive q => Sys2Proof.Machine.execRmaRequestReceive q s
  | .rmaResponseReceive id status data => Sys2Proof.Machine.execRmaResponseReceive id status data s
  | .rmaViolationRemote dev window off len status => Sys2Proof.Machine.execRmaViolationRemote dev window off len status s
  | .rmaTimeout id now => Sys2Proof.Machine.execRmaTimeout id now s
  | .windowCloseComplete window => Sys2Proof.Machine.execWindowCloseComplete window s
  | .fabricPacketReceive f p => Sys2Proof.Machine.execFabricPacketReceive f p s
  | .flowCreditReceive f vc => Sys2Proof.Machine.execFlowCreditReceive f vc s
  | .portTrainingComplete f lanes peer peerPort ver affected now found => Sys2Proof.Machine.execPortTrainingComplete f lanes peer peerPort ver affected now found s
  | .linkDown f affected now lost => Sys2Proof.Machine.execLinkDown f affected now lost s
  | .laneFail f lane affected now lost => Sys2Proof.Machine.execLaneFail f lane affected now lost s
  | .peerLost dev affected now lost => Sys2Proof.Machine.execPeerLost dev affected now lost s
  | .deviceUnreachable dev now => Sys2Proof.Machine.execDeviceUnreachable dev now s
  | .portIdleTimer f load now => Sys2Proof.Machine.execPortIdleTimer f load now s
  | .quietEntryCommit f packet => Sys2Proof.Machine.execQuietEntryCommit f packet s
  | .quietExitComplete f => Sys2Proof.Machine.execQuietExitComplete f s
  | .quietKeepalive now => Sys2Proof.Machine.execQuietKeepalive now s
  | .linkDelayExchange f now hops corr source => Sys2Proof.Machine.execLinkDelayExchange f now hops corr source s
  | .ptpMessageReceive q offset => Sys2Proof.Machine.execPtpMessageReceive q offset s
  | .timeHoldover => Sys2Proof.Machine.execTimeHoldover s
  | .pfcFrameReceive q prio pause => Sys2Proof.Machine.execPfcFrameReceive q prio pause s
  | .liveDatagramReceive service data raps => Sys2Proof.Machine.execLiveDatagramReceive service data raps s
  | .nandOpComplete die ok block soft bad => Sys2Proof.Machine.execNandOpComplete die ok block soft bad s
  | .dieUnresponsive die bad => Sys2Proof.Machine.execDieUnresponsive die bad s
  | .journalFlushTimer now => Sys2Proof.Machine.execJournalFlushTimer now s
  | .checkpointTimer now => Sys2Proof.Machine.execCheckpointTimer now s
  | .patrolReadTimer die read soft bad => Sys2Proof.Machine.execPatrolReadTimer die read soft bad s
  | .foldComplete fill reserve ok => Sys2Proof.Machine.execFoldComplete fill reserve ok s
  | .holdupSample v => Sys2Proof.Machine.execHoldupSample v s
  | .holdupEvaluation now => Sys2Proof.Machine.execHoldupEvaluation now s
  | .nvmeDoorbellWrite isCq q v now => Sys2Proof.Machine.execNvmeDoorbellWrite isCq q v now s
  | .nvmeWrite c => Sys2Proof.Machine.execNvmeWrite c s
  | .writePieceAdmit => Sys2Proof.Machine.execWritePieceAdmit s
  | .nvmeRead c => Sys2Proof.Machine.execNvmeRead c s
  | .nvmeFlush c => Sys2Proof.Machine.execNvmeFlush c s
  | .nvmeWriteZeroes c => Sys2Proof.Machine.execNvmeWriteZeroes c s
  | .nvmeDatasetManagement c => Sys2Proof.Machine.execNvmeDatasetManagement c s
  | .nvmeVerify c => Sys2Proof.Machine.execNvmeVerify c s
  | .nvmeAbort c => Sys2Proof.Machine.execNvmeAbort c s
  | .nvmeFormatNvm c => Sys2Proof.Machine.execNvmeFormatNvm c s
  | .nvmeSanitize c => Sys2Proof.Machine.execNvmeSanitize c s
  | .nvmeDeviceSelfTest c => Sys2Proof.Machine.execNvmeDeviceSelfTest c s
  | .nvmeIdentify c => Sys2Proof.Machine.execNvmeIdentify c s
  | .nvmeGetLogPage c => Sys2Proof.Machine.execNvmeGetLogPage c s
  | .nvmeSetFeatures c => Sys2Proof.Machine.execNvmeSetFeatures c s
  | .nvmeGetFeatures c => Sys2Proof.Machine.execNvmeGetFeatures c s
  | .nvmeAsyncEventRequest c => Sys2Proof.Machine.execNvmeAsyncEventRequest c s
  | .nvmeKeepAlive c => Sys2Proof.Machine.execNvmeKeepAlive c s
  | .nvmeCreateQueue c => Sys2Proof.Machine.execNvmeCreateQueue c s
  | .nvmeDeleteQueue c => Sys2Proof.Machine.execNvmeDeleteQueue c s
  | .nvmeUnsupportedOpcode c => Sys2Proof.Machine.execNvmeUnsupportedOpcode c s
  | .nvmeCcWrite v => Sys2Proof.Machine.execNvmeCcWrite v s
  | .nvmeShutdownComplete => Sys2Proof.Machine.execNvmeShutdownComplete s
  | .nvmePowerStateCommit now => Sys2Proof.Machine.execNvmePowerStateCommit now s
  | .nvmePowerStateExit => Sys2Proof.Machine.execNvmePowerStateExit s
  | .selftestComplete bad seg => Sys2Proof.Machine.execSelftestComplete bad seg s
  | .sanitizeComplete => Sys2Proof.Machine.execSanitizeComplete s
  | .pf0Flr => Sys2Proof.Machine.execPf0Flr s
  | .pf1Flr => Sys2Proof.Machine.execPf1Flr s
  | .perstAssert => Sys2Proof.Machine.execPerstAssert s
  | .pcieLinkDown => Sys2Proof.Machine.execPcieLinkDown s
  | .pcieLinkUp => Sys2Proof.Machine.execPcieLinkUp s
  | .currantTokenRefresh now => Sys2Proof.Machine.execCurrantTokenRefresh now s
  | .tokenGrant => Sys2Proof.Machine.execTokenGrant s
  | .clockStepEvaluation now avg avg10 outside => Sys2Proof.Machine.execClockStepEvaluation now avg avg10 outside s
  | .thermalLimitUpdate now readings => Sys2Proof.Machine.execThermalLimitUpdate now readings s
  | .peakClamp us => Sys2Proof.Machine.execPeakClamp us s
  | .boostEnd idx temp => Sys2Proof.Machine.execBoostEnd idx temp s
  | .boostCooldownStep now => Sys2Proof.Machine.execBoostCooldownStep now s
  | .boostRearm now => Sys2Proof.Machine.execBoostRearm now s
  | .thermtrip idx temp => Sys2Proof.Machine.execThermtrip idx temp s
  | .prochotChange low => Sys2Proof.Machine.execProchotChange low s
  | .heldFreqTimeReached jobId now => Sys2Proof.Machine.execHeldFreqTimeReached jobId now s
  | .heldModeLeft now => Sys2Proof.Machine.execHeldModeLeft now s
  | .coolantStop => Sys2Proof.Machine.execCoolantStop s
  | .coolantFlowReturn => Sys2Proof.Machine.execCoolantFlowReturn s
  | .coolantFlushEnd done => Sys2Proof.Machine.execCoolantFlushEnd done s
  | .domainIdleTimer d now => Sys2Proof.Machine.execDomainIdleTimer d now s
  | .domainPowerDownCommit d work now => Sys2Proof.Machine.execDomainPowerDownCommit d work now s
  | .domainWakeComplete d => Sys2Proof.Machine.execDomainWakeComplete d s
  | .clkLoss m now => Sys2Proof.Machine.execClkLoss m now s
  | .clkRestored m ppm => Sys2Proof.Machine.execClkRestored m ppm s
  | .clkHoldoverExpiry now => Sys2Proof.Machine.execClkHoldoverExpiry now s
  | .pwrFailAssert => Sys2Proof.Machine.execPwrFailAssert s
  | .holdupFlushComplete powerBack => Sys2Proof.Machine.execHoldupFlushComplete powerBack s
  | .mainRailLoss => Sys2Proof.Machine.execMainRailLoss s
  | .mainRailsValid => Sys2Proof.Machine.execMainRailsValid s
  | .standbyRailsApply strap => Sys2Proof.Machine.execStandbyRailsApply strap s
  | .warmReset cause => Sys2Proof.Machine.execWarmReset cause s
  | .startStepComplete k now out => Sys2Proof.Machine.execStartStepComplete k now out s
  | .bootWatchdogExpiry now => Sys2Proof.Machine.execBootWatchdogExpiry now s
  | .liveActivationReady now => Sys2Proof.Machine.execLiveActivationReady now s
  | .recoveryComplete jobId => Sys2Proof.Machine.execRecoveryComplete jobId s
  | .eventIrqHoldoffExpiry now => Sys2Proof.Machine.execEventIrqHoldoffExpiry now s
  | .testSliceStart tile cls idx now => Sys2Proof.Machine.execTestSliceStart tile cls idx now s
  | .testSliceComplete tile cls idx ok sub col ue now => Sys2Proof.Machine.execTestSliceComplete tile cls idx ok sub col ue now s
  | .testDomainWakeTimer d now => Sys2Proof.Machine.execTestDomainWakeTimer d now s
  | .compressionJobComplete idx => Sys2Proof.Machine.execCompressionJobComplete idx s
  | .credentialExpiry slot now => Sys2Proof.Machine.execCredentialExpiry slot now s
  | .firstTimeLock now => Sys2Proof.Machine.execFirstTimeLock now s
  | .perstDeassert now => Sys2Proof.Machine.execPerstDeassert now s
  | .standbyRailsRemove => Sys2Proof.Machine.execStandbyRailsRemove s
  | .hubUnitFault unit => Sys2Proof.Machine.execHubUnitFault unit s
  | .gateIntervalEnd sp now => Sys2Proof.Machine.execGateIntervalEnd sp now s
  | .consumedWordRead jobId rank dest now => Sys2Proof.Machine.execConsumedWordRead jobId rank dest now s
  | .ethPortLinkChange q st => Sys2Proof.Machine.execEthPortLinkChange q st s
  | .liveStreamStop service => Sys2Proof.Machine.execLiveStreamStop service s
  | .pmbusRead rail mv ma temp => Sys2Proof.Machine.execPmbusRead rail mv ma temp s
  | .currentSensorSample w => Sys2Proof.Machine.execCurrentSensorSample w s
  | .configurationRequest pf off => Sys2Proof.Machine.execConfigurationRequest pf off s

end Sys2Proof.Machine
end

