-- ==== Sys2Proof/Safety.lean ====
section
/-! DEFINITION. The terms in which claims about the block are made: when a command packet's turn has come
(R438), how an accepted packet completes (R445, R572), what no command may change, and the canonical form
of the tables. -/

namespace Sys2Proof.Machine

/-! ## Command packets -/

/-- The state from which the command's own checks and effect start, once the packet passed steps 1 to 5 of
R438: the receipt of a forwarded packet sent, the credential check's events raised. -/
def State.own (s : State) (x : CmdIn) : State := (s.receipt x).noteCred x

/-- The packet `x` is taken in state `s`, its turn has come, and it passes steps 1 to 5 of R438 and the
order of R448: its waiter, and the state from which its own checks and effect start. None where the packet
is not taken, is forwarded, repeats a recorded command (R451), waits, or is turned down before step 6. -/
def State.turn (s : State) (sp : OpSpec) (x : CmdIn) : Option (Waiter × State) :=
  match s.take sp.opcode x with
  | none => none
  | some (w, s₀) =>
    if s₀.forwards x then none
    else if x.pkt.retry && (s₀.receipt x).retryOf w != .new then none
    else if !(s₀.receipt x).ready w || ((s₀.receipt x).checks sp x).isSome || (s₀.own x).orderFailed w then none
    else some (w, s₀.own x)

/-- The audit record of an audited command is written before its effect, and can be (R572, R574). -/
def auditable (sp : OpSpec) (x : CmdIn) : Prop := sp.audited = true → x.auditOk = true

/-- The packet's turn has come (as `State.turn` says), and its audit record can be written where one is due. -/
def State.takes (s : State) (sp : OpSpec) (x : CmdIn) (w : Waiter) (u : State) : Prop :=
  s.turn sp x = some (w, u) ∧ auditable sp x

/-- From `u` the command has the effect `t` and completes with `r`: audited where Table 15-3 and R572 say
so, recorded, posted, and its retries with it. -/
def State.completes (u : State) (sp : OpSpec) (w : Waiter) (r : Result) (t : State) : State :=
  (if sp.audited then t.audit (u.auditOf w r.status) else t).complete w r

/-- From `u` the command is accepted with the effect `t` and goes on running: audited with status 0. -/
def State.starts (u : State) (sp : OpSpec) (w : Waiter) (t : State) : State :=
  if sp.audited then t.audit (u.auditOf w 0) else t

/-! ## Register access -/

/-- A write on an access path reaches the register at an offset (R24 to R26): the management cores run, for
PF1 the host link is up, in Pit mode the block is one of the four, and the block is powered. -/
def State.passes (s : State) (path addr : Nat) : Bool :=
  s.alive && !(path == 0 && !s.hostUp) && !(s.sys.pit && !pitBlock addr) && s.powered addr

/-! ## NVMe commands -/

/-- The entry `c` of an NVMe queue is taken in `s` and its own effect starts from `t`, its place in the queue
freed (R415, R418, R419): the controller is ready and the host link up, no Pit mode, and for an I/O command
no shutdown, no sanitize, and the media ready and the power state operational. -/
def State.nvmeTakes (s : State) (c : NvmeIn) (io : Bool) (t : State) : Prop :=
  s.alive = true ∧ s.nvme.linkUp = true ∧ s.nvme.rdy = true ∧ s.sys.pit = false ∧ (c.sq != 0) = io ∧
  (∃ v, s.nvme.takeFrom c.sq = some v ∧ t = { s with nvme := v }) ∧
  (io = true → t.nvme.shst = 0 ∧ t.med.sanitize = none ∧ t.ioHeld = false)

/-! ## Byte memories -/

/-- Every byte memory has its canonical form: addresses rising, no byte listed that reads 0. The settings in force
and of the last start, the two copies in flash, the update window, the bank memory, every chain and namespace. -/
def State.memoriesWf (s : State) : Bool :=
  s.set.wf 0 && s.run.wf 0 && s.upd.setA.body.wf 0 && s.upd.setB.body.wf 0 && s.upd.window.wf 0 && s.mem.sram.wf 0
    && s.mem.chains.all (fun c => c.2.bytes.wf 0) && s.med.spaces.all (fun n => n.2.bytes.wf 0)

/-! ## Families of rows -/

/-- The rows of the table in families that leave the same parts of the state alone. -/
inductive Family where
  /-- Rows that may reset the device, in whole or by failing its start; and the row that runs any waiting command. -/
  | restart
  /-- Register writes by path, and register access over MCTP. -/
  | registers
  /-- Snapshots, counter pairs, read-and-clear counters, invalid accesses. -/
  | copies
  /-- Identity, network, partner, live services, events, telemetry, credentials, keys and updates. -/
  | device
  /-- Recipes and images. -/
  | recipes
  /-- Jobs, plans, parameters, recovery, slots and destinations. -/
  | jobs
  /-- Pools, banks, columns and compression. -/
  | pools
  /-- Namespaces, NAND and the media timers. -/
  | media
  /-- Budget, frequency, tokens, clock steps, boost, domains and clock monitors. -/
  | power
  /-- Coolant stop, power failure and the restart after them. -/
  | stops
  /-- Tiles, bypass and background tests. -/
  | tests
  /-- Command rings and forwarded packets. -/
  | rings
  /-- Sessions, bindings, expiry and event signals. -/
  | security
  /-- The expression unit. -/
  | brm
  /-- Bank registers, audits and compression ends. -/
  | banks
  /-- Ports, packets, quiet states, time and Ethernet. -/
  | fabric
  /-- Links and peers that come and go. -/
  | links
  /-- Gate lists and refills. -/
  | shaping
  /-- Plan messages. -/
  | plans
  /-- Samples, their records and batch messages. -/
  | samples
  /-- Slot writes and consumed words. -/
  | delivery
  /-- Congestion. -/
  | roce
  /-- Remote memory and mirrors. -/
  | remote
  /-- Live streams. -/
  | live
  /-- NVMe I/O. -/
  | nvmeIo
  /-- NVMe administration. -/
  | nvmeAdmin
  /-- Host link and function resets. -/
  | host
  deriving DecidableEq, Repr

/-- The family of a row. -/
def family (i : Instr) : Family :=
  match i with
  | .pitClear .. | .debugUnlock .. | .updActivate .. | .deferredCommandAccept .. | .hubUnitFault ..
  | .mainRailLoss .. | .mainRailsValid .. | .standbyRailsApply .. | .standbyRailsRemove .. | .warmReset ..
  | .startStepComplete .. | .bootWatchdogExpiry .. => .restart
  | .registerWrite .. | .mctpRegisterWrite .. | .mctpRegisterRead .. => .registers
  | .snapWrite .. | .counterPairLoRead .. | .counterPairHiRead .. | .rcCounterRead .. | .invalidRegisterAccess .. => .copies
  | .identify .. | .networkSet .. | .partnerSet .. | .liveServiceSet .. | .liveServiceRemove .. | .evtRead ..
  | .evtSubscribe .. | .telemetryGet .. | .portService .. | .auditRead .. | .credSet .. | .credClear ..
  | .signkeyTrust .. | .signkeyRevoke .. | .decommission .. | .updStage .. | .updVerify .. | .ucodeApply .. => .device
  | .recipeLoad .. | .recipeReplace .. | .recipeUnload .. | .imageLoad .. | .imageUnload .. => .recipes
  | .jobStart .. | .jobEnd .. | .epochPlan .. | .paramTable .. | .paramRing .. | .jobTakeover .. | .jobResume ..
  | .jobLeave .. | .cursorReset .. | .jobQuery .. | .planReissue .. | .slotCancel .. | .destBind .. => .jobs
  | .poolConfig .. | .poolThreshold .. | .poolAudit .. | .bankOwn .. | .bankState .. | .bankRetire ..
  | .columnRepair .. | .compress .. | .decompress .. => .pools
  | .nsCreate .. | .nsDelete .. | .nsSeal .. | .replicaSet .. | .dieRetire .. | .sanitize .. | .selftest ..
  | .sanitizeComplete .. | .selftestComplete .. | .nandOpComplete .. | .dieUnresponsive .. | .journalFlushTimer ..
  | .checkpointTimer .. | .patrolReadTimer .. | .foldComplete .. | .holdupSample .. | .holdupEvaluation ..
  | .writePieceAdmit .. | .replicaFetchRequest .. => .media
  | .budgetSet .. | .freqAnnounce .. | .currantTokenRefresh .. | .tokenGrant .. | .clockStepEvaluation ..
  | .thermalLimitUpdate .. | .peakClamp .. | .boostEnd .. | .boostCooldownStep .. | .boostRearm .. | .thermtrip ..
  | .prochotChange .. | .heldFreqTimeReached .. | .heldModeLeft .. | .domainIdleTimer .. | .domainPowerDownCommit ..
  | .domainWakeComplete .. | .clkLoss .. | .clkRestored .. | .clkHoldoverExpiry .. | .pldmBudget .. | .pmbusRead ..
  | .currentSensorSample .. => .power
  | .restartAfterStop .. | .coolantStop .. | .coolantFlowReturn .. | .coolantFlushEnd .. | .pwrFailAssert ..
  | .holdupFlushComplete .. => .stops
  | .testRun .. | .engineBypass .. | .tileDrain .. | .tileRejoin .. | .tschDrain .. | .tschRejoin ..
  | .tileDrained .. | .tstCtrlWrite .. | .testSliceStart .. | .testSliceComplete .. | .testDomainWakeTimer ..
  | .engineSelfFault .. => .tests
  | .cmdSqTailWrite .. | .ringEntryFetch .. | .cmdCqHeadWrite .. | .cmdRingCfgWrite .. | .cmdPringTailWrite ..
  | .forwardReceipt .. | .forwardedCompletion .. | .fabTimeout .. | .fabUnreachable .. => .rings
  | .spdmRequest .. | .secBindStart .. | .secBindGo .. | .credentialExpiry .. | .firstTimeLock .. | .evtFatalClear ..
  | .eventIrqHoldoffExpiry .. | .updWindowWrite .. => .security
  | .brmEvalGo .. | .brmEvalDone .. => .brm
  | .bnkLock .. | .bnkOwnWrite .. | .bankHandoverComplete .. | .bnkStateWrite .. | .bankTransitionComplete ..
  | .poolAuditGo .. | .leakAuditComplete .. | .compressionJobComplete .. => .banks
  | .fabPortRetrain .. | .fabPortRecal .. | .fabLaneRecal .. | .fabricPacketReceive .. | .flowCreditReceive ..
  | .portIdleTimer .. | .quietEntryCommit .. | .quietExitComplete .. | .quietKeepalive .. | .linkDelayExchange ..
  | .ptpMessageReceive .. | .timeHoldover .. | .pfcFrameReceive .. | .ethPortLinkChange .. => .fabric
  | .portTrainingComplete .. | .linkDown .. | .laneFail .. | .peerLost .. | .deviceUnreachable .. => .links
  | .shpGclCommit .. | .gclBaseTimeReached .. | .shaperRefill .. | .gateIntervalEnd .. => .shaping
  | .countEntryReceive .. | .stepEntryReceive .. | .planRecordReceive .. | .endMarkerReceive ..
  | .planScanComplete .. | .abortMessageReceive .. => .plans
  | .paramRecordReceive .. | .paramMissing .. | .sampleAdmit .. | .fetchReadComplete .. | .replicaFetchResponse ..
  | .stageComplete .. | .refFrameDecoded .. | .roiResult .. | .memberVerdictReceive .. | .reservePlacementReceive .. => .samples
  | .slotWriteReady .. | .rdmaWriteAck .. | .consumedWordResponse .. | .consumedWordRead .. | .roceAckTimeout ..
  | .recoveryComplete .. => .delivery
  | .cnpReceive .. | .cePacketReceive .. | .roceRateRecovery .. => .roce
  | .windowOpen .. | .windowClose .. | .windowRekey .. | .rmaWrite .. | .rmaRead .. | .rmaRequestReceive ..
  | .rmaResponseReceive .. | .rmaViolationRemote .. | .rmaTimeout .. | .windowCloseComplete ..
  | .cursorMirrorTimer .. | .mirrorWriteFail .. | .mirrorSetupReceive .. | .mirrorSetupReply ..
  | .mirrorSetupRetry .. | .mirrorReleaseReceive .. => .remote
  | .liveDatagramReceive .. | .liveStreamStop .. => .live
  | .nvmeWrite .. | .nvmeRead .. | .nvmeFlush .. | .nvmeWriteZeroes .. | .nvmeDatasetManagement .. | .nvmeVerify ..
  | .nvmePowerStateExit .. => .nvmeIo
  | .nvmeDoorbellWrite .. | .nvmeAbort .. | .nvmeFormatNvm .. | .nvmeSanitize .. | .nvmeDeviceSelfTest ..
  | .nvmeIdentify .. | .nvmeGetLogPage .. | .nvmeSetFeatures .. | .nvmeGetFeatures .. | .nvmeAsyncEventRequest ..
  | .nvmeKeepAlive .. | .nvmeCreateQueue .. | .nvmeDeleteQueue .. | .nvmeUnsupportedOpcode .. | .nvmeCcWrite ..
  | .nvmeShutdownComplete .. | .nvmePowerStateCommit .. => .nvmeAdmin
  | .pf0Flr .. | .pf1Flr .. | .perstAssert .. | .perstDeassert .. | .pcieLinkDown .. | .pcieLinkUp ..
  | .configurationRequest .. | .liveActivationReady .. => .host

end Sys2Proof.Machine
end

