-- ==== Sys2Proof/Certificates/Slice0/Obligations.lean ====
section
/-! DEFINITION. The statements about the block, for the provers: what each command does when it completes,
what it leaves alone, how packets are checked, what every step keeps. -/

open Sys2Proof Sys2Proof.Machine

/-- Whenever such a packet's turn has come and its parameters lie in range, exec answers a next state: the
command's registers and tables hold the parameters (each KIND of NETWORK_SET; a partner named or none), the
settings image holds them too, nothing else changes but the audit record and the completion with SUCCESS
(IDENTIFY answers the device number, DL and fabric version). The layout of the NETWORK and LIVE_SERVICES
fields is the model's free value (log 26). (R453, R461, R334, R163, R167) -/
def Obligations.DeviceCommandsComplete : Prop :=
  (∀ (x : CmdIn) (s : State) (w : Waiter) (u : State), s.takes opIdentify x w u → 
    exec (.identify x) s = .next (u.completes opIdentify w { status := 0, r0 := u.self, r1 := packFields [(0, 16, u.sys.dl), (16, 16, u.sys.fabricN)] } u)) ∧
  (∀ (x : CmdIn) (s : State) (w : Waiter) (u : State), s.takes opNetworkSet x w u → x.pkt.f 16 1 = 0 → x.pkt.f 17 1 ≤ 7 → x.pkt.f 18 1 = 4 ∨ x.pkt.f 18 1 = 6 →
    exec (.networkSet x) s = .next (u.completes opNetworkSet w success ((u.updEth (x.pkt.f 17 1) (fun e =>
      { e with ipVersion := x.pkt.f 18 1, prefixLen := x.pkt.f 19 1, vlan := x.pkt.f 20 2, addr := x.pkt.f 24 16 })).networkImage x.pkt))) ∧
  (∀ (x : CmdIn) (s : State) (w : Waiter) (u : State), s.takes opNetworkSet x w u → x.pkt.f 16 1 = 1 → x.pkt.f 17 1 ≤ 7 → bits (x.pkt.f 18 2) 2 2 ≠ 3 →
    exec (.networkSet x) s = .next (u.completes opNetworkSet w success
      (State.networkImage { u with net := { u.net with ptp := x.pkt.f 18 2, ptpLocked := false } } x.pkt))) ∧
  (∀ (x : CmdIn) (s : State) (w : Waiter) (u : State), s.takes opNetworkSet x w u → x.pkt.f 16 1 = 2 → x.pkt.f 17 1 ≤ 7 → x.pkt.f 18 1 = 4 ∨ x.pkt.f 18 1 = 6 →
    exec (.networkSet x) s = .next (u.completes opNetworkSet w success ((u.updEth (x.pkt.f 17 1) (fun e =>
      { e with mcVersion := x.pkt.f 18 1, mcAddr := x.pkt.f 24 16 })).networkImage x.pkt))) ∧
  (∀ (x : CmdIn) (s : State) (w : Waiter) (u : State), s.takes opNetworkSet x w u → x.pkt.f 16 1 = 3 → x.pkt.f 17 1 ≤ 7 → x.pkt.f 20 1 = 4 ∨ x.pkt.f 20 1 = 6 → u.rma.qps.find (x.pkt.f 18 2) = none →
    exec (.networkSet x) s = .next (u.completes opNetworkSet w success
      { u with rma := { u.rma with qps := u.rma.qps.put (x.pkt.f 18 2) (newQueuePair x.pkt 0x2FEA) } })) ∧
  (∀ (x : CmdIn) (s : State) (w : Waiter) (u : State), s.takes opPartnerSet x w u → bit (x.pkt.f 16 2) 15 = false → u.rma.partner = none →
    exec (.partnerSet x) s = .next (u.completes opPartnerSet w success (u.writeSetting 0x58 (leBytes 2 (x.pkt.f 16 2))))) ∧
  (∀ (x : CmdIn) (s : State) (w : Waiter) (u : State), s.takes opPartnerSet x w u → bit (x.pkt.f 16 2) 15 = true → bits (x.pkt.f 16 2) 0 13 < 6144 → bits (x.pkt.f 16 2) 0 13 ≠ u.self →
    exec (.partnerSet x) s = .next (u.completes opPartnerSet w success
      ((u.changePartner (some (bits (x.pkt.f 16 2) 0 13))).writeSetting 0x58 (leBytes 2 (x.pkt.f 16 2))))) ∧
  (∀ (x : CmdIn) (s : State) (w : Waiter) (u : State), s.takes opLiveServiceSet x w u → x.pkt.f 16 2 ≤ 511 → x.pkt.f 18 1 ≤ 7 → u.net.services.find (x.pkt.f 16 2) = none →
    exec (.liveServiceSet x) s = .next (u.completes opLiveServiceSet w success
      ((State.emit { u with net := { u.net with services := u.net.services.put (x.pkt.f 16 2) (newService x.pkt) } }
        ((newService x.pkt).report true)).writeSetting (0x11000 + 32 * x.pkt.f 16 2) (tabulate 32 (Config.serviceImage x.pkt.params.toNat))))) ∧
  (∀ (v : Service) (x : CmdIn) (s : State) (w : Waiter) (u : State), s.takes opLiveServiceRemove x w u → x.pkt.f 16 2 ≤ 511 → u.net.services.find (x.pkt.f 16 2) = some v → u.serviceInUse (x.pkt.f 16 2) = false →
    exec (.liveServiceRemove x) s = .next (u.completes opLiveServiceRemove w success
      ((State.emit { u with net := { u.net with services := u.net.services.del (x.pkt.f 16 2) } } (v.report false)).writeSetting
        (0x11000 + 32 * x.pkt.f 16 2) (zeros 32))))

/-- A recipe whose bytes pass the checks of R106 and R107, whose recipe ID no other held recipe has and whose slot
is empty is stored, and the same recipe loaded again answers SUCCESS_NO_CHANGE with its slot; a replacement
binds from its epoch; an unbound recipe leaves, an empty slot answers SUCCESS_NO_CHANGE. An image that passes
its kind's checks and fits is stored at the lowest free index, a held one answers SUCCESS_NO_CHANGE; an image
no held recipe references leaves. Nothing else changes but the audit record and the completion. (R105, R111,
R112, R226) -/
def Obligations.RecipeAndImageCommandsComplete : Prop :=
  (∀ (n : Namespace) (img : Bytes) (x : CmdIn) (s : State) (w : Waiter) (u : State), s.takes opRecipeLoad x w u → x.pkt.f 16 1 ≤ 31 → 4096 ≤ x.pkt.f 20 4 → x.pkt.f 20 4 ≤ 16777216 →
    u.space (x.pkt.f 32 2) = some n → x.pkt.f 40 8 + 4096 ≤ n.capacity → u.recipeBytes x (x.pkt.f 20 4) = .inr img →
    u.recipes.all (fun r => r.2.digest != sha384 img) = true → u.recipes.has (x.pkt.f 16 1) = false →
    recipeCheck (u.loadEnv (u.imageSigned img x.sigOk) (u.catalogAt (x.pkt.f 32 2) (x.pkt.f 40 8))) img = none →
    u.recipes.all (fun r => field r.2.image 8 4 != field img 8 4) = true →
    exec (.recipeLoad x) s = .next (u.completes opRecipeLoad w { status := 0, r0 := field img 8 4, r1 := x.pkt.f 16 1 }
      { u with recipes := u.recipes.put (x.pkt.f 16 1) { image := img, digest := sha384 img, nsid := x.pkt.f 32 2, offset := x.pkt.f 40 8, signer := signerOf img } })) ∧
  (∀ (slot : Nat) (j : Job) (h : HeldRecipe) (x : CmdIn) (s : State) (w : Waiter) (u : State), s.takes opRecipeReplace x w u → u.jobNamed (x.pkt.f 16 2) = some (slot, j) → u.recipes.find (x.pkt.f 18 1) = some h →
    h.nsid = j.nsid → h.offset = j.catOffset → j.epoch < bits (x.pkt.f 20 4) 0 20 → j.planned (bits (x.pkt.f 20 4) 0 20) = false →
    exec (.recipeReplace x) s = .next (u.completes opRecipeReplace w success (u.setJob slot
      { j with bindings := j.bindings.filter (fun b => b.1 != bits (x.pkt.f 20 4) 0 20) ++ [(bits (x.pkt.f 20 4) 0 20, x.pkt.f 18 1)] }))) ∧
  (∀ (x : CmdIn) (s : State) (w : Waiter) (u : State), s.takes opRecipeUnload x w u → x.pkt.f 16 1 ≤ 31 → u.recipes.has (x.pkt.f 16 1) = true → u.jobs.any (fun j => j.2.binds (x.pkt.f 16 1)) = false →
    exec (.recipeUnload x) s = .next (u.completes opRecipeUnload w success { u with recipes := u.recipes.del (x.pkt.f 16 1) })) ∧
  (∀ (x : CmdIn) (s : State) (w : Waiter) (u : State), s.takes opRecipeUnload x w u → x.pkt.f 16 1 ≤ 31 → u.recipes.has (x.pkt.f 16 1) = false →
    exec (.recipeUnload x) s = .next (u.completes opRecipeUnload w { status := 1 } u)) ∧
  (∀ (img : Bytes) (i : Nat) (x : CmdIn) (s : State) (w : Waiter) (u : State), s.takes opImageLoad x w u → 0 < x.pkt.f 20 4 → x.pkt.f 20 4 ≤ imageLimit x.pkt.unit →
    u.sourceBytes x 17 18 24 (x.pkt.f 20 4) = .inr img → (u.images x.pkt.unit).all (fun h => h.2.digest != sha384 img) = true →
    imageCheck x.pkt.unit img (u.imageSigned img x.sigOk) = 0 → u.imageFits x.pkt.unit img = true →
    (u.images x.pkt.unit).free (imageCount x.pkt.unit) = some i →
    exec (.imageLoad x) s = .next (u.completes opImageLoad w { status := 0, r0 := i, r1 := field (sha384 img) 0 4 }
      (u.setImages x.pkt.unit ((u.images x.pkt.unit).put i { image := img, digest := sha384 img, signer := signerOf img })))) ∧
  (∀ (h : HeldImage) (x : CmdIn) (s : State) (w : Waiter) (u : State), s.takes opImageUnload x w u → x.pkt.f 16 1 < imageCount x.pkt.unit → (u.images x.pkt.unit).find (x.pkt.f 16 1) = some h →
    u.imageInUse x.pkt.unit h = false →
    exec (.imageUnload x) s = .next (u.completes opImageUnload w success (u.setImages x.pkt.unit ((u.images x.pkt.unit).del (x.pkt.f 16 1))))) ∧
  (∀ (x : CmdIn) (s : State) (w : Waiter) (u : State), s.takes opImageUnload x w u → x.pkt.f 16 1 < imageCount x.pkt.unit → (u.images x.pkt.unit).find (x.pkt.f 16 1) = none →
    exec (.imageUnload x) s = .next (u.completes opImageUnload w { status := 1 } u))

/-- A JOB_START whose checks of R455 and R612 pass opens the lowest free job slot with the job of its descriptor,
and tells the partner; a JOB_END with no write outstanding ends fetch and delivery and leaves the job at once,
one with writes outstanding waits; JOB_QUERY answers epoch, state and step and changes nothing; PARAM_TABLE
takes its records up; PARAM_RING binds the ring or, with SIZE 0, unbinds it. (R455, R456, R454, R457, R116) -/
def Obligations.JobCommandsComplete : Prop :=
  (∀ (h : HeldRecipe) (t : State) (x : CmdIn) (s : State) (w : Waiter) (u : State), s.takes opJobStart x w u → x.pkt.f 18 1 ≤ 31 → x.pkt.f 19 1 ≤ 63 → u.jobNamed (x.pkt.f 16 2) = none →
    u.jobs.free 16 ≠ none → u.med.sanitize = none → u.recipes.find (x.pkt.f 18 1) = some h → (u.pool (x.pkt.f 19 1)).kind ≠ 0 →
    x.pkt.f 20 2 = u.sys.dl → x.src.isMctp = false → u.startJob x.pkt h (x.bytes (min (x.pkt.f 28 4) 1048640)) = .done success t →
    exec (.jobStart x) s = .next (u.completes opJobStart w success t)) ∧
  (∀ (u : State) (p : Packet) (h : HeldRecipe) (d : Bytes) (n : Namespace) (hdr : Bytes) (slot : Nat),
    0 < field d 32 4 → field d 32 4 ≤ 65536 → p.f 28 4 = 64 + 16 * field d 32 4 → descReserved d (field d 32 4) = none →
    h.nsid = field d 16 2 → h.offset = field d 24 8 → u.space (field d 16 2) = some n → n.sealed = true →
    u.nsRead (field d 16 2) (field d 24 8) 4096 = some hdr → catalogFault hdr = none →
    descRanges d (field d 32 4) (parseCatalog hdr).n = none → (newJob p d (field d 32 4)).devices.contains u.self = true →
    u.catalogNames (newJob p d (field d 32 4)) u.unsealed = false → u.jobs.free 16 = some slot → u.rma.partner = none →
    u.startJob p h d = .done success (u.setJob slot (newJob p d (field d 32 4)))) ∧
  (∀ (slot : Nat) (j : Job) (x : CmdIn) (s : State) (w : Waiter) (u : State), s.takes opJobEnd x w u → u.jobNamed (x.pkt.f 16 2) = some (slot, j) → j.ending = none → j.quiet = true →
    exec (.jobEnd x) s = .next (u.completes opJobEnd w success ((u.haltJob slot).leaveJob slot))) ∧
  (∀ (slot : Nat) (j k : Job) (x : CmdIn) (s : State) (w : Waiter) (u : State), s.takes opJobEnd x w u → u.jobNamed (x.pkt.f 16 2) = some (slot, j) → j.ending = none → j.quiet = false →
    (u.haltJob slot).jobs.find slot = some k →
    exec (.jobEnd x) s = .next (u.starts opJobEnd w ((u.haltJob slot).setJob slot { k with ending := some w }))) ∧
  (∀ (slot : Nat) (j : Job) (x : CmdIn) (s : State) (w : Waiter) (u : State), s.takes opJobQuery x w u → u.jobNamed (x.pkt.f 16 2) = some (slot, j) →
    exec (.jobQuery x) s = .next (u.completes opJobQuery w
      { status := 0, r0 := packFields [(0, 20, j.epoch), (20, 4, u.jobPhase j)], r1 := bits j.step 0 32 } u)) ∧
  (∀ (slot : Nat) (j : Job) (b : Bytes) (x : CmdIn) (s : State) (w : Waiter) (u : State), s.takes opParamTable x w u → u.jobNamed (x.pkt.f 16 2) = some (slot, j) → 0 < x.pkt.f 32 8 → x.pkt.f 32 8 ≤ 2 ^ 32 →
    u.sourceBytes x 18 40 24 (64 * x.pkt.f 32 8) = .inr b →
    exec (.paramTable x) s = .next (u.starts opParamTable w 
      { u with loads := u.loads ++ [{ job := slot, epoch := bits (x.pkt.f 20 4) 0 20, rest := tabulate (x.pkt.f 32 8) (fun i => slice b (64 * i) 64), conflict := false, cmd := w }] })) ∧
  (∀ (slot : Nat) (j : Job) (x : CmdIn) (s : State) (w : Waiter) (u : State), s.takes opParamRing x w u → u.jobNamed (x.pkt.f 16 2) = some (slot, j) → 6 ≤ x.pkt.f 18 1 → x.pkt.f 18 1 ≤ 20 →
    x.pkt.f 24 8 % 4096 = 0 → x.src.isMctp = false →
    exec (.paramRing x) s = .next (u.completes opParamRing w success (u.setJob slot
      { j with pring := some (x.pkt.f 18 1, x.pkt.f 24 8), pringHead := 0, pringTail := 0 }))) ∧
  (∀ (slot : Nat) (j : Job) (x : CmdIn) (s : State) (w : Waiter) (u : State), s.takes opParamRing x w u → u.jobNamed (x.pkt.f 16 2) = some (slot, j) → x.pkt.f 18 1 = 0 →
    exec (.paramRing x) s = .next (u.completes opParamRing w success (u.setJob slot { j with pring := none, pringHead := 0, pringTail := 0 })))

/-- EPOCH_PLAN of a complete plan answers SUCCESS_NO_CHANGE, of a plan in progress waits for it, and otherwise
begins the plan: scanning, with the records' chain allocated in Bramble's pool. A recovery command with a
generation above the job's starts a recovery at that generation (the earlier one's commands complete with
GENERATION_STALE) with its own effect; repeated with the same generation and parameters it completes with
SUCCESS once the recovery is complete. PLAN_REISSUE of a complete plan puts it into reissue. (R84, R90, R47,
R122, R60, R540, R92) -/
def Obligations.PlanAndRecoveryCommandsComplete : Prop :=
  (∀ (slot : Nat) (j : Job) (p : EpochPlan) (x : CmdIn) (s : State) (w : Waiter) (u : State), s.takes opEpochPlan x w u → u.jobNamed (x.pkt.f 16 2) = some (slot, j) →
    x.pkt.f 20 4 = j.epoch ∨ x.pkt.f 20 4 = j.epoch + 1 → x.pkt.f 20 4 < 2 ^ 20 →
    j.plan (x.pkt.f 20 4) = some p → p.phase = 6 ∨ p.phase = 8 →
    exec (.epochPlan x) s = .next (u.completes opEpochPlan w { status := 1 } u)) ∧
  (∀ (slot : Nat) (j : Job) (p : EpochPlan) (x : CmdIn) (s : State) (w : Waiter) (u : State), s.takes opEpochPlan x w u → u.jobNamed (x.pkt.f 16 2) = some (slot, j) →
    x.pkt.f 20 4 = j.epoch ∨ x.pkt.f 20 4 = j.epoch + 1 → x.pkt.f 20 4 < 2 ^ 20 →
    j.plan (x.pkt.f 20 4) = some p → 1 ≤ p.phase → p.phase ≤ 5 →
    exec (.epochPlan x) s = .next (u.starts opEpochPlan w (u.setJob slot (j.setPlan { p with waiters := p.waiters ++ [w] })))) ∧
  (∀ (slot : Nat) (j : Job) (hdr : Bytes) (c : Nat) (t : State) (x : CmdIn) (s : State) (w : Waiter) (u : State), s.takes opEpochPlan x w u → u.jobNamed (x.pkt.f 16 2) = some (slot, j) →
    x.pkt.f 20 4 = j.epoch ∨ x.pkt.f 20 4 = j.epoch + 1 → x.pkt.f 20 4 < 2 ^ 20 →
    j.plan (x.pkt.f 20 4) = none → u.catalogOf j = some hdr → catalogFault hdr = none →
    u.badRecord j (u.servedRanges j (parseCatalog hdr).n) = none → rangeTotal (u.servedRanges j (parseCatalog hdr).n) ≠ 0 →
    u.allocate (u.runSetting 0x5B 1) 3 (16 * rangeTotal (u.servedRanges j (parseCatalog hdr).n)) false = some (c, t) →
    exec (.epochPlan x) s = .next (u.starts opEpochPlan w (t.setJob slot (j.setPlan
      { EpochPlan.blank (x.pkt.f 20 4) with phase := 1, recipe := (j.recipeSlot (x.pkt.f 20 4)).getD 0, digest := u.planDigest j (x.pkt.f 20 4), ranks := u.ownRanks j, waiters := [w], chain := some c })))) ∧
  (∀ (slot : Nat) (j : Job) (t : State) (x : CmdIn) (s : State) (w : Waiter) (u : State), s.takes opJobTakeover x w u → u.jobNamed (x.pkt.f 16 2) = some (slot, j) → j.gen < x.pkt.gen →
    takeoverStart (bits (x.pkt.f 18 2) 0 13) slot j u = .inr t →
    exec (.jobTakeover x) s = .next (u.starts opJobTakeover w (t.startRecovery w slot))) ∧
  (∀ (slot : Nat) (j : Job) (t : State) (x : CmdIn) (s : State) (w : Waiter) (u : State), s.takes opJobResume x w u → u.jobNamed (x.pkt.f 16 2) = some (slot, j) → j.gen < x.pkt.gen →
    x.pkt.f 20 4 < 2 ^ 20 → resumeStart (x.pkt.f 20 4) (bits (x.pkt.f 24 8) 0 44) slot j u = .inr t →
    exec (.jobResume x) s = .next (u.starts opJobResume w (t.startRecovery w slot))) ∧
  (∀ (slot : Nat) (j : Job) (x : CmdIn) (s : State) (w : Waiter) (u : State), s.takes opJobLeave x w u → u.jobNamed (x.pkt.f 16 2) = some (slot, j) → j.gen < x.pkt.gen →
    exec (.jobLeave x) s = .next (u.starts opJobLeave w (((u.loseDevice slot u.self true).haltJob slot).startRecovery w slot))) ∧
  (∀ (slot : Nat) (j : Job) (m : MirrorWindow) (v : Window) (x : CmdIn) (s : State) (w : Waiter) (u : State), s.takes opCursorReset x w u → u.jobNamed (x.pkt.f 16 2) = some (slot, j) → j.gen < x.pkt.gen →
    x.pkt.f 20 4 < 2 ^ 20 → x.pkt.f 20 4 ≠ j.epoch → bits (x.pkt.f 18 2) 0 13 < 6144 →
    u.rma.mirrors.find (j.id * 8192 + bits (x.pkt.f 18 2) 0 13) = some m → u.rma.windows.find m.index = some v → u.mirrorRecord m = none →
    exec (.cursorReset x) s = .next (u.starts opCursorReset w ((u.writeChain (cellRef v.pool v.cell) (v.offset + 64)
      (cursorBytes 1 j.id (bits (x.pkt.f 18 2) 0 13) (x.pkt.f 20 4) (bits (x.pkt.f 24 8) 0 44) (bits (x.pkt.f 24 8) 0 44) x.pkt.gen j.dl u.now)).startRecovery w slot))) ∧
  (∀ (slot : Nat) (j : Job) (r : Recovery) (x : CmdIn) (s : State) (w : Waiter) (u : State), s.takes opJobLeave x w u → u.jobNamed (x.pkt.f 16 2) = some (slot, j) → x.pkt.gen = j.gen →
    j.recovery = some r → r.opcode = 0x020D → r.params = x.pkt.params.toNat → r.status = 1 →
    exec (.jobLeave x) s = .next (u.completes opJobLeave w success u)) ∧
  (∀ (slot : Nat) (j : Job) (p : EpochPlan) (x : CmdIn) (s : State) (w : Waiter) (u : State), s.takes opPlanReissue x w u → u.jobNamed (x.pkt.f 16 2) = some (slot, j) →
    j.devices.contains (bits (x.pkt.f 18 2) 0 13) = true → j.devices.contains (bits (x.pkt.f 32 2) 0 13) = true →
    j.plan (bits (x.pkt.f 20 4) 0 20) = some p → p.phase = 6 ∨ p.phase = 8 →
    exec (.planReissue x) s = .next (u.starts opPlanReissue w (u.setJob slot (Job.setPlan
      { j with acting := j.acting.filter (fun a => a.1 != bits (x.pkt.f 18 2) 0 13) ++ [(bits (x.pkt.f 18 2) 0 13, bits (x.pkt.f 32 2) 0 13)] }
      { p with phase := 8, ranks := u.ownRanks j, scanned := [], waiters := p.waiters ++ [w], reissue := p.reissue ++ [(bits (x.pkt.f 18 2) 0 13, bits (x.pkt.f 32 2) 0 13, bits (x.pkt.f 24 8) 0 44)] }))))

/-- A POOL_CONFIG in range, with nothing held against it, configures the pool and its entry of the settings image;
thresholds in falling order go in force at the pool's next allocation or free (at once for an unconfigured
pool) and into the settings; POOL_AUDIT starts an audit; BANK_OWN and BANK_STATE begin a handover or a
transition that is allowed; BANK_RETIRE retires a bank outside every pool; COLUMN_REPAIR adds a spare column.
Each completes with SUCCESS (the audit with its end). (R296, R302, R303, R304, R305, R282, R285, R294, R293) -/
def Obligations.PoolAndBankCommandsComplete : Prop :=
  (∀ (x : CmdIn) (s : State) (w : Waiter) (u : State), s.takes opPoolConfig x w u → x.pkt.f 16 1 = 1 → 64 ≤ x.pkt.f 20 4 →
    ((u.usedCells x.pkt.unit).isEmpty = true ∧ (u.pool x.pkt.unit).resv = 0) ∨ (u.pool x.pkt.unit).kind = 1 →
    u.breaks x.pkt.unit 1 (2048 * x.pkt.f 20 4) = false → u.areaUsed x.pkt.unit + hbmTake (x.pkt.f 20 4) ≤ 257935228928 →
    exec (.poolConfig x) s = .next (u.completes opPoolConfig w success
      ((u.configPool x.pkt.unit 1 0 0 (x.pkt.f 20 4) (2048 * x.pkt.f 20 4)).writePoolEntry x.pkt.unit 1 0 0 (x.pkt.f 20 4)))) ∧
  (∀ (x : CmdIn) (s : State) (w : Waiter) (u : State), s.takes opPoolThreshold x w u → x.pkt.f 16 2 ≤ 1000 → x.pkt.f 18 2 < x.pkt.f 16 2 → x.pkt.f 20 2 < x.pkt.f 18 2 → (u.pool x.pkt.unit).kind ≠ 0 →
    exec (.poolThreshold x) s = .next (u.completes opPoolThreshold w success
      ((u.setPool x.pkt.unit { u.pool x.pkt.unit with nextThr := some (x.pkt.f 16 2, x.pkt.f 18 2, x.pkt.f 20 2) }).writeSetting
        (0x200 + 16 * x.pkt.unit + 8) (leBytes 2 (x.pkt.f 16 2) ++ leBytes 2 (x.pkt.f 18 2) ++ leBytes 2 (x.pkt.f 20 2))))) ∧
  (∀ (x : CmdIn) (s : State) (w : Waiter) (u : State), s.takes opPoolThreshold x w u → x.pkt.f 16 2 ≤ 1000 → x.pkt.f 18 2 < x.pkt.f 16 2 → x.pkt.f 20 2 < x.pkt.f 18 2 → (u.pool x.pkt.unit).kind = 0 →
    exec (.poolThreshold x) s = .next (u.completes opPoolThreshold w success
      ((u.setPool x.pkt.unit { u.pool x.pkt.unit with warn := x.pkt.f 16 2, bp := x.pkt.f 18 2, crit := x.pkt.f 20 2, nextThr := none }).writeSetting
        (0x200 + 16 * x.pkt.unit + 8) (leBytes 2 (x.pkt.f 16 2) ++ leBytes 2 (x.pkt.f 18 2) ++ leBytes 2 (x.pkt.f 20 2))))) ∧
  (∀ (x : CmdIn) (s : State) (w : Waiter) (u : State), s.takes opPoolAudit x w u → 0 < x.pkt.f 24 4 → x.pkt.f 24 4 ≤ 65536 → x.src.isMctp = false →
    exec (.poolAudit x) s = .next (u.starts opPoolAudit w (u.startAudit 0 (some w) success))) ∧
  (∀ (x : CmdIn) (s : State) (w : Waiter) (u : State), s.takes opBankOwn x w u → x.pkt.f 16 2 < dieBanks x.pkt.unit → ownerOk (bits (x.pkt.f 18 2) 0 12) = true →
    u.handoverOk x.pkt.unit (x.pkt.f 16 2) (bits (x.pkt.f 18 2) 0 12) = true →
    exec (.bankOwn x) s = .next (u.completes opBankOwn w success
      (u.beginHandover x.pkt.unit (x.pkt.f 16 2) (bits (x.pkt.f 18 2) 0 12) (bit (x.pkt.f 18 2) 12)))) ∧
  (∀ (x : CmdIn) (s : State) (w : Waiter) (u : State), s.takes opBankState x w u → x.pkt.f 16 2 < dieBanks x.pkt.unit → x.pkt.f 18 1 ≤ 2 → u.bankMoveOk x.pkt.unit (x.pkt.f 16 2) (x.pkt.f 18 1) = true →
    exec (.bankState x) s = .next (u.completes opBankState w success (u.beginBankMove x.pkt.unit (x.pkt.f 16 2) (x.pkt.f 18 1)))) ∧
  (∀ (x : CmdIn) (s : State) (w : Waiter) (u : State), s.takes opBankRetire x w u → x.pkt.f 16 2 < dieBanks x.pkt.unit → (u.bank x.pkt.unit (x.pkt.f 16 2)).retired = false →
    u.bankPool x.pkt.unit (x.pkt.f 16 2) = none → x.physOk = true →
    exec (.bankRetire x) s = .next (u.completes opBankRetire w success (u.retireBank x.pkt.unit (x.pkt.f 16 2)))) ∧
  (∀ (x : CmdIn) (s : State) (w : Waiter) (u : State), s.takes opColumnRepair x w u → x.pkt.f 16 2 < dieBanks x.pkt.unit → x.pkt.f 18 1 ≤ 15 → x.pkt.f 19 1 ≤ 63 →
    ((u.bank x.pkt.unit (x.pkt.f 16 2)).spares.filter (fun c => c.1 == x.pkt.f 18 1)).length < 4 → x.physOk = true →
    exec (.columnRepair x) s = .next (u.completes opColumnRepair w success (u.setBank x.pkt.unit (x.pkt.f 16 2)
      { u.bank x.pkt.unit (x.pkt.f 16 2) with spares := (u.bank x.pkt.unit (x.pkt.f 16 2)).spares ++ [(x.pkt.f 18 1, x.pkt.f 19 1)] })))

/-- A compression command on host memory whose descriptor passes R269, with fewer than 64 jobs in hand, starts on
a CXE that is free, or waits where none is; the end of a running job writes its output, counts it, starts the
job that waits longest, and completes the command with its result. (R268, R269, R276) -/
def Obligations.CompressionCommandsComplete : Prop :=
  (∀ (n : Nat) (x : CmdIn) (s : State) (w : Waiter) (u : State), s.takes opCompress x w u → x.pkt.unit = 0 → cxeCheck x.pkt false = none → u.cxe.queued.length + u.cxe.running.length < 64 → x.src.isMctp = false →
    u.freeCxe = some n →
    exec (.compress x) s = .next (u.starts opCompress w { u with cxe := { u.cxe with running := u.cxe.running ++ [{ cmd := w, input := x.bytes (x.pkt.f 24 4), tile := n }] } })) ∧
  (∀ (x : CmdIn) (s : State) (w : Waiter) (u : State), s.takes opCompress x w u → x.pkt.unit = 0 → cxeCheck x.pkt false = none → u.cxe.queued.length + u.cxe.running.length < 64 → x.src.isMctp = false →
    u.freeCxe = none →
    exec (.compress x) s = .next (u.starts opCompress w { u with cxe := { u.cxe with queued := u.cxe.queued ++ [{ cmd := w, input := x.bytes (x.pkt.f 24 4), tile := 0 }] } })) ∧
  (∀ (n : Nat) (x : CmdIn) (s : State) (w : Waiter) (u : State), s.takes opDecompress x w u → x.pkt.unit = 0 → cxeCheck x.pkt true = none → u.cxe.queued.length + u.cxe.running.length < 64 → x.src.isMctp = false →
    u.freeCxe = some n →
    exec (.decompress x) s = .next (u.starts opDecompress w { u with cxe := { u.cxe with running := u.cxe.running ++ [{ cmd := w, input := x.bytes (x.pkt.f 24 4), tile := n }] } })) ∧
  (∀ (s : State) (i : Nat) (j : CompJob), s.cxe.running[i]? = some j → s.cxe.queued = [] →
    ∃ t : State, exec (.compressionJobComplete i) s = .next (t.finish j.cmd (cxeRun j.cmd.pkt j.input).result) ∧
      t.cxe.running = s.cxe.running.eraseIdx i ∧ t.cxe.queued = [] ∧ t.cmd = s.cmd ∧ t.jobs = s.jobs ∧ t.now = s.now)

/-- A namespace within the limits of R383 is created with a key of its own; one that no job's catalog names is
deleted; a dataset namespace is sealed (sealed already: no change); its replica list is replaced; a die in
service is retired; a sanitize starts where no job runs and none is in progress, and its end gives every
namespace a new key with nothing readable under it. Every table change makes a journal entry. (R383, R384,
R399, R403, R432, R433) -/
def Obligations.MediaCommandsComplete : Prop :=
  (∀ (x : CmdIn) (s : State) (w : Waiter) (u : State), s.takes opNsCreate x w u → 0 < x.pkt.f 16 2 → x.pkt.f 16 2 ≤ 256 → u.space (x.pkt.f 16 2) = none → x.pkt.f 18 1 ≤ 1 → 0 < x.pkt.f 24 8 →
    x.pkt.f 24 8 % (if x.pkt.f 18 1 = 0 then 4096 else 65536) = 0 → u.createRefusal (x.pkt.f 18 1) (x.pkt.f 24 8) = none →
    exec (.nsCreate x) s = .next (u.completes opNsCreate w success (State.journalEntry { u with med := { u.med with spaces := u.med.spaces.put (x.pkt.f 16 2) { kind := x.pkt.f 18 1, capacity := x.pkt.f 24 8, sealed := false, replicas := [], key := u.med.nextKey, bytes := [], units := [], bad := [] }, nextKey := u.med.nextKey + 1 } }))) ∧
  (∀ (x : CmdIn) (s : State) (w : Waiter) (u : State), s.takes opNsDelete x w u → u.space (x.pkt.f 16 2) ≠ none → u.jobs.any (fun j => u.catalogNames j.2 (· == x.pkt.f 16 2)) = false →
    exec (.nsDelete x) s = .next (u.completes opNsDelete w success (State.journalEntry { u with med := { u.med with spaces := u.med.spaces.del (x.pkt.f 16 2), dirty := u.med.dirty.filter (fun d => d.nsid != x.pkt.f 16 2) } }).releaseFlushes)) ∧
  (∀ (n : Namespace) (x : CmdIn) (s : State) (w : Waiter) (u : State), s.takes opNsSeal x w u → u.space (x.pkt.f 16 2) = some n → n.kind ≠ 0 → n.sealed = false →
    exec (.nsSeal x) s = .next (u.completes opNsSeal w success (State.journalEntry
      { u with med := { u.med with spaces := u.med.spaces.put (x.pkt.f 16 2) { n with sealed := true } } }).journalFlush)) ∧
  (∀ (n : Namespace) (x : CmdIn) (s : State) (w : Waiter) (u : State), s.takes opNsSeal x w u → u.space (x.pkt.f 16 2) = some n → n.kind ≠ 0 → n.sealed = true →
    exec (.nsSeal x) s = .next (u.completes opNsSeal w success u)) ∧
  (∀ (n : Namespace) (x : CmdIn) (s : State) (w : Waiter) (u : State), s.takes opReplicaSet x w u → u.space (x.pkt.f 16 2) = some n → n.kind ≠ 0 → x.pkt.f 18 1 = 2 → x.pkt.f 20 2 < 6144 → x.pkt.f 22 2 < 6144 →
    exec (.replicaSet x) s = .next (u.completes opReplicaSet w success (State.journalEntry
      { u with med := { u.med with spaces := u.med.spaces.put (x.pkt.f 16 2) { n with replicas := [x.pkt.f 20 2, x.pkt.f 22 2] } } }))) ∧
  (∀ (x : CmdIn) (s : State) (w : Waiter) (u : State), s.takes opDieRetire x w u → (u.die x.pkt.unit).state = 1 → exec (.dieRetire x) s = .next (u.completes opDieRetire w success (u.retireDie x.pkt.unit))) ∧
  (∀ (x : CmdIn) (s : State) (w : Waiter) (u : State), s.takes opSanitize x w u → x.pkt.f 16 1 = 1 ∨ x.pkt.f 16 1 = 2 → u.jobs = [] → u.med.sanitize = none → u.nvme.writes = [] → u.nvme.held = [] →
    exec (.sanitize x) s = .next (u.completes opSanitize w success { u with med := { u.med with sanitize := some (x.pkt.f 16 1) }, nvme := { u.nvme with writes := [], held := [] } })) ∧
  (∀ (s : State) (a : Nat), s.med.sanitize = some a →
    exec .sanitizeComplete s = .next (((State.journalEntry { s with med := { s.med.rekeyAll with sanitize := none } }).journalFlush).releaseFlushes.controllerReady))

/-- BUDGET_SET of 60 to 130 tens of watts takes the budget; FREQ_ANNOUNCE keeps the frequency and its time;
RESTART_AFTER_STOP with the coolant back powers the domains and starts the media path again, and is
SUCCESS_NO_CHANGE where nothing stopped; SELFTEST of a listed kind starts or ends the NVMe self-test; TEST_RUN
runs the slices of an engine, a drained tile or a free spare lane; ENGINE_BYPASS 1 marks an engine out, 0 runs
its slices first; TILE_DRAIN waits for a drain that begins; TILE_REJOIN returns a drained tile. (R476, R482,
R488, R546, R127, R548, R125, R430) -/
def Obligations.PowerAndTestCommandsComplete : Prop :=
  (∀ (x : CmdIn) (s : State) (w : Waiter) (u : State), s.takes opBudgetSet x w u → 60 ≤ x.pkt.f 16 2 → x.pkt.f 16 2 ≤ 130 →
    exec (.budgetSet x) s = .next (u.completes opBudgetSet w success (u.takeBudget (10 * x.pkt.f 16 2)))) ∧
  (∀ (slot : Nat) (j : Job) (x : CmdIn) (s : State) (w : Waiter) (u : State), s.takes opFreqAnnounce x w u → u.jobNamed (x.pkt.f 16 2) = some (slot, j) → x.pkt.f 18 2 = 0 ∨ 400 ≤ x.pkt.f 18 2 → x.pkt.f 24 8 ≤ u.now + 50000000 →
    u.pwr.held.find (x.pkt.f 16 2) = none →
    exec (.freqAnnounce x) s = .next (u.completes opFreqAnnounce w success
      { u with pwr := { u.pwr with held := u.pwr.held.put (x.pkt.f 16 2) { mhz := 0, next := some (x.pkt.f 18 2, x.pkt.f 24 8) } } })) ∧
  (∀ (x : CmdIn) (s : State) (w : Waiter) (u : State), s.takes opRestartAfterStop x w u → u.pwr.stopped = false ∨ u.pwr.flowLow = true →
    exec (.restartAfterStop x) s = .next (u.completes opRestartAfterStop w { status := 1 } u)) ∧
  (∀ (x : CmdIn) (s : State) (w : Waiter) (u : State), s.takes opRestartAfterStop x w u → u.pwr.stopped = true → u.pwr.flowLow = false →
    ∃ t : State, exec (.restartAfterStop x) s = .next (u.completes opRestartAfterStop w success t) ∧ t.pwr.stopped = false ∧ t.pwr.halted = false ∧
      t.sys.steps = stepsToHbm ∧ t.sys.ready = false ∧ t.jobs = u.jobs ∧ t.mem = u.mem ∧ t.cmd = u.cmd ∧ t.sec = u.sec) ∧
  (∀ (x : CmdIn) (s : State) (w : Waiter) (u : State), s.takes opSelftest x w u → x.pkt.f 16 1 = 1 ∨ x.pkt.f 16 1 = 2 → u.nvme.selftest = none →
    exec (.selftest x) s = .next (u.completes opSelftest w success (u.startSelftest (x.pkt.f 16 1)))) ∧
  (∀ (x : CmdIn) (s : State) (w : Waiter) (u : State), s.takes opSelftest x w u → x.pkt.f 16 1 = 0xF → exec (.selftest x) s = .next (u.completes opSelftest w success (u.abortSelftest 1))) ∧
  (∀ (x : CmdIn) (s : State) (w : Waiter) (u : State), s.takes opEngineBypass x w u → x.pkt.f 16 1 = 0 →
    exec (.engineBypass x) s = .next (u.starts opEngineBypass w (u.beginRun w [(x.pkt.unit, sliceCount (engineClass x.pkt.unit))]))) ∧
  (∀ (x : CmdIn) (s : State) (w : Waiter) (u : State), s.takes opEngineBypass x w u → x.pkt.f 16 1 = 1 → u.bypassLeavesNone (engineTile x.pkt.unit) (engineClass x.pkt.unit) (engineIndex x.pkt.unit) = false →
    exec (.engineBypass x) s = .next (u.completes opEngineBypass w success
      (u.markOut (engineTile x.pkt.unit) (engineClass x.pkt.unit) (engineIndex x.pkt.unit)))) ∧
  (∀ (x : CmdIn) (s : State) (w : Waiter) (u : State), s.takes opTestRun x w u → x.pkt.f 16 1 = 0 → engineOk x.pkt.unit = true →
    exec (.testRun x) s = .next (u.starts opTestRun w (u.beginRun w [(x.pkt.unit, sliceCount (engineClass x.pkt.unit))]))) ∧
  (∀ (x : CmdIn) (s : State) (w : Waiter) (u : State), s.takes opTestRun x w u → x.pkt.f 16 1 = 1 → x.pkt.unit < 4 → (u.tile x.pkt.unit).state = 3 →
    exec (.testRun x) s = .next (u.starts opTestRun w (u.beginRun w (tileSlices x.pkt.unit)))) ∧
  (∀ (x : CmdIn) (s : State) (w : Waiter) (u : State), s.takes opTestRun x w u → x.pkt.f 16 1 = 2 → x.pkt.unit < 16 → (u.fabPort x.pkt.unit).spareFree = true →
    exec (.testRun x) s = .next (u.starts opTestRun w (u.beginRun w [(2048 + x.pkt.unit, 1)]))) ∧
  (∀ (x : CmdIn) (s : State) (w : Waiter) (u : State), s.takes opTileDrain x w u → (u.tile x.pkt.unit).state ≠ 2 → (u.tile x.pkt.unit).state ≠ 3 → u.drainOk x.pkt.unit = true →
    exec (.tileDrain x) s = .next (u.starts opTileDrain w ((u.beginDrain x.pkt.unit).updTile x.pkt.unit (fun t => { t with drainCmds := t.drainCmds ++ [w] })))) ∧
  (∀ (x : CmdIn) (s : State) (w : Waiter) (u : State), s.takes opTileDrain x w u → (u.tile x.pkt.unit).state = 3 → exec (.tileDrain x) s = .next (u.completes opTileDrain w success u)) ∧
  (∀ (x : CmdIn) (s : State) (w : Waiter) (u : State), s.takes opTileRejoin x w u → (u.tile x.pkt.unit).state = 3 →
    exec (.tileRejoin x) s = .next (u.completes opTileRejoin w success (u.rejoin x.pkt.unit)))

/-- A chain that verifies fills its credential slot and unbinds every ring from it; a slot is cleared where its
place allows; a signing key is stored or removed, in the settings image too (a removal raises
SIGNKEY_REVOKED); AUDIT_READ gives the held records from FIRST_SEQ on, at most MAX, into the window or host
memory; DEBUG_UNLOCK with no job completes and the device resets into Pit mode with debug open; DECOMMISSION
re-keys every namespace, removes credentials, signing keys and bindings, marks the device and raises
DECOMMISSIONED. (R558, R562, R565, R566, R567, R575, R577, R578) -/
def Obligations.SecurityCommandsComplete : Prop :=
  (∀ (b : Bytes) (x : CmdIn) (s : State) (w : Waiter) (u : State), s.takes opCredSet x w u → x.pkt.f 16 1 = 1 → x.pkt.f 17 1 = 2 →
    x.pkt.f 18 1 ≤ 1 → 0 < x.pkt.f 20 4 → x.pkt.f 20 4 ≤ 8192 → u.windowBytes x (x.pkt.f 18 1 == 1) 24 (x.pkt.f 20 4) = .inr b → x.sigOk = true →
    exec (.credSet x) s = .next (u.completes opCredSet w success { u with sec := { u.sec with bindings := u.sec.bindings.filter (fun p => p.2 != 1), creds := u.sec.creds.put 1 { role := 2, chain := b, leaf := x.cert.leaf, notBefore := x.cert.notBefore, notAfter := x.cert.notAfter, expired := false } } })) ∧
  (∀ (b : Bytes) (x : CmdIn) (s : State) (w : Waiter) (u : State), s.takes opCredSet x w u → 2 ≤ x.pkt.f 16 1 → x.pkt.f 16 1 ≤ 254 → 1 ≤ x.pkt.f 17 1 → x.pkt.f 17 1 ≤ 3 →
    x.pkt.f 18 1 ≤ 1 → 0 < x.pkt.f 20 4 → x.pkt.f 20 4 ≤ 8192 → u.windowBytes x (x.pkt.f 18 1 == 1) 24 (x.pkt.f 20 4) = .inr b → x.sigOk = true →
    exec (.credSet x) s = .next (u.completes opCredSet w success { u with sec := { u.sec with bindings := u.sec.bindings.filter (fun p => p.2 != x.pkt.f 16 1), creds := u.sec.creds.put (x.pkt.f 16 1) { role := x.pkt.f 17 1, chain := b, leaf := x.cert.leaf, notBefore := x.cert.notBefore, notAfter := x.cert.notAfter, expired := false } } })) ∧
  (∀ (x : CmdIn) (s : State) (w : Waiter) (u : State), s.takes opCredClear x w u → 2 ≤ x.pkt.f 16 1 → x.pkt.f 16 1 ≤ 254 →
    exec (.credClear x) s = .next (u.completes opCredClear w success { u with sec := { u.sec with bindings := u.sec.bindings.filter (fun p => p.2 != x.pkt.f 16 1), creds := u.sec.creds.del (x.pkt.f 16 1) } })) ∧
  (∀ (b : Bytes) (x : CmdIn) (s : State) (w : Waiter) (u : State), s.takes opSignkeyTrust x w u → x.pkt.f 16 1 ≤ 31 → x.pkt.f 17 1 ≤ 1 → 0 < x.pkt.f 20 4 → x.pkt.f 20 4 ≤ 2046 →
    u.windowBytes x (x.pkt.f 17 1 == 1) 24 (x.pkt.f 20 4) = .inr b →
    exec (.signkeyTrust x) s = .next (u.completes opSignkeyTrust w success
      (State.writeSetting { u with sec := { u.sec with signkeys := u.sec.signkeys.put (x.pkt.f 16 1) b } } (0x15000 + 2048 * x.pkt.f 16 1)
        (leBytes 2 (x.pkt.f 20 4) ++ b ++ zeros (2046 - x.pkt.f 20 4))))) ∧
  (∀ (x : CmdIn) (s : State) (w : Waiter) (u : State), s.takes opSignkeyRevoke x w u → x.pkt.f 16 1 ≤ 31 →
    exec (.signkeyRevoke x) s = .next (u.completes opSignkeyRevoke w success
      ((State.raise { u with sec := { u.sec with signkeys := u.sec.signkeys.del (x.pkt.f 16 1) } } evSignkeyRevoked 4
        (leBytes 1 ((u.recipes.filter (fun r => r.2.signer == x.pkt.f 16 1)).length + (u.models.filter (fun r => r.2.signer == x.pkt.f 16 1)).length))).writeSetting
        (0x15000 + 2048 * x.pkt.f 16 1) (zeros 2048)))) ∧
  (∀ (a : AuditRec) (as : List AuditRec) (x : CmdIn) (s : State) (w : Waiter) (u : State), s.takes opAuditRead x w u → 0 < x.pkt.f 32 4 → x.pkt.f 32 4 ≤ 32 → x.pkt.f 16 8 = 0 →
    ((u.sec.audit.filter (fun a => x.pkt.f 24 8 ≤ a.seq)).reverse).take (x.pkt.f 32 4) = a :: as →
    exec (.auditRead x) s = .next (u.completes opAuditRead w { status := 0, r0 := as.length + 1, r1 := a.seq % 2 ^ 32 }
      { u with sec := { u.sec with auditWin := ((a :: as).map AuditRec.bytes).flatten ++ u.sec.auditWin.drop ((a :: as).map AuditRec.bytes).flatten.length } })) ∧
  (∀ (x : CmdIn) (s : State) (w : Waiter) (u : State), s.takes opAuditRead x w u → 0 < x.pkt.f 32 4 → x.pkt.f 32 4 ≤ 65536 → x.pkt.f 16 8 ≠ 0 → x.src.isMctp = false →
    (u.sec.audit.filter (fun a => x.pkt.f 24 8 ≤ a.seq)) = [] →
    exec (.auditRead x) s = .next (u.completes opAuditRead w { status := 0, r0 := 0, r1 := 0 } u)) ∧
  (∀ (x : CmdIn) (s : State) (w : Waiter) (u : State), s.takes opDebugUnlock x w u → u.jobs = [] → u.mediaReady = false →
    exec (.debugUnlock x) s = .next (u.completes opDebugUnlock w success u).debugReset) ∧
  (∀ (x : CmdIn) (s : State) (w : Waiter) (u : State), s.takes opDebugUnlock x w u → u.jobs = [] → u.mediaReady = true →
    exec (.debugUnlock x) s = .next (u.completes opDebugUnlock w success u.endFlush).debugReset) ∧
  (∀ (x : CmdIn) (s : State) (w : Waiter) (u : State), s.takes opDecommission x w u → x.pkt.f 16 4 = 0x44434D4D → u.jobs = [] →
    exec (.decommission x) s = .next (u.completes opDecommission w success ((State.writeSetting
      { u with med := u.med.rekeyAll, sec := { u.sec with creds := [], signkeys := [], bindings := [], decommissioned := true } }
      0x15000 (zeros 65536)).raise evDecommissioned 4 [])))

/-- Staged bytes follow those staged before (OFFSET 0 starts afresh) and the target slot holds no valid image
meanwhile; an image that passes is marked verified and its version answered; a verified settings image goes in
force at once or with a restart, a verified firmware image with a restart or by live activation; microcode of
the running image is applied to a drained tile; PIT_CLEAR in Pit mode zeroes the boot-attempt count and
resets, and otherwise changes nothing. (R512, R513, R516, R61, R510) -/
def Obligations.UpdateCommandsComplete : Prop :=
  (∀ (b : Bytes) (x : CmdIn) (s : State) (w : Waiter) (u : State), s.takes opUpdStage x w u → u.upd.activating = none → x.pkt.f 16 1 = 0 → x.pkt.unit = 0 → x.pkt.f 20 4 = 0 → 0 < x.pkt.f 24 4 → x.pkt.f 24 4 ≤ 65011712 →
    u.windowBytes x false 32 (x.pkt.f 24 4) = .inr b →
    exec (.updStage x) s = .next (u.completes opUpdStage w success { u with upd := u.upd.stage 0 { data := b, started := true, verified := false } })) ∧
  (∀ (b : Bytes) (x : CmdIn) (s : State) (w : Waiter) (u : State), s.takes opUpdStage x w u → u.upd.activating = none → x.pkt.f 16 1 = 1 → x.pkt.unit = 1 → (u.upd.set).started = true → x.pkt.f 20 4 = u.upd.set.data.length →
    0 < x.pkt.f 20 4 → 0 < x.pkt.f 24 4 → x.pkt.f 24 4 ≤ 65536 → x.pkt.f 20 4 + x.pkt.f 24 4 ≤ 1048576 → u.windowBytes x true 32 (x.pkt.f 24 4) = .inr b →
    exec (.updStage x) s = .next (u.completes opUpdStage w success
      { u with upd := u.upd.stage 1 { data := u.upd.set.data ++ b, started := true, verified := false } })) ∧
  (∀ (x : CmdIn) (s : State) (w : Waiter) (u : State), s.takes opUpdVerify x w u → u.upd.activating = none → x.pkt.unit = 0 → u.fwFault u.upd.fw.data x.sigOk = none →
    exec (.updVerify x) s = .next (u.completes opUpdVerify w
      { status := 0, r0 := fwVersion u.upd.fw.data, r1 := packFields [(0, 16, fwDl u.upd.fw.data), (16, 16, fwFabric u.upd.fw.data)] }
      { u with upd := u.upd.verify 0 })) ∧
  (∀ (x : CmdIn) (s : State) (w : Waiter) (u : State), s.takes opUpdVerify x w u → u.upd.activating = none → x.pkt.unit = 1 → u.settingsFault u.upd.set.data = none →
    exec (.updVerify x) s = .next (u.completes opUpdVerify w { status := 0, r0 := field u.upd.set.data 8 4 } { u with upd := u.upd.verify 1 })) ∧
  (∀ (x : CmdIn) (s : State) (w : Waiter) (u : State), s.takes opUpdActivate x w u → u.upd.activating = none → x.pkt.unit = 1 → u.upd.set.verified = true → x.pkt.f 16 1 = 0 → u.sys.pit = false →
    exec (.updActivate x) s = .next (u.completes opUpdActivate w success u.activateSettings)) ∧
  (∀ (x : CmdIn) (s : State) (w : Waiter) (u : State), s.takes opUpdActivate x w u → u.upd.activating = none → x.pkt.unit = 0 → u.upd.fw.verified = true → x.pkt.f 16 1 = 1 →
    exec (.updActivate x) s = .next (u.completes opUpdActivate w success { u with upd := u.upd.recordStaged }).activateReset) ∧
  (∀ (x : CmdIn) (s : State) (w : Waiter) (u : State), s.takes opUpdActivate x w u → u.upd.activating = none → x.pkt.unit = 0 → u.upd.fw.verified = true → x.pkt.f 16 1 = 0 → u.sys.pit = false →
    exec (.updActivate x) s = .next (u.starts opUpdActivate w (u.beginActivation w))) ∧
  (∀ (x : CmdIn) (s : State) (w : Waiter) (u : State), s.takes opUcodeApply x w u → u.upd.activating = none → (u.tiles.getD x.pkt.unit {}).state = 3 → x.pkt.f 16 1 = u.upd.slot → u.upd.slot ≤ 1 → x.pkt.f 17 1 = 0 →
    fwDl (u.upd.fwSlot u.upd.slot).data = u.sys.dl →
    exec (.ucodeApply x) s = .next (u.completes opUcodeApply w success { u with tiles := updAt u.tiles x.pkt.unit (fun y => { y with ucode := (microcodeOf (u.upd.fwSlot u.upd.slot).data 0).foldl (fun m k => m.put k (fwVersion (u.upd.fwSlot u.upd.slot).data)) y.ucode }) })) ∧
  (∀ (x : CmdIn) (s : State) (w : Waiter) (u : State), s.takes opPitClear x w u → u.sys.pit = true →
    exec (.pitClear x) s = .next ((u.completes opPitClear w success (u.writeCount 0 u.bootReason)).deviceReset false 3)) ∧
  (∀ (x : CmdIn) (s : State) (w : Waiter) (u : State), s.takes opPitClear x w u → u.sys.pit = false → exec (.pitClear x) s = .next (u.completes opPitClear w { status := 1 } u))

/-- EVT_READ into the window copies the oldest unconsumed records in order, at most MAX, and consumes them only
with CONSUME; its result is their number and the SEQ of the first. EVT_SUBSCRIBE writes the slot (kind 0
clears it). TELEMETRY_GET writes the set's words, cut at the length, to host memory and answers both lengths.
(R533, R535, R461) -/
def Obligations.EventAndTelemetryCommandsComplete : Prop :=
  (∀ (e : Event) (es : List Event) (x : CmdIn) (s : State) (w : Waiter) (u : State), s.takes opEvtRead x w u → x.pkt.f 16 8 = 0 → 0 < x.pkt.f 24 4 → x.pkt.f 24 4 ≤ 32 → bit (x.pkt.f 28 1) 0 = false →
    u.evt.ring.take (x.pkt.f 24 4) = e :: es →
    exec (.evtRead x) s = .next (u.completes opEvtRead w { status := 0, r0 := es.length + 1, r1 := e.seq }
      (u.deliverEvents 0 (((e :: es).map Event.bytes).flatten)))) ∧
  (∀ (x : CmdIn) (s : State) (w : Waiter) (u : State), s.takes opEvtRead x w u → x.pkt.f 16 8 = 0 → 0 < x.pkt.f 24 4 → x.pkt.f 24 4 ≤ 32 → bit (x.pkt.f 28 1) 0 = false → u.evt.ring = [] →
    exec (.evtRead x) s = .next (u.completes opEvtRead w { status := 0, r0 := 0, r1 := 0 } (u.deliverEvents 0 []))) ∧
  (∀ (e : Event) (es : List Event) (x : CmdIn) (s : State) (w : Waiter) (u : State), s.takes opEvtRead x w u → x.pkt.f 16 8 = 0 → 0 < x.pkt.f 24 4 → x.pkt.f 24 4 ≤ 32 → bit (x.pkt.f 28 1) 0 = true →
    u.evt.ring.take (x.pkt.f 24 4) = e :: es →
    exec (.evtRead x) s = .next (u.completes opEvtRead w { status := 0, r0 := es.length + 1, r1 := e.seq }
      ((u.deliverEvents 0 (((e :: es).map Event.bytes).flatten)).consumeEvents (e :: es)))) ∧
  (∀ (x : CmdIn) (s : State) (w : Waiter) (u : State), s.takes opEvtSubscribe x w u → x.pkt.f 16 1 ≤ 7 → x.pkt.f 17 1 = 0 → x.pkt.f 20 1 ≤ 3 →
    exec (.evtSubscribe x) s = .next (u.completes opEvtSubscribe w success { u with evt := { u.evt with subs := u.evt.subs.set (x.pkt.f 16 1) {} } })) ∧
  (∀ (x : CmdIn) (s : State) (w : Waiter) (u : State), s.takes opEvtSubscribe x w u → x.pkt.f 16 1 ≤ 7 → (x.pkt.f 17 1 = 1 ∧ x.pkt.f 18 2 < 6144) ∨ x.pkt.f 17 1 = 2 → x.pkt.f 20 1 ≤ 3 →
    exec (.evtSubscribe x) s = .next (u.completes opEvtSubscribe w success { u with evt := { u.evt with subs := u.evt.subs.set (x.pkt.f 16 1) { kind := x.pkt.f 17 1, target := x.pkt.f 18 2, minSev := x.pkt.f 20 1, mask := x.pkt.f 24 2 } } })) ∧
  (∀ (b : Bytes) (x : CmdIn) (s : State) (w : Waiter) (u : State), s.takes opTelemetryGet x w u → x.pkt.f 16 1 ≤ 5 → x.src.isMctp = false → b = ((telemetrySet (x.pkt.f 16 1)).map (fun a => leBytes 4 (u.telemetryWord a))).flatten →
    exec (.telemetryGet x) s = .next (u.completes opTelemetryGet w { status := 0, r0 := (b.take (x.pkt.f 32 4)).length, r1 := b.length }
      (u.emit (.hostWrite (x.pkt.f 24 8) (b.take (x.pkt.f 32 4))))))

/-- An aligned DEST_BIND binds the destination with its C unknown; SLOT_CANCEL of a slot with no write outstanding
completes at once with the slot cancelled, of a slot not served is SUCCESS_NO_CHANGE, and otherwise waits;
WINDOW_OPEN over a range of an HBM chain takes a reference and opens the window; WINDOW_CLOSE closes it and
waits; WINDOW_REKEY changes the key at once; an RMA request on host memory goes out on its class (0 is class
4); PORT_SERVICE retrains, recalibrates, or serves a lane of, a port that is not busy. (R312, R323, R325,
R330, R326, R352) -/
def Obligations.DeliveryAndRmaCommandsComplete : Prop :=
  (∀ (js : Nat) (j : Job) (x : CmdIn) (s : State) (w : Waiter) (u : State), s.takes opDestBind x w u → u.jobNamed (x.pkt.f 16 2) = some (js, j) → x.pkt.f 18 1 ≤ 7 → x.pkt.f 24 8 % 64 = 0 → x.pkt.f 40 8 % 8 = 0 → x.pkt.f 48 8 % 8 = 0 →
    exec (.destBind x) s = .next (u.completes opDestBind w success ((u.setJob js (j.setBinding { rank := x.pkt.f 20 2, dest := x.pkt.f 18 1, qp := bits (x.pkt.f 22 2) 0 14, dataAddr := x.pkt.f 24 8, dataKey := x.pkt.f 32 4, cwAddr := x.pkt.f 40 8, cwKey := x.pkt.f 36 4, consAddr := x.pkt.f 48 8, consKey := x.pkt.f 56 4, c := none, lastRead := none, reading := false, error := false })).bindQp (bits (x.pkt.f 22 2) 0 14)))) ∧
  (∀ (js : Nat) (j : Job) (x : CmdIn) (s : State) (w : Waiter) (u : State), s.takes opSlotCancel x w u → u.jobNamed (x.pkt.f 16 2) = some (js, j) → u.servesSlot j (bits (x.pkt.f 24 8) 0 44) (x.pkt.f 20 2) = false →
    exec (.slotCancel x) s = .next (u.completes opSlotCancel w { status := 1 } u)) ∧
  (∀ (js : Nat) (j : Job) (x : CmdIn) (s : State) (w : Waiter) (u : State), s.takes opSlotCancel x w u → u.jobNamed (x.pkt.f 16 2) = some (js, j) → u.servesSlot j (bits (x.pkt.f 24 8) 0 44) (x.pkt.f 20 2) = true →
    j.cancelled.contains (bits (x.pkt.f 24 8) 0 44, x.pkt.f 20 2) = true → j.outstanding (bits (x.pkt.f 24 8) 0 44) (x.pkt.f 20 2) = false →
    exec (.slotCancel x) s = .next (u.completes opSlotCancel w success (State.advanceCursor js 2 (u.setJob js j)))) ∧
  (∀ (js : Nat) (j k : Job) (x : CmdIn) (s : State) (w : Waiter) (u : State), s.takes opSlotCancel x w u → u.jobNamed (x.pkt.f 16 2) = some (js, j) → u.servesSlot j (bits (x.pkt.f 24 8) 0 44) (x.pkt.f 20 2) = true →
    k = { j with cancelled := j.cancelled ++ [(bits (x.pkt.f 24 8) 0 44, x.pkt.f 20 2)] } →
    j.cancelled.contains (bits (x.pkt.f 24 8) 0 44, x.pkt.f 20 2) = false → k.outstanding (bits (x.pkt.f 24 8) 0 44) (x.pkt.f 20 2) = true →
    exec (.slotCancel x) s = .next (u.starts opSlotCancel w (u.setJob js { k with cancels := j.cancels ++ [(bits (x.pkt.f 24 8) 0 44, x.pkt.f 20 2, w)] }))) ∧
  (∀ (c : Chain) (t : State) (x : CmdIn) (s : State) (w : Waiter) (u : State), s.takes opWindowOpen x w u → x.pkt.f 16 2 < 61440 → bit (x.pkt.f 19 1) 0 = true ∨ bits (x.pkt.f 20 2) 0 13 < 6144 → u.rma.windows.has (x.pkt.f 16 2) = false →
    u.refOk (x.pkt.f 24 8) 1 = true → (u.pool (refPool (x.pkt.f 24 8))).kind = 1 → u.chain (x.pkt.f 24 8) = some c →
    x.pkt.f 32 8 ≤ c.length → x.pkt.f 32 8 + x.pkt.f 40 8 ≤ c.length → u.addRef (x.pkt.f 24 8) = (true, t) →
    exec (.windowOpen x) s = .next (u.completes opWindowOpen w success 
      { t with rma := { t.rma with windows := t.rma.windows.put (x.pkt.f 16 2) { pool := refPool (x.pkt.f 24 8), cell := refCell (x.pkt.f 24 8), offset := x.pkt.f 32 8, length := x.pkt.f 40 8, key := x.pkt.f 48 4, read := bit (x.pkt.f 18 1) 0, write := bit (x.pkt.f 18 1) 1, any := bit (x.pkt.f 19 1) 0, requester := bits (x.pkt.f 20 2) 0 13, closing := none } } })) ∧
  (∀ (v : Window) (x : CmdIn) (s : State) (w : Waiter) (u : State), s.takes opWindowClose x w u → u.openWindow (x.pkt.f 16 2) = .inr v →
    exec (.windowClose x) s = .next (u.starts opWindowClose w (u.closeWindow (x.pkt.f 16 2) (some w)))) ∧
  (∀ (v : Window) (x : CmdIn) (s : State) (w : Waiter) (u : State), s.takes opWindowRekey x w u → u.openWindow (x.pkt.f 16 2) = .inr v →
    exec (.windowRekey x) s = .next (u.completes opWindowRekey w success
      { u with rma := { u.rma with windows := u.rma.windows.put (x.pkt.f 16 2) { v with key := x.pkt.f 20 4 } } })) ∧
  (∀ (x : CmdIn) (s : State) (w : Waiter) (u : State), s.takes opRmaWrite x w u → bits (x.pkt.f 16 2) 0 13 < 6144 → 0 < x.pkt.f 32 4 → x.pkt.f 32 4 ≤ 16777216 → x.pkt.f 36 1 = 0 → x.pkt.f 37 1 = 0 →
    x.src.isMctp = false → u.net.lost.has (bits (x.pkt.f 16 2) 0 13) = false →
    exec (.rmaWrite x) s = .next (u.starts opRmaWrite w (u.sendRequest { target := bits (x.pkt.f 16 2) 0 13, window := x.pkt.f 18 2, offset := x.pkt.f 24 8, length := x.pkt.f 32 4, isWrite := true, cls := 4, localChain := false, localAddr := x.pkt.f 40 8, localOff := x.pkt.f 48 8, sentAt := u.now, cmd := some w, mirror := none } (x.pkt.f 20 4) (x.bytes (x.pkt.f 32 4))))) ∧
  (∀ (x : CmdIn) (s : State) (w : Waiter) (u : State), s.takes opRmaRead x w u → bits (x.pkt.f 16 2) 0 13 < 6144 → 0 < x.pkt.f 32 4 → x.pkt.f 32 4 ≤ 16777216 → x.pkt.f 36 1 = 15 → x.pkt.f 37 1 = 0 →
    x.src.isMctp = false → u.net.lost.has (bits (x.pkt.f 16 2) 0 13) = false →
    exec (.rmaRead x) s = .next (u.starts opRmaRead w (u.sendRequest { target := bits (x.pkt.f 16 2) 0 13, window := x.pkt.f 18 2, offset := x.pkt.f 24 8, length := x.pkt.f 32 4, isWrite := false, cls := 15, localChain := false, localAddr := x.pkt.f 40 8, localOff := x.pkt.f 48 8, sentAt := u.now, cmd := some w, mirror := none } (x.pkt.f 20 4) []))) ∧
  (∀ (x : CmdIn) (s : State) (w : Waiter) (u : State), s.takes opPortService x w u → x.pkt.f 16 1 ≤ 1 → x.pkt.f 17 1 ≤ 8 → (u.fabPort x.pkt.unit).busy = false → u.fabricOn x.pkt.unit = true →
    exec (.portService x) s = .next (u.starts opPortService w ((u.updPort x.pkt.unit (fun p => { p with lane := x.pkt.f 17 1, cmd := some w })).servicePort
      x.pkt.unit (x.pkt.f 16 1 + 1)))) ∧
  (∀ (x : CmdIn) (s : State) (w : Waiter) (u : State), s.takes opPortService x w u → x.pkt.f 16 1 = 2 → x.pkt.f 17 1 ≤ 8 → (u.fabPort x.pkt.unit).busy = false → u.fabricOn x.pkt.unit = true →
    exec (.portService x) s = .next (u.starts opPortService w ((u.updPort x.pkt.unit (fun p => { p with lane := x.pkt.f 17 1, cmd := some w })).serviceLane
      x.pkt.unit (x.pkt.f 17 1))))

/-- A tail below the depth of an enabled ring is taken; a head that does not pass the completion tail is taken; a
disabled ring is enabled with a depth of 1 to 16 and starts afresh (both queues empty, phase 1), an enabled
one is disabled and drains while commands are in flight; the fetch of a listed opcode reserves a completion
entry, advances the head and holds the packet for its row; a parameter doorbell below the ring size is taken.
Nothing else changes. (R445, R446, R447, R457, R460) -/
def Obligations.RingCommandsComplete : Prop :=
  (∀ (path ring v : Nat) (s : State), ring < 64 → s.passes path (ringReg ring 0x18) = true → (s.ring ring).en = true →
    bits v 0 16 < 2 ^ (s.ring ring).depthLog2 →
    exec (.cmdSqTailWrite path ring v) s = .next (s.setRing ring { s.ring ring with sqTail := bits v 0 16 })) ∧
  (∀ (path ring v : Nat) (s : State), ring < 64 → s.passes path (ringReg ring 0x1C) = true → (s.ring ring).en = true →
    bits v 0 16 < 2 ^ (s.ring ring).depthLog2 →
    (bits v 0 16 + 2 ^ (s.ring ring).depthLog2 - (s.ring ring).cqHead) % 2 ^ (s.ring ring).depthLog2 ≤ (s.ring ring).unconsumed →
    exec (.cmdCqHeadWrite path ring v) s = .next (s.setRing ring { s.ring ring with cqHead := bits v 0 16 })) ∧
  (∀ (path ring v : Nat) (s : State), ring < 64 → s.passes path (ringReg ring 0) = true → (s.ring ring).en = false → bit v 0 = true →
    1 ≤ bits v 1 5 → bits v 1 5 ≤ 16 →
    exec (.cmdRingCfgWrite path ring v) s = .next (s.setRing ring { s.ring ring with en := true, draining := false, depthLog2 := bits v 1 5, msix := bit v 6, sqHead := 0, sqTail := 0, cqHead := 0, cqTail := 0, phase := 1, since := s.cmd.nextSeq })) ∧
  (∀ (path ring v : Nat) (s : State), ring < 64 → s.passes path (ringReg ring 0) = true → (s.ring ring).en = true → bit v 0 = false →
    bits v 1 5 = (s.ring ring).depthLog2 → bit v 6 = (s.ring ring).msix →
    exec (.cmdRingCfgWrite path ring v) s = .next (s.setRing ring { s.ring ring with en := false, draining := (s.ring ring).inflight != 0 })) ∧
  (∀ (ring : Nat) (entry : Bytes) (s : State), ring < 64 → s.alive = true → s.hostUp = true → (s.ring ring).canFetch = true →
    (opSpecOf (parsePacket entry).1).isSome = true →
    ∃ t : State, exec (.ringEntryFetch ring entry) s = .next t ∧
      t.cmd.fetched = s.cmd.fetched ++ [{ src := .ring ring, seq := s.cmd.nextSeq, opcode := (parsePacket entry).1, pkt := (parsePacket entry).2 }] ∧
      t.cmd.rings = s.cmd.rings.set ring { s.ring ring with sqHead := ((s.ring ring).sqHead + 1) % 2 ^ (s.ring ring).depthLog2, inflight := (s.ring ring).inflight + 1 } ∧
      t.cmd.nextSeq = s.cmd.nextSeq + 1 ∧ { t with cmd := s.cmd } = s) ∧
  (∀ (path j v size base : Nat) (job : Job) (s : State), j < 16 → s.passes path (pringReg j 0) = true → s.jobs.find j = some job →
    job.pring = some (size, base) → bits v 0 20 < 2 ^ size →
    exec (.cmdPringTailWrite path j v) s = .next { s with jobs := s.jobs.put j { job with pringTail := bits v 0 20 } })

/-- A waiting command whose turn has come leaves the waiting commands and is accepted by its opcode's checks and
effect; a receipt is noted; a forwarded command's completion is posted on its origin route; without a receipt
in CMD_FWD_TIMEOUT ms it ends with FAB_TIMEOUT, and with the receipt held and no route for 5 ms with
FAB_UNREACHABLE. (R448, R449, R450, R441) -/
def Obligations.WaitingAndForwardedCommandsComplete : Prop :=
  (∀ (idx : Nat) (d : Deferred) (sp : OpSpec) (own : Waiter → CmdIn → State → Own) (s : State), s.cmd.waiting[idx]? = some d →
    s.alive = true → s.ready d.waiter = true → opMeanings.find? (fun m => m.1.opcode == d.opcode) = some (sp, own) →
    exec (.deferredCommandAccept idx) s =
      .next (State.accept { s with cmd := { s.cmd with waiting := s.cmd.waiting.eraseIdx idx } } sp own d.waiter d.cmd)) ∧
  (∀ (seq : Nat) (s : State), exec (.forwardReceipt seq) s = .next { s with cmd := { s.cmd with forwarded := s.cmd.forwarded.map (fun f => if f.cmd.seq = seq && !f.held then { f with receipt := true } else f) } }) ∧
  (∀ (seq : Nat) (r : Result) (f : Forwarded) (s : State), s.forwardedBy seq = some f → f.held = false →
    exec (.forwardedCompletion seq r) s = .next (State.answer { s with cmd := { s.cmd with forwarded := s.cmd.forwarded.erase f } } f.cmd r)) ∧
  (∀ (seq now : Nat) (f : Forwarded) (s : State), s.forwardedBy seq = some f → f.held = false → f.receipt = false →
    f.sentAt + s.cmd.timeout * 1000000 ≤ now →
    exec (.fabTimeout seq now) s = .next ((s.advance now).endForwarded f { status := 0x0803 })) ∧
  (∀ (seq now : Nat) (f : Forwarded) (s : State), s.forwardedBy seq = some f → f.receipt = true →
    (s.advance now).noRoute5ms f.dev = true →
    exec (.fabUnreachable seq now) s = .next ((s.advance now).endForwarded f { status := 0x0804 }))

/-- An aligned write reaches its register; a write or read over MCTP is answered with result 0; a read of a pair's
_LO takes the shadow of its _HI and the next _HI read on that path gives and drops it; a read-clear counter
that is not frozen answers its value and clears; SNAP 1 takes the copies of its block and 0 releases them; an
access of a wrong size or alignment has no effect but the event, and a read answers all ones. (R9, R10, R24,
R443, R538, R539) -/
def Obligations.RegisterAccessCommandsComplete : Prop :=
  (∀ (path addr v : Nat) (g : Bool) (s : State), addr % 4 = 0 → s.passes path addr = true → isSnap addr = false → addr < 0x100000 →
    exec (.registerWrite path addr v g) s = .next (s.writeHub path addr (bits v 0 32) g)) ∧
  (∀ (eid off v : Nat) (g : Bool) (s : State), s.alive = true → badOffset off = false → s.installerSession eid = true →
    exec (.mctpRegisterWrite eid off v g) s = .next ((s.writeReg 1 off (bits v 0 32) g).emit (.mctpRegister 0 0))) ∧
  (∀ (path addr : Nat) (s : State), s.reaches path = true → s.responds addr = true → isLo addr = true → isHi addr = false →
    exec (.counterPairLoRead path addr) s =
      .next (State.emit { s with shadows := s.shadows.put (shadowKey path (addr + 4)) (s.value (addr + 4)) } (.regValue path addr (s.value addr)))) ∧
  (∀ (path addr v : Nat) (s : State), s.reaches path = true → s.responds addr = true → isHi addr = true → s.shadows.find (shadowKey path addr) = some v →
    exec (.counterPairHiRead path addr) s =
      .next (State.emit { s with shadows := s.shadows.del (shadowKey path addr) } (.regValue path addr v))) ∧
  (∀ (path addr : Nat) (s : State), s.reaches path = true → s.responds addr = true → isRc addr = true → isHi addr = false → isLo addr = false →
    s.copyOf addr = none →
    exec (.rcCounterRead path addr) s = .next ((s.setCounter addr 0).emit (.regValue path addr (s.value addr)))) ∧
  (∀ (path addr v : Nat) (e : Nat × List (Nat × Nat)) (s : State), isSnap addr = true → s.passes path addr = true → bit v 0 = true →
    snapSets.find? (fun e => e.1 == addr) = some e →
    exec (.snapWrite path addr v) s = .next { s with snaps := s.snaps.put addr (s.copyRegs (rangeOffsets e.2)) }) ∧
  (∀ (path addr v : Nat) (s : State), isSnap addr = true → s.passes path addr = true → bit v 0 = false →
    exec (.snapWrite path addr v) s = .next { s with snaps := s.snaps.del addr }) ∧
  (∀ (path addr size : Nat) (s : State), s.reaches path = true → size ≠ 4 ∨ addr % 4 ≠ 0 →
    exec (.invalidRegisterAccess path addr size false) s = .next ((s.regInvalid path addr).emit (.regValue path addr (2 ^ (8 * size) - 1)))) ∧
  (∀ (path addr size : Nat) (s : State), s.reaches path = true → size ≠ 4 ∨ addr % 4 ≠ 0 →
    exec (.invalidRegisterAccess path addr size true) s = .next (s.regInvalid path addr)) ∧
  (∀ (eid off : Nat) (s : State), s.alive = true → badOffset off = false → s.responds off = true → isHi off = false → isLo off = false → isRc off = false →
    exec (.mctpRegisterRead eid 1 off) s = .next (s.emit (.mctpRegister 0 (s.value off))))

/-- A rack budget of 600 to 1,300 W in tens waits for the next evaluation; sensor, regulator and PROCHOT inputs
are kept; tokens refresh to L minus B_m, the oldest request is granted if it fits; an evaluation outside held
mode takes the budget and chooses the step; the thermal term falls or rises by 10 W; the clamp sets at 20,000
µs; boost ends at 95 °C, cools step by step and rearms after 60 s below 90 °C; an announced frequency takes
effect at its time; held mode ends 200 ms after an unanswered request. (R473, R474, R476, R477, R478, R479,
R482, R485, R468, R586) -/
def Obligations.PowerEventsComplete : Prop :=
  (∀ (w : Nat) (s : State), s.alive = true → 600 ≤ w → w ≤ 1300 → w % 10 = 0 →
    exec (.pldmBudget w) s = .next { s with pwr := { s.pwr with nextBudget := some w } }) ∧
  (∀ (w : Nat) (s : State), exec (.currentSensorSample w) s = .next { s with pwr := { s.pwr with fixed := w } }) ∧
  (∀ (rail mv ma temp : Nat) (s : State), exec (.pmbusRead rail mv ma temp) s = .next { s with pwr := { s.pwr with pmbus := s.pwr.pmbus.put rail (mv, ma, temp) } }) ∧
  (∀ (low : Bool) (s : State), exec (.prochotChange low) s = .next { s with pwr := { s.pwr with prochot := low } }) ∧
  (∀ (now : Nat) (s : State), exec (.currantTokenRefresh now) s =
    .next { s with now := max s.now now, pwr := { s.pwr with grantable := s.limitW - s.pwr.fixed } }) ∧
  (∀ (key n : Nat) (rest : List (Nat × Nat)) (s : State), s.pwr.queue = (key, n) :: rest → sumNat s.pwr.granted.vals + n ≤ s.pwr.grantable →
    exec .tokenGrant s = .next { s with pwr := { s.pwr with queue := rest, granted := s.pwr.granted.put key n } }) ∧
  (∀ (key n : Nat) (rest : List (Nat × Nat)) (s : State), s.pwr.queue = (key, n) :: rest → s.pwr.grantable < sumNat s.pwr.granted.vals + n → s.peakOk = false →
    exec .tokenGrant s = .next s) ∧
  (∀ (us : Nat) (s : State), bit (s.setting 0x45 1) 1 = true → 20000 ≤ us → s.pwr.clamped = false →
    exec (.peakClamp us) s = .next (State.raise { s with pwr := { s.pwr with peakUs := us, clamped := true } } evPeakClamp 4 [])) ∧
  (∀ (now avg avg10 outside : Nat) (s : State), s.pwr.lowestHold = none → s.pwr.duty = false →
    exec (.clockStepEvaluation now avg avg10 outside) s = .next (State.chooseStep { s with now := max s.now now, pwr := { s.pwr with avg := avg, avg10 := avg10, outside := outside, budget := s.pwr.nextBudget.orElse fun _ => s.pwr.budget, nextBudget := none } })) ∧
  (∀ (now : Nat) (rs : List (Option Int)) (s u : State), u = { s with now := max s.now now, pwr := { s.pwr with sensors := (rs ++ List.replicate 96 none).take 96 } } →
    u.anySensor (fun i t => decide (u.zlim (zoneOf i) < t)) = true →
    exec (.thermalLimitUpdate now rs) s = .next (State.noteCool { u with pwr := { u.pwr with therm := max (s.pwr.therm - 10) 400 } }).refreshWarning) ∧
  (∀ (i : Nat) (temp : Int) (s : State), s.pwr.boost = true → 95 ≤ temp → ((s.sense i temp).noteCool.refreshWarning).pwr.boost = true →
    exec (.boostEnd i temp) s = .next (State.raise { (s.sense i temp).noteCool.refreshWarning with pwr := { (s.sense i temp).noteCool.refreshWarning.pwr with boost := false, cooling := true, lastCool := (s.sense i temp).noteCool.refreshWarning.now } } evBoostEnd 4 [])) ∧
  (∀ (now : Nat) (s : State), s.pwr.cooling = true → s.allSensors (fun _ t => decide (t < 92)) = false → s.pwr.lowestHold = none →
    s.pwr.lastCool + 10000000 ≤ now →
    exec (.boostCooldownStep now) s = .next { s with now := max s.now now, pwr := { s.pwr with step := s.pwr.step - 1, lastCool := max s.now now } }) ∧
  (∀ (now t : Nat) (s : State), s.pwr.below90 = some t → bit (s.setting 0x45 1) 0 = true → s.pwr.boost = false → t + 60000000000 ≤ now →
    exec (.boostRearm now) s = .next { s with now := max s.now now, pwr := { s.pwr with boost := true, cooling := false } }) ∧
  (∀ (jobId now mhz t : Nat) (h : HeldFreq) (s : State), s.pwr.held.find jobId = some h → h.next = some (mhz, t) → t ≤ now →
    exec (.heldFreqTimeReached jobId now) s = .next ((s.advance now).setHold jobId mhz)) ∧
  (∀ (now job ask at' : Nat) (s : State), s.pwr.request = some (job, ask, at') → at' + 200000000 ≤ now → s.pwr.held.find job = none →
    exec (.heldModeLeft now) s = .next (((State.applyHold { s with now := max s.now now, pwr := { s.pwr with request := none, duty := false, held := s.pwr.held.del job } }).bump 0x0002004C 1).raise evHeldLeft 4 (leBytes 2 job)))

/-- A sensor at 110 °C trips the device, latched without a ring record; a coolant stop latches, stops the engines
and flushes the media; flow that returns stops no longer counting; the end of the flush seals the media,
leaves only domain 27 powered and halts; PWR_FAIL_N stops the engines and begins the holdup flush; its end
with power back starts the media path again; an idle tile domain powers down unless work came, and wakes once
its tokens are granted. (R481, R486, R487, R488, R549, R550, R463, R464, R465) -/
def Obligations.StopsAndDomainsComplete : Prop :=
  (∀ (i : Nat) (temp : Int) (s : State), 110 ≤ temp → s.pwr.tripped = false →
    ∃ t : State, exec (.thermtrip i temp) s = .next t ∧ t.pwr.tripped = true ∧ t.evt = s.evt ∧ t.jobs = s.jobs ∧ t.med = s.med ∧
      t.sloe = { s.sloe with cause := s.sloe.cause ||| 2, latches := latchFatal s.sloe.latches { time := s.now, seq := 0, code := 0x0507, sev := 3, rsvSlot := false, die := zoneOf i, count := 1, detail := (leBytes 1 i ++ zeros 12).take 12 } }) ∧
  (∀ (s : State), s.pwr.stopped = false → s.pwr.tripped = false → s.sys.ready = true →
    exec .coolantStop s = .next s.latchStop.stopEngines.stopFlush) ∧
  (∀ (s : State), s.pwr.flowLow = true → exec .coolantFlowReturn s = .next { s with pwr := { s.pwr with flowLow := false }, sys := { s.sys with suspended := s.sys.suspended + (s.now - s.pwr.flowAt) } }) ∧
  (∀ (s : State), s.pwr.stopped = true → s.pwr.halted = false → s.med.flush ≠ 0 →
    ∃ t : State, exec (.coolantFlushEnd true) s = .next t ∧ t.pwr.halted = true ∧ t.sys.ready = false ∧
      t = { s.endFlush.domainsOff (fun d => d != 27) with pwr := { (s.endFlush.domainsOff (fun d => d != 27)).pwr with halted := true }, sys := { s.endFlush.sys with ready := false } }) ∧
  (∀ (s : State), s.med.flush = 0 → s.pwr.stopped = false → s.alive = true → s.med.state ≠ 0 →
    exec .pwrFailAssert s = .next ((State.stopEngines { s with pwr := { s.pwr with pwrFail := true } }).beginFlush 1)) ∧
  (∀ (s : State), s.med.flush = 1 →
    exec (.holdupFlushComplete false) s = .next { s.endFlush with pwr := { s.endFlush.pwr with pwrFail := true } }) ∧
  (∀ (d now : Nat) (s : State), d < 24 → (s.domain d).on = true → s.domainBusy d = false → (s.domain d).lastUse + s.setting 0x46 2 * 1000000 ≤ now →
    exec (.domainIdleTimer d now) s = .next ((s.advance now).updDomain d (fun k => { k with downing := true }))) ∧
  (∀ (d now : Nat) (s : State), (s.domain d).downing = true →
    exec (.domainPowerDownCommit d true now) s = .next ((s.advance now).postWork d)) ∧
  (∀ (d now : Nat) (s : State), (s.domain d).downing = true → s.tst.slices = [] →
    ∃ t u : State, exec (.domainPowerDownCommit d false now) s = .next t ∧
      u = State.updDomain { s.advance now with tst := { s.tst with slices := [] } } d (fun k => { k with on := false, downing := false, offSince := max s.now now }) ∧
      t = (u.emptyCache d).noteAsleep (d / 6)) ∧
  (∀ (d : Nat) (s : State), (s.domain d).waking = true → s.pwr.granted.has (4096 + d) = true →
    ∃ t : State, exec (.domainWakeComplete d) s = .next t ∧ t.mem = s.mem ∧ t.jobs = s.jobs ∧
      t.pwr = ((s.updDomain d (fun k => { k with on := true, waking := false, lastUse := s.now })).returnTokens (4096 + d)).pwr ∧
      t.tiles = updAt s.tiles (d / 6) (fun y => if y.state = 4 then { y with state := 1 } else y))

/-- For the delivering epoch or the next of a job: the end of a scan counts its network passes and enters its
result; a count, step, record or marker message is kept in the plan, which then moves on as far as what it
holds lets it; an abort message abandons a plan in progress; a recovery that can end completes its commands
with SUCCESS and starts a leak audit. (R84, R85, R86, R91, R52, R304) -/
def Obligations.PlanMessagesComplete : Prop :=
  (∀ (jobId epoch rank slot : Nat) (j : Job) (p : EpochPlan) (s : State), s.jobNamed jobId = some (slot, j) → epoch = j.epoch ∨ epoch = j.epoch + 1 →
    j.plan epoch = some p → p.phase = 1 ∨ p.phase = 3 ∨ p.phase = 8 → p.ranks.contains rank = true → p.scanned.contains rank = false →
    exec (.planScanComplete jobId epoch rank) s = .next (State.advancePlan slot epoch 4 (s.scanEnds slot j p rank))) ∧
  (∀ (rank jobId epoch slot : Nat) (digest : Bytes) (counts : List Nat) (j : Job) (p : EpochPlan) (s : State), s.jobNamed jobId = some (slot, j) →
    epoch = j.epoch ∨ epoch = j.epoch + 1 → (j.plan epoch).getD (EpochPlan.blank epoch) = p → rank < j.planRanks → p.phase ≠ 6 → p.phase ≠ 8 →
    exec (.countEntryReceive rank jobId epoch digest counts) s = .next (State.advancePlan slot epoch 4
      (s.setJob slot (j.setPlan { p with counts := p.counts.put rank (digest, counts) })))) ∧
  (∀ (rank jobId epoch slot : Nat) (entries : List (Nat × Nat)) (j : Job) (p : EpochPlan) (s : State), s.jobNamed jobId = some (slot, j) →
    epoch = j.epoch ∨ epoch = j.epoch + 1 → (j.plan epoch).getD (EpochPlan.blank epoch) = p → rank < j.planRanks → p.phase ≠ 6 → p.phase ≠ 8 →
    exec (.stepEntryReceive rank jobId epoch entries) s = .next (State.advancePlan slot epoch 4
      (s.setJob slot (j.setPlan { p with steps := p.steps.put rank entries })))) ∧
  (∀ (jobId epoch slot : Nat) (rec : Bytes) (j : Job) (p : EpochPlan) (s : State), s.jobNamed jobId = some (slot, j) →
    epoch = j.epoch ∨ epoch = j.epoch + 1 → (j.plan epoch).getD (EpochPlan.blank epoch) = p → s.serves j (parsePlanRec rec).ordinal = true → p.phase ≠ 6 →
    exec (.planRecordReceive jobId epoch rec) s = .next (State.advancePlan slot epoch 4 (s.setJob slot (j.setPlan (p.store (parsePlanRec rec)))))) ∧
  (∀ (rank jobId epoch count slot : Nat) (j : Job) (p : EpochPlan) (s : State), s.jobNamed jobId = some (slot, j) →
    epoch = j.epoch ∨ epoch = j.epoch + 1 → (j.plan epoch).getD (EpochPlan.blank epoch) = p → rank < j.planRanks → p.phase ≠ 6 →
    exec (.endMarkerReceive rank jobId epoch count) s = .next (State.advancePlan slot epoch 4
      (s.setJob slot (j.setPlan { p with markers := p.markers.put rank count })))) ∧
  (∀ (rank jobId epoch lost slot : Nat) (j : Job) (p : EpochPlan) (s : State), s.jobNamed jobId = some (slot, j) → j.plan epoch = some p → p.building = true →
    exec (.abortMessageReceive rank jobId epoch lost) s = .next (s.abandonPlan slot p { status := 0x0605 } (some lost))) ∧
  (∀ (jobId slot : Nat) (j : Job) (r : Recovery) (s : State), s.jobNamed jobId = some (slot, j) → j.recovery = some r → r.status = 0 → r.opcode = 0x020C →
    exec (.recoveryComplete jobId) s = .next (((State.advanceCursor slot 2 (s.setJob slot { j with recovery := some { r with status := 1, waiters := [] } })).finishAll
      r.waiters success).startAudit 2 none success))

/-- GO starts an audit where none runs; an audit that ends leaves the audits in progress, its summary shows and
cells in breach are freed; LOCK sets; an allowed write of BNK_OWN begins a handover, of BNK_STATE a
transition; the handover and the transition end. (R304, R305, R306, R307, R282, R285, R290) -/
def Obligations.PoolAndBankEventsComplete : Prop :=
  (∀ (path v : Nat) (s : State), s.passes path 0x00200010 = true → bit v 0 = true → s.mem.audits = [] →
    exec (.poolAuditGo path v) s = .next (s.startAudit 0 none success)) ∧
  (∀ (a : Audit) (rest : List Audit) (s : State), s.mem.audits = a :: rest →
    exec .leakAuditComplete s = .next (State.auditEnds { s with mem := { s.mem with audits := rest } } a)) ∧
  (∀ (path die v : Nat) (s : State), die < 5 → s.passes path (0x00100004 + 0x4000 * die) = true → bit v 0 = true →
    exec (.bnkLock path die v) s = .next { s with mem := { s.mem with locks := s.mem.locks ||| 2 ^ die } }) ∧
  (∀ (path die bank v : Nat) (s : State), die < 5 → bank < dieBanks die → s.passes path (bnkReg die (0x800 + 8 * bank)) = true →
    s.locked die = false → s.handoverOk die bank (bits v 0 12) = true →
    exec (.bnkOwnWrite path die bank v) s = .next (s.beginHandover die bank (bits v 0 12) (bit v 12))) ∧
  (∀ (die bank o : Nat) (s : State), (s.bank die bank).pending = some (o, false) →
    exec (.bankHandoverComplete die bank) s = .next (s.setBank die bank { s.bank die bank with owner := o, pending := none, prev := 0 })) ∧
  (∀ (path die bank v : Nat) (s : State), die < 5 → bank < dieBanks die → s.passes path (bnkReg die (0x804 + 8 * bank)) = true → bit v 10 = false →
    s.locked die = false → bits v 0 2 ≠ 3 → bits v 0 2 ≠ (s.bank die bank).state → s.bankMoveOk die bank (bits v 0 2) = true →
    exec (.bnkStateWrite path die bank v) s = .next (s.beginBankMove die bank (bits v 0 2))) ∧
  (∀ (path die bank v : Nat) (s : State), die < 5 → bank < dieBanks die → s.passes path (bnkReg die (0x804 + 8 * bank)) = true → bit v 10 = true → bits v 0 2 = 3 →
    exec (.bnkStateWrite path die bank v) s = .next (s.setBank die bank { s.bank die bank with fault := false })) ∧
  (∀ (die bank st : Nat) (s : State), (s.bank die bank).next = some st → (s.bank die bank).pending = none → (s.bank die bank).test = false →
    st ≠ 0 → (s.bank die bank).state ≠ 0 →
    exec (.bankTransitionComplete die bank) s = .next (s.setBank die bank { s.bank die bank with state := st, next := none })) ∧
  (∀ (die bank : Nat) (s : State), (s.bank die bank).next = some 0 → (s.bank die bank).pending = none → (s.bank die bank).test = false →
    exec (.bankTransitionComplete die bank) s = .next ((s.clearBank die bank).setBank die bank { s.bank die bank with state := 0, next := none }))

/-- START places a fresh nonce with its time; GO with a good signature within 60 s, for a slot that holds a
credential, binds the ring to the slot, and with a bad signature the binding fails with an event; an SPDM
FINISH that fits its exchange makes the session; an expired credential is marked once, with an event; the
first time lock turns validity checks on; FATAL_CLR clears the latches; a withheld event signal goes out once
100 µs have passed. The nonce is the model's free value Config.random (log 5). (R532, R536, R560, R561, R562,
R564, R570) -/
def Obligations.SecurityAndEventRowsComplete : Prop :=
  (∀ (path v : Nat) (s : State), s.passes path 0x00050010 = true → bit v 14 = true → bit v 15 = false →
    exec (.secBindStart path v) s = .next { s with fresh := s.fresh + 1, sec := { s.sec with bindSlot := bits v 0 8, bindRing := bits v 8 6, nonce := tabulate 12 (fun i => bits (Config.random s.fresh % 2 ^ 384) (32 * i) 32), nonceAt := some s.now } }) ∧
  (∀ (path v t : Nat) (s : State), s.passes path 0x00050010 = true → bit v 14 = false → bit v 15 = true → s.sec.nonceAt = some t →
    s.now ≤ t + 60000000000 → s.sec.creds.has (bits v 0 8) = true → s.sec.bindings.contains (bits v 8 6, bits v 0 8) = false →
    exec (.secBindGo path v true) s = .next { s with sec := { s.sec with bindSlot := bits v 0 8, bindRing := bits v 8 6, bindOk := true, bindings := s.sec.bindings ++ [(bits v 8 6, bits v 0 8)] } }) ∧
  (∀ (path v : Nat) (s : State), s.passes path 0x00050010 = true → bit v 14 = false → bit v 15 = true →
    exec (.secBindGo path v false) s = .next (State.raise { s with sec := { s.sec with bindSlot := bits v 0 8, bindRing := bits v 8 6, bindOk := false } }
      evBindFail 4 [])) ∧
  (∀ (eid arg : Nat) (leaf : Bytes) (s : State), s.alive = true → s.sec.exchanges.contains eid = true →
    exec (.spdmRequest eid 0xE5 arg leaf true) s = .next (State.emit { s with sec := { s.sec with exchanges := s.sec.exchanges.filter (· != eid), sessions := s.sec.sessions.put eid leaf } } (.mctp eid "FINISH_RSP" [0xE5, arg] (s.spdmData 0xE5 arg)))) ∧
  (∀ (slot now : Nat) (c : Credential) (s : State), s.sec.creds.find slot = some c → s.sec.timeChecked = true → c.expired = false → c.notAfter < now →
    exec (.credentialExpiry slot now) s = .next (State.raise { s with now := max s.now now, sec := { s.sec with creds := s.sec.creds.put slot { c with expired := true } } }
      evCredExpired 4 (leBytes 1 slot))) ∧
  (∀ (now n : Nat) (s : State), s.alive = true → s.sec.timeChecked = false → s.sec.startNumber = some n →
    exec (.firstTimeLock now) s = .next { s with now := max s.now now, sec := { s.sec with timeChecked := true } }) ∧
  (∀ (path v : Nat) (s : State), s.passes path 0x00040004 = true → bit v 3 = true →
    exec (.evtFatalClear path v) s = .next { s with evt := { s.evt with irqEn := bit v 0, irqSev := bits v 1 2, withheld := s.evt.withheld && bit v 0 }, sloe := { s.sloe with latches := List.replicate 6 none } }) ∧
  (∀ (now t : Nat) (s : State), s.evt.withheld = true → s.evt.irqEn = true → s.evt.lastIrq = some t → t + 100000 ≤ now →
    exec (.eventIrqHoldoffExpiry now) s = .next (State.emit { s with now := max s.now now, evt := { s.evt with withheld := false, lastIrq := some (max s.now now) } }
      (.msix 1 64)))

/-- GO of the expression unit starts an evaluation and its end shows the result; a first loss of a reference marks
its monitor, counts and raises an event; a restored clock is noted; a link delay exchange with the neighbour
followed corrects the time and relocks it; a PTP offset corrects a source's time; a device that was not in
holdover enters it with an event; an Ethernet port changes state; PFC pauses and resumes a priority that is
enabled for it; ten seconds of holdover raise an event. (R103, R362, R363, R365, R502, R503, R504, R94) -/
def Obligations.ClocksAndTimeComplete : Prop :=
  (∀ (path v : Nat) (s : State), s.passes path 0x00300040 = true → exec (.brmEvalGo path v) s = .next (s.setBrm (s.brm.writeCtrl v))) ∧
  (∀ (e : EvalJob) (v walks : Nat) (s : State), s.brm.running = some e → e.result = some (v, walks) →
    exec .brmEvalDone s = .next ((s.setBrm { s.brm with running := none, done := true, out := v, walks := min walks 255 }).bump64 0x00300010 (walks + 1))) ∧
  (∀ (m now : Nat) (s : State), m < 7 → (s.monitor m).state ≠ 1 →
    exec (.clkLoss m now) s = .next (State.clockLost (State.raise (State.bump ((s.advance now).updMonitor m
      (fun k => { k with state := 1, inUse := false, last := max s.now now })) (clkReg m 4) 1) evClkLoss 4 (leBytes 1 m)) m (s.monitor m).inUse)) ∧
  (∀ (m : Nat) (ppm : Int) (s : State), m < 7 → (s.monitor m).state = 1 ∨ (s.monitor m).state = 2 →
    exec (.clkRestored m ppm) s = .next (State.clockBack (State.raise (s.updMonitor m
      (fun k => { k with state := 0, ppm := clampInt ppm (-32768) 32767 })) evClkRestored 4 (leBytes 1 m)) m)) ∧
  (∀ (now t : Nat) (s : State), s.pwr.holdover = some t → t + 10000000000 ≤ now →
    exec (.clkHoldoverExpiry now) s = .next ((s.advance now).raise evClkLoss 4 (leBytes 1 0))) ∧
  (∀ (f now hops : Nat) (corr : Int) (s t : State) (b : Nat × Nat × Nat), f < 16 → (s.fabPort f).carries = true → s.net.isSource = false →
    (s.advance now).updPort f (fun p => { p with timeHops := some hops, lastRx := max s.now now }) = t → t.net.follows = some b → b.2.2 = f →
    ∃ u : State, exec (.linkDelayExchange f now hops corr true) s = .next u ∧
    u = { t.correct corr with net := { (t.correct corr).net with locked := true, hops := min 15 (b.1 + 1), holdover := false } }) ∧
  (∀ (q : Nat) (offset : Int) (s : State), s.net.isSource = true → bits s.net.ptp 12 3 = q → (s.net.eth.getD q {}).state = 2 →
    ∃ t : State, exec (.ptpMessageReceive q offset) s = .next t ∧ t = { s.correct (-offset) with net := { s.net with ptpOffset := offset, ptpLocked := true, locked := true, hops := 0, holdover := false } }) ∧
  (∀ (s : State), s.net.holdover = false →
    exec .timeHoldover s = .next (State.raise { s with net := { s.net with locked := false, hops := 15, ptpLocked := false, holdover := true } } evTimeHoldover 4 [])) ∧
  (∀ (q st : Nat) (s : State), q < 8 → st ≤ 2 → s.domainOn (29 + 2 * (q / 4)) = true → s.dieUnclocked (q / 4) = false →
    exec (.ethPortLinkChange q st) s = .next (State.serve { s with net := { s.net with eth := updAt s.net.eth q (fun e => { e with state := st, paused := if st = 2 then e.paused else 0 }) } } (16 + q))) ∧
  (∀ (q prio : Nat) (pause : Bool) (s : State), q < 8 → prio < 8 → bit (s.net.eth.getD q {}).pfcEn prio = true →
    exec (.pfcFrameReceive q prio pause) s = .next (State.serve { s with net := { s.net with eth := updAt s.net.eth q (fun e => { e with paused := setBits e.paused prio 1 (b2n pause) }) } } (16 + q)))

/-- A warm reset by an agreed cause resets what R496 says; loss of the main rails clears the dies with cause 7;
valid main rails give a cold reset, its cause 1 after a thermal trip; standby power brings Sloe up with its
strap; its removal clears all; a start step that is due and good marks its place, and one that fails takes the
failure path; the watchdog fails a start that is not ready after 120 s and takes a live activation back; a
ready live activation ends; a failed hub unit raises its event, takes the device out of its jobs and starts
the fatal path. (R494, R495, R496, R497, R500, R507, R514, R517, R99) -/
def Obligations.ResetsAndStartComplete : Prop :=
  (∀ (cause : Nat) (s : State), s.canRun = true → 2 ≤ cause → cause ≤ 6 → exec (.warmReset cause) s = .next (s.deviceReset false cause)) ∧
  (∀ (s : State), s.sys.rails = true → exec .mainRailLoss s = .next { s.clearDies true 7 with sys := { (s.clearDies true 7).sys with rails := false } }) ∧
  (∀ (s t : State), s.sys.rails = false → s.sys.standby = true → s.deviceReset true (if s.pwr.tripped then 1 else s.sys.cause) = t →
    exec .mainRailsValid s = .next { t with sys := { t.sys with rails := true }, pwr := { t.pwr with tripped := s.pwr.tripped && !s.allSensors (fun _ t => decide (t < 100)) } }) ∧
  (∀ (strap : Nat) (s : State), s.sys.standby = false → s.sys.rails = false →
    exec (.standbyRailsApply strap) s = .next { s with sys := { s.sys with standby := true, strap := bits strap 0 4, cause := 0 }, sloe := { ticksAt := s.now, onRc := true }, upd := { s.upd with sloePending := false, restart := false } }) ∧
  (∀ (s t : State), s.sys.standby = true → s.clearDies true 0 = t →
    exec .standbyRailsRemove s = .next { t with sys := { t.sys with standby := false, strap := 0 }, sloe := {}, pwr := { t.pwr with tripped := false } }) ∧
  (∀ (k now : Nat) (out : StartOut) (s t : State), (s.advance now).stepDue k = true → (s.advance now).startStep k out = (t, none) →
    exec (.startStepComplete k now out) s = .next (t.markStep k)) ∧
  (∀ (k now reason step : Nat) (out : StartOut) (s t : State), (s.advance now).stepDue k = true → (s.advance now).startStep k out = (t, some (reason, step)) →
    exec (.startStepComplete k now out) s = .next (t.failStart reason step)) ∧
  (∀ (now : Nat) (s : State), s.canRun = true → s.sys.readyOnce = false → s.sys.pit = false → s.pwr.flowLow = false →
    s.sys.resetAt + 120000000000 + s.sys.suspended ≤ now →
    exec (.bootWatchdogExpiry now) s = .next ((s.advance now).failStart 8 s.lastStep)) ∧
  (∀ (now : Nat) (s : State), s.canRun = true → s.sys.readyOnce = true → s.upd.activating.isSome = true → s.upd.activateAt + 120000000000 ≤ now →
    exec (.bootWatchdogExpiry now) s = .next (s.advance now).revertActivation) ∧
  (∀ (now : Nat) (w : Waiter) (s : State), s.upd.activating = some w →
    exec (.liveActivationReady now) s = .next ((s.advance now).endActivation w)) ∧
  (∀ (unit : Nat) (s : State), exec (.hubUnitFault unit) s = .next (State.fatalStart (s.raise evHubUnitFault 4 (leBytes 1 unit)).leaveJobs 0x0106))

/-- A function level reset of PF0 resets its queues and one of PF1 its rings; PERST# low, once it had been high,
takes the host link down and resets PF1, and high is noted; a link that comes up posts the NVMe completions
kept; a configuration request after start step 6 answers the word, and before it a retry status; a word
written in the update window is kept. (R412, R413, R447, R494, R495, R407, R522) -/
def Obligations.HostLinkEventsComplete : Prop :=
  (∀ (s : State), exec .pf0Flr s = .next (s.nvmeReset 0)) ∧
  (∀ (s : State), exec .pf1Flr s = .next s.resetPf1) ∧
  (∀ (s t : State), s.sys.perstSeen = true → State.resetPf1 (State.hostLinkDown { s with sys := { s.sys with perstLow := true } }) = t →
    exec .perstAssert s = .next { t with sys := { t.sys with perst := true } }) ∧
  (∀ (now : Nat) (s : State), exec (.perstDeassert now) s = .next { s with now := max s.now now, sys := { s.sys with perstLow := false, perstSeen := true } }) ∧
  (∀ (s : State), exec .pcieLinkDown s = .next s.hostLinkDown) ∧
  (∀ (s : State), s.sys.perstLow = false → s.alive = true → s.nvme.posts = [] →
    exec .pcieLinkUp s = .next { s with nvme := { s.nvme with linkUp := true } }) ∧
  (∀ (pf off : Nat) (s : State), s.hostUp = true → pf < 2 →
    exec (.configurationRequest pf off) s = .next (if s.stepDone 6 then s.emit (.config pf off (s.pciDword pf off) false) else s.emit (.config pf off 0 true))) ∧
  (∀ (path off v : Nat) (s : State), off < 65536 → off % 4 = 0 → s.passes path (updReg (0x10000 + off)) = true →
    exec (.updWindowWrite path off v) s = .next { s with upd := { s.upd with window := writeMem s.upd.window off (leBytes 4 v) } })

/-- FAB_PORT_CTRL retrains, recalibrates a port or serves a lane that is neither in use elsewhere nor free of a
spare; a trained link with a version in common comes up, and with fewer than four good lanes stays down; a
port that loses its link stops, its routes move and recoveries through it are interrupted; a failing lane
takes the spare; a peer silent for 1 ms on every link is lost; a device unreachable for 5 ms is reported once
to every job that names it; a bad packet is asked for again, a good one for this device is kept once; a credit
lets a port send; an idle port asks for a quiet state and enters it if no packet came; exit makes it active; a
quiet port sends keep-alive. (R345, R346, R349, R350, R352, R353, R359, R360, R361, R332) -/
def Obligations.FabricCommandsComplete : Prop :=
  (∀ (path f v : Nat) (s : State), f < 16 → s.passes path (fabPortReg f 0x0C) = true → (s.fabPort f).busy = false → bits v 0 3 = 1 → bits v 4 4 ≤ 8 →
    exec (.fabPortRetrain path f v) s = .next ((s.updPort f (fun p => { p with lane := bits v 4 4 })).servicePort f 1)) ∧
  (∀ (path f v : Nat) (s : State), f < 16 → s.passes path (fabPortReg f 0x0C) = true → (s.fabPort f).busy = false → bits v 0 3 = 2 → bits v 4 4 ≤ 8 →
    exec (.fabPortRecal path f v) s = .next ((s.updPort f (fun p => { p with lane := bits v 4 4 })).servicePort f 2)) ∧
  (∀ (path f v : Nat) (s : State), f < 16 → s.passes path (fabPortReg f 0x0C) = true → (s.fabPort f).busy = false → bits v 0 3 = 4 → bits v 4 4 ≤ 8 →
    exec (.fabLaneRecal path f v) s = .next ((s.updPort f (fun p => { p with lane := bits v 4 4 })).serviceLane f (bits v 4 4))) ∧
  (∀ (f lanes peer peerPort ver affected now n : Nat) (found : List Nat) (s : State), f < 16 → s.fabricOn f = true → s.dieUnclocked (f / 8) = false → (s.fabPort f).ctrl ≠ 3 →
    (s.fabPort f).carries = false → 4 ≤ goodLanes lanes → miswired s.self f peer peerPort = false → linkVersion s.sys.fabricN ver = some n →
    exec (.portTrainingComplete f lanes peer peerPort ver affected now found) s = .next ((s.advance now).portUp f (lanes % 512) peer peerPort n affected found)) ∧
  (∀ (f lanes peer peerPort ver affected now : Nat) (found : List Nat) (s : State), f < 16 → s.fabricOn f = true → s.dieUnclocked (f / 8) = false → (s.fabPort f).ctrl ≠ 3 →
    (s.fabPort f).carries = false → goodLanes lanes < 4 →
    exec (.portTrainingComplete f lanes peer peerPort ver affected now found) s = .next ((s.advance now).portFails f)) ∧
  (∀ (f affected now : Nat) (lost : List Nat) (s : State), f < 16 → (s.fabPort f).carries = true →
    exec (.linkDown f affected now lost) s = .next (((((s.advance now).portStops f 0).noteLost lost).routeChange affected).interruptRecoveries)) ∧
  (∀ (f lane affected now : Nat) (lost : List Nat) (s : State), f < 16 → lane < 8 → (s.fabPort f).carries = true → bit (s.fabPort f).failed lane = false →
    (s.fabPort f).spareFree = true →
    exec (.laneFail f lane affected now lost) s = .next (((s.advance now).updPort f
      (fun p => { p with failed := p.failed ||| 2 ^ lane, spareUsed := true, spareFor := lane })).raise evLaneSpared (fabDieOf f) [])) ∧
  (∀ (dev affected now : Nat) (lost : List Nat) (s : State), s.portsTo dev ≠ [] →
    (s.portsTo dev).all (fun f => decide ((s.fabPort f).lastRx + 1000000 ≤ max s.now now)) = true →
    exec (.peerLost dev affected now lost) s = .next ((((s.advance now).raise evPeerLost 4 (leBytes 2 dev)).noteLost lost).routeChange affected)) ∧
  (∀ (dev now t : Nat) (s u : State), s.net.lost.find dev = some (t, false) → (s.advance now).noRoute5ms dev = true →
    { s.advance now with net := { s.net with lost := s.net.lost.put dev (t, true) } } = u →
    exec (.deviceUnreachable dev now) s = .next ((u.jobs.filter (fun j => j.2.devices.contains dev)).foldl (fun s j =>
      (s.raise evDeviceUnreachable 4 (leBytes 2 dev ++ leBytes 2 j.2.id)).loseDevice j.1 dev true) u)) ∧
  (∀ (f : Nat) (p : FabricIn) (s : State), f < 16 → p.cls ≤ 15 → p.vc ≤ 7 → (s.fabPort f).carries = true → p.crcBad = true →
    exec (.fabricPacketReceive f p) s = .next ((s.bump (fabPortReg f 0x20) 1).emit (.link f "replay" [p.seq]))) ∧
  (∀ (f vc : Nat) (s : State), f < 16 → vc ≤ 7 → (s.fabPort f).carries = true → (s.fabPort f).unacked = [] →
    exec (.flowCreditReceive f vc) s = .next ((s.updPort f (fun p => { p with credits := updAt p.credits vc (· + 1), unacked := match p.unacked.find? (fun k => k.vc == vc) with | some k => p.unacked.erase k | none => p.unacked })).serve f)) ∧
  (∀ (f load now t : Nat) (s : State), f < 16 → (s.net.dies.getD (f / 8) {}).quietTarget (s.fabPort f).state load = some t →
    (s.fabPort f).request = none → (s.fabPort f).exiting = false → (s.fabPort f).ctrl = 0 → (s.shaper f).queue = [] →
    exec (.portIdleTimer f load now) s = .next (((s.advance now).updPort f (fun p => { p with request := some t })).emit (.link f "quiet-request" [t]))) ∧
  (∀ (f t : Nat) (s : State), (s.fabPort f).request = some t →
    exec (.quietEntryCommit f none) s = .next (s.updPort f (fun p => { p with request := none, state := t }))) ∧
  (∀ (f : Nat) (s : State), (s.fabPort f).exiting = true →
    exec (.quietExitComplete f) s = .next ((s.updPort f (fun p => { p with exiting := false, state := 2 })).serve f)) ∧
  (∀ (now : Nat) (s : State), exec (.quietKeepalive now) s = .next (((List.range 16).filter (fun f => (s.fabPort f).state == 4)).foldl
      (fun s f => (s.bump64 (fabPortReg f 0x10) 1).emit (.link f "keep-alive" [])) (s.advance now)))

/-- COMMIT takes the staged gate list; at its base time the committed list becomes the operating one from its
first entry, and the port is served; at the end of an interval the entry of the present time in the cycle
opens; once each microsecond every bucket takes its refill and the ports are served. (R368, R369, R371, R372) -/
def Obligations.ShapingCommandsComplete : Prop :=
  (∀ (path sp v : Nat) (s : State), sp < 24 → s.passes path (shpReg sp 4) = true → bit v 16 = true →
    exec (.shpGclCommit path sp v) s = .next (State.commitGates (s.setShaper sp { s.shaper sp with adminLen := bits v 0 9, err := (s.shaper sp).err && !bit v 18 }) sp)) ∧
  (∀ (sp now b : Nat) (gs : List Gate) (s : State), (s.shaper sp).pending = some (b, gs) → b ≤ now →
    exec (.gclBaseTimeReached sp now) s = .next (((s.advance now).setShaper sp { s.shaper sp with oper := some (b, gs), pending := none, entry := 0 }).serve sp)) ∧
  (∀ (sp now b : Nat) (gs : List Gate) (s : State), (s.shaper sp).oper = some (b, gs) →
    exec (.gateIntervalEnd sp now) s = .next (((s.advance now).setShaper sp
      { s.shaper sp with entry := (gateAt gs ((max s.now now - b) % gateCycle gs) 0).1 }).serve sp)) ∧
  (∀ (now : Nat) (s : State), s.net.refilled / 1000 < max s.now now / 1000 →
    exec (.shaperRefill now) s = .next (State.serveAll { s.advance now with net := { s.net with refilled := max s.now now, shapers := s.net.shapers.map Shaper.refill } }))

/-- A request received that passes the window checks is served, and one that fails them is refused with the status
of its first failed check; a response ends its request; a report of a violation raises an event; a request
unanswered for the timeout ends with 0x0801; a closing window goes, its chain's reference is dropped and its
command completes; each 100 ms every mirror takes its interval; a mirror write that fails is counted; a mirror
setup closes the older window of the job and device and opens a new one or refuses; its reply is kept; after
one second without a mirror the setup is asked again; a release closes the window. (R326, R327, R330, R331,
R333, R334, R336) -/
def Obligations.RemoteMemoryEventsComplete : Prop :=
  (∀ (q : RmaIn) (v : Window) (s : State), s.rma.windows.find q.window = some v → rmaCheck (some v) q = 0 →
    exec (.rmaRequestReceive q) s = .next (s.serveRequest q v)) ∧
  (∀ (q : RmaIn) (s : State), rmaCheck (s.rma.windows.find q.window) q ≠ 0 →
    exec (.rmaRequestReceive q) s = .next (s.refuseRequest q (rmaCheck (s.rma.windows.find q.window) q))) ∧
  (∀ (id status : Nat) (data : Bytes) (r : RmaRequest) (w : Waiter) (s : State), s.rma.requests.find id = some r → r.cmd = some w → status ≠ 0 →
    exec (.rmaResponseReceive id status data) s = .next (State.finish { s with rma := { s.rma with requests := s.rma.requests.del id } } w { status := status })) ∧
  (∀ (dev window off len status : Nat) (s : State),
    exec (.rmaViolationRemote dev window off len status) s = .next (s.raise evRmaViolationRemote 4 (violationDetail dev window off len status))) ∧
  (∀ (id now : Nat) (r : RmaRequest) (s : State), s.rma.requests.find id = some r → r.sentAt + 1000 * s.rma.timeoutUs ≤ now →
    exec (.rmaTimeout id now) s = .next ((s.advance now).endRequest id 0x0801 [])) ∧
  (∀ (window : Nat) (v : Window) (w : Waiter) (s : State), s.rma.windows.find window = some v → v.closing = some (some w) →
    exec (.windowCloseComplete window) s = .next (State.finish (State.dropRef { s with rma := { s.rma with windows := s.rma.windows.del window } }
      (cellRef v.pool v.cell)) w success)) ∧
  (∀ (now : Nat) (s : State), s.rma.mirroredAt + 100000000 ≤ now →
    exec (.cursorMirrorTimer now) s = .next (s.jobs.keys.foldl State.mirrorInterval { s.advance now with rma := { s.rma with mirroredAt := max s.now now } })) ∧
  (∀ (jobId slot id : Nat) (j : Job) (r : RmaRequest) (s : State), s.jobNamed jobId = some (slot, j) →
    s.rma.requests.find? (fun r => r.2.mirror == some slot) = some (id, r) →
    exec (.mirrorWriteFail jobId) s = .next (State.mirrorFailed { s with rma := { s.rma with requests := s.rma.requests.del id } } slot)) ∧
  (∀ (dev jobId : Nat) (m : MirrorWindow) (s t : State), s.alive = true → (s.closeMirror jobId dev).openMirror jobId dev = some (m, t) →
    exec (.mirrorSetupReceive dev jobId) s = .next (t.emit (.fabric 3 dev "mirror-window" [jobId, m.index, m.key] []))) ∧
  (∀ (jobId window key slot : Nat) (j : Job) (m : MirrorLink) (s : State), s.jobNamed jobId = some (slot, j) → j.mirror = some m → m.state ≠ 1 →
    exec (.mirrorSetupReply jobId true window key) s = .next (s.setJob slot { j with mirror := some { m with state := 1, window := window, key := key } })) ∧
  (∀ (now p slot : Nat) (j : Job) (m : MirrorLink) (s : State), s.rma.partner = some p → s.jobs = [(slot, j)] → j.mirror = some m → m.state ≠ 1 →
    m.sentAt + 1000000000 ≤ now →
    exec (.mirrorSetupRetry now) s = .next (State.emit ((s.advance now).setJob slot { j with mirror := some { m with state := 0, sentAt := max s.now now } })
      (.fabric 3 p "mirror-setup" [j.id, s.self] []))) ∧
  (∀ (dev jobId slot : Nat) (j : Job) (s : State), s.jobNamed jobId = some (slot, j) → j.taken.contains dev = false →
    exec (.mirrorReleaseReceive dev jobId) s = .next (s.closeMirror jobId dev))

/-- A ready slot is written to a destination; an acknowledged data write goes on to its completion entry, and an
acknowledged entry ends the copy and is counted; a consumed word answers its read and never makes the known
value fall; the word is read again 2 µs after the last read where a write needs it; an acknowledgement timeout
resends what is outstanding, and after the retries the pair is in error; a congestion notification cuts the
rate by an eighth at most once in 50 µs; a marked packet is answered by one at most as often; the rate
recovers by 2,000 after 50 µs of quiet. (R314, R317, R318, R319, R322, R366, R320) -/
def Obligations.DeliveryEventsComplete : Prop :=
  (∀ (jobId index slot dest js : Nat) (j : Job) (r : ReadySlot) (rc : Recipe) (s : State), s.jobNamed jobId = some (js, j) →
    s.readySlot j index slot = some (r, rc) → exec (.slotWriteReady jobId index slot dest) s = .next (s.writeSlot js j rc r dest)) ∧
  (∀ (jobId index slot dest js : Nat) (j : Job) (c : SlotCopy) (b : Binding) (s : State), s.jobNamed jobId = some (js, j) →
    j.copyTo index slot dest = some c → j.binding c.rank c.dest = some b → c.phase = 1 →
    exec (.rdmaWriteAck jobId index slot dest) s = .next ((s.roceHeard b.qp).dataAcked js j c)) ∧
  (∀ (jobId index slot dest js : Nat) (j : Job) (c : SlotCopy) (b : Binding) (s : State), s.jobNamed jobId = some (js, j) →
    j.copyTo index slot dest = some c → j.binding c.rank c.dest = some b → c.phase = 2 →
    exec (.rdmaWriteAck jobId index slot dest) s = .next (State.writesEnded ((((s.roceHeard b.qp).setJob js (j.setCopy { c with phase := 3 })).countEmpty js c.index c.slot).bump64 0x00A00038 1) js)) ∧
  (∀ (jobId rank dest value js : Nat) (j : Job) (b : Binding) (s : State), s.jobNamed jobId = some (js, j) → j.binding rank dest = some b → b.reading = true →
    exec (.consumedWordResponse jobId rank dest value) s = .next (State.writesEnded ((s.roceHeard b.qp).setJob js
      (j.setBinding { b with reading := false, c := some (max (b.c.getD 0) (bits value 0 44)) })) js)) ∧
  (∀ (jobId rank dest now js t : Nat) (j : Job) (b : Binding) (k : QueuePair) (s : State), s.jobNamed jobId = some (js, j) → j.binding rank dest = some b →
    b.reading = false → b.error = false → s.qp b.qp = some k → k.state = 1 → b.lastRead = some t → t + 2000 ≤ now → (s.advance now).needsRead j b = true →
    exec (.consumedWordRead jobId rank dest now) s = .next (State.sendRead ((s.advance now).setJob js
      (j.setBinding { b with reading := true, lastRead := some (max s.now now) })) b)) ∧
  (∀ (qp : Nat) (k : QueuePair) (waiting : List (Nat × Binding)) (s : State), s.qp qp = some k → k.state = 1 →
    (s.bindingsOn qp).filter (fun p => match s.jobs.find p.1 with | some j => j.busyOn p.2 | none => false) = waiting → waiting ≠ [] →
    exec (.roceAckTimeout qp) s = .next (if k.retries < bits k.cfg 5 3 then
      waiting.foldl (fun s p => s.resend p.1 p.2) (s.updQp qp (fun k => { k with retries := k.retries + 1 })) else s.qpError qp)) ∧
  (∀ (qp port now : Nat) (s : State), port < 8 →
    exec (.cnpReceive qp port now) s = .next ((State.bump (State.bump64 (s.advance now) (ethPortReg port 0x10) 1) (ethPortReg port 0x1C) 1).updQp qp (fun k =>
      if after50us k.lastCut (max s.now now) then { k with rate := max 100 (k.rate - k.rate / 8), lastCut := some (max s.now now), lastCnp := max s.now now }
      else { k with lastCnp := max s.now now }))) ∧
  (∀ (qp port now : Nat) (k : QueuePair) (s : State), port < 8 → s.qp qp = some k → (s.ethPort port).ecnEn = true → after50us k.lastCnpSent (max s.now now) = true →
    exec (.cePacketReceive qp port now) s = .next (State.sendRoce (State.bump (State.updQp (State.bump64 (s.advance now) (ethPortReg port 0x10) 1) qp
      (fun k => { k with lastCnpSent := some (max s.now now) })) (ethPortReg port 0x20) 1) qp 64 (.ethernet port "cnp" [qp]))) ∧
  (∀ (qp now : Nat) (s : State), exec (.roceRateRecovery qp now) s = .next ((s.advance now).updQp qp (fun k =>
    if k.lastCnp + 50000 ≤ max s.now now then { k with rate := min 800000 (k.rate + 2000), lastCnp := max s.now now } else k)))

/-- A drain of a tile that is not the last one in service begins; a rejoin of a drained tile takes it back; an
empty draining tile is drained and its commands complete; TST_CTRL takes the test enables; a slice of an idle
engine in an on domain starts and asks for its tokens; a passed slice leaves, counts its pass and its place;
after 4 h off a domain of a tile in service is woken once for test; an engine of a tile that faults itself is
marked out. (R125, R541, R542, R543, R544, R545, R554, R47) -/
def Obligations.TileAndTestCommandsComplete : Prop :=
  (∀ (path tile v : Nat) (s : State), tile < 4 → s.passes path (tileReg tile 4) = true → bit v 0 = true → bit v 1 = false → s.lastTile tile = false →
    s.drainOk tile = true → exec (.tschDrain path tile v) s = .next (s.beginDrain tile)) ∧
  (∀ (path tile v : Nat) (s : State), tile < 4 → s.passes path (tileReg tile 4) = true → bit v 0 = false → bit v 1 = true → (s.tile tile).state = 3 →
    exec (.tschRejoin path tile v) s = .next (s.rejoin tile)) ∧
  (∀ (tile : Nat) (s : State), (s.tile tile).state = 2 → s.tileEmpty tile = true →
    exec (.tileDrained tile) s = .next (State.finishAll ((s.updTile tile (fun t => { t with state := 3, drainCmds := [] })).emptyRefs tile)
      (s.tile tile).drainCmds success)) ∧
  (∀ (path v : Nat) (s : State), s.passes path 0x00E00004 = true →
    exec (.tstCtrlWrite path v) s = .next { s with tst := { s.tst with en := bits v 0 8 } }) ∧
  (∀ (tile cls idx now : Nat) (s t : State), tile < 4 → cls < 4 → idx < classCount cls → s.advance now = t → t.itemOn cls = true → (t.tile tile).out cls idx = false →
    t.tileRuns tile = true → t.engineIdle tile cls idx = true → t.sliceRuns tile cls idx = false → t.domainOn (engineDomain tile cls idx) = true →
    exec (.testSliceStart tile cls idx now) s = .next ((t.addSlice tile cls idx (t.runWants (engineId tile cls idx))).requestTokens
      (engineId tile cls idx) (t.scaled (t.figure cls)))) ∧
  (∀ (tile cls idx sub col now : Nat) (v : Slice) (s t : State), s.advance now = t →
    t.tst.slices.find? (fun v => v.tile == tile && v.cls == cls && v.idx == idx) = some v → v.cls < 6 → t.pwr.granted.has (engineId tile cls idx) = true →
    exec (.testSliceComplete tile cls idx true sub col none now) s = .next (State.countRuns (State.sliceCounts ((t.sliceLeaves v).slicePasses v)
      (sliceKey tile cls idx)) (sliceKey tile cls idx) true)) ∧
  (∀ (d now : Nat) (s : State), d < 24 → s.tileRuns (d / 6) = true → (s.domain d).on = false → (s.domain d).waking = false →
    (s.domain d).offSince + 14400000000000 ≤ max s.now now → s.tst.woken.find d ≠ some (s.domain d).offSince →
    exec (.testDomainWakeTimer d now) s = .next (State.postWork { s.advance now with tst := { s.tst with woken := s.tst.woken.put d (s.domain d).offSince } } d)) ∧
  (∀ (tile cls idx : Nat) (s : State), tile < 4 → idx < classCount cls → (s.tile tile).out cls idx = false →
    exec (.engineSelfFault tile cls idx) s = .next (s.engineFault tile cls idx))

/-- A record of a table or a ring is taken; a sample held for its record past the timeout stops; a record whose
resources are granted is admitted to a tile that admits; a sample whose unit reads and checks is fetched, and
otherwise a replica is asked, whose good answer repairs the unit; a replica request is answered from media; a
running stage ends; a decoded reference frame goes to the cache and its takers; a region result moves the
transform on; verdicts and placements of a batch are taken. (R118, R120, R300, R38, R95, R153, R190, R80,
R399) -/
def Obligations.SampleCommandsComplete : Prop :=
  (∀ (j : Nat) (rec : Bytes) (s : State), s.alive = true →
    exec (.paramRecordReceive false j rec) s = .next (s.takeFromTable j) ∧ exec (.paramRecordReceive true j rec) s = .next (s.takeFromRing j ((rec ++ zeros 64).take 64))) ∧
  (∀ (i now t : Nat) (x : Sample) (r : Recipe) (s : State), s.samples[i]? = some x → x.held = some t → (s.advance now).sampleRecipe x = some r →
    t + r.paramTimeout * 1000000 ≤ max s.now now →
    exec (.paramMissing i now) s = .next ((s.advance now).stopSample i evParamMissing (leBytes 3 x.epoch))) ∧
  (∀ (jobId epoch idx tile slot : Nat) (j : Job) (p : EpochPlan) (rc : Recipe) (r : PlanRec) (c : CatRecord) (s : State), s.jobNamed jobId = some (slot, j) →
    j.plan epoch = some p → s.recipeFor j epoch = some rc → p.records[idx]? = some r → s.recordAt j r.ordinal = some c → s.mediaReady = true →
    s.tileAdmits tile = true → j.wants p r = true → s.grantsResv (rc.desc r.bucket).pool (s.needCells j rc r.bucket c.length) = true →
    ((s.admitSlot slot j p r c rc tile).tile tile).state ≠ 4 →
    exec (.sampleAdmit jobId epoch idx tile) s = .next (s.admitSlot slot j p r c rc tile)) ∧
  (∀ (i : Nat) (x : Sample) (b : Bytes) (s : State), s.samples[i]? = some x → x.stage = 0 → x.replicas = [] →
    s.nsRead x.record.nsid x.record.offset x.record.length = some b → contentOk x.record b = true →
    exec (.fetchReadComplete i) s = .next (s.fetched i b)) ∧
  (∀ (i : Nat) (x : Sample) (s : State), s.samples[i]? = some x → x.stage = 0 → x.replicas = [] →
    s.nsRead x.record.nsid x.record.offset x.record.length = none →
    exec (.fetchReadComplete i) s = .next (s.askReplica i (s.replicasOf x.record.nsid))) ∧
  (∀ (dev nsid off len : Nat) (b : Bytes) (s : State), s.alive = true → s.mediaReady = true → s.nsRead nsid off len = some b →
    exec (.replicaFetchRequest dev nsid off len) s = .next ((s.mediaRead nsid off len 3).emit (.fabric 5 dev "replica-data" [nsid, off] b))) ∧
  (∀ (i dev : Nat) (x : Sample) (rest : List Nat) (b : Bytes) (s : State), s.samples[i]? = some x → x.stage = 0 → x.replicas = dev :: rest →
    contentOk x.record b = true →
    exec (.replicaFetchResponse i dev (some b)) s = .next ((s.repairUnits x.record.nsid x.record.offset b).fetched i b)) ∧
  (∀ (i : Nat) (out : StageOut) (x : Sample) (r : Recipe) (s : State), s.samples[i]? = some x → s.sampleRecipe x = some r → s.stageRuns x = true →
    exec (.stageComplete i out) s = .next (s.stageEnds i x r out)) ∧
  (∀ (tile key size : Nat) (takers : List Nat) (ok : Bool) (s : State), tile < 4 → s.refLimit tile ≠ 0 →
    exec (.refFrameDecoded tile key size takers ok) s = .next (s.refDecoded tile key size (s.sharers tile takers) ok)) ∧
  (∀ (i k : Nat) (x : Sample) (r : Recipe) (f : Decoded) (img : Bytes) (s : State), s.samples[i]? = some x → s.sampleRecipe x = some r →
    (r.stageFrames x)[k]? = some f → s.imageAt r r.transform.roiModel = some img → x.stage = 4 → r.transform.roi = true → s.stageRuns x = true →
    x.work.roiFrames = k → augBad r (s.payloadOf x) (r.stageFrames x) = false →
    exec (.roiResult i k) s = .next ((State.bump (State.bump64 (State.bump64 (s.bump64 (tileReg x.tile 0x20030) 1) (tileReg x.tile 0x40020) (parseModel img).layers.length)
      (tileReg x.tile 0x40028) 1) (tileReg x.tile 0x40038) (roiEval r img f).2).updWork i (fun w => roiNext r (s.payloadOf x) w (r.stageFrames x) k (roiEval r img f).1))) ∧
  (∀ (jobId epoch step member sample slot : Nat) (keep : Bool) (j : Job) (s : State), s.jobNamed jobId = some (slot, j) → epoch = j.epoch ∨ epoch = j.epoch + 1 →
    exec (.memberVerdictReceive jobId epoch step member keep sample) s = .next (s.takeVerdict slot { epoch := epoch, step := step, member := member, keep := keep, sample := sample })) ∧
  (∀ (jobId epoch step member slot js : Nat) (j : Job) (s : State), s.jobNamed jobId = some (js, j) →
    exec (.reservePlacementReceive jobId epoch step member slot) s = .next (s.placeReserve js epoch step member slot))

/-- Transport datagrams of a live service detect its form and are taken, and a stopped stream is marked; a good
NAND operation leaves its die, and a failed program retires the block and writes it again; an unresponsive die
is retired; the journal is flushed, segments older than 60 s are checkpointed, a die is patrol read, folding
sets the cache fill; hold-up samples are kept, the newest ten, and evaluated; the next piece of a write is
admitted; a self-test ends with its result in the log. (R164, R167, R388, R391, R394, R395, R398, R403, R405,
R406, R431, R598) -/
def Obligations.LiveAndMediaCommandsComplete : Prop :=
  (∀ (service : Nat) (data : Bytes) (raps : List (Nat × Nat)) (v : Service) (s : State), s.net.services.find service = some v → s.liveOn v = true →
    data.take 1 = [0x47] → tsOk data = true →
    exec (.liveDatagramReceive service data raps) s = .next ((s.setService service { v with state := 2, rtp := false }).liveBurst service data raps)) ∧
  (∀ (service seq : Nat) (data b : Bytes) (raps : List (Nat × Nat)) (v : Service) (s : State), s.net.services.find service = some v → s.liveOn v = true →
    data.take 1 ≠ [0x47] → rtpOf data = some (seq, b) → tsOk b = true →
    exec (.liveDatagramReceive service data raps) s = .next ((s.setService service { v with state := 2, rtp := true }).rtpPacket service seq b raps)) ∧
  (∀ (service : Nat) (v : Service) (s : State), s.net.services.find service = some v → v.state = 2 →
    exec (.liveStreamStop service) s = .next (s.setService service { v with state := 3 })) ∧
  (∀ (die block soft : Nat) (bad : List (Nat × Nat × Bool)) (o : NandOp) (s t : State), (s.die die).running = some o → o.writes = true → o.kind ≠ 1 → o.kind ≠ 2 →
    s.setDie die { s.die die with running := none } = t → (t.die die).state ≠ 1 →
    exec (.nandOpComplete die true block soft bad) s = .next t) ∧
  (∀ (die : Nat) (bad : List (Nat × Nat × Bool)) (s : State), (s.die die).state = 1 →
    exec (.dieUnresponsive die bad) s = .next ((s.retireDie die).foundBad bad)) ∧
  (∀ (now : Nat) (s : State), s.mediaReady = true → exec (.journalFlushTimer now) s = .next (s.advance now).journalFlush) ∧
  (∀ (now : Nat) (s : State), s.mediaReady = true → exec (.checkpointTimer now) s = .next
      ((s.med.segments.filter (fun g => g.2 + 60000000000 ≤ max s.now now)).foldl
        (fun s g => State.program { s with med := { s.med with segments := s.med.segments.del g.1 } } { cls := 2, kind := 4 }) (s.advance now))) ∧
  (∀ (die read : Nat) (bad : List (Nat × Nat × Bool)) (s : State), s.mediaReady = true → (s.die die).state = 1 →
    exec (.patrolReadTimer die read 0 bad) s = .next (State.foundBad (State.bump (State.bump64 (State.bump64 (s.nandRequest die { cls := 5, kind := 0 })
      (channelReg (die / 16) 0x08) read) (medReg 0x40) (4096 * read)) (channelReg (die / 16) 0x10) 0) bad)) ∧
  (∀ (fill reserve : Nat) (s t : State), s.mediaReady = true → s.journalEntry.journalFlush = t →
    exec (.foldComplete fill reserve true) s = .next { t with med := { t.med with slcFill := min fill 100, reserve := reserve, folding := if fill = 0 then 0 else 1 } }) ∧
  (∀ (v : Nat) (s : State), exec (.holdupSample v) s = .next { s with med := { s.med with senses := (min v 1200000 :: s.med.senses).take 10 } }) ∧
  (∀ (now : Nat) (s : State), exec (.holdupEvaluation now) s = .next (s.advance now).measureHoldup) ∧
  (∀ (s : State), exec .writePieceAdmit s = .next s.admitPiece) ∧
  (∀ (c : Nat) (s : State), s.nvme.selftest = some c →
    exec (.selftestComplete [] 0) s = .next { s.foundBad [] with nvme := { (s.foundBad []).nvme with selftest := none, selfLog := ((c, 0, 0) :: (s.foundBad []).nvme.selfLog).take 20 } })

/-- An I/O command taken from its queue by a ready controller, with no shutdown, no sanitize, the media ready and
an operational power state, runs with the effect of its opcode. (R415, R419, R420, R423, R426) -/
def Obligations.NvmeIoCommandsComplete : Prop :=
  (∀ (c : NvmeIn) (s t : State), s.nvmeTakes c true t → exec (.nvmeFlush c) s = .next (t.nvmeIo { c with opcode := 0 })) ∧
  (∀ (c : NvmeIn) (s t : State), s.nvmeTakes c true t → exec (.nvmeWrite c) s = .next (t.nvmeIo { c with opcode := 1 })) ∧
  (∀ (c : NvmeIn) (s t : State), s.nvmeTakes c true t → exec (.nvmeRead c) s = .next (t.nvmeIo { c with opcode := 2 })) ∧
  (∀ (c : NvmeIn) (s t : State), s.nvmeTakes c true t → exec (.nvmeWriteZeroes c) s = .next (t.nvmeIo { c with opcode := 8 })) ∧
  (∀ (c : NvmeIn) (s t : State), s.nvmeTakes c true t → exec (.nvmeDatasetManagement c) s = .next (t.nvmeIo { c with opcode := 9 })) ∧
  (∀ (c : NvmeIn) (s t : State), s.nvmeTakes c true t → exec (.nvmeVerify c) s = .next (t.nvmeIo { c with opcode := 12 }))

/-- An admin command taken from its queue by a ready controller aborts a waiting command, formats a namespace with
a secure erase, starts a sanitize or a self-test, answers an identify page, a log page or a feature, sets one,
keeps an event request, notes a keep-alive, or makes or removes a queue; and an opcode the controller does not
support completes with invalid opcode. (R414, R415, R417, R422, R430, R432, R435, R419) -/
def Obligations.NvmeAdminCommandsComplete : Prop :=
  (∀ (c : NvmeIn) (s t : State), s.nvmeTakes c false t → ∀ (u : State), t.abortNamed (bits c.cdw10 0 16) (bits c.cdw10 16 16) = some u → exec (.nvmeAbort c) s = .next ((u.nvmePost (bits c.cdw10 0 16) (bits c.cdw10 16 16) nvAborted 0).nvDone c nvSuccess 0)) ∧
  (∀ (c : NvmeIn) (s t : State), s.nvmeTakes c false t → ∀ (n : Namespace), c.nsid ≠ 0xFFFFFFFF → t.med.sanitize = none → t.space c.nsid = some n → n.kind ≠ 1 → bits c.cdw10 9 3 = 1 ∨ bits c.cdw10 9 3 = 2 → exec (.nvmeFormatNvm c) s = .next ((State.formatSpace t c.nsid).nvDone c nvSuccess 0)) ∧
  (∀ (c : NvmeIn) (s t : State), s.nvmeTakes c false t → bits c.cdw10 0 3 = 2 → bit (t.setting 0x45 1) 2 = true → t.jobs = [] → t.med.sanitize = none → exec (.nvmeSanitize c) s = .next ((t.startSanitize 2).nvDone c nvSuccess 0)) ∧
  (∀ (c : NvmeIn) (s t : State), s.nvmeTakes c false t → t.med.sanitize = none → t.nvme.selftest = none → bits c.cdw10 0 4 = 1 ∨ bits c.cdw10 0 4 = 2 → exec (.nvmeDeviceSelfTest c) s = .next ((t.startSelftest (bits c.cdw10 0 4)).nvDone c nvSuccess 0)) ∧
  (∀ (c : NvmeIn) (s t : State), s.nvmeTakes c false t → ∀ (b : Bytes), t.identify (bits c.cdw10 0 8) c.nsid = some b → exec (.nvmeIdentify c) s = .next ((t.emit (.nvmeData c.sq c.cid b)).nvDone c nvSuccess 0)) ∧
  (∀ (c : NvmeIn) (s t : State), s.nvmeTakes c false t → ∀ (b : Bytes), t.logPage (bits c.cdw10 0 8) = some b → exec (.nvmeGetLogPage c) s = .next ((t.emit (.nvmeData c.sq c.cid (b.take (4 * (bits c.cdw10 16 16 + 1))))).nvDone c nvSuccess 0)) ∧
  (∀ (c : NvmeIn) (s t : State), s.nvmeTakes c false t → bits c.cdw10 0 8 = 7 → exec (.nvmeSetFeatures c) s = .next ((t.storeFeature 7 (grantedQueues c.cdw11)).nvDone c nvSuccess (grantedQueues c.cdw11))) ∧
  (∀ (c : NvmeIn) (s t : State), s.nvmeTakes c false t → bits c.cdw10 0 8 = 2 → bits c.cdw11 0 5 ≤ 4 → exec (.nvmeSetFeatures c) s = .next ((t.setPowerState (bits c.cdw11 0 5)).nvDone c nvSuccess 0)) ∧
  (∀ (c : NvmeIn) (s t : State), s.nvmeTakes c false t → featureOk (bits c.cdw10 0 8) = true → exec (.nvmeGetFeatures c) s = .next (t.nvDone c nvSuccess (if bits c.cdw10 0 8 = 2 then t.nvme.ps else t.nvme.feature (bits c.cdw10 0 8)))) ∧
  (∀ (c : NvmeIn) (s t : State), s.nvmeTakes c false t → exec (.nvmeAsyncEventRequest c) s = .next ({ t with nvme := { t.nvme with aers := t.nvme.aers ++ [(c.sq, c.cid)] } })) ∧
  (∀ (c : NvmeIn) (s t : State), s.nvmeTakes c false t → exec (.nvmeKeepAlive c) s = .next (State.nvDone { t with nvme := { t.nvme with keepAlive := t.now } } c nvSuccess 0)) ∧
  (∀ (c : NvmeIn) (s t : State), s.nvmeTakes c false t → exec (.nvmeCreateQueue c) s = .next (t.createQueue c)) ∧
  (∀ (c : NvmeIn) (s t : State), s.nvmeTakes c false t → exec (.nvmeDeleteQueue c) s = .next (t.deleteQueue c))

/-- A doorbell within its queue moves its end, and a submission doorbell begins the exit from a non-operational
state; an unsupported opcode completes with invalid opcode; a write of CC takes effect; a shutdown in progress
seals the media and completes; a power state that is due is entered once the queues are quiet; its exit
returns to the last operational state and runs the commands held. (R415, R418, R419, R429) -/
def Obligations.NvmeControllerCompletes : Prop :=
  (∀ (q v now : Nat) (k : NvmeQueue) (s : State), s.alive = true → s.nvme.linkUp = true → s.nvme.cqs.find q = some k → v < k.size →
    exec (.nvmeDoorbellWrite true q v now) s = .next { s.advance now with nvme := { s.nvme with cqs := s.nvme.cqs.put q { k with head := v } } }) ∧
  (∀ (q v now : Nat) (k : NvmeQueue) (s : State), s.alive = true → s.nvme.linkUp = true → s.nvme.sqs.find q = some k → v < k.size →
    exec (.nvmeDoorbellWrite false q v now) s = .next { s.advance now with nvme := { s.nvme with sqs := s.nvme.sqs.put q { k with tail := v }, lastDoorbell := max s.now now, entering := none, exiting := s.nvme.exiting || decide (3 ≤ s.nvme.ps) } }) ∧
  (∀ (c : NvmeIn) (s t : State), s.nvmeTakes c (c.sq != 0) t → nvmeSupported (c.sq == 0) c.opcode = false →
    exec (.nvmeUnsupportedOpcode c) s = .next (t.nvDone c nvInvalidOpcode 0)) ∧
  (∀ (v : Nat) (s : State), s.alive = true → s.nvme.linkUp = true → exec (.nvmeCcWrite v) s = .next (s.writeCc v)) ∧
  (∀ (s : State), s.nvme.shst = 1 → exec .nvmeShutdownComplete s = .next { s.sealMedia with nvme := { s.sealMedia.nvme with shst := 2 } }) ∧
  (∀ (now p : Nat) (s : State), (s.advance now).commitTarget = some p → (s.advance now).nvme.quiet = true → p ≠ 4 →
    exec (.nvmePowerStateCommit now) s = .next { s.advance now with nvme := { s.nvme with ps := p, entering := none } }) ∧
  (∀ (s t : State), s.nvme.exiting = true → s.nvme.ps = 3 → { s with nvme := { s.nvme with ps := s.nvme.lastOp, exiting := false } } = t → t.ioHeld = false →
    exec .nvmePowerStateExit s = .next t.runHeld)

/-- For every command c and state s, step of s with c at the front of its queue is exec of c on s with the queue's
rest. With no command waiting, a step moves Estate time on by 1 ns and changes nothing else: that is the
model's choice (log 6), no rule of the spec. (98_reader.md, R445) -/
def Obligations.StepRunsFrontCommand : Prop :=
  (∀ (c : Instr) (rest : List Instr) (s : State), step { s with pending := c :: rest } = exec c { s with pending := rest }) ∧
  (∀ (s : State), s.pending = [] → step s = .next { s with now := s.now + 1 })

/-- At reset no command waits, no job, recipe, image or sample is held, no ring is enabled, no credential is set,
the stepping reads 0xB0, no start step is done, and the settings in force are the defaults of Table 17-5: the
retention of the default thresholds of R301 among them. (R504, R523, R301, R109, R104, R445, R559) -/
def Obligations.ResetLeavesTheDefaults : Prop :=
  (State.reset.pending = [] ∧ State.reset.jobs = [] ∧ State.reset.recipes = [] ∧ State.reset.models = [] ∧ State.reset.vocabs = [] ∧
    State.reset.grammars = [] ∧ State.reset.samples = []) ∧
  (State.reset.cmd.rings.all (fun r => !r.en) = true ∧ State.reset.sec.creds = [] ∧ State.reset.sec.bindings = [] ∧ State.reset.sys.stepping = 0xB0 ∧
    State.reset.sys.steps = 0 ∧ State.reset.sys.ready = false) ∧
  (State.reset.set = defaultSettings ∧ State.reset.run = defaultSettings ∧ State.reset.runSetting 0x208 2 = 250 ∧ State.reset.runSetting 0x20A 2 = 125 ∧
    State.reset.runSetting 0x20C 2 = 30)

/-- The settings images, the update window, the bank memory, the chains and the namespaces of State.reset list
their bytes at rising addresses and list no byte that reads 0. The form is the model's (log 7). (R504, R277,
R297) -/
def Obligations.ResetMeetsTheForms : Prop :=
  State.reset.memoriesWf = true

/-- For every state and every command at the front of its queue, the state a step leads to holds the same vendor,
part code, stepping, serial number and MAC base address, and its queue is the rest of the queue. (R523, R2,
R364) -/
def Obligations.StepKeepsWhatIsFused : Prop :=
  ∀ (c : Instr) (rest : List Instr) (s t : State), s.pending = c :: rest → step s = .next t → t.pending = rest ∧ t.sys.vendor = s.sys.vendor ∧
    t.sys.part = s.sys.part ∧ t.sys.stepping = s.sys.stepping ∧ t.sys.serial = s.sys.serial ∧ t.sys.macBase = s.sys.macBase

/-- If the settings images, the update window, the bank memory, every chain and every namespace list their bytes
at rising addresses without a byte that reads 0, then so they do after any step. The form is the model's (log
7); equal memories are equal data by it. (R504, R277, R297, R385, R522) -/
def Obligations.StepKeepsMemoryForms : Prop :=
  ∀ (s t : State), s.memoriesWf = true → step s = .next t → t.memoriesWf = true

/-- No step of any command, not even a reset, leaves a decommissioned device other than decommissioned:
DECOMMISSION cannot be undone. (R578) -/
def Obligations.DecommissionedStays : Prop :=
  ∀ (s t : State), s.sec.decommissioned = true → step s = .next t → t.sec.decommissioned = true

/-- A row outside the restart family changes the recipes only if it is RECIPE_LOAD or RECIPE_UNLOAD, the images
only if it is IMAGE_LOAD or IMAGE_UNLOAD, the expression unit only if it starts or ends an evaluation or
writes registers, and never the settings of the last start. (R105, R112, R226, R94, R504) -/
def Obligations.LoadedObjectsChangeOnlyByTheirRows : Prop :=
  (∀ (i : Instr) (s t : State), family i ≠ .restart → exec i s = .next t → t.run = s.run) ∧
  (∀ (i : Instr) (s t : State), family i ≠ .restart → family i ≠ .recipes → exec i s = .next t →
    t.recipes = s.recipes ∧ t.models = s.models ∧ t.vocabs = s.vocabs ∧ t.grammars = s.grammars) ∧
  (∀ (x : CmdIn) (s t : State), exec (.recipeLoad x) s = .next t ∨ exec (.recipeUnload x) s = .next t ∨ exec (.recipeReplace x) s = .next t →
    t.models = s.models ∧ t.vocabs = s.vocabs ∧ t.grammars = s.grammars) ∧
  (∀ (x : CmdIn) (s t : State), exec (.imageLoad x) s = .next t ∨ exec (.imageUnload x) s = .next t ∨ exec (.recipeReplace x) s = .next t → t.recipes = s.recipes) ∧
  (∀ (i : Instr) (s t : State), family i ≠ .restart → family i ≠ .brm → family i ≠ .registers → exec i s = .next t → t.brm = s.brm)

/-- For every opcode and its own meaning: a packet that is not forwarded, whose turn has come, and that a check of
steps 1 to 5 of R438 fails is answered with that check's status; jobs, recipes, samples, memory, media,
network, power and settings stay as they were. A reserved bit that is not 0 is refused with a status of class
0x01. (R438, R458, R572, R12) -/
def Obligations.RefusedPacketsHaveNoEffect : Prop :=
  (∀ (sp : OpSpec) (own : Waiter → CmdIn → State → Own) (x : CmdIn) (s u : State) (w : Waiter) (r : Result), s.take sp.opcode x = some (w, u) →
    u.forwards x = false → x.pkt.retry = false → (u.receipt x).ready w = true → (u.receipt x).checks sp x = some r →
    ∃ t : State, runCommand sp own x s = t.turnDown sp w x r ∧ t.cmd = (u.receipt x).cmd) ∧
  (∀ (sp : OpSpec) (own : Waiter → CmdIn → State → Own) (x : CmdIn) (s u : State) (w : Waiter) (r : Result), s.take sp.opcode x = some (w, u) →
    u.forwards x = false → x.pkt.retry = false → (u.receipt x).ready w = true → (u.receipt x).checks sp x = some r →
    (runCommand sp own x s).jobs = s.jobs ∧ (runCommand sp own x s).recipes = s.recipes ∧ (runCommand sp own x s).samples = s.samples ∧
    (runCommand sp own x s).mem = s.mem ∧ (runCommand sp own x s).med = s.med ∧ (runCommand sp own x s).net = s.net ∧
    (runCommand sp own x s).pwr = s.pwr ∧ (runCommand sp own x s).set = s.set ∧ (runCommand sp own x s).upd = s.upd ∧
    (runCommand sp own x s).tiles = s.tiles ∧ (runCommand sp own x s).rma = s.rma ∧ (runCommand sp own x s).nvme = s.nvme ∧ (runCommand sp own x s).sys = s.sys) ∧
  (∀ (sp : OpSpec) (p : Packet) (r : Result), reservedCheck sp p = some r → r.status / 256 = 1)

/-- A packet with RETRY that is taken and not forwarded: where a record of its source has the same bytes, it
completes with that record's result; where the original still runs, it waits for it; where only the tag
matches, it completes with TAG_CONFLICT, RESULT0 the offset of TAG (a reading of the model, log 30); and its
own effect does not take place. (R451) -/
def Obligations.RetriesFollowTheirRecord : Prop :=
  (∀ (sp : OpSpec) (own : Waiter → CmdIn → State → Own) (x : CmdIn) (s u : State) (w : Waiter) (r : Result), s.take sp.opcode x = some (w, u) →
    u.forwards x = false → x.pkt.retry = true → (u.receipt x).retryOf w = .answered r → runCommand sp own x s = (u.receipt x).answer w r) ∧
  (∀ (sp : OpSpec) (own : Waiter → CmdIn → State → Own) (x : CmdIn) (s u v : State) (w : Waiter) (k : Nat), s.take sp.opcode x = some (w, u) →
    u.forwards x = false → x.pkt.retry = true → u.receipt x = v → v.retryOf w = .follow k →
    runCommand sp own x s = { v with cmd := { v.cmd with followers := v.cmd.followers ++ [(k, w)] } }) ∧
  (∀ (sp : OpSpec) (own : Waiter → CmdIn → State → Own) (x : CmdIn) (s u : State) (w : Waiter), s.take sp.opcode x = some (w, u) →
    u.forwards x = false → x.pkt.retry = true → (u.receipt x).retryOf w = .conflict → runCommand sp own x s = (u.receipt x).answer w { status := 0x0105, r0 := 4 }) ∧
  (∀ (s : State) (w : Waiter) (e : CmdRecord), e ∈ s.cmd.records → e.src = w.src → samePacket e.opcode e.pkt w.opcode w.pkt = true → ∃ r, s.retryOf w = .answered r)

/-- After a write of the update window every byte outside its four reads as before. After a remote memory request
every byte of every chain reads as before, except that a write that passes its checks stores to the bytes from
the window's offset plus its own, of the window's chain, for its length; a read and a refused request store
nothing. (R522, R326, R297, R333) -/
def Obligations.StoresTouchOnlyTheirBytes : Prop :=
  (∀ (path off v a : Nat) (s t : State), s.upd.window.sorted = true → exec (.updWindowWrite path off v) s = .next t → a < off ∨ off + 4 ≤ a →
    t.upd.window.get 0 a = s.upd.window.get 0 a) ∧
  (∀ (q : RmaIn) (v : Window) (k a : Nat) (c : Chain) (s t : State), s.mem.chains.sorted = true → c.bytes.sorted = true → s.rma.windows.find q.window = some v → rmaCheck (some v) q = 0 →
    exec (.rmaRequestReceive q) s = .next t → s.mem.chains.find k = some c →
    (q.isWrite = true ∧ k = cellRef v.pool v.cell → a < v.offset + q.offset ∨ v.offset + q.offset + q.length ≤ a) →
    ∃ d, t.mem.chains.find k = some d ∧ d.bytes.get 0 a = c.bytes.get 0 a) ∧
  (∀ (q : RmaIn) (s t : State), rmaCheck (s.rma.windows.find q.window) q ≠ 0 → exec (.rmaRequestReceive q) s = .next t → t.mem = s.mem)

/-- Frames, by family of rows (register writes and MCTP register access; snapshots and counter reads; command
rings and forwarded packets; sessions, bindings and event signals; the expression unit): whatever such a row
does in whatever state, every part of the state that its clause names is as it was, the queue included. (R9,
R445, R538, R539, R562, R94) -/
def Obligations.RegisterAndRingRowsFrame : Prop :=
  (∀ (i : Instr) (s t : State), family i = .registers → exec i s = .next t →
    t.now = s.now ∧ t.set = s.set ∧ t.run = s.run ∧ t.recipes = s.recipes ∧ t.models = s.models ∧ t.vocabs = s.vocabs ∧ t.grammars = s.grammars ∧ t.loads = s.loads ∧ t.samples = s.samples ∧ t.cxe = s.cxe ∧ t.med = s.med ∧ t.nvme = s.nvme ∧ t.pwr = s.pwr ∧ t.pending = s.pending) ∧
  (∀ (i : Instr) (s t : State), family i = .copies → exec i s = .next t →
    t.fresh = s.fresh ∧ t.now = s.now ∧ t.sys = s.sys ∧ t.upd = s.upd ∧ t.set = s.set ∧ t.run = s.run ∧ t.cmd = s.cmd ∧ t.sec = s.sec ∧ t.brm = s.brm ∧ t.jobs = s.jobs ∧ t.recipes = s.recipes ∧ t.models = s.models ∧ t.vocabs = s.vocabs ∧ t.grammars = s.grammars ∧ t.loads = s.loads ∧ t.tiles = s.tiles ∧ t.samples = s.samples ∧ t.mem = s.mem ∧ t.cxe = s.cxe ∧ t.rma = s.rma ∧ t.net = s.net ∧ t.med = s.med ∧ t.nvme = s.nvme ∧ t.pwr = s.pwr ∧ t.tst = s.tst ∧ t.pending = s.pending) ∧
  (∀ (i : Instr) (s t : State), family i = .rings → exec i s = .next t →
    t.fresh = s.fresh ∧ t.sys = s.sys ∧ t.upd = s.upd ∧ t.set = s.set ∧ t.run = s.run ∧ t.sec = s.sec ∧ t.brm = s.brm ∧ t.recipes = s.recipes ∧ t.models = s.models ∧ t.vocabs = s.vocabs ∧ t.grammars = s.grammars ∧ t.loads = s.loads ∧ t.tiles = s.tiles ∧ t.samples = s.samples ∧ t.mem = s.mem ∧ t.cxe = s.cxe ∧ t.rma = s.rma ∧ t.net = s.net ∧ t.med = s.med ∧ t.nvme = s.nvme ∧ t.pwr = s.pwr ∧ t.tst = s.tst ∧ t.snaps = s.snaps ∧ t.shadows = s.shadows ∧ t.pending = s.pending) ∧
  (∀ (i : Instr) (s t : State), family i = .security → exec i s = .next t →
    t.sys = s.sys ∧ t.set = s.set ∧ t.run = s.run ∧ t.brm = s.brm ∧ t.jobs = s.jobs ∧ t.recipes = s.recipes ∧ t.models = s.models ∧ t.vocabs = s.vocabs ∧ t.grammars = s.grammars ∧ t.loads = s.loads ∧ t.tiles = s.tiles ∧ t.samples = s.samples ∧ t.mem = s.mem ∧ t.cxe = s.cxe ∧ t.rma = s.rma ∧ t.net = s.net ∧ t.med = s.med ∧ t.nvme = s.nvme ∧ t.pwr = s.pwr ∧ t.tst = s.tst ∧ t.snaps = s.snaps ∧ t.shadows = s.shadows ∧ t.pending = s.pending) ∧
  (∀ (i : Instr) (s t : State), family i = .brm → exec i s = .next t →
    t.fresh = s.fresh ∧ t.now = s.now ∧ t.sys = s.sys ∧ t.upd = s.upd ∧ t.set = s.set ∧ t.run = s.run ∧ t.cmd = s.cmd ∧ t.sec = s.sec ∧ t.jobs = s.jobs ∧ t.recipes = s.recipes ∧ t.models = s.models ∧ t.vocabs = s.vocabs ∧ t.grammars = s.grammars ∧ t.loads = s.loads ∧ t.tiles = s.tiles ∧ t.samples = s.samples ∧ t.mem = s.mem ∧ t.cxe = s.cxe ∧ t.rma = s.rma ∧ t.net = s.net ∧ t.med = s.med ∧ t.nvme = s.nvme ∧ t.pwr = s.pwr ∧ t.tst = s.tst ∧ t.snaps = s.snaps ∧ t.shadows = s.shadows ∧ t.pending = s.pending)

/-- Frames, by family of rows (device, network, event, credential and update commands; recipe and image commands;
job, plan and recovery commands): whatever such a row does in whatever state, every part of the state that its
clause names is as it was, the queue included. (R461, R105, R226, R455, R84) -/
def Obligations.DeviceRecipeJobRowsFrame : Prop :=
  (∀ (i : Instr) (s t : State), family i = .device → exec i s = .next t →
    t.fresh = s.fresh ∧ t.now = s.now ∧ t.sys = s.sys ∧ t.run = s.run ∧ t.brm = s.brm ∧ t.recipes = s.recipes ∧ t.models = s.models ∧ t.vocabs = s.vocabs ∧ t.grammars = s.grammars ∧ t.loads = s.loads ∧ t.samples = s.samples ∧ t.mem = s.mem ∧ t.cxe = s.cxe ∧ t.nvme = s.nvme ∧ t.pwr = s.pwr ∧ t.tst = s.tst ∧ t.snaps = s.snaps ∧ t.shadows = s.shadows ∧ t.pending = s.pending) ∧
  (∀ (i : Instr) (s t : State), family i = .recipes → exec i s = .next t →
    t.fresh = s.fresh ∧ t.now = s.now ∧ t.sys = s.sys ∧ t.upd = s.upd ∧ t.set = s.set ∧ t.run = s.run ∧ t.brm = s.brm ∧ t.loads = s.loads ∧ t.tiles = s.tiles ∧ t.samples = s.samples ∧ t.mem = s.mem ∧ t.cxe = s.cxe ∧ t.rma = s.rma ∧ t.net = s.net ∧ t.med = s.med ∧ t.nvme = s.nvme ∧ t.pwr = s.pwr ∧ t.tst = s.tst ∧ t.snaps = s.snaps ∧ t.shadows = s.shadows ∧ t.pending = s.pending) ∧
  (∀ (i : Instr) (s t : State), family i = .jobs → exec i s = .next t →
    t.fresh = s.fresh ∧ t.now = s.now ∧ t.sys = s.sys ∧ t.upd = s.upd ∧ t.set = s.set ∧ t.run = s.run ∧ t.brm = s.brm ∧ t.recipes = s.recipes ∧ t.models = s.models ∧ t.vocabs = s.vocabs ∧ t.grammars = s.grammars ∧ t.tiles = s.tiles ∧ t.cxe = s.cxe ∧ t.net = s.net ∧ t.med = s.med ∧ t.nvme = s.nvme ∧ t.tst = s.tst ∧ t.snaps = s.snaps ∧ t.shadows = s.shadows ∧ t.pending = s.pending)

/-- Frames, by family of rows (pool, bank and compression commands; bank registers, audits and compression ends;
namespace, NAND and media rows): whatever such a row does in whatever state, every part of the state that its
clause names is as it was, the queue included. (R296, R282, R268, R383, R433) -/
def Obligations.PoolMediaRowsFrame : Prop :=
  (∀ (i : Instr) (s t : State), family i = .pools → exec i s = .next t →
    t.fresh = s.fresh ∧ t.now = s.now ∧ t.sys = s.sys ∧ t.run = s.run ∧ t.brm = s.brm ∧ t.jobs = s.jobs ∧ t.recipes = s.recipes ∧ t.models = s.models ∧ t.vocabs = s.vocabs ∧ t.grammars = s.grammars ∧ t.loads = s.loads ∧ t.tiles = s.tiles ∧ t.samples = s.samples ∧ t.rma = s.rma ∧ t.net = s.net ∧ t.med = s.med ∧ t.nvme = s.nvme ∧ t.pwr = s.pwr ∧ t.tst = s.tst ∧ t.snaps = s.snaps ∧ t.shadows = s.shadows ∧ t.pending = s.pending) ∧
  (∀ (i : Instr) (s t : State), family i = .banks → exec i s = .next t →
    t.fresh = s.fresh ∧ t.now = s.now ∧ t.sys = s.sys ∧ t.upd = s.upd ∧ t.set = s.set ∧ t.run = s.run ∧ t.brm = s.brm ∧ t.jobs = s.jobs ∧ t.recipes = s.recipes ∧ t.models = s.models ∧ t.vocabs = s.vocabs ∧ t.grammars = s.grammars ∧ t.loads = s.loads ∧ t.tiles = s.tiles ∧ t.samples = s.samples ∧ t.rma = s.rma ∧ t.net = s.net ∧ t.med = s.med ∧ t.nvme = s.nvme ∧ t.pwr = s.pwr ∧ t.tst = s.tst ∧ t.snaps = s.snaps ∧ t.shadows = s.shadows ∧ t.pending = s.pending) ∧
  (∀ (i : Instr) (s t : State), family i = .media → exec i s = .next t →
    t.fresh = s.fresh ∧ t.sys = s.sys ∧ t.upd = s.upd ∧ t.set = s.set ∧ t.run = s.run ∧ t.brm = s.brm ∧ t.jobs = s.jobs ∧ t.recipes = s.recipes ∧ t.models = s.models ∧ t.vocabs = s.vocabs ∧ t.grammars = s.grammars ∧ t.loads = s.loads ∧ t.tiles = s.tiles ∧ t.samples = s.samples ∧ t.mem = s.mem ∧ t.cxe = s.cxe ∧ t.rma = s.rma ∧ t.net = s.net ∧ t.pwr = s.pwr ∧ t.tst = s.tst ∧ t.snaps = s.snaps ∧ t.shadows = s.shadows ∧ t.pending = s.pending)

/-- Frames, by family of rows (power and clock rows; stops and power failure; tiles and tests): whatever such a
row does in whatever state, every part of the state that its clause names is as it was, the queue included.
(R476, R486, R549, R541, R125) -/
def Obligations.PowerStopTestRowsFrame : Prop :=
  (∀ (i : Instr) (s t : State), family i = .power → exec i s = .next t →
    t.fresh = s.fresh ∧ t.sys = s.sys ∧ t.upd = s.upd ∧ t.set = s.set ∧ t.run = s.run ∧ t.brm = s.brm ∧ t.jobs = s.jobs ∧ t.recipes = s.recipes ∧ t.models = s.models ∧ t.vocabs = s.vocabs ∧ t.grammars = s.grammars ∧ t.loads = s.loads ∧ t.samples = s.samples ∧ t.cxe = s.cxe ∧ t.rma = s.rma ∧ t.med = s.med ∧ t.snaps = s.snaps ∧ t.shadows = s.shadows ∧ t.pending = s.pending) ∧
  (∀ (i : Instr) (s t : State), family i = .stops → exec i s = .next t →
    t.fresh = s.fresh ∧ t.now = s.now ∧ t.upd = s.upd ∧ t.set = s.set ∧ t.run = s.run ∧ t.brm = s.brm ∧ t.recipes = s.recipes ∧ t.models = s.models ∧ t.vocabs = s.vocabs ∧ t.grammars = s.grammars ∧ t.rma = s.rma ∧ t.snaps = s.snaps ∧ t.shadows = s.shadows ∧ t.pending = s.pending) ∧
  (∀ (i : Instr) (s t : State), family i = .tests → exec i s = .next t →
    t.fresh = s.fresh ∧ t.sys = s.sys ∧ t.run = s.run ∧ t.brm = s.brm ∧ t.jobs = s.jobs ∧ t.recipes = s.recipes ∧ t.models = s.models ∧ t.vocabs = s.vocabs ∧ t.grammars = s.grammars ∧ t.loads = s.loads ∧ t.rma = s.rma ∧ t.med = s.med ∧ t.nvme = s.nvme ∧ t.snaps = s.snaps ∧ t.shadows = s.shadows ∧ t.pending = s.pending)

/-- Frames, by family of rows (fabric, time and Ethernet rows; link rows; shaping rows; congestion rows; remote
memory rows; live streams): whatever such a row does in whatever state, every part of the state that its
clause names is as it was, the queue included. (R353, R349, R368, R366, R326, R164) -/
def Obligations.NetworkRowsFrame : Prop :=
  (∀ (i : Instr) (s t : State), family i = .fabric → exec i s = .next t →
    t.fresh = s.fresh ∧ t.sys = s.sys ∧ t.upd = s.upd ∧ t.set = s.set ∧ t.run = s.run ∧ t.cmd = s.cmd ∧ t.sec = s.sec ∧ t.brm = s.brm ∧ t.jobs = s.jobs ∧ t.recipes = s.recipes ∧ t.models = s.models ∧ t.vocabs = s.vocabs ∧ t.grammars = s.grammars ∧ t.loads = s.loads ∧ t.tiles = s.tiles ∧ t.samples = s.samples ∧ t.mem = s.mem ∧ t.cxe = s.cxe ∧ t.rma = s.rma ∧ t.med = s.med ∧ t.nvme = s.nvme ∧ t.pwr = s.pwr ∧ t.tst = s.tst ∧ t.snaps = s.snaps ∧ t.shadows = s.shadows ∧ t.pending = s.pending) ∧
  (∀ (i : Instr) (s t : State), family i = .links → exec i s = .next t →
    t.fresh = s.fresh ∧ t.sys = s.sys ∧ t.upd = s.upd ∧ t.set = s.set ∧ t.run = s.run ∧ t.brm = s.brm ∧ t.recipes = s.recipes ∧ t.models = s.models ∧ t.vocabs = s.vocabs ∧ t.grammars = s.grammars ∧ t.loads = s.loads ∧ t.tiles = s.tiles ∧ t.samples = s.samples ∧ t.cxe = s.cxe ∧ t.med = s.med ∧ t.nvme = s.nvme ∧ t.pwr = s.pwr ∧ t.tst = s.tst ∧ t.snaps = s.snaps ∧ t.shadows = s.shadows ∧ t.pending = s.pending) ∧
  (∀ (i : Instr) (s t : State), family i = .shaping → exec i s = .next t →
    t.fresh = s.fresh ∧ t.sys = s.sys ∧ t.upd = s.upd ∧ t.set = s.set ∧ t.run = s.run ∧ t.cmd = s.cmd ∧ t.sec = s.sec ∧ t.brm = s.brm ∧ t.jobs = s.jobs ∧ t.recipes = s.recipes ∧ t.models = s.models ∧ t.vocabs = s.vocabs ∧ t.grammars = s.grammars ∧ t.loads = s.loads ∧ t.tiles = s.tiles ∧ t.samples = s.samples ∧ t.mem = s.mem ∧ t.cxe = s.cxe ∧ t.rma = s.rma ∧ t.med = s.med ∧ t.nvme = s.nvme ∧ t.pwr = s.pwr ∧ t.tst = s.tst ∧ t.snaps = s.snaps ∧ t.shadows = s.shadows ∧ t.pending = s.pending) ∧
  (∀ (i : Instr) (s t : State), family i = .roce → exec i s = .next t →
    t.fresh = s.fresh ∧ t.sys = s.sys ∧ t.upd = s.upd ∧ t.set = s.set ∧ t.run = s.run ∧ t.sloe = s.sloe ∧ t.cmd = s.cmd ∧ t.evt = s.evt ∧ t.sec = s.sec ∧ t.brm = s.brm ∧ t.jobs = s.jobs ∧ t.recipes = s.recipes ∧ t.models = s.models ∧ t.vocabs = s.vocabs ∧ t.grammars = s.grammars ∧ t.loads = s.loads ∧ t.tiles = s.tiles ∧ t.samples = s.samples ∧ t.mem = s.mem ∧ t.cxe = s.cxe ∧ t.med = s.med ∧ t.nvme = s.nvme ∧ t.pwr = s.pwr ∧ t.tst = s.tst ∧ t.snaps = s.snaps ∧ t.shadows = s.shadows ∧ t.pending = s.pending) ∧
  (∀ (i : Instr) (s t : State), family i = .remote → exec i s = .next t →
    t.sys = s.sys ∧ t.upd = s.upd ∧ t.set = s.set ∧ t.run = s.run ∧ t.brm = s.brm ∧ t.recipes = s.recipes ∧ t.models = s.models ∧ t.vocabs = s.vocabs ∧ t.grammars = s.grammars ∧ t.loads = s.loads ∧ t.tiles = s.tiles ∧ t.samples = s.samples ∧ t.cxe = s.cxe ∧ t.net = s.net ∧ t.med = s.med ∧ t.nvme = s.nvme ∧ t.pwr = s.pwr ∧ t.tst = s.tst ∧ t.snaps = s.snaps ∧ t.shadows = s.shadows ∧ t.pending = s.pending) ∧
  (∀ (i : Instr) (s t : State), family i = .live → exec i s = .next t →
    t.fresh = s.fresh ∧ t.now = s.now ∧ t.sys = s.sys ∧ t.upd = s.upd ∧ t.set = s.set ∧ t.run = s.run ∧ t.cmd = s.cmd ∧ t.sec = s.sec ∧ t.brm = s.brm ∧ t.jobs = s.jobs ∧ t.recipes = s.recipes ∧ t.models = s.models ∧ t.vocabs = s.vocabs ∧ t.grammars = s.grammars ∧ t.loads = s.loads ∧ t.tiles = s.tiles ∧ t.samples = s.samples ∧ t.mem = s.mem ∧ t.cxe = s.cxe ∧ t.rma = s.rma ∧ t.med = s.med ∧ t.nvme = s.nvme ∧ t.pwr = s.pwr ∧ t.tst = s.tst ∧ t.snaps = s.snaps ∧ t.shadows = s.shadows ∧ t.pending = s.pending)

/-- Frames, by family of rows (plan messages; sample rows; delivery rows; NVMe I/O; NVMe administration; host link
rows): whatever such a row does in whatever state, every part of the state that its clause names is as it was,
the queue included. (R85, R95, R318, R414, R415, R412) -/
def Obligations.PlanSampleHostRowsFrame : Prop :=
  (∀ (i : Instr) (s t : State), family i = .plans → exec i s = .next t →
    t.fresh = s.fresh ∧ t.now = s.now ∧ t.sys = s.sys ∧ t.upd = s.upd ∧ t.set = s.set ∧ t.run = s.run ∧ t.brm = s.brm ∧ t.recipes = s.recipes ∧ t.models = s.models ∧ t.vocabs = s.vocabs ∧ t.grammars = s.grammars ∧ t.loads = s.loads ∧ t.tiles = s.tiles ∧ t.samples = s.samples ∧ t.cxe = s.cxe ∧ t.rma = s.rma ∧ t.net = s.net ∧ t.med = s.med ∧ t.nvme = s.nvme ∧ t.pwr = s.pwr ∧ t.tst = s.tst ∧ t.snaps = s.snaps ∧ t.shadows = s.shadows ∧ t.pending = s.pending) ∧
  (∀ (i : Instr) (s t : State), family i = .samples → exec i s = .next t →
    t.fresh = s.fresh ∧ t.sys = s.sys ∧ t.upd = s.upd ∧ t.set = s.set ∧ t.run = s.run ∧ t.brm = s.brm ∧ t.recipes = s.recipes ∧ t.models = s.models ∧ t.vocabs = s.vocabs ∧ t.grammars = s.grammars ∧ t.cxe = s.cxe ∧ t.rma = s.rma ∧ t.net = s.net ∧ t.nvme = s.nvme ∧ t.snaps = s.snaps ∧ t.shadows = s.shadows ∧ t.pending = s.pending) ∧
  (∀ (i : Instr) (s t : State), family i = .delivery → exec i s = .next t →
    t.fresh = s.fresh ∧ t.sys = s.sys ∧ t.upd = s.upd ∧ t.set = s.set ∧ t.run = s.run ∧ t.brm = s.brm ∧ t.recipes = s.recipes ∧ t.models = s.models ∧ t.vocabs = s.vocabs ∧ t.grammars = s.grammars ∧ t.tiles = s.tiles ∧ t.cxe = s.cxe ∧ t.med = s.med ∧ t.nvme = s.nvme ∧ t.tst = s.tst ∧ t.snaps = s.snaps ∧ t.shadows = s.shadows ∧ t.pending = s.pending) ∧
  (∀ (i : Instr) (s t : State), family i = .nvmeIo → exec i s = .next t →
    t.now = s.now ∧ t.sys = s.sys ∧ t.upd = s.upd ∧ t.set = s.set ∧ t.run = s.run ∧ t.cmd = s.cmd ∧ t.sec = s.sec ∧ t.brm = s.brm ∧ t.jobs = s.jobs ∧ t.recipes = s.recipes ∧ t.models = s.models ∧ t.vocabs = s.vocabs ∧ t.grammars = s.grammars ∧ t.loads = s.loads ∧ t.tiles = s.tiles ∧ t.samples = s.samples ∧ t.mem = s.mem ∧ t.cxe = s.cxe ∧ t.rma = s.rma ∧ t.net = s.net ∧ t.tst = s.tst ∧ t.snaps = s.snaps ∧ t.shadows = s.shadows ∧ t.pending = s.pending) ∧
  (∀ (i : Instr) (s t : State), family i = .nvmeAdmin → exec i s = .next t →
    t.fresh = s.fresh ∧ t.sys = s.sys ∧ t.upd = s.upd ∧ t.set = s.set ∧ t.run = s.run ∧ t.sloe = s.sloe ∧ t.cmd = s.cmd ∧ t.evt = s.evt ∧ t.sec = s.sec ∧ t.brm = s.brm ∧ t.jobs = s.jobs ∧ t.recipes = s.recipes ∧ t.models = s.models ∧ t.vocabs = s.vocabs ∧ t.grammars = s.grammars ∧ t.loads = s.loads ∧ t.tiles = s.tiles ∧ t.samples = s.samples ∧ t.mem = s.mem ∧ t.cxe = s.cxe ∧ t.rma = s.rma ∧ t.net = s.net ∧ t.tst = s.tst ∧ t.snaps = s.snaps ∧ t.shadows = s.shadows ∧ t.pending = s.pending) ∧
  (∀ (i : Instr) (s t : State), family i = .host → exec i s = .next t →
    t.fresh = s.fresh ∧ t.set = s.set ∧ t.run = s.run ∧ t.brm = s.brm ∧ t.jobs = s.jobs ∧ t.recipes = s.recipes ∧ t.models = s.models ∧ t.vocabs = s.vocabs ∧ t.grammars = s.grammars ∧ t.loads = s.loads ∧ t.samples = s.samples ∧ t.mem = s.mem ∧ t.cxe = s.cxe ∧ t.rma = s.rma ∧ t.tst = s.tst ∧ t.snaps = s.snaps ∧ t.shadows = s.shadows ∧ t.pending = s.pending)

/-- In Pit mode a register write at an offset outside SYS, EVT, SEC and UPD has no effect, and a read of it
answers 0 and changes nothing, as R24 says of an unassigned offset; an offset of the four blocks responds
where its block is powered. (R26) -/
def Obligations.PitModeAnswersFourBlocks : Prop :=
  (∀ (path addr v : Nat) (sigOk : Bool) (s : State), s.sys.pit = true → 0x10000 ≤ addr → addr < 0x40000 ∨ 0x80000 ≤ addr →
    exec (.registerWrite path addr v sigOk) s = .next s ∧ s.readReg path addr = (0, s)) ∧
  (∀ (addr : Nat) (s : State), addr < 0x10000 ∨ (0x40000 ≤ addr ∧ addr < 0x80000) → s.responds addr = s.powered addr)

/-- A reset of PF0 leaves the command rings, the ring bindings, every job with its samples, recipes, memory and
remote windows, and the network untouched; a reset of PF1 leaves PF0's queues, the namespaces and the media
untouched, and every job as it was. (R412) -/
def Obligations.FunctionResetsStayApart : Prop :=
  (∀ (s : State), ∃ t, exec .pf0Flr s = .next t ∧ t.cmd = s.cmd ∧ t.sec = s.sec ∧ t.jobs = s.jobs ∧ t.samples = s.samples ∧ t.loads = s.loads ∧
    t.recipes = s.recipes ∧ t.mem = s.mem ∧ t.rma = s.rma ∧ t.net = s.net) ∧
  (∀ (s : State), ∃ t, exec .pf1Flr s = .next t ∧ t.nvme = s.nvme ∧ t.med = s.med ∧ t.pwr = s.pwr ∧ t.jobs = s.jobs ∧ t.samples = s.samples)

/-- For an enabled ring, a tail or head write at or above the depth, and a head write past the device's completion
tail, leave the pointers as they were, set FAULT and raise the register access event. (R446) -/
def Obligations.RingPointersOutOfRangeFault : Prop :=
  (∀ (path ring v : Nat) (s : State), ring < 64 → s.passes path (ringReg ring 0x18) = true → (s.ring ring).en = true → 2 ^ (s.ring ring).depthLog2 ≤ bits v 0 16 →
    exec (.cmdSqTailWrite path ring v) s = .next (State.raise (s.setRing ring { s.ring ring with fault := true }) evRegAccess 4
      (leBytes 4 (ringReg ring 0x18) ++ leBytes 1 path))) ∧
  (∀ (path ring v d : Nat) (s : State), ring < 64 → s.passes path (ringReg ring 0x1C) = true → (s.ring ring).en = true → d = 2 ^ (s.ring ring).depthLog2 →
    d ≤ bits v 0 16 ∨ ((s.ring ring).cqTail + d - (s.ring ring).cqHead) % d < (bits v 0 16 + d - (s.ring ring).cqHead) % d →
    exec (.cmdCqHeadWrite path ring v) s = .next (State.raise (s.setRing ring { s.ring ring with fault := true }) evRegAccess 4
      (leBytes 4 (ringReg ring 0x1C) ++ leBytes 1 path)))

/-- A CRED_CLEAR of slot 1 whose turn has come completes with PARAM_INVALID while another slot holds an operator
or installer, and has no effect; with no such slot, it succeeds, slot 1 is empty and the device is unclaimed.
(R565) -/
def Obligations.ClearingTheFirstSlotComesLast : Prop :=
  (∀ (x : CmdIn) (s u : State) (w : Waiter), s.takes opCredClear x w u → x.pkt.f 16 1 = 1 → u.sec.creds.any (fun c => c.1 != 1 && c.2.role != 3) = true →
    exec (.credClear x) s = .next (u.turnDown opCredClear w x (paramInvalid 16)) ∧ (paramInvalid 16).status = 0x0104) ∧
  (∀ (x : CmdIn) (s u t : State) (w : Waiter), s.takes opCredClear x w u → x.pkt.f 16 1 = 1 → u.sec.creds.any (fun c => c.1 != 1 && c.2.role != 3) = false →
    u.sec.creds.sorted = true → { u with sec := { u.sec.unbind 1 with creds := u.sec.creds.del 1 } } = t →
    exec (.credClear x) s = .next (u.completes opCredClear w success t) ∧ t.sec.creds.find 1 = none)

/-- An EPOCH_PLAN whose turn has come, for a held epoch: with the plan complete it succeeds with no change; with
the plan in progress it waits with the commands that the plan completes; and when the plan completes, all of
them complete with SUCCESS. (R90) -/
def Obligations.RepeatedPlanCommandsJoin : Prop :=
  (∀ (x : CmdIn) (s u : State) (w : Waiter) (slot : Nat) (j : Job) (p : EpochPlan), s.takes opEpochPlan x w u → u.jobNamed x.pkt.jobId = some (slot, j) →
    x.pkt.epochAt 20 = j.epoch ∨ x.pkt.epochAt 20 = j.epoch + 1 → bits (x.pkt.f 20 4) 20 12 = 0 → j.plan (x.pkt.epochAt 20) = some p → p.phase = 6 ∨ p.phase = 8 →
    exec (.epochPlan x) s = .next (u.completes opEpochPlan w { status := 1 } u)) ∧
  (∀ (x : CmdIn) (s u : State) (w : Waiter) (slot : Nat) (j : Job) (p : EpochPlan), s.takes opEpochPlan x w u → u.jobNamed x.pkt.jobId = some (slot, j) →
    x.pkt.epochAt 20 = j.epoch ∨ x.pkt.epochAt 20 = j.epoch + 1 → bits (x.pkt.f 20 4) 20 12 = 0 → j.plan (x.pkt.epochAt 20) = some p → p.phase ≠ 6 → p.phase ≠ 8 →
    p.building = true → exec (.epochPlan x) s = .next (u.starts opEpochPlan w (u.setJob slot (j.setPlan { p with waiters := p.waiters ++ [w] })))) ∧
  (∀ (slot epoch fuel : Nat) (j : Job) (p q : EpochPlan) (s : State), s.jobs.find slot = some j → j.plan epoch = some p → s.planMove j p = .complete q →
    State.advancePlan slot epoch (fuel + 1) s = State.finishAll (s.setJob slot (j.setPlan { q with waiters := [] })) p.waiters success)

/-- A takeover of a failed device of the job starts only where the device runs at the job's DL. A JOB_TAKEOVER
whose turn has come, of a newer generation, naming another device of the job, completes with DL_MISMATCH where
the DLs differ. (R50) -/
def Obligations.TakeoverNeedsTheJobsDl : Prop :=
  (∀ (failed slot : Nat) (j : Job) (s t : State), takeoverStart failed slot j s = .inr t → s.sys.dl = j.dl) ∧
  (∀ (x : CmdIn) (s u : State) (w : Waiter) (slot : Nat) (j : Job) (failed : Nat), s.takes opJobTakeover x w u → u.jobNamed w.pkt.jobId = some (slot, j) →
    j.gen < w.pkt.gen → bits (x.pkt.f 18 2) 0 13 = failed → failed < 6144 → failed ≠ u.self → j.devices.contains failed = true → u.sys.dl ≠ j.dl →
    exec (.jobTakeover x) s = .next (u.turnDown opJobTakeover w x { status := 0x0601 }))

/-- After the start, a new event of severity 0 or 1 goes to a general slot while fewer than 8,128 are unconsumed;
with all of them unconsumed, the ring is left as it was and the event is counted in EVT_DROP of its group.
(R529) -/
def Obligations.LowSeverityEventsUseGeneralSlots : Prop :=
  (∀ (ev : Event) (s : State), ev.sev < 2 → s.evt.early = false → s.evt.general < 8128 →
    (s.newRecord ev).evt.ring = s.evt.ring ++ [{ ev with seq := s.evt.nextSeq, rsvSlot := false }]) ∧
  (∀ (ev : Event) (s : State), ev.sev < 2 → s.evt.early = false → 8128 ≤ s.evt.general → groupOf ev.code < s.evt.drops.length →
    (s.newRecord ev).evt.ring = s.evt.ring ∧ ((s.newRecord ev).evt.drops.getD (groupOf ev.code) {}).count
      = satTo 32 ((s.evt.drops.getD (groupOf ev.code) {}).count + 1))

/-- A READ or VERIFY that is taken, within a block namespace, of blocks that include an uncorrectable codeword
completes with the unrecovered read error: no data is sent and no copy is asked for. (R401) -/
def Obligations.UncorrectableBlockReadsFail : Prop :=
  (∀ (c : NvmeIn) (s t : State) (n : Namespace), s.nvmeTakes c true t → t.space c.nsid = some n → n.kind = 0 → c.len ≤ 4194304 → c.off + c.len ≤ n.capacity →
    n.readable c.off c.len = false → exec (.nvmeRead c) s = .next (State.nvDone (t.mediaRead c.nsid c.off c.len 0) { c with opcode := 2 } nvUnrecovered 0)) ∧
  (∀ (c : NvmeIn) (s t : State) (n : Namespace), s.nvmeTakes c true t → t.space c.nsid = some n → n.kind = 0 → c.off + c.len ≤ n.capacity →
    n.readable c.off c.len = false → exec (.nvmeVerify c) s = .next (State.nvDone (t.mediaRead c.nsid c.off c.len 0) { c with opcode := 12 } nvUnrecovered 0))

/-- A write of RATE above 1,600,000 on a fabric port or 800,000 on an Ethernet port, and a WEIGHT of 0, leave the
shaper as it was and raise the register access event; a write to an admin entry leaves the operational and the
pending list as they were. (R377) -/
def Obligations.ShapingWritesOutOfRange : Prop :=
  (∀ (path sp c v : Nat) (sigOk : Bool) (s : State), sp < 24 → c < 16 → s.passes path (shpReg sp (0x100 + 0x10 * c)) = true →
    (if sp < 16 then 1600000 else 800000) < bits v 0 21 → exec (.registerWrite path (shpReg sp (0x100 + 0x10 * c)) v sigOk) s
      = .next (State.raise s evRegAccess 4 (leBytes 4 (shpReg sp (0x100 + 0x10 * c)) ++ leBytes 1 path))) ∧
  (∀ (path sp c v : Nat) (sigOk : Bool) (s : State), sp < 24 → c < 16 → s.passes path (shpReg sp (0x108 + 0x10 * c)) = true → bits v 8 8 = 0 →
    exec (.registerWrite path (shpReg sp (0x108 + 0x10 * c)) v sigOk) s
      = .next (State.raise s evRegAccess 4 (leBytes 4 (shpReg sp (0x108 + 0x10 * c)) ++ leBytes 1 path))) ∧
  (∀ (h : Shaper) (o v : Nat), 0x800 ≤ o → o < 0x1000 → (h.write o v).oper = h.oper ∧ (h.write o v).pending = h.pending)

/-- With COOLANT_FLOW_N low, no report of step 8, 9 or 10 has an effect, and the watchdog does not fail a start;
when the flow returns, the time it was low no longer counts. (R499) -/
def Obligations.CoolantFlowHoldsTheStart : Prop :=
  (∀ (k now : Nat) (out : StartOut) (s : State), s.pwr.flowLow = true → 8 ≤ k → k ≤ 10 → exec (.startStepComplete k now out) s = .next (s.advance now)) ∧
  (∀ (now : Nat) (s : State), s.pwr.flowLow = true → s.upd.activating = none → exec (.bootWatchdogExpiry now) s = .next (s.advance now)) ∧
  (∀ (s : State), s.pwr.flowLow = true → exec .coolantFlowReturn s = .next { s with pwr := { s.pwr with flowLow := false }, sys := { s.sys with suspended := s.sys.suspended + (s.now - s.pwr.flowAt) } })

/-- A domain that powers down leaves the bytes and the states of all banks as they were; a bank that reaches OFF
reads 0 at each of its bytes, and every other byte keeps its value, whatever the domains. (R28) -/
def Obligations.DomainsLeaveBankContents : Prop :=
  (∀ (d now : Nat) (work : Bool) (s t : State), exec (.domainPowerDownCommit d work now) s = .next t →
    t.mem.sram = s.mem.sram ∧ ∀ die b, (t.bank die b).state = (s.bank die b).state) ∧
  (∀ (die bank a : Nat) (s t : State), s.mem.sram.sorted = true → (s.bank die bank).next = some 0 → (s.bank die bank).pending = none → (s.bank die bank).test = false →
    exec (.bankTransitionComplete die bank) s = .next t →
    t.mem.sram.get 0 a = if a / 2 ^ 27 = die ∧ bankOfAddr (a % 2 ^ 27) = bank then 0 else s.mem.sram.get 0 a)
end

