-- ==== Sys2Proof/Laws/Accept.lean ====
section
/-! SUPPORT. What `runCommand` does with a packet whose turn has come: one lemma per answer of the
command's own checks. -/

namespace Sys2Proof.Machine

/-- A packet whose turn has come runs its own checks and effect. -/
theorem runCommand_turn {sp : OpSpec} {own : Waiter → CmdIn → State → Own} {x : CmdIn} {s u : State} {w : Waiter}
    (h : s.turn sp x = some (w, u)) : runCommand sp own x s = u.runOwn sp own w x := by
  unfold State.turn at h
  unfold runCommand
  split at h
  · cases h
  rename_i w₀ s₀ ht
  try rw [ht]
  split at h
  · cases h
  rename_i hf
  split at h
  · cases h
  rename_i hr
  split at h
  · cases h
  rename_i hc
  simp only [Option.some.injEq, Prod.mk.injEq] at h
  obtain ⟨rfl, rfl⟩ := h
  simp only [Bool.or_eq_true, not_or, Bool.not_eq_true, Bool.not_eq_false', Option.isSome_eq_false_iff, Option.isNone_iff_eq_none] at hc
  obtain ⟨⟨hy, hk⟩, ho⟩ := hc
  have hcons : (s₀.receipt x).consider sp own w₀ x = (s₀.own x).runOwn sp own w₀ x := by
    unfold State.consider State.accept
    rw [if_pos hy, hk]
    simp only [State.own] at ho ⊢
    rw [ho]
    rfl
  simp only [hf, Bool.false_eq_true, if_false]
  split
  · rename_i hretry
    have hn : (s₀.receipt x).retryOf w₀ = .new := by simpa [hretry] using hr
    rw [hn]
    exact hcons
  · exact hcons

/-- A taken packet's waiter holds the packet, its source and its opcode. -/
theorem take_waiter {s s₀ : State} {op : Nat} {x : CmdIn} {w : Waiter} (h : s.take op x = some (w, s₀)) :
    w.pkt = x.pkt ∧ w.src = x.src ∧ w.opcode = op := by
  unfold State.take at h
  split at h
  · cases h
  split at h
  · split at h
    · rename_i hw
      simp only [Option.some.injEq, Prod.mk.injEq] at h
      have := List.find?_some hw
      simp only [Bool.and_eq_true, beq_iff_eq] at this
      rw [← h.1]
      exact ⟨this.2, this.1.1, this.1.2⟩
    · cases h
  · simp only [State.arrive, Option.some.injEq, Prod.mk.injEq] at h
    rw [← h.1]
    exact ⟨rfl, rfl, rfl⟩

/-- The waiter of a packet whose turn has come holds the packet, its source and its opcode. -/
theorem takes_waiter {sp : OpSpec} {s u : State} {x : CmdIn} {w : Waiter} (h : s.takes sp x w u) :
    w.pkt = x.pkt ∧ w.src = x.src ∧ w.opcode = sp.opcode := by
  have h := h.1
  unfold State.turn at h
  split at h
  · cases h
  rename_i ht
  split at h
  · cases h
  split at h
  · cases h
  split at h
  · cases h
  simp only [Option.some.injEq, Prod.mk.injEq] at h
  rw [← h.1]
  exact take_waiter ht

theorem runCommand_done {sp : OpSpec} {own : Waiter → CmdIn → State → Own} {x : CmdIn} {s u t : State} {w : Waiter} {r : Result}
    (h : s.takes sp x w u) (ho : own w x u = .done r t) :
    runCommand sp own x s = u.completes sp w r t := by
  rw [runCommand_turn h.1]
  unfold State.runOwn State.completes
  rw [ho]
  by_cases hs : sp.audited
  · simp only [hs, h.2 hs, if_true]
  · simp only [hs, Bool.false_eq_true, if_false]

theorem runCommand_run {sp : OpSpec} {own : Waiter → CmdIn → State → Own} {x : CmdIn} {s u t : State} {w : Waiter}
    (h : s.takes sp x w u) (ho : own w x u = .run t) :
    runCommand sp own x s = u.starts sp w t := by
  rw [runCommand_turn h.1]
  unfold State.runOwn State.starts
  rw [ho]
  by_cases hs : sp.audited
  · simp only [hs, h.2 hs, if_true]
  · simp only [hs, Bool.false_eq_true, if_false]

theorem runCommand_last {sp : OpSpec} {own : Waiter → CmdIn → State → Own} {x : CmdIn} {s u t : State} {w : Waiter}
    {r : Result} {after : State → State} (h : s.takes sp x w u) (ho : own w x u = .last r t after) :
    runCommand sp own x s = after (u.completes sp w r t) := by
  rw [runCommand_turn h.1]
  unfold State.runOwn State.completes
  rw [ho]
  by_cases hs : sp.audited
  · simp only [hs, h.2 hs, if_true]
  · simp only [hs, Bool.false_eq_true, if_false]

/-- A packet that its own checks refuse has no effect but its audit record and its completion (R458). -/
theorem runCommand_refuse {sp : OpSpec} {own : Waiter → CmdIn → State → Own} {x : CmdIn} {s u : State} {w : Waiter} {r : Result}
    (h : s.turn sp x = some (w, u)) (ho : own w x u = .refuse r) :
    runCommand sp own x s = u.turnDown sp w x r := by
  rw [runCommand_turn h]
  unfold State.runOwn
  rw [ho]

/-- A write that reaches its register has its effect. -/
theorem gated_passes {s : State} {path addr : Nat} {f : State → State} (h : s.passes path addr = true) :
    s.gated path addr f = f s := by
  unfold State.passes at h
  simp only [Bool.and_eq_true, Bool.not_eq_true'] at h
  obtain ⟨⟨⟨ha, hp⟩, hq⟩, hr⟩ := h
  unfold State.gated
  simp [ha, hp, hq, hr]

/-- An NVMe command that is taken has its own effect. -/
theorem nvmeTakes_run {s t : State} {c : NvmeIn} {io : Bool} (f : State → State) (h : s.nvmeTakes c io t) : s.nvmeRun c io f = f t := by
  obtain ⟨ha, hl, hr, hp, hq, ⟨v, hv, rfl⟩, hio⟩ := h
  cases io <;> simp_all [State.nvmeRun]

end Sys2Proof.Machine
end

