-- ==== Sys2Proof/Laws/State.lean ====
section
/-! SUPPORT. What each named update of the state leaves in every field: one lemma per field, by computation,
so that no later proof unfolds a record update. -/

namespace Sys2Proof.Machine

variable (s : State)

/-! ## emit -/

section
variable (o : Output)
@[simp] theorem State.emit_pending : (s.emit o).pending = s.pending := rfl
@[simp] theorem State.emit_fresh : (s.emit o).fresh = s.fresh := rfl
@[simp] theorem State.emit_now : (s.emit o).now = s.now := rfl
@[simp] theorem State.emit_sys : (s.emit o).sys = s.sys := rfl
@[simp] theorem State.emit_upd : (s.emit o).upd = s.upd := rfl
@[simp] theorem State.emit_set : (s.emit o).set = s.set := rfl
@[simp] theorem State.emit_run : (s.emit o).run = s.run := rfl
@[simp] theorem State.emit_sloe : (s.emit o).sloe = s.sloe := rfl
@[simp] theorem State.emit_cmd : (s.emit o).cmd = s.cmd := rfl
@[simp] theorem State.emit_evt : (s.emit o).evt = s.evt := rfl
@[simp] theorem State.emit_sec : (s.emit o).sec = s.sec := rfl
@[simp] theorem State.emit_brm : (s.emit o).brm = s.brm := rfl
@[simp] theorem State.emit_jobs : (s.emit o).jobs = s.jobs := rfl
@[simp] theorem State.emit_recipes : (s.emit o).recipes = s.recipes := rfl
@[simp] theorem State.emit_models : (s.emit o).models = s.models := rfl
@[simp] theorem State.emit_vocabs : (s.emit o).vocabs = s.vocabs := rfl
@[simp] theorem State.emit_grammars : (s.emit o).grammars = s.grammars := rfl
@[simp] theorem State.emit_loads : (s.emit o).loads = s.loads := rfl
@[simp] theorem State.emit_tiles : (s.emit o).tiles = s.tiles := rfl
@[simp] theorem State.emit_samples : (s.emit o).samples = s.samples := rfl
@[simp] theorem State.emit_mem : (s.emit o).mem = s.mem := rfl
@[simp] theorem State.emit_cxe : (s.emit o).cxe = s.cxe := rfl
@[simp] theorem State.emit_rma : (s.emit o).rma = s.rma := rfl
@[simp] theorem State.emit_net : (s.emit o).net = s.net := rfl
@[simp] theorem State.emit_med : (s.emit o).med = s.med := rfl
@[simp] theorem State.emit_nvme : (s.emit o).nvme = s.nvme := rfl
@[simp] theorem State.emit_pwr : (s.emit o).pwr = s.pwr := rfl
@[simp] theorem State.emit_tst : (s.emit o).tst = s.tst := rfl
@[simp] theorem State.emit_counters : (s.emit o).counters = s.counters := rfl
@[simp] theorem State.emit_snaps : (s.emit o).snaps = s.snaps := rfl
@[simp] theorem State.emit_shadows : (s.emit o).shadows = s.shadows := rfl
@[simp] theorem State.emit_emitted : (s.emit o).emitted = s.emitted ++ [o] := rfl
end

/-! ## emitAll -/

section
variable (os : List Output)
@[simp] theorem State.emitAll_pending : (s.emitAll os).pending = s.pending := rfl
@[simp] theorem State.emitAll_fresh : (s.emitAll os).fresh = s.fresh := rfl
@[simp] theorem State.emitAll_now : (s.emitAll os).now = s.now := rfl
@[simp] theorem State.emitAll_sys : (s.emitAll os).sys = s.sys := rfl
@[simp] theorem State.emitAll_upd : (s.emitAll os).upd = s.upd := rfl
@[simp] theorem State.emitAll_set : (s.emitAll os).set = s.set := rfl
@[simp] theorem State.emitAll_run : (s.emitAll os).run = s.run := rfl
@[simp] theorem State.emitAll_sloe : (s.emitAll os).sloe = s.sloe := rfl
@[simp] theorem State.emitAll_cmd : (s.emitAll os).cmd = s.cmd := rfl
@[simp] theorem State.emitAll_evt : (s.emitAll os).evt = s.evt := rfl
@[simp] theorem State.emitAll_sec : (s.emitAll os).sec = s.sec := rfl
@[simp] theorem State.emitAll_brm : (s.emitAll os).brm = s.brm := rfl
@[simp] theorem State.emitAll_jobs : (s.emitAll os).jobs = s.jobs := rfl
@[simp] theorem State.emitAll_recipes : (s.emitAll os).recipes = s.recipes := rfl
@[simp] theorem State.emitAll_models : (s.emitAll os).models = s.models := rfl
@[simp] theorem State.emitAll_vocabs : (s.emitAll os).vocabs = s.vocabs := rfl
@[simp] theorem State.emitAll_grammars : (s.emitAll os).grammars = s.grammars := rfl
@[simp] theorem State.emitAll_loads : (s.emitAll os).loads = s.loads := rfl
@[simp] theorem State.emitAll_tiles : (s.emitAll os).tiles = s.tiles := rfl
@[simp] theorem State.emitAll_samples : (s.emitAll os).samples = s.samples := rfl
@[simp] theorem State.emitAll_mem : (s.emitAll os).mem = s.mem := rfl
@[simp] theorem State.emitAll_cxe : (s.emitAll os).cxe = s.cxe := rfl
@[simp] theorem State.emitAll_rma : (s.emitAll os).rma = s.rma := rfl
@[simp] theorem State.emitAll_net : (s.emitAll os).net = s.net := rfl
@[simp] theorem State.emitAll_med : (s.emitAll os).med = s.med := rfl
@[simp] theorem State.emitAll_nvme : (s.emitAll os).nvme = s.nvme := rfl
@[simp] theorem State.emitAll_pwr : (s.emitAll os).pwr = s.pwr := rfl
@[simp] theorem State.emitAll_tst : (s.emitAll os).tst = s.tst := rfl
@[simp] theorem State.emitAll_counters : (s.emitAll os).counters = s.counters := rfl
@[simp] theorem State.emitAll_snaps : (s.emitAll os).snaps = s.snaps := rfl
@[simp] theorem State.emitAll_shadows : (s.emitAll os).shadows = s.shadows := rfl
@[simp] theorem State.emitAll_emitted : (s.emitAll os).emitted = s.emitted ++ os := rfl
end

/-! ## advance -/

section
variable (t : Nat)
@[simp] theorem State.advance_pending : (s.advance t).pending = s.pending := rfl
@[simp] theorem State.advance_emitted : (s.advance t).emitted = s.emitted := rfl
@[simp] theorem State.advance_fresh : (s.advance t).fresh = s.fresh := rfl
@[simp] theorem State.advance_sys : (s.advance t).sys = s.sys := rfl
@[simp] theorem State.advance_upd : (s.advance t).upd = s.upd := rfl
@[simp] theorem State.advance_set : (s.advance t).set = s.set := rfl
@[simp] theorem State.advance_run : (s.advance t).run = s.run := rfl
@[simp] theorem State.advance_sloe : (s.advance t).sloe = s.sloe := rfl
@[simp] theorem State.advance_cmd : (s.advance t).cmd = s.cmd := rfl
@[simp] theorem State.advance_evt : (s.advance t).evt = s.evt := rfl
@[simp] theorem State.advance_sec : (s.advance t).sec = s.sec := rfl
@[simp] theorem State.advance_brm : (s.advance t).brm = s.brm := rfl
@[simp] theorem State.advance_jobs : (s.advance t).jobs = s.jobs := rfl
@[simp] theorem State.advance_recipes : (s.advance t).recipes = s.recipes := rfl
@[simp] theorem State.advance_models : (s.advance t).models = s.models := rfl
@[simp] theorem State.advance_vocabs : (s.advance t).vocabs = s.vocabs := rfl
@[simp] theorem State.advance_grammars : (s.advance t).grammars = s.grammars := rfl
@[simp] theorem State.advance_loads : (s.advance t).loads = s.loads := rfl
@[simp] theorem State.advance_tiles : (s.advance t).tiles = s.tiles := rfl
@[simp] theorem State.advance_samples : (s.advance t).samples = s.samples := rfl
@[simp] theorem State.advance_mem : (s.advance t).mem = s.mem := rfl
@[simp] theorem State.advance_cxe : (s.advance t).cxe = s.cxe := rfl
@[simp] theorem State.advance_rma : (s.advance t).rma = s.rma := rfl
@[simp] theorem State.advance_net : (s.advance t).net = s.net := rfl
@[simp] theorem State.advance_med : (s.advance t).med = s.med := rfl
@[simp] theorem State.advance_nvme : (s.advance t).nvme = s.nvme := rfl
@[simp] theorem State.advance_pwr : (s.advance t).pwr = s.pwr := rfl
@[simp] theorem State.advance_tst : (s.advance t).tst = s.tst := rfl
@[simp] theorem State.advance_counters : (s.advance t).counters = s.counters := rfl
@[simp] theorem State.advance_snaps : (s.advance t).snaps = s.snaps := rfl
@[simp] theorem State.advance_shadows : (s.advance t).shadows = s.shadows := rfl
@[simp] theorem State.advance_now : (s.advance t).now = max s.now t := rfl
end

/-! ## setCounter -/

section
variable (a : Nat) (v : Nat)
@[simp] theorem State.setCounter_pending : (s.setCounter a v).pending = s.pending := rfl
@[simp] theorem State.setCounter_emitted : (s.setCounter a v).emitted = s.emitted := rfl
@[simp] theorem State.setCounter_fresh : (s.setCounter a v).fresh = s.fresh := rfl
@[simp] theorem State.setCounter_now : (s.setCounter a v).now = s.now := rfl
@[simp] theorem State.setCounter_sys : (s.setCounter a v).sys = s.sys := rfl
@[simp] theorem State.setCounter_upd : (s.setCounter a v).upd = s.upd := rfl
@[simp] theorem State.setCounter_set : (s.setCounter a v).set = s.set := rfl
@[simp] theorem State.setCounter_run : (s.setCounter a v).run = s.run := rfl
@[simp] theorem State.setCounter_sloe : (s.setCounter a v).sloe = s.sloe := rfl
@[simp] theorem State.setCounter_cmd : (s.setCounter a v).cmd = s.cmd := rfl
@[simp] theorem State.setCounter_evt : (s.setCounter a v).evt = s.evt := rfl
@[simp] theorem State.setCounter_sec : (s.setCounter a v).sec = s.sec := rfl
@[simp] theorem State.setCounter_brm : (s.setCounter a v).brm = s.brm := rfl
@[simp] theorem State.setCounter_jobs : (s.setCounter a v).jobs = s.jobs := rfl
@[simp] theorem State.setCounter_recipes : (s.setCounter a v).recipes = s.recipes := rfl
@[simp] theorem State.setCounter_models : (s.setCounter a v).models = s.models := rfl
@[simp] theorem State.setCounter_vocabs : (s.setCounter a v).vocabs = s.vocabs := rfl
@[simp] theorem State.setCounter_grammars : (s.setCounter a v).grammars = s.grammars := rfl
@[simp] theorem State.setCounter_loads : (s.setCounter a v).loads = s.loads := rfl
@[simp] theorem State.setCounter_tiles : (s.setCounter a v).tiles = s.tiles := rfl
@[simp] theorem State.setCounter_samples : (s.setCounter a v).samples = s.samples := rfl
@[simp] theorem State.setCounter_mem : (s.setCounter a v).mem = s.mem := rfl
@[simp] theorem State.setCounter_cxe : (s.setCounter a v).cxe = s.cxe := rfl
@[simp] theorem State.setCounter_rma : (s.setCounter a v).rma = s.rma := rfl
@[simp] theorem State.setCounter_net : (s.setCounter a v).net = s.net := rfl
@[simp] theorem State.setCounter_med : (s.setCounter a v).med = s.med := rfl
@[simp] theorem State.setCounter_nvme : (s.setCounter a v).nvme = s.nvme := rfl
@[simp] theorem State.setCounter_pwr : (s.setCounter a v).pwr = s.pwr := rfl
@[simp] theorem State.setCounter_tst : (s.setCounter a v).tst = s.tst := rfl
@[simp] theorem State.setCounter_snaps : (s.setCounter a v).snaps = s.snaps := rfl
@[simp] theorem State.setCounter_shadows : (s.setCounter a v).shadows = s.shadows := rfl
@[simp] theorem State.setCounter_counters : (s.setCounter a v).counters = s.counters.set 0 a v := rfl
end

/-! ## bump -/

section
variable (a : Nat) (n : Nat)
@[simp] theorem State.bump_pending : (s.bump a n).pending = s.pending := rfl
@[simp] theorem State.bump_emitted : (s.bump a n).emitted = s.emitted := rfl
@[simp] theorem State.bump_fresh : (s.bump a n).fresh = s.fresh := rfl
@[simp] theorem State.bump_now : (s.bump a n).now = s.now := rfl
@[simp] theorem State.bump_sys : (s.bump a n).sys = s.sys := rfl
@[simp] theorem State.bump_upd : (s.bump a n).upd = s.upd := rfl
@[simp] theorem State.bump_set : (s.bump a n).set = s.set := rfl
@[simp] theorem State.bump_run : (s.bump a n).run = s.run := rfl
@[simp] theorem State.bump_sloe : (s.bump a n).sloe = s.sloe := rfl
@[simp] theorem State.bump_cmd : (s.bump a n).cmd = s.cmd := rfl
@[simp] theorem State.bump_evt : (s.bump a n).evt = s.evt := rfl
@[simp] theorem State.bump_sec : (s.bump a n).sec = s.sec := rfl
@[simp] theorem State.bump_brm : (s.bump a n).brm = s.brm := rfl
@[simp] theorem State.bump_jobs : (s.bump a n).jobs = s.jobs := rfl
@[simp] theorem State.bump_recipes : (s.bump a n).recipes = s.recipes := rfl
@[simp] theorem State.bump_models : (s.bump a n).models = s.models := rfl
@[simp] theorem State.bump_vocabs : (s.bump a n).vocabs = s.vocabs := rfl
@[simp] theorem State.bump_grammars : (s.bump a n).grammars = s.grammars := rfl
@[simp] theorem State.bump_loads : (s.bump a n).loads = s.loads := rfl
@[simp] theorem State.bump_tiles : (s.bump a n).tiles = s.tiles := rfl
@[simp] theorem State.bump_samples : (s.bump a n).samples = s.samples := rfl
@[simp] theorem State.bump_mem : (s.bump a n).mem = s.mem := rfl
@[simp] theorem State.bump_cxe : (s.bump a n).cxe = s.cxe := rfl
@[simp] theorem State.bump_rma : (s.bump a n).rma = s.rma := rfl
@[simp] theorem State.bump_net : (s.bump a n).net = s.net := rfl
@[simp] theorem State.bump_med : (s.bump a n).med = s.med := rfl
@[simp] theorem State.bump_nvme : (s.bump a n).nvme = s.nvme := rfl
@[simp] theorem State.bump_pwr : (s.bump a n).pwr = s.pwr := rfl
@[simp] theorem State.bump_tst : (s.bump a n).tst = s.tst := rfl
@[simp] theorem State.bump_snaps : (s.bump a n).snaps = s.snaps := rfl
@[simp] theorem State.bump_shadows : (s.bump a n).shadows = s.shadows := rfl
@[simp] theorem State.bump_counters : (s.bump a n).counters = s.counters.set 0 a (satTo 32 (s.counter a + n)) := rfl
end

/-! ## bump64 -/

section
variable (a : Nat) (n : Nat)
@[simp] theorem State.bump64_pending : (s.bump64 a n).pending = s.pending := rfl
@[simp] theorem State.bump64_emitted : (s.bump64 a n).emitted = s.emitted := rfl
@[simp] theorem State.bump64_fresh : (s.bump64 a n).fresh = s.fresh := rfl
@[simp] theorem State.bump64_now : (s.bump64 a n).now = s.now := rfl
@[simp] theorem State.bump64_sys : (s.bump64 a n).sys = s.sys := rfl
@[simp] theorem State.bump64_upd : (s.bump64 a n).upd = s.upd := rfl
@[simp] theorem State.bump64_set : (s.bump64 a n).set = s.set := rfl
@[simp] theorem State.bump64_run : (s.bump64 a n).run = s.run := rfl
@[simp] theorem State.bump64_sloe : (s.bump64 a n).sloe = s.sloe := rfl
@[simp] theorem State.bump64_cmd : (s.bump64 a n).cmd = s.cmd := rfl
@[simp] theorem State.bump64_evt : (s.bump64 a n).evt = s.evt := rfl
@[simp] theorem State.bump64_sec : (s.bump64 a n).sec = s.sec := rfl
@[simp] theorem State.bump64_brm : (s.bump64 a n).brm = s.brm := rfl
@[simp] theorem State.bump64_jobs : (s.bump64 a n).jobs = s.jobs := rfl
@[simp] theorem State.bump64_recipes : (s.bump64 a n).recipes = s.recipes := rfl
@[simp] theorem State.bump64_models : (s.bump64 a n).models = s.models := rfl
@[simp] theorem State.bump64_vocabs : (s.bump64 a n).vocabs = s.vocabs := rfl
@[simp] theorem State.bump64_grammars : (s.bump64 a n).grammars = s.grammars := rfl
@[simp] theorem State.bump64_loads : (s.bump64 a n).loads = s.loads := rfl
@[simp] theorem State.bump64_tiles : (s.bump64 a n).tiles = s.tiles := rfl
@[simp] theorem State.bump64_samples : (s.bump64 a n).samples = s.samples := rfl
@[simp] theorem State.bump64_mem : (s.bump64 a n).mem = s.mem := rfl
@[simp] theorem State.bump64_cxe : (s.bump64 a n).cxe = s.cxe := rfl
@[simp] theorem State.bump64_rma : (s.bump64 a n).rma = s.rma := rfl
@[simp] theorem State.bump64_net : (s.bump64 a n).net = s.net := rfl
@[simp] theorem State.bump64_med : (s.bump64 a n).med = s.med := rfl
@[simp] theorem State.bump64_nvme : (s.bump64 a n).nvme = s.nvme := rfl
@[simp] theorem State.bump64_pwr : (s.bump64 a n).pwr = s.pwr := rfl
@[simp] theorem State.bump64_tst : (s.bump64 a n).tst = s.tst := rfl
@[simp] theorem State.bump64_snaps : (s.bump64 a n).snaps = s.snaps := rfl
@[simp] theorem State.bump64_shadows : (s.bump64 a n).shadows = s.shadows := rfl
@[simp] theorem State.bump64_counters : (s.bump64 a n).counters = s.counters.set 0 a ((s.counter a + n) % 2 ^ 64) := rfl
end

/-! ## setRing -/

section
variable (i : Nat) (r : Ring)
@[simp] theorem State.setRing_pending : (s.setRing i r).pending = s.pending := rfl
@[simp] theorem State.setRing_emitted : (s.setRing i r).emitted = s.emitted := rfl
@[simp] theorem State.setRing_fresh : (s.setRing i r).fresh = s.fresh := rfl
@[simp] theorem State.setRing_now : (s.setRing i r).now = s.now := rfl
@[simp] theorem State.setRing_sys : (s.setRing i r).sys = s.sys := rfl
@[simp] theorem State.setRing_upd : (s.setRing i r).upd = s.upd := rfl
@[simp] theorem State.setRing_set : (s.setRing i r).set = s.set := rfl
@[simp] theorem State.setRing_run : (s.setRing i r).run = s.run := rfl
@[simp] theorem State.setRing_sloe : (s.setRing i r).sloe = s.sloe := rfl
@[simp] theorem State.setRing_evt : (s.setRing i r).evt = s.evt := rfl
@[simp] theorem State.setRing_sec : (s.setRing i r).sec = s.sec := rfl
@[simp] theorem State.setRing_brm : (s.setRing i r).brm = s.brm := rfl
@[simp] theorem State.setRing_jobs : (s.setRing i r).jobs = s.jobs := rfl
@[simp] theorem State.setRing_recipes : (s.setRing i r).recipes = s.recipes := rfl
@[simp] theorem State.setRing_models : (s.setRing i r).models = s.models := rfl
@[simp] theorem State.setRing_vocabs : (s.setRing i r).vocabs = s.vocabs := rfl
@[simp] theorem State.setRing_grammars : (s.setRing i r).grammars = s.grammars := rfl
@[simp] theorem State.setRing_loads : (s.setRing i r).loads = s.loads := rfl
@[simp] theorem State.setRing_tiles : (s.setRing i r).tiles = s.tiles := rfl
@[simp] theorem State.setRing_samples : (s.setRing i r).samples = s.samples := rfl
@[simp] theorem State.setRing_mem : (s.setRing i r).mem = s.mem := rfl
@[simp] theorem State.setRing_cxe : (s.setRing i r).cxe = s.cxe := rfl
@[simp] theorem State.setRing_rma : (s.setRing i r).rma = s.rma := rfl
@[simp] theorem State.setRing_net : (s.setRing i r).net = s.net := rfl
@[simp] theorem State.setRing_med : (s.setRing i r).med = s.med := rfl
@[simp] theorem State.setRing_nvme : (s.setRing i r).nvme = s.nvme := rfl
@[simp] theorem State.setRing_pwr : (s.setRing i r).pwr = s.pwr := rfl
@[simp] theorem State.setRing_tst : (s.setRing i r).tst = s.tst := rfl
@[simp] theorem State.setRing_counters : (s.setRing i r).counters = s.counters := rfl
@[simp] theorem State.setRing_snaps : (s.setRing i r).snaps = s.snaps := rfl
@[simp] theorem State.setRing_shadows : (s.setRing i r).shadows = s.shadows := rfl
@[simp] theorem State.setRing_cmd : (s.setRing i r).cmd = { s.cmd with rings := s.cmd.rings.set i r } := rfl
end

/-! ## settle -/

section
variable (seq : Nat) (status : Nat)
@[simp] theorem State.settle_pending : (s.settle seq status).pending = s.pending := rfl
@[simp] theorem State.settle_emitted : (s.settle seq status).emitted = s.emitted := rfl
@[simp] theorem State.settle_fresh : (s.settle seq status).fresh = s.fresh := rfl
@[simp] theorem State.settle_now : (s.settle seq status).now = s.now := rfl
@[simp] theorem State.settle_sys : (s.settle seq status).sys = s.sys := rfl
@[simp] theorem State.settle_upd : (s.settle seq status).upd = s.upd := rfl
@[simp] theorem State.settle_set : (s.settle seq status).set = s.set := rfl
@[simp] theorem State.settle_run : (s.settle seq status).run = s.run := rfl
@[simp] theorem State.settle_sloe : (s.settle seq status).sloe = s.sloe := rfl
@[simp] theorem State.settle_evt : (s.settle seq status).evt = s.evt := rfl
@[simp] theorem State.settle_sec : (s.settle seq status).sec = s.sec := rfl
@[simp] theorem State.settle_brm : (s.settle seq status).brm = s.brm := rfl
@[simp] theorem State.settle_jobs : (s.settle seq status).jobs = s.jobs := rfl
@[simp] theorem State.settle_recipes : (s.settle seq status).recipes = s.recipes := rfl
@[simp] theorem State.settle_models : (s.settle seq status).models = s.models := rfl
@[simp] theorem State.settle_vocabs : (s.settle seq status).vocabs = s.vocabs := rfl
@[simp] theorem State.settle_grammars : (s.settle seq status).grammars = s.grammars := rfl
@[simp] theorem State.settle_loads : (s.settle seq status).loads = s.loads := rfl
@[simp] theorem State.settle_tiles : (s.settle seq status).tiles = s.tiles := rfl
@[simp] theorem State.settle_samples : (s.settle seq status).samples = s.samples := rfl
@[simp] theorem State.settle_mem : (s.settle seq status).mem = s.mem := rfl
@[simp] theorem State.settle_cxe : (s.settle seq status).cxe = s.cxe := rfl
@[simp] theorem State.settle_rma : (s.settle seq status).rma = s.rma := rfl
@[simp] theorem State.settle_net : (s.settle seq status).net = s.net := rfl
@[simp] theorem State.settle_med : (s.settle seq status).med = s.med := rfl
@[simp] theorem State.settle_nvme : (s.settle seq status).nvme = s.nvme := rfl
@[simp] theorem State.settle_pwr : (s.settle seq status).pwr = s.pwr := rfl
@[simp] theorem State.settle_tst : (s.settle seq status).tst = s.tst := rfl
@[simp] theorem State.settle_counters : (s.settle seq status).counters = s.counters := rfl
@[simp] theorem State.settle_snaps : (s.settle seq status).snaps = s.snaps := rfl
@[simp] theorem State.settle_shadows : (s.settle seq status).shadows = s.shadows := rfl
end

/-! ## audit -/

section
variable (a : AuditRec)
@[simp] theorem State.audit_pending : (s.audit a).pending = s.pending := rfl
@[simp] theorem State.audit_emitted : (s.audit a).emitted = s.emitted := rfl
@[simp] theorem State.audit_fresh : (s.audit a).fresh = s.fresh := rfl
@[simp] theorem State.audit_now : (s.audit a).now = s.now := rfl
@[simp] theorem State.audit_sys : (s.audit a).sys = s.sys := rfl
@[simp] theorem State.audit_upd : (s.audit a).upd = s.upd := rfl
@[simp] theorem State.audit_set : (s.audit a).set = s.set := rfl
@[simp] theorem State.audit_run : (s.audit a).run = s.run := rfl
@[simp] theorem State.audit_sloe : (s.audit a).sloe = s.sloe := rfl
@[simp] theorem State.audit_cmd : (s.audit a).cmd = s.cmd := rfl
@[simp] theorem State.audit_evt : (s.audit a).evt = s.evt := rfl
@[simp] theorem State.audit_brm : (s.audit a).brm = s.brm := rfl
@[simp] theorem State.audit_jobs : (s.audit a).jobs = s.jobs := rfl
@[simp] theorem State.audit_recipes : (s.audit a).recipes = s.recipes := rfl
@[simp] theorem State.audit_models : (s.audit a).models = s.models := rfl
@[simp] theorem State.audit_vocabs : (s.audit a).vocabs = s.vocabs := rfl
@[simp] theorem State.audit_grammars : (s.audit a).grammars = s.grammars := rfl
@[simp] theorem State.audit_loads : (s.audit a).loads = s.loads := rfl
@[simp] theorem State.audit_tiles : (s.audit a).tiles = s.tiles := rfl
@[simp] theorem State.audit_samples : (s.audit a).samples = s.samples := rfl
@[simp] theorem State.audit_mem : (s.audit a).mem = s.mem := rfl
@[simp] theorem State.audit_cxe : (s.audit a).cxe = s.cxe := rfl
@[simp] theorem State.audit_rma : (s.audit a).rma = s.rma := rfl
@[simp] theorem State.audit_net : (s.audit a).net = s.net := rfl
@[simp] theorem State.audit_med : (s.audit a).med = s.med := rfl
@[simp] theorem State.audit_nvme : (s.audit a).nvme = s.nvme := rfl
@[simp] theorem State.audit_pwr : (s.audit a).pwr = s.pwr := rfl
@[simp] theorem State.audit_tst : (s.audit a).tst = s.tst := rfl
@[simp] theorem State.audit_counters : (s.audit a).counters = s.counters := rfl
@[simp] theorem State.audit_snaps : (s.audit a).snaps = s.snaps := rfl
@[simp] theorem State.audit_shadows : (s.audit a).shadows = s.shadows := rfl
@[simp] theorem State.audit_sec : (s.audit a).sec = s.sec.audited a := rfl
end

/-! ## setJob -/

section
variable (j : Nat) (v : Job)
@[simp] theorem State.setJob_pending : (s.setJob j v).pending = s.pending := rfl
@[simp] theorem State.setJob_emitted : (s.setJob j v).emitted = s.emitted := rfl
@[simp] theorem State.setJob_fresh : (s.setJob j v).fresh = s.fresh := rfl
@[simp] theorem State.setJob_now : (s.setJob j v).now = s.now := rfl
@[simp] theorem State.setJob_sys : (s.setJob j v).sys = s.sys := rfl
@[simp] theorem State.setJob_upd : (s.setJob j v).upd = s.upd := rfl
@[simp] theorem State.setJob_set : (s.setJob j v).set = s.set := rfl
@[simp] theorem State.setJob_run : (s.setJob j v).run = s.run := rfl
@[simp] theorem State.setJob_sloe : (s.setJob j v).sloe = s.sloe := rfl
@[simp] theorem State.setJob_cmd : (s.setJob j v).cmd = s.cmd := rfl
@[simp] theorem State.setJob_evt : (s.setJob j v).evt = s.evt := rfl
@[simp] theorem State.setJob_sec : (s.setJob j v).sec = s.sec := rfl
@[simp] theorem State.setJob_brm : (s.setJob j v).brm = s.brm := rfl
@[simp] theorem State.setJob_recipes : (s.setJob j v).recipes = s.recipes := rfl
@[simp] theorem State.setJob_models : (s.setJob j v).models = s.models := rfl
@[simp] theorem State.setJob_vocabs : (s.setJob j v).vocabs = s.vocabs := rfl
@[simp] theorem State.setJob_grammars : (s.setJob j v).grammars = s.grammars := rfl
@[simp] theorem State.setJob_loads : (s.setJob j v).loads = s.loads := rfl
@[simp] theorem State.setJob_tiles : (s.setJob j v).tiles = s.tiles := rfl
@[simp] theorem State.setJob_samples : (s.setJob j v).samples = s.samples := rfl
@[simp] theorem State.setJob_mem : (s.setJob j v).mem = s.mem := rfl
@[simp] theorem State.setJob_cxe : (s.setJob j v).cxe = s.cxe := rfl
@[simp] theorem State.setJob_rma : (s.setJob j v).rma = s.rma := rfl
@[simp] theorem State.setJob_net : (s.setJob j v).net = s.net := rfl
@[simp] theorem State.setJob_med : (s.setJob j v).med = s.med := rfl
@[simp] theorem State.setJob_nvme : (s.setJob j v).nvme = s.nvme := rfl
@[simp] theorem State.setJob_pwr : (s.setJob j v).pwr = s.pwr := rfl
@[simp] theorem State.setJob_tst : (s.setJob j v).tst = s.tst := rfl
@[simp] theorem State.setJob_counters : (s.setJob j v).counters = s.counters := rfl
@[simp] theorem State.setJob_snaps : (s.setJob j v).snaps = s.snaps := rfl
@[simp] theorem State.setJob_shadows : (s.setJob j v).shadows = s.shadows := rfl
@[simp] theorem State.setJob_jobs : (s.setJob j v).jobs = s.jobs.put j v := rfl
end

/-! ## setPool -/

section
variable (p : Nat) (v : Pool)
@[simp] theorem State.setPool_pending : (s.setPool p v).pending = s.pending := rfl
@[simp] theorem State.setPool_emitted : (s.setPool p v).emitted = s.emitted := rfl
@[simp] theorem State.setPool_fresh : (s.setPool p v).fresh = s.fresh := rfl
@[simp] theorem State.setPool_now : (s.setPool p v).now = s.now := rfl
@[simp] theorem State.setPool_sys : (s.setPool p v).sys = s.sys := rfl
@[simp] theorem State.setPool_upd : (s.setPool p v).upd = s.upd := rfl
@[simp] theorem State.setPool_set : (s.setPool p v).set = s.set := rfl
@[simp] theorem State.setPool_run : (s.setPool p v).run = s.run := rfl
@[simp] theorem State.setPool_sloe : (s.setPool p v).sloe = s.sloe := rfl
@[simp] theorem State.setPool_cmd : (s.setPool p v).cmd = s.cmd := rfl
@[simp] theorem State.setPool_evt : (s.setPool p v).evt = s.evt := rfl
@[simp] theorem State.setPool_sec : (s.setPool p v).sec = s.sec := rfl
@[simp] theorem State.setPool_brm : (s.setPool p v).brm = s.brm := rfl
@[simp] theorem State.setPool_jobs : (s.setPool p v).jobs = s.jobs := rfl
@[simp] theorem State.setPool_recipes : (s.setPool p v).recipes = s.recipes := rfl
@[simp] theorem State.setPool_models : (s.setPool p v).models = s.models := rfl
@[simp] theorem State.setPool_vocabs : (s.setPool p v).vocabs = s.vocabs := rfl
@[simp] theorem State.setPool_grammars : (s.setPool p v).grammars = s.grammars := rfl
@[simp] theorem State.setPool_loads : (s.setPool p v).loads = s.loads := rfl
@[simp] theorem State.setPool_tiles : (s.setPool p v).tiles = s.tiles := rfl
@[simp] theorem State.setPool_samples : (s.setPool p v).samples = s.samples := rfl
@[simp] theorem State.setPool_cxe : (s.setPool p v).cxe = s.cxe := rfl
@[simp] theorem State.setPool_rma : (s.setPool p v).rma = s.rma := rfl
@[simp] theorem State.setPool_net : (s.setPool p v).net = s.net := rfl
@[simp] theorem State.setPool_med : (s.setPool p v).med = s.med := rfl
@[simp] theorem State.setPool_nvme : (s.setPool p v).nvme = s.nvme := rfl
@[simp] theorem State.setPool_pwr : (s.setPool p v).pwr = s.pwr := rfl
@[simp] theorem State.setPool_tst : (s.setPool p v).tst = s.tst := rfl
@[simp] theorem State.setPool_counters : (s.setPool p v).counters = s.counters := rfl
@[simp] theorem State.setPool_snaps : (s.setPool p v).snaps = s.snaps := rfl
@[simp] theorem State.setPool_shadows : (s.setPool p v).shadows = s.shadows := rfl
end

/-! ## setBank -/

section
variable (die : Nat) (b : Nat) (v : Bank)
@[simp] theorem State.setBank_pending : (s.setBank die b v).pending = s.pending := rfl
@[simp] theorem State.setBank_emitted : (s.setBank die b v).emitted = s.emitted := rfl
@[simp] theorem State.setBank_fresh : (s.setBank die b v).fresh = s.fresh := rfl
@[simp] theorem State.setBank_now : (s.setBank die b v).now = s.now := rfl
@[simp] theorem State.setBank_sys : (s.setBank die b v).sys = s.sys := rfl
@[simp] theorem State.setBank_upd : (s.setBank die b v).upd = s.upd := rfl
@[simp] theorem State.setBank_set : (s.setBank die b v).set = s.set := rfl
@[simp] theorem State.setBank_run : (s.setBank die b v).run = s.run := rfl
@[simp] theorem State.setBank_sloe : (s.setBank die b v).sloe = s.sloe := rfl
@[simp] theorem State.setBank_cmd : (s.setBank die b v).cmd = s.cmd := rfl
@[simp] theorem State.setBank_evt : (s.setBank die b v).evt = s.evt := rfl
@[simp] theorem State.setBank_sec : (s.setBank die b v).sec = s.sec := rfl
@[simp] theorem State.setBank_brm : (s.setBank die b v).brm = s.brm := rfl
@[simp] theorem State.setBank_jobs : (s.setBank die b v).jobs = s.jobs := rfl
@[simp] theorem State.setBank_recipes : (s.setBank die b v).recipes = s.recipes := rfl
@[simp] theorem State.setBank_models : (s.setBank die b v).models = s.models := rfl
@[simp] theorem State.setBank_vocabs : (s.setBank die b v).vocabs = s.vocabs := rfl
@[simp] theorem State.setBank_grammars : (s.setBank die b v).grammars = s.grammars := rfl
@[simp] theorem State.setBank_loads : (s.setBank die b v).loads = s.loads := rfl
@[simp] theorem State.setBank_tiles : (s.setBank die b v).tiles = s.tiles := rfl
@[simp] theorem State.setBank_samples : (s.setBank die b v).samples = s.samples := rfl
@[simp] theorem State.setBank_cxe : (s.setBank die b v).cxe = s.cxe := rfl
@[simp] theorem State.setBank_rma : (s.setBank die b v).rma = s.rma := rfl
@[simp] theorem State.setBank_net : (s.setBank die b v).net = s.net := rfl
@[simp] theorem State.setBank_med : (s.setBank die b v).med = s.med := rfl
@[simp] theorem State.setBank_nvme : (s.setBank die b v).nvme = s.nvme := rfl
@[simp] theorem State.setBank_pwr : (s.setBank die b v).pwr = s.pwr := rfl
@[simp] theorem State.setBank_tst : (s.setBank die b v).tst = s.tst := rfl
@[simp] theorem State.setBank_counters : (s.setBank die b v).counters = s.counters := rfl
@[simp] theorem State.setBank_snaps : (s.setBank die b v).snaps = s.snaps := rfl
@[simp] theorem State.setBank_shadows : (s.setBank die b v).shadows = s.shadows := rfl
end

/-! ## setDie -/

section
variable (n : Nat) (d : Die)
@[simp] theorem State.setDie_pending : (s.setDie n d).pending = s.pending := rfl
@[simp] theorem State.setDie_emitted : (s.setDie n d).emitted = s.emitted := rfl
@[simp] theorem State.setDie_fresh : (s.setDie n d).fresh = s.fresh := rfl
@[simp] theorem State.setDie_now : (s.setDie n d).now = s.now := rfl
@[simp] theorem State.setDie_sys : (s.setDie n d).sys = s.sys := rfl
@[simp] theorem State.setDie_upd : (s.setDie n d).upd = s.upd := rfl
@[simp] theorem State.setDie_set : (s.setDie n d).set = s.set := rfl
@[simp] theorem State.setDie_run : (s.setDie n d).run = s.run := rfl
@[simp] theorem State.setDie_sloe : (s.setDie n d).sloe = s.sloe := rfl
@[simp] theorem State.setDie_cmd : (s.setDie n d).cmd = s.cmd := rfl
@[simp] theorem State.setDie_evt : (s.setDie n d).evt = s.evt := rfl
@[simp] theorem State.setDie_sec : (s.setDie n d).sec = s.sec := rfl
@[simp] theorem State.setDie_brm : (s.setDie n d).brm = s.brm := rfl
@[simp] theorem State.setDie_jobs : (s.setDie n d).jobs = s.jobs := rfl
@[simp] theorem State.setDie_recipes : (s.setDie n d).recipes = s.recipes := rfl
@[simp] theorem State.setDie_models : (s.setDie n d).models = s.models := rfl
@[simp] theorem State.setDie_vocabs : (s.setDie n d).vocabs = s.vocabs := rfl
@[simp] theorem State.setDie_grammars : (s.setDie n d).grammars = s.grammars := rfl
@[simp] theorem State.setDie_loads : (s.setDie n d).loads = s.loads := rfl
@[simp] theorem State.setDie_tiles : (s.setDie n d).tiles = s.tiles := rfl
@[simp] theorem State.setDie_samples : (s.setDie n d).samples = s.samples := rfl
@[simp] theorem State.setDie_mem : (s.setDie n d).mem = s.mem := rfl
@[simp] theorem State.setDie_cxe : (s.setDie n d).cxe = s.cxe := rfl
@[simp] theorem State.setDie_rma : (s.setDie n d).rma = s.rma := rfl
@[simp] theorem State.setDie_net : (s.setDie n d).net = s.net := rfl
@[simp] theorem State.setDie_nvme : (s.setDie n d).nvme = s.nvme := rfl
@[simp] theorem State.setDie_pwr : (s.setDie n d).pwr = s.pwr := rfl
@[simp] theorem State.setDie_tst : (s.setDie n d).tst = s.tst := rfl
@[simp] theorem State.setDie_counters : (s.setDie n d).counters = s.counters := rfl
@[simp] theorem State.setDie_snaps : (s.setDie n d).snaps = s.snaps := rfl
@[simp] theorem State.setDie_shadows : (s.setDie n d).shadows = s.shadows := rfl
end

/-! ## updDomain -/

section
variable (d : Nat) (f : Domain → Domain)
@[simp] theorem State.updDomain_pending : (s.updDomain d f).pending = s.pending := rfl
@[simp] theorem State.updDomain_emitted : (s.updDomain d f).emitted = s.emitted := rfl
@[simp] theorem State.updDomain_fresh : (s.updDomain d f).fresh = s.fresh := rfl
@[simp] theorem State.updDomain_now : (s.updDomain d f).now = s.now := rfl
@[simp] theorem State.updDomain_sys : (s.updDomain d f).sys = s.sys := rfl
@[simp] theorem State.updDomain_upd : (s.updDomain d f).upd = s.upd := rfl
@[simp] theorem State.updDomain_set : (s.updDomain d f).set = s.set := rfl
@[simp] theorem State.updDomain_run : (s.updDomain d f).run = s.run := rfl
@[simp] theorem State.updDomain_sloe : (s.updDomain d f).sloe = s.sloe := rfl
@[simp] theorem State.updDomain_cmd : (s.updDomain d f).cmd = s.cmd := rfl
@[simp] theorem State.updDomain_evt : (s.updDomain d f).evt = s.evt := rfl
@[simp] theorem State.updDomain_sec : (s.updDomain d f).sec = s.sec := rfl
@[simp] theorem State.updDomain_brm : (s.updDomain d f).brm = s.brm := rfl
@[simp] theorem State.updDomain_jobs : (s.updDomain d f).jobs = s.jobs := rfl
@[simp] theorem State.updDomain_recipes : (s.updDomain d f).recipes = s.recipes := rfl
@[simp] theorem State.updDomain_models : (s.updDomain d f).models = s.models := rfl
@[simp] theorem State.updDomain_vocabs : (s.updDomain d f).vocabs = s.vocabs := rfl
@[simp] theorem State.updDomain_grammars : (s.updDomain d f).grammars = s.grammars := rfl
@[simp] theorem State.updDomain_loads : (s.updDomain d f).loads = s.loads := rfl
@[simp] theorem State.updDomain_tiles : (s.updDomain d f).tiles = s.tiles := rfl
@[simp] theorem State.updDomain_samples : (s.updDomain d f).samples = s.samples := rfl
@[simp] theorem State.updDomain_mem : (s.updDomain d f).mem = s.mem := rfl
@[simp] theorem State.updDomain_cxe : (s.updDomain d f).cxe = s.cxe := rfl
@[simp] theorem State.updDomain_rma : (s.updDomain d f).rma = s.rma := rfl
@[simp] theorem State.updDomain_net : (s.updDomain d f).net = s.net := rfl
@[simp] theorem State.updDomain_med : (s.updDomain d f).med = s.med := rfl
@[simp] theorem State.updDomain_nvme : (s.updDomain d f).nvme = s.nvme := rfl
@[simp] theorem State.updDomain_tst : (s.updDomain d f).tst = s.tst := rfl
@[simp] theorem State.updDomain_counters : (s.updDomain d f).counters = s.counters := rfl
@[simp] theorem State.updDomain_snaps : (s.updDomain d f).snaps = s.snaps := rfl
@[simp] theorem State.updDomain_shadows : (s.updDomain d f).shadows = s.shadows := rfl
@[simp] theorem State.updDomain_pwr : (s.updDomain d f).pwr = { s.pwr with domains := updAt s.pwr.domains d f } := rfl
end

/-! ## setDomain -/

section
variable (d : Nat) (on : Bool)
@[simp] theorem State.setDomain_pending : (s.setDomain d on).pending = s.pending := rfl
@[simp] theorem State.setDomain_emitted : (s.setDomain d on).emitted = s.emitted := rfl
@[simp] theorem State.setDomain_fresh : (s.setDomain d on).fresh = s.fresh := rfl
@[simp] theorem State.setDomain_now : (s.setDomain d on).now = s.now := rfl
@[simp] theorem State.setDomain_sys : (s.setDomain d on).sys = s.sys := rfl
@[simp] theorem State.setDomain_upd : (s.setDomain d on).upd = s.upd := rfl
@[simp] theorem State.setDomain_set : (s.setDomain d on).set = s.set := rfl
@[simp] theorem State.setDomain_run : (s.setDomain d on).run = s.run := rfl
@[simp] theorem State.setDomain_sloe : (s.setDomain d on).sloe = s.sloe := rfl
@[simp] theorem State.setDomain_cmd : (s.setDomain d on).cmd = s.cmd := rfl
@[simp] theorem State.setDomain_evt : (s.setDomain d on).evt = s.evt := rfl
@[simp] theorem State.setDomain_sec : (s.setDomain d on).sec = s.sec := rfl
@[simp] theorem State.setDomain_brm : (s.setDomain d on).brm = s.brm := rfl
@[simp] theorem State.setDomain_jobs : (s.setDomain d on).jobs = s.jobs := rfl
@[simp] theorem State.setDomain_recipes : (s.setDomain d on).recipes = s.recipes := rfl
@[simp] theorem State.setDomain_models : (s.setDomain d on).models = s.models := rfl
@[simp] theorem State.setDomain_vocabs : (s.setDomain d on).vocabs = s.vocabs := rfl
@[simp] theorem State.setDomain_grammars : (s.setDomain d on).grammars = s.grammars := rfl
@[simp] theorem State.setDomain_loads : (s.setDomain d on).loads = s.loads := rfl
@[simp] theorem State.setDomain_tiles : (s.setDomain d on).tiles = s.tiles := rfl
@[simp] theorem State.setDomain_samples : (s.setDomain d on).samples = s.samples := rfl
@[simp] theorem State.setDomain_mem : (s.setDomain d on).mem = s.mem := rfl
@[simp] theorem State.setDomain_cxe : (s.setDomain d on).cxe = s.cxe := rfl
@[simp] theorem State.setDomain_rma : (s.setDomain d on).rma = s.rma := rfl
@[simp] theorem State.setDomain_net : (s.setDomain d on).net = s.net := rfl
@[simp] theorem State.setDomain_med : (s.setDomain d on).med = s.med := rfl
@[simp] theorem State.setDomain_nvme : (s.setDomain d on).nvme = s.nvme := rfl
@[simp] theorem State.setDomain_tst : (s.setDomain d on).tst = s.tst := rfl
@[simp] theorem State.setDomain_counters : (s.setDomain d on).counters = s.counters := rfl
@[simp] theorem State.setDomain_snaps : (s.setDomain d on).snaps = s.snaps := rfl
@[simp] theorem State.setDomain_shadows : (s.setDomain d on).shadows = s.shadows := rfl
end

/-! ## updTile -/

section
variable (n : Nat) (f : Tile → Tile)
@[simp] theorem State.updTile_pending : (s.updTile n f).pending = s.pending := rfl
@[simp] theorem State.updTile_emitted : (s.updTile n f).emitted = s.emitted := rfl
@[simp] theorem State.updTile_fresh : (s.updTile n f).fresh = s.fresh := rfl
@[simp] theorem State.updTile_now : (s.updTile n f).now = s.now := rfl
@[simp] theorem State.updTile_sys : (s.updTile n f).sys = s.sys := rfl
@[simp] theorem State.updTile_upd : (s.updTile n f).upd = s.upd := rfl
@[simp] theorem State.updTile_set : (s.updTile n f).set = s.set := rfl
@[simp] theorem State.updTile_run : (s.updTile n f).run = s.run := rfl
@[simp] theorem State.updTile_sloe : (s.updTile n f).sloe = s.sloe := rfl
@[simp] theorem State.updTile_cmd : (s.updTile n f).cmd = s.cmd := rfl
@[simp] theorem State.updTile_evt : (s.updTile n f).evt = s.evt := rfl
@[simp] theorem State.updTile_sec : (s.updTile n f).sec = s.sec := rfl
@[simp] theorem State.updTile_brm : (s.updTile n f).brm = s.brm := rfl
@[simp] theorem State.updTile_jobs : (s.updTile n f).jobs = s.jobs := rfl
@[simp] theorem State.updTile_recipes : (s.updTile n f).recipes = s.recipes := rfl
@[simp] theorem State.updTile_models : (s.updTile n f).models = s.models := rfl
@[simp] theorem State.updTile_vocabs : (s.updTile n f).vocabs = s.vocabs := rfl
@[simp] theorem State.updTile_grammars : (s.updTile n f).grammars = s.grammars := rfl
@[simp] theorem State.updTile_loads : (s.updTile n f).loads = s.loads := rfl
@[simp] theorem State.updTile_samples : (s.updTile n f).samples = s.samples := rfl
@[simp] theorem State.updTile_mem : (s.updTile n f).mem = s.mem := rfl
@[simp] theorem State.updTile_cxe : (s.updTile n f).cxe = s.cxe := rfl
@[simp] theorem State.updTile_rma : (s.updTile n f).rma = s.rma := rfl
@[simp] theorem State.updTile_net : (s.updTile n f).net = s.net := rfl
@[simp] theorem State.updTile_med : (s.updTile n f).med = s.med := rfl
@[simp] theorem State.updTile_nvme : (s.updTile n f).nvme = s.nvme := rfl
@[simp] theorem State.updTile_pwr : (s.updTile n f).pwr = s.pwr := rfl
@[simp] theorem State.updTile_tst : (s.updTile n f).tst = s.tst := rfl
@[simp] theorem State.updTile_counters : (s.updTile n f).counters = s.counters := rfl
@[simp] theorem State.updTile_snaps : (s.updTile n f).snaps = s.snaps := rfl
@[simp] theorem State.updTile_shadows : (s.updTile n f).shadows = s.shadows := rfl
@[simp] theorem State.updTile_tiles : (s.updTile n f).tiles = updAt s.tiles n f := rfl
end

/-! ## updSample -/

section
variable (i : Nat) (f : Sample → Sample)
@[simp] theorem State.updSample_pending : (s.updSample i f).pending = s.pending := rfl
@[simp] theorem State.updSample_emitted : (s.updSample i f).emitted = s.emitted := rfl
@[simp] theorem State.updSample_fresh : (s.updSample i f).fresh = s.fresh := rfl
@[simp] theorem State.updSample_now : (s.updSample i f).now = s.now := rfl
@[simp] theorem State.updSample_sys : (s.updSample i f).sys = s.sys := rfl
@[simp] theorem State.updSample_upd : (s.updSample i f).upd = s.upd := rfl
@[simp] theorem State.updSample_set : (s.updSample i f).set = s.set := rfl
@[simp] theorem State.updSample_run : (s.updSample i f).run = s.run := rfl
@[simp] theorem State.updSample_sloe : (s.updSample i f).sloe = s.sloe := rfl
@[simp] theorem State.updSample_cmd : (s.updSample i f).cmd = s.cmd := rfl
@[simp] theorem State.updSample_evt : (s.updSample i f).evt = s.evt := rfl
@[simp] theorem State.updSample_sec : (s.updSample i f).sec = s.sec := rfl
@[simp] theorem State.updSample_brm : (s.updSample i f).brm = s.brm := rfl
@[simp] theorem State.updSample_jobs : (s.updSample i f).jobs = s.jobs := rfl
@[simp] theorem State.updSample_recipes : (s.updSample i f).recipes = s.recipes := rfl
@[simp] theorem State.updSample_models : (s.updSample i f).models = s.models := rfl
@[simp] theorem State.updSample_vocabs : (s.updSample i f).vocabs = s.vocabs := rfl
@[simp] theorem State.updSample_grammars : (s.updSample i f).grammars = s.grammars := rfl
@[simp] theorem State.updSample_loads : (s.updSample i f).loads = s.loads := rfl
@[simp] theorem State.updSample_tiles : (s.updSample i f).tiles = s.tiles := rfl
@[simp] theorem State.updSample_mem : (s.updSample i f).mem = s.mem := rfl
@[simp] theorem State.updSample_cxe : (s.updSample i f).cxe = s.cxe := rfl
@[simp] theorem State.updSample_rma : (s.updSample i f).rma = s.rma := rfl
@[simp] theorem State.updSample_net : (s.updSample i f).net = s.net := rfl
@[simp] theorem State.updSample_med : (s.updSample i f).med = s.med := rfl
@[simp] theorem State.updSample_nvme : (s.updSample i f).nvme = s.nvme := rfl
@[simp] theorem State.updSample_pwr : (s.updSample i f).pwr = s.pwr := rfl
@[simp] theorem State.updSample_tst : (s.updSample i f).tst = s.tst := rfl
@[simp] theorem State.updSample_counters : (s.updSample i f).counters = s.counters := rfl
@[simp] theorem State.updSample_snaps : (s.updSample i f).snaps = s.snaps := rfl
@[simp] theorem State.updSample_shadows : (s.updSample i f).shadows = s.shadows := rfl
end

/-! ## updPort -/

section
variable (f : Nat) (g : FabPort → FabPort)
@[simp] theorem State.updPort_pending : (s.updPort f g).pending = s.pending := rfl
@[simp] theorem State.updPort_emitted : (s.updPort f g).emitted = s.emitted := rfl
@[simp] theorem State.updPort_fresh : (s.updPort f g).fresh = s.fresh := rfl
@[simp] theorem State.updPort_now : (s.updPort f g).now = s.now := rfl
@[simp] theorem State.updPort_sys : (s.updPort f g).sys = s.sys := rfl
@[simp] theorem State.updPort_upd : (s.updPort f g).upd = s.upd := rfl
@[simp] theorem State.updPort_set : (s.updPort f g).set = s.set := rfl
@[simp] theorem State.updPort_run : (s.updPort f g).run = s.run := rfl
@[simp] theorem State.updPort_sloe : (s.updPort f g).sloe = s.sloe := rfl
@[simp] theorem State.updPort_cmd : (s.updPort f g).cmd = s.cmd := rfl
@[simp] theorem State.updPort_evt : (s.updPort f g).evt = s.evt := rfl
@[simp] theorem State.updPort_sec : (s.updPort f g).sec = s.sec := rfl
@[simp] theorem State.updPort_brm : (s.updPort f g).brm = s.brm := rfl
@[simp] theorem State.updPort_jobs : (s.updPort f g).jobs = s.jobs := rfl
@[simp] theorem State.updPort_recipes : (s.updPort f g).recipes = s.recipes := rfl
@[simp] theorem State.updPort_models : (s.updPort f g).models = s.models := rfl
@[simp] theorem State.updPort_vocabs : (s.updPort f g).vocabs = s.vocabs := rfl
@[simp] theorem State.updPort_grammars : (s.updPort f g).grammars = s.grammars := rfl
@[simp] theorem State.updPort_loads : (s.updPort f g).loads = s.loads := rfl
@[simp] theorem State.updPort_tiles : (s.updPort f g).tiles = s.tiles := rfl
@[simp] theorem State.updPort_samples : (s.updPort f g).samples = s.samples := rfl
@[simp] theorem State.updPort_mem : (s.updPort f g).mem = s.mem := rfl
@[simp] theorem State.updPort_cxe : (s.updPort f g).cxe = s.cxe := rfl
@[simp] theorem State.updPort_rma : (s.updPort f g).rma = s.rma := rfl
@[simp] theorem State.updPort_med : (s.updPort f g).med = s.med := rfl
@[simp] theorem State.updPort_nvme : (s.updPort f g).nvme = s.nvme := rfl
@[simp] theorem State.updPort_pwr : (s.updPort f g).pwr = s.pwr := rfl
@[simp] theorem State.updPort_tst : (s.updPort f g).tst = s.tst := rfl
@[simp] theorem State.updPort_counters : (s.updPort f g).counters = s.counters := rfl
@[simp] theorem State.updPort_snaps : (s.updPort f g).snaps = s.snaps := rfl
@[simp] theorem State.updPort_shadows : (s.updPort f g).shadows = s.shadows := rfl
@[simp] theorem State.updPort_net : (s.updPort f g).net = { s.net with ports := updAt s.net.ports f g } := rfl
end

/-! ## updEth -/

section
variable (q : Nat) (f : EthPort → EthPort)
@[simp] theorem State.updEth_pending : (s.updEth q f).pending = s.pending := rfl
@[simp] theorem State.updEth_emitted : (s.updEth q f).emitted = s.emitted := rfl
@[simp] theorem State.updEth_fresh : (s.updEth q f).fresh = s.fresh := rfl
@[simp] theorem State.updEth_now : (s.updEth q f).now = s.now := rfl
@[simp] theorem State.updEth_sys : (s.updEth q f).sys = s.sys := rfl
@[simp] theorem State.updEth_upd : (s.updEth q f).upd = s.upd := rfl
@[simp] theorem State.updEth_set : (s.updEth q f).set = s.set := rfl
@[simp] theorem State.updEth_run : (s.updEth q f).run = s.run := rfl
@[simp] theorem State.updEth_sloe : (s.updEth q f).sloe = s.sloe := rfl
@[simp] theorem State.updEth_cmd : (s.updEth q f).cmd = s.cmd := rfl
@[simp] theorem State.updEth_evt : (s.updEth q f).evt = s.evt := rfl
@[simp] theorem State.updEth_sec : (s.updEth q f).sec = s.sec := rfl
@[simp] theorem State.updEth_brm : (s.updEth q f).brm = s.brm := rfl
@[simp] theorem State.updEth_jobs : (s.updEth q f).jobs = s.jobs := rfl
@[simp] theorem State.updEth_recipes : (s.updEth q f).recipes = s.recipes := rfl
@[simp] theorem State.updEth_models : (s.updEth q f).models = s.models := rfl
@[simp] theorem State.updEth_vocabs : (s.updEth q f).vocabs = s.vocabs := rfl
@[simp] theorem State.updEth_grammars : (s.updEth q f).grammars = s.grammars := rfl
@[simp] theorem State.updEth_loads : (s.updEth q f).loads = s.loads := rfl
@[simp] theorem State.updEth_tiles : (s.updEth q f).tiles = s.tiles := rfl
@[simp] theorem State.updEth_samples : (s.updEth q f).samples = s.samples := rfl
@[simp] theorem State.updEth_mem : (s.updEth q f).mem = s.mem := rfl
@[simp] theorem State.updEth_cxe : (s.updEth q f).cxe = s.cxe := rfl
@[simp] theorem State.updEth_rma : (s.updEth q f).rma = s.rma := rfl
@[simp] theorem State.updEth_med : (s.updEth q f).med = s.med := rfl
@[simp] theorem State.updEth_nvme : (s.updEth q f).nvme = s.nvme := rfl
@[simp] theorem State.updEth_pwr : (s.updEth q f).pwr = s.pwr := rfl
@[simp] theorem State.updEth_tst : (s.updEth q f).tst = s.tst := rfl
@[simp] theorem State.updEth_counters : (s.updEth q f).counters = s.counters := rfl
@[simp] theorem State.updEth_snaps : (s.updEth q f).snaps = s.snaps := rfl
@[simp] theorem State.updEth_shadows : (s.updEth q f).shadows = s.shadows := rfl
@[simp] theorem State.updEth_net : (s.updEth q f).net = { s.net with eth := updAt s.net.eth q f } := rfl
end

/-! ## updQp -/

section
variable (q : Nat) (f : QueuePair → QueuePair)
@[simp] theorem State.updQp_pending : (s.updQp q f).pending = s.pending := rfl
@[simp] theorem State.updQp_emitted : (s.updQp q f).emitted = s.emitted := rfl
@[simp] theorem State.updQp_fresh : (s.updQp q f).fresh = s.fresh := rfl
@[simp] theorem State.updQp_now : (s.updQp q f).now = s.now := rfl
@[simp] theorem State.updQp_sys : (s.updQp q f).sys = s.sys := rfl
@[simp] theorem State.updQp_upd : (s.updQp q f).upd = s.upd := rfl
@[simp] theorem State.updQp_set : (s.updQp q f).set = s.set := rfl
@[simp] theorem State.updQp_run : (s.updQp q f).run = s.run := rfl
@[simp] theorem State.updQp_sloe : (s.updQp q f).sloe = s.sloe := rfl
@[simp] theorem State.updQp_cmd : (s.updQp q f).cmd = s.cmd := rfl
@[simp] theorem State.updQp_evt : (s.updQp q f).evt = s.evt := rfl
@[simp] theorem State.updQp_sec : (s.updQp q f).sec = s.sec := rfl
@[simp] theorem State.updQp_brm : (s.updQp q f).brm = s.brm := rfl
@[simp] theorem State.updQp_jobs : (s.updQp q f).jobs = s.jobs := rfl
@[simp] theorem State.updQp_recipes : (s.updQp q f).recipes = s.recipes := rfl
@[simp] theorem State.updQp_models : (s.updQp q f).models = s.models := rfl
@[simp] theorem State.updQp_vocabs : (s.updQp q f).vocabs = s.vocabs := rfl
@[simp] theorem State.updQp_grammars : (s.updQp q f).grammars = s.grammars := rfl
@[simp] theorem State.updQp_loads : (s.updQp q f).loads = s.loads := rfl
@[simp] theorem State.updQp_tiles : (s.updQp q f).tiles = s.tiles := rfl
@[simp] theorem State.updQp_samples : (s.updQp q f).samples = s.samples := rfl
@[simp] theorem State.updQp_mem : (s.updQp q f).mem = s.mem := rfl
@[simp] theorem State.updQp_cxe : (s.updQp q f).cxe = s.cxe := rfl
@[simp] theorem State.updQp_net : (s.updQp q f).net = s.net := rfl
@[simp] theorem State.updQp_med : (s.updQp q f).med = s.med := rfl
@[simp] theorem State.updQp_nvme : (s.updQp q f).nvme = s.nvme := rfl
@[simp] theorem State.updQp_pwr : (s.updQp q f).pwr = s.pwr := rfl
@[simp] theorem State.updQp_tst : (s.updQp q f).tst = s.tst := rfl
@[simp] theorem State.updQp_counters : (s.updQp q f).counters = s.counters := rfl
@[simp] theorem State.updQp_snaps : (s.updQp q f).snaps = s.snaps := rfl
@[simp] theorem State.updQp_shadows : (s.updQp q f).shadows = s.shadows := rfl
end

/-! ## setShaper -/

section
variable (sp : Nat) (h : Shaper)
@[simp] theorem State.setShaper_pending : (s.setShaper sp h).pending = s.pending := rfl
@[simp] theorem State.setShaper_emitted : (s.setShaper sp h).emitted = s.emitted := rfl
@[simp] theorem State.setShaper_fresh : (s.setShaper sp h).fresh = s.fresh := rfl
@[simp] theorem State.setShaper_now : (s.setShaper sp h).now = s.now := rfl
@[simp] theorem State.setShaper_sys : (s.setShaper sp h).sys = s.sys := rfl
@[simp] theorem State.setShaper_upd : (s.setShaper sp h).upd = s.upd := rfl
@[simp] theorem State.setShaper_set : (s.setShaper sp h).set = s.set := rfl
@[simp] theorem State.setShaper_run : (s.setShaper sp h).run = s.run := rfl
@[simp] theorem State.setShaper_sloe : (s.setShaper sp h).sloe = s.sloe := rfl
@[simp] theorem State.setShaper_cmd : (s.setShaper sp h).cmd = s.cmd := rfl
@[simp] theorem State.setShaper_evt : (s.setShaper sp h).evt = s.evt := rfl
@[simp] theorem State.setShaper_sec : (s.setShaper sp h).sec = s.sec := rfl
@[simp] theorem State.setShaper_brm : (s.setShaper sp h).brm = s.brm := rfl
@[simp] theorem State.setShaper_jobs : (s.setShaper sp h).jobs = s.jobs := rfl
@[simp] theorem State.setShaper_recipes : (s.setShaper sp h).recipes = s.recipes := rfl
@[simp] theorem State.setShaper_models : (s.setShaper sp h).models = s.models := rfl
@[simp] theorem State.setShaper_vocabs : (s.setShaper sp h).vocabs = s.vocabs := rfl
@[simp] theorem State.setShaper_grammars : (s.setShaper sp h).grammars = s.grammars := rfl
@[simp] theorem State.setShaper_loads : (s.setShaper sp h).loads = s.loads := rfl
@[simp] theorem State.setShaper_tiles : (s.setShaper sp h).tiles = s.tiles := rfl
@[simp] theorem State.setShaper_samples : (s.setShaper sp h).samples = s.samples := rfl
@[simp] theorem State.setShaper_mem : (s.setShaper sp h).mem = s.mem := rfl
@[simp] theorem State.setShaper_cxe : (s.setShaper sp h).cxe = s.cxe := rfl
@[simp] theorem State.setShaper_rma : (s.setShaper sp h).rma = s.rma := rfl
@[simp] theorem State.setShaper_med : (s.setShaper sp h).med = s.med := rfl
@[simp] theorem State.setShaper_nvme : (s.setShaper sp h).nvme = s.nvme := rfl
@[simp] theorem State.setShaper_pwr : (s.setShaper sp h).pwr = s.pwr := rfl
@[simp] theorem State.setShaper_tst : (s.setShaper sp h).tst = s.tst := rfl
@[simp] theorem State.setShaper_counters : (s.setShaper sp h).counters = s.counters := rfl
@[simp] theorem State.setShaper_snaps : (s.setShaper sp h).snaps = s.snaps := rfl
@[simp] theorem State.setShaper_shadows : (s.setShaper sp h).shadows = s.shadows := rfl
end

/-! ## setService -/

section
variable (n : Nat) (v : Service)
@[simp] theorem State.setService_pending : (s.setService n v).pending = s.pending := rfl
@[simp] theorem State.setService_emitted : (s.setService n v).emitted = s.emitted := rfl
@[simp] theorem State.setService_fresh : (s.setService n v).fresh = s.fresh := rfl
@[simp] theorem State.setService_now : (s.setService n v).now = s.now := rfl
@[simp] theorem State.setService_sys : (s.setService n v).sys = s.sys := rfl
@[simp] theorem State.setService_upd : (s.setService n v).upd = s.upd := rfl
@[simp] theorem State.setService_set : (s.setService n v).set = s.set := rfl
@[simp] theorem State.setService_run : (s.setService n v).run = s.run := rfl
@[simp] theorem State.setService_sloe : (s.setService n v).sloe = s.sloe := rfl
@[simp] theorem State.setService_cmd : (s.setService n v).cmd = s.cmd := rfl
@[simp] theorem State.setService_evt : (s.setService n v).evt = s.evt := rfl
@[simp] theorem State.setService_sec : (s.setService n v).sec = s.sec := rfl
@[simp] theorem State.setService_brm : (s.setService n v).brm = s.brm := rfl
@[simp] theorem State.setService_jobs : (s.setService n v).jobs = s.jobs := rfl
@[simp] theorem State.setService_recipes : (s.setService n v).recipes = s.recipes := rfl
@[simp] theorem State.setService_models : (s.setService n v).models = s.models := rfl
@[simp] theorem State.setService_vocabs : (s.setService n v).vocabs = s.vocabs := rfl
@[simp] theorem State.setService_grammars : (s.setService n v).grammars = s.grammars := rfl
@[simp] theorem State.setService_loads : (s.setService n v).loads = s.loads := rfl
@[simp] theorem State.setService_tiles : (s.setService n v).tiles = s.tiles := rfl
@[simp] theorem State.setService_samples : (s.setService n v).samples = s.samples := rfl
@[simp] theorem State.setService_mem : (s.setService n v).mem = s.mem := rfl
@[simp] theorem State.setService_cxe : (s.setService n v).cxe = s.cxe := rfl
@[simp] theorem State.setService_rma : (s.setService n v).rma = s.rma := rfl
@[simp] theorem State.setService_med : (s.setService n v).med = s.med := rfl
@[simp] theorem State.setService_nvme : (s.setService n v).nvme = s.nvme := rfl
@[simp] theorem State.setService_pwr : (s.setService n v).pwr = s.pwr := rfl
@[simp] theorem State.setService_tst : (s.setService n v).tst = s.tst := rfl
@[simp] theorem State.setService_counters : (s.setService n v).counters = s.counters := rfl
@[simp] theorem State.setService_snaps : (s.setService n v).snaps = s.snaps := rfl
@[simp] theorem State.setService_shadows : (s.setService n v).shadows = s.shadows := rfl
end

/-! ## requestTokens -/

section
variable (key : Nat) (n : Nat)
@[simp] theorem State.requestTokens_pending : (s.requestTokens key n).pending = s.pending := rfl
@[simp] theorem State.requestTokens_emitted : (s.requestTokens key n).emitted = s.emitted := rfl
@[simp] theorem State.requestTokens_fresh : (s.requestTokens key n).fresh = s.fresh := rfl
@[simp] theorem State.requestTokens_now : (s.requestTokens key n).now = s.now := rfl
@[simp] theorem State.requestTokens_sys : (s.requestTokens key n).sys = s.sys := rfl
@[simp] theorem State.requestTokens_upd : (s.requestTokens key n).upd = s.upd := rfl
@[simp] theorem State.requestTokens_set : (s.requestTokens key n).set = s.set := rfl
@[simp] theorem State.requestTokens_run : (s.requestTokens key n).run = s.run := rfl
@[simp] theorem State.requestTokens_sloe : (s.requestTokens key n).sloe = s.sloe := rfl
@[simp] theorem State.requestTokens_cmd : (s.requestTokens key n).cmd = s.cmd := rfl
@[simp] theorem State.requestTokens_evt : (s.requestTokens key n).evt = s.evt := rfl
@[simp] theorem State.requestTokens_sec : (s.requestTokens key n).sec = s.sec := rfl
@[simp] theorem State.requestTokens_brm : (s.requestTokens key n).brm = s.brm := rfl
@[simp] theorem State.requestTokens_jobs : (s.requestTokens key n).jobs = s.jobs := rfl
@[simp] theorem State.requestTokens_recipes : (s.requestTokens key n).recipes = s.recipes := rfl
@[simp] theorem State.requestTokens_models : (s.requestTokens key n).models = s.models := rfl
@[simp] theorem State.requestTokens_vocabs : (s.requestTokens key n).vocabs = s.vocabs := rfl
@[simp] theorem State.requestTokens_grammars : (s.requestTokens key n).grammars = s.grammars := rfl
@[simp] theorem State.requestTokens_loads : (s.requestTokens key n).loads = s.loads := rfl
@[simp] theorem State.requestTokens_tiles : (s.requestTokens key n).tiles = s.tiles := rfl
@[simp] theorem State.requestTokens_samples : (s.requestTokens key n).samples = s.samples := rfl
@[simp] theorem State.requestTokens_mem : (s.requestTokens key n).mem = s.mem := rfl
@[simp] theorem State.requestTokens_cxe : (s.requestTokens key n).cxe = s.cxe := rfl
@[simp] theorem State.requestTokens_rma : (s.requestTokens key n).rma = s.rma := rfl
@[simp] theorem State.requestTokens_net : (s.requestTokens key n).net = s.net := rfl
@[simp] theorem State.requestTokens_med : (s.requestTokens key n).med = s.med := rfl
@[simp] theorem State.requestTokens_nvme : (s.requestTokens key n).nvme = s.nvme := rfl
@[simp] theorem State.requestTokens_tst : (s.requestTokens key n).tst = s.tst := rfl
@[simp] theorem State.requestTokens_counters : (s.requestTokens key n).counters = s.counters := rfl
@[simp] theorem State.requestTokens_snaps : (s.requestTokens key n).snaps = s.snaps := rfl
@[simp] theorem State.requestTokens_shadows : (s.requestTokens key n).shadows = s.shadows := rfl
@[simp] theorem State.requestTokens_pwr : (s.requestTokens key n).pwr = { s.pwr with queue := s.pwr.queue ++ [(key, n)] } := rfl
end

/-! ## returnTokens -/

section
variable (key : Nat)
@[simp] theorem State.returnTokens_pending : (s.returnTokens key).pending = s.pending := rfl
@[simp] theorem State.returnTokens_emitted : (s.returnTokens key).emitted = s.emitted := rfl
@[simp] theorem State.returnTokens_fresh : (s.returnTokens key).fresh = s.fresh := rfl
@[simp] theorem State.returnTokens_now : (s.returnTokens key).now = s.now := rfl
@[simp] theorem State.returnTokens_sys : (s.returnTokens key).sys = s.sys := rfl
@[simp] theorem State.returnTokens_upd : (s.returnTokens key).upd = s.upd := rfl
@[simp] theorem State.returnTokens_set : (s.returnTokens key).set = s.set := rfl
@[simp] theorem State.returnTokens_run : (s.returnTokens key).run = s.run := rfl
@[simp] theorem State.returnTokens_sloe : (s.returnTokens key).sloe = s.sloe := rfl
@[simp] theorem State.returnTokens_cmd : (s.returnTokens key).cmd = s.cmd := rfl
@[simp] theorem State.returnTokens_evt : (s.returnTokens key).evt = s.evt := rfl
@[simp] theorem State.returnTokens_sec : (s.returnTokens key).sec = s.sec := rfl
@[simp] theorem State.returnTokens_brm : (s.returnTokens key).brm = s.brm := rfl
@[simp] theorem State.returnTokens_jobs : (s.returnTokens key).jobs = s.jobs := rfl
@[simp] theorem State.returnTokens_recipes : (s.returnTokens key).recipes = s.recipes := rfl
@[simp] theorem State.returnTokens_models : (s.returnTokens key).models = s.models := rfl
@[simp] theorem State.returnTokens_vocabs : (s.returnTokens key).vocabs = s.vocabs := rfl
@[simp] theorem State.returnTokens_grammars : (s.returnTokens key).grammars = s.grammars := rfl
@[simp] theorem State.returnTokens_loads : (s.returnTokens key).loads = s.loads := rfl
@[simp] theorem State.returnTokens_tiles : (s.returnTokens key).tiles = s.tiles := rfl
@[simp] theorem State.returnTokens_samples : (s.returnTokens key).samples = s.samples := rfl
@[simp] theorem State.returnTokens_mem : (s.returnTokens key).mem = s.mem := rfl
@[simp] theorem State.returnTokens_cxe : (s.returnTokens key).cxe = s.cxe := rfl
@[simp] theorem State.returnTokens_rma : (s.returnTokens key).rma = s.rma := rfl
@[simp] theorem State.returnTokens_net : (s.returnTokens key).net = s.net := rfl
@[simp] theorem State.returnTokens_med : (s.returnTokens key).med = s.med := rfl
@[simp] theorem State.returnTokens_nvme : (s.returnTokens key).nvme = s.nvme := rfl
@[simp] theorem State.returnTokens_tst : (s.returnTokens key).tst = s.tst := rfl
@[simp] theorem State.returnTokens_counters : (s.returnTokens key).counters = s.counters := rfl
@[simp] theorem State.returnTokens_snaps : (s.returnTokens key).snaps = s.snaps := rfl
@[simp] theorem State.returnTokens_shadows : (s.returnTokens key).shadows = s.shadows := rfl
end

/-! ## takeBudget -/

section
variable (w : Nat)
@[simp] theorem State.takeBudget_pending : (s.takeBudget w).pending = s.pending := rfl
@[simp] theorem State.takeBudget_emitted : (s.takeBudget w).emitted = s.emitted := rfl
@[simp] theorem State.takeBudget_fresh : (s.takeBudget w).fresh = s.fresh := rfl
@[simp] theorem State.takeBudget_now : (s.takeBudget w).now = s.now := rfl
@[simp] theorem State.takeBudget_sys : (s.takeBudget w).sys = s.sys := rfl
@[simp] theorem State.takeBudget_upd : (s.takeBudget w).upd = s.upd := rfl
@[simp] theorem State.takeBudget_set : (s.takeBudget w).set = s.set := rfl
@[simp] theorem State.takeBudget_run : (s.takeBudget w).run = s.run := rfl
@[simp] theorem State.takeBudget_sloe : (s.takeBudget w).sloe = s.sloe := rfl
@[simp] theorem State.takeBudget_cmd : (s.takeBudget w).cmd = s.cmd := rfl
@[simp] theorem State.takeBudget_evt : (s.takeBudget w).evt = s.evt := rfl
@[simp] theorem State.takeBudget_sec : (s.takeBudget w).sec = s.sec := rfl
@[simp] theorem State.takeBudget_brm : (s.takeBudget w).brm = s.brm := rfl
@[simp] theorem State.takeBudget_jobs : (s.takeBudget w).jobs = s.jobs := rfl
@[simp] theorem State.takeBudget_recipes : (s.takeBudget w).recipes = s.recipes := rfl
@[simp] theorem State.takeBudget_models : (s.takeBudget w).models = s.models := rfl
@[simp] theorem State.takeBudget_vocabs : (s.takeBudget w).vocabs = s.vocabs := rfl
@[simp] theorem State.takeBudget_grammars : (s.takeBudget w).grammars = s.grammars := rfl
@[simp] theorem State.takeBudget_loads : (s.takeBudget w).loads = s.loads := rfl
@[simp] theorem State.takeBudget_tiles : (s.takeBudget w).tiles = s.tiles := rfl
@[simp] theorem State.takeBudget_samples : (s.takeBudget w).samples = s.samples := rfl
@[simp] theorem State.takeBudget_mem : (s.takeBudget w).mem = s.mem := rfl
@[simp] theorem State.takeBudget_cxe : (s.takeBudget w).cxe = s.cxe := rfl
@[simp] theorem State.takeBudget_rma : (s.takeBudget w).rma = s.rma := rfl
@[simp] theorem State.takeBudget_net : (s.takeBudget w).net = s.net := rfl
@[simp] theorem State.takeBudget_med : (s.takeBudget w).med = s.med := rfl
@[simp] theorem State.takeBudget_nvme : (s.takeBudget w).nvme = s.nvme := rfl
@[simp] theorem State.takeBudget_tst : (s.takeBudget w).tst = s.tst := rfl
@[simp] theorem State.takeBudget_counters : (s.takeBudget w).counters = s.counters := rfl
@[simp] theorem State.takeBudget_snaps : (s.takeBudget w).snaps = s.snaps := rfl
@[simp] theorem State.takeBudget_shadows : (s.takeBudget w).shadows = s.shadows := rfl
@[simp] theorem State.takeBudget_pwr : (s.takeBudget w).pwr = { s.pwr with nextBudget := some w } := rfl
end

/-! ## journalEntry -/

section
@[simp] theorem State.journalEntry_pending : (s.journalEntry).pending = s.pending := rfl
@[simp] theorem State.journalEntry_emitted : (s.journalEntry).emitted = s.emitted := rfl
@[simp] theorem State.journalEntry_fresh : (s.journalEntry).fresh = s.fresh := rfl
@[simp] theorem State.journalEntry_now : (s.journalEntry).now = s.now := rfl
@[simp] theorem State.journalEntry_sys : (s.journalEntry).sys = s.sys := rfl
@[simp] theorem State.journalEntry_upd : (s.journalEntry).upd = s.upd := rfl
@[simp] theorem State.journalEntry_set : (s.journalEntry).set = s.set := rfl
@[simp] theorem State.journalEntry_run : (s.journalEntry).run = s.run := rfl
@[simp] theorem State.journalEntry_sloe : (s.journalEntry).sloe = s.sloe := rfl
@[simp] theorem State.journalEntry_cmd : (s.journalEntry).cmd = s.cmd := rfl
@[simp] theorem State.journalEntry_evt : (s.journalEntry).evt = s.evt := rfl
@[simp] theorem State.journalEntry_sec : (s.journalEntry).sec = s.sec := rfl
@[simp] theorem State.journalEntry_brm : (s.journalEntry).brm = s.brm := rfl
@[simp] theorem State.journalEntry_jobs : (s.journalEntry).jobs = s.jobs := rfl
@[simp] theorem State.journalEntry_recipes : (s.journalEntry).recipes = s.recipes := rfl
@[simp] theorem State.journalEntry_models : (s.journalEntry).models = s.models := rfl
@[simp] theorem State.journalEntry_vocabs : (s.journalEntry).vocabs = s.vocabs := rfl
@[simp] theorem State.journalEntry_grammars : (s.journalEntry).grammars = s.grammars := rfl
@[simp] theorem State.journalEntry_loads : (s.journalEntry).loads = s.loads := rfl
@[simp] theorem State.journalEntry_tiles : (s.journalEntry).tiles = s.tiles := rfl
@[simp] theorem State.journalEntry_samples : (s.journalEntry).samples = s.samples := rfl
@[simp] theorem State.journalEntry_mem : (s.journalEntry).mem = s.mem := rfl
@[simp] theorem State.journalEntry_cxe : (s.journalEntry).cxe = s.cxe := rfl
@[simp] theorem State.journalEntry_rma : (s.journalEntry).rma = s.rma := rfl
@[simp] theorem State.journalEntry_net : (s.journalEntry).net = s.net := rfl
@[simp] theorem State.journalEntry_nvme : (s.journalEntry).nvme = s.nvme := rfl
@[simp] theorem State.journalEntry_pwr : (s.journalEntry).pwr = s.pwr := rfl
@[simp] theorem State.journalEntry_tst : (s.journalEntry).tst = s.tst := rfl
@[simp] theorem State.journalEntry_counters : (s.journalEntry).counters = s.counters := rfl
@[simp] theorem State.journalEntry_snaps : (s.journalEntry).snaps = s.snaps := rfl
@[simp] theorem State.journalEntry_shadows : (s.journalEntry).shadows = s.shadows := rfl
end

/-! ## sense -/

section
variable (i : Nat) (t : Int)
@[simp] theorem State.sense_pending : (s.sense i t).pending = s.pending := rfl
@[simp] theorem State.sense_emitted : (s.sense i t).emitted = s.emitted := rfl
@[simp] theorem State.sense_fresh : (s.sense i t).fresh = s.fresh := rfl
@[simp] theorem State.sense_now : (s.sense i t).now = s.now := rfl
@[simp] theorem State.sense_sys : (s.sense i t).sys = s.sys := rfl
@[simp] theorem State.sense_upd : (s.sense i t).upd = s.upd := rfl
@[simp] theorem State.sense_set : (s.sense i t).set = s.set := rfl
@[simp] theorem State.sense_run : (s.sense i t).run = s.run := rfl
@[simp] theorem State.sense_sloe : (s.sense i t).sloe = s.sloe := rfl
@[simp] theorem State.sense_cmd : (s.sense i t).cmd = s.cmd := rfl
@[simp] theorem State.sense_evt : (s.sense i t).evt = s.evt := rfl
@[simp] theorem State.sense_sec : (s.sense i t).sec = s.sec := rfl
@[simp] theorem State.sense_brm : (s.sense i t).brm = s.brm := rfl
@[simp] theorem State.sense_jobs : (s.sense i t).jobs = s.jobs := rfl
@[simp] theorem State.sense_recipes : (s.sense i t).recipes = s.recipes := rfl
@[simp] theorem State.sense_models : (s.sense i t).models = s.models := rfl
@[simp] theorem State.sense_vocabs : (s.sense i t).vocabs = s.vocabs := rfl
@[simp] theorem State.sense_grammars : (s.sense i t).grammars = s.grammars := rfl
@[simp] theorem State.sense_loads : (s.sense i t).loads = s.loads := rfl
@[simp] theorem State.sense_tiles : (s.sense i t).tiles = s.tiles := rfl
@[simp] theorem State.sense_samples : (s.sense i t).samples = s.samples := rfl
@[simp] theorem State.sense_mem : (s.sense i t).mem = s.mem := rfl
@[simp] theorem State.sense_cxe : (s.sense i t).cxe = s.cxe := rfl
@[simp] theorem State.sense_rma : (s.sense i t).rma = s.rma := rfl
@[simp] theorem State.sense_net : (s.sense i t).net = s.net := rfl
@[simp] theorem State.sense_med : (s.sense i t).med = s.med := rfl
@[simp] theorem State.sense_nvme : (s.sense i t).nvme = s.nvme := rfl
@[simp] theorem State.sense_tst : (s.sense i t).tst = s.tst := rfl
@[simp] theorem State.sense_counters : (s.sense i t).counters = s.counters := rfl
@[simp] theorem State.sense_snaps : (s.sense i t).snaps = s.snaps := rfl
@[simp] theorem State.sense_shadows : (s.sense i t).shadows = s.shadows := rfl
end

/-! ## closeWindow -/

section
variable (n : Nat) (cmd : Option Waiter)
@[simp] theorem State.closeWindow_pending : (s.closeWindow n cmd).pending = s.pending := rfl
@[simp] theorem State.closeWindow_emitted : (s.closeWindow n cmd).emitted = s.emitted := rfl
@[simp] theorem State.closeWindow_fresh : (s.closeWindow n cmd).fresh = s.fresh := rfl
@[simp] theorem State.closeWindow_now : (s.closeWindow n cmd).now = s.now := rfl
@[simp] theorem State.closeWindow_sys : (s.closeWindow n cmd).sys = s.sys := rfl
@[simp] theorem State.closeWindow_upd : (s.closeWindow n cmd).upd = s.upd := rfl
@[simp] theorem State.closeWindow_set : (s.closeWindow n cmd).set = s.set := rfl
@[simp] theorem State.closeWindow_run : (s.closeWindow n cmd).run = s.run := rfl
@[simp] theorem State.closeWindow_sloe : (s.closeWindow n cmd).sloe = s.sloe := rfl
@[simp] theorem State.closeWindow_cmd : (s.closeWindow n cmd).cmd = s.cmd := rfl
@[simp] theorem State.closeWindow_evt : (s.closeWindow n cmd).evt = s.evt := rfl
@[simp] theorem State.closeWindow_sec : (s.closeWindow n cmd).sec = s.sec := rfl
@[simp] theorem State.closeWindow_brm : (s.closeWindow n cmd).brm = s.brm := rfl
@[simp] theorem State.closeWindow_jobs : (s.closeWindow n cmd).jobs = s.jobs := rfl
@[simp] theorem State.closeWindow_recipes : (s.closeWindow n cmd).recipes = s.recipes := rfl
@[simp] theorem State.closeWindow_models : (s.closeWindow n cmd).models = s.models := rfl
@[simp] theorem State.closeWindow_vocabs : (s.closeWindow n cmd).vocabs = s.vocabs := rfl
@[simp] theorem State.closeWindow_grammars : (s.closeWindow n cmd).grammars = s.grammars := rfl
@[simp] theorem State.closeWindow_loads : (s.closeWindow n cmd).loads = s.loads := rfl
@[simp] theorem State.closeWindow_tiles : (s.closeWindow n cmd).tiles = s.tiles := rfl
@[simp] theorem State.closeWindow_samples : (s.closeWindow n cmd).samples = s.samples := rfl
@[simp] theorem State.closeWindow_mem : (s.closeWindow n cmd).mem = s.mem := rfl
@[simp] theorem State.closeWindow_cxe : (s.closeWindow n cmd).cxe = s.cxe := rfl
@[simp] theorem State.closeWindow_net : (s.closeWindow n cmd).net = s.net := rfl
@[simp] theorem State.closeWindow_med : (s.closeWindow n cmd).med = s.med := rfl
@[simp] theorem State.closeWindow_nvme : (s.closeWindow n cmd).nvme = s.nvme := rfl
@[simp] theorem State.closeWindow_pwr : (s.closeWindow n cmd).pwr = s.pwr := rfl
@[simp] theorem State.closeWindow_tst : (s.closeWindow n cmd).tst = s.tst := rfl
@[simp] theorem State.closeWindow_counters : (s.closeWindow n cmd).counters = s.counters := rfl
@[simp] theorem State.closeWindow_snaps : (s.closeWindow n cmd).snaps = s.snaps := rfl
@[simp] theorem State.closeWindow_shadows : (s.closeWindow n cmd).shadows = s.shadows := rfl
end

/-! ## setBrm -/

section
variable (b : BrmBlock)
@[simp] theorem State.setBrm_pending : (s.setBrm b).pending = s.pending := rfl
@[simp] theorem State.setBrm_emitted : (s.setBrm b).emitted = s.emitted := rfl
@[simp] theorem State.setBrm_fresh : (s.setBrm b).fresh = s.fresh := rfl
@[simp] theorem State.setBrm_now : (s.setBrm b).now = s.now := rfl
@[simp] theorem State.setBrm_sys : (s.setBrm b).sys = s.sys := rfl
@[simp] theorem State.setBrm_upd : (s.setBrm b).upd = s.upd := rfl
@[simp] theorem State.setBrm_set : (s.setBrm b).set = s.set := rfl
@[simp] theorem State.setBrm_run : (s.setBrm b).run = s.run := rfl
@[simp] theorem State.setBrm_sloe : (s.setBrm b).sloe = s.sloe := rfl
@[simp] theorem State.setBrm_cmd : (s.setBrm b).cmd = s.cmd := rfl
@[simp] theorem State.setBrm_evt : (s.setBrm b).evt = s.evt := rfl
@[simp] theorem State.setBrm_sec : (s.setBrm b).sec = s.sec := rfl
@[simp] theorem State.setBrm_jobs : (s.setBrm b).jobs = s.jobs := rfl
@[simp] theorem State.setBrm_recipes : (s.setBrm b).recipes = s.recipes := rfl
@[simp] theorem State.setBrm_models : (s.setBrm b).models = s.models := rfl
@[simp] theorem State.setBrm_vocabs : (s.setBrm b).vocabs = s.vocabs := rfl
@[simp] theorem State.setBrm_grammars : (s.setBrm b).grammars = s.grammars := rfl
@[simp] theorem State.setBrm_loads : (s.setBrm b).loads = s.loads := rfl
@[simp] theorem State.setBrm_tiles : (s.setBrm b).tiles = s.tiles := rfl
@[simp] theorem State.setBrm_samples : (s.setBrm b).samples = s.samples := rfl
@[simp] theorem State.setBrm_mem : (s.setBrm b).mem = s.mem := rfl
@[simp] theorem State.setBrm_cxe : (s.setBrm b).cxe = s.cxe := rfl
@[simp] theorem State.setBrm_rma : (s.setBrm b).rma = s.rma := rfl
@[simp] theorem State.setBrm_net : (s.setBrm b).net = s.net := rfl
@[simp] theorem State.setBrm_med : (s.setBrm b).med = s.med := rfl
@[simp] theorem State.setBrm_nvme : (s.setBrm b).nvme = s.nvme := rfl
@[simp] theorem State.setBrm_pwr : (s.setBrm b).pwr = s.pwr := rfl
@[simp] theorem State.setBrm_tst : (s.setBrm b).tst = s.tst := rfl
@[simp] theorem State.setBrm_counters : (s.setBrm b).counters = s.counters := rfl
@[simp] theorem State.setBrm_snaps : (s.setBrm b).snaps = s.snaps := rfl
@[simp] theorem State.setBrm_shadows : (s.setBrm b).shadows = s.shadows := rfl
@[simp] theorem State.setBrm_brm : (s.setBrm b).brm = b := rfl
end

/-! ## enqueueFront -/

section
variable (c : Instr)
@[simp] theorem State.enqueueFront_emitted : (s.enqueueFront c).emitted = s.emitted := rfl
@[simp] theorem State.enqueueFront_fresh : (s.enqueueFront c).fresh = s.fresh := rfl
@[simp] theorem State.enqueueFront_now : (s.enqueueFront c).now = s.now := rfl
@[simp] theorem State.enqueueFront_sys : (s.enqueueFront c).sys = s.sys := rfl
@[simp] theorem State.enqueueFront_upd : (s.enqueueFront c).upd = s.upd := rfl
@[simp] theorem State.enqueueFront_set : (s.enqueueFront c).set = s.set := rfl
@[simp] theorem State.enqueueFront_run : (s.enqueueFront c).run = s.run := rfl
@[simp] theorem State.enqueueFront_sloe : (s.enqueueFront c).sloe = s.sloe := rfl
@[simp] theorem State.enqueueFront_cmd : (s.enqueueFront c).cmd = s.cmd := rfl
@[simp] theorem State.enqueueFront_evt : (s.enqueueFront c).evt = s.evt := rfl
@[simp] theorem State.enqueueFront_sec : (s.enqueueFront c).sec = s.sec := rfl
@[simp] theorem State.enqueueFront_brm : (s.enqueueFront c).brm = s.brm := rfl
@[simp] theorem State.enqueueFront_jobs : (s.enqueueFront c).jobs = s.jobs := rfl
@[simp] theorem State.enqueueFront_recipes : (s.enqueueFront c).recipes = s.recipes := rfl
@[simp] theorem State.enqueueFront_models : (s.enqueueFront c).models = s.models := rfl
@[simp] theorem State.enqueueFront_vocabs : (s.enqueueFront c).vocabs = s.vocabs := rfl
@[simp] theorem State.enqueueFront_grammars : (s.enqueueFront c).grammars = s.grammars := rfl
@[simp] theorem State.enqueueFront_loads : (s.enqueueFront c).loads = s.loads := rfl
@[simp] theorem State.enqueueFront_tiles : (s.enqueueFront c).tiles = s.tiles := rfl
@[simp] theorem State.enqueueFront_samples : (s.enqueueFront c).samples = s.samples := rfl
@[simp] theorem State.enqueueFront_mem : (s.enqueueFront c).mem = s.mem := rfl
@[simp] theorem State.enqueueFront_cxe : (s.enqueueFront c).cxe = s.cxe := rfl
@[simp] theorem State.enqueueFront_rma : (s.enqueueFront c).rma = s.rma := rfl
@[simp] theorem State.enqueueFront_net : (s.enqueueFront c).net = s.net := rfl
@[simp] theorem State.enqueueFront_med : (s.enqueueFront c).med = s.med := rfl
@[simp] theorem State.enqueueFront_nvme : (s.enqueueFront c).nvme = s.nvme := rfl
@[simp] theorem State.enqueueFront_pwr : (s.enqueueFront c).pwr = s.pwr := rfl
@[simp] theorem State.enqueueFront_tst : (s.enqueueFront c).tst = s.tst := rfl
@[simp] theorem State.enqueueFront_counters : (s.enqueueFront c).counters = s.counters := rfl
@[simp] theorem State.enqueueFront_snaps : (s.enqueueFront c).snaps = s.snaps := rfl
@[simp] theorem State.enqueueFront_shadows : (s.enqueueFront c).shadows = s.shadows := rfl
@[simp] theorem State.enqueueFront_pending : (s.enqueueFront c).pending = c :: s.pending := rfl
end

/-! ## idle -/

section
@[simp] theorem State.idle_pending : (s.idle).pending = s.pending := rfl
@[simp] theorem State.idle_emitted : (s.idle).emitted = s.emitted := rfl
@[simp] theorem State.idle_fresh : (s.idle).fresh = s.fresh := rfl
@[simp] theorem State.idle_sys : (s.idle).sys = s.sys := rfl
@[simp] theorem State.idle_upd : (s.idle).upd = s.upd := rfl
@[simp] theorem State.idle_set : (s.idle).set = s.set := rfl
@[simp] theorem State.idle_run : (s.idle).run = s.run := rfl
@[simp] theorem State.idle_sloe : (s.idle).sloe = s.sloe := rfl
@[simp] theorem State.idle_cmd : (s.idle).cmd = s.cmd := rfl
@[simp] theorem State.idle_evt : (s.idle).evt = s.evt := rfl
@[simp] theorem State.idle_sec : (s.idle).sec = s.sec := rfl
@[simp] theorem State.idle_brm : (s.idle).brm = s.brm := rfl
@[simp] theorem State.idle_jobs : (s.idle).jobs = s.jobs := rfl
@[simp] theorem State.idle_recipes : (s.idle).recipes = s.recipes := rfl
@[simp] theorem State.idle_models : (s.idle).models = s.models := rfl
@[simp] theorem State.idle_vocabs : (s.idle).vocabs = s.vocabs := rfl
@[simp] theorem State.idle_grammars : (s.idle).grammars = s.grammars := rfl
@[simp] theorem State.idle_loads : (s.idle).loads = s.loads := rfl
@[simp] theorem State.idle_tiles : (s.idle).tiles = s.tiles := rfl
@[simp] theorem State.idle_samples : (s.idle).samples = s.samples := rfl
@[simp] theorem State.idle_mem : (s.idle).mem = s.mem := rfl
@[simp] theorem State.idle_cxe : (s.idle).cxe = s.cxe := rfl
@[simp] theorem State.idle_rma : (s.idle).rma = s.rma := rfl
@[simp] theorem State.idle_net : (s.idle).net = s.net := rfl
@[simp] theorem State.idle_med : (s.idle).med = s.med := rfl
@[simp] theorem State.idle_nvme : (s.idle).nvme = s.nvme := rfl
@[simp] theorem State.idle_pwr : (s.idle).pwr = s.pwr := rfl
@[simp] theorem State.idle_tst : (s.idle).tst = s.tst := rfl
@[simp] theorem State.idle_counters : (s.idle).counters = s.counters := rfl
@[simp] theorem State.idle_snaps : (s.idle).snaps = s.snaps := rfl
@[simp] theorem State.idle_shadows : (s.idle).shadows = s.shadows := rfl
@[simp] theorem State.idle_now : (s.idle).now = s.now + 1 := rfl
end

/-! ## markBad -/

section
variable (nsid : Nat) (c : Nat)
@[simp] theorem State.markBad_pending : (s.markBad nsid c).pending = s.pending := rfl
@[simp] theorem State.markBad_emitted : (s.markBad nsid c).emitted = s.emitted := rfl
@[simp] theorem State.markBad_fresh : (s.markBad nsid c).fresh = s.fresh := rfl
@[simp] theorem State.markBad_now : (s.markBad nsid c).now = s.now := rfl
@[simp] theorem State.markBad_sys : (s.markBad nsid c).sys = s.sys := rfl
@[simp] theorem State.markBad_upd : (s.markBad nsid c).upd = s.upd := rfl
@[simp] theorem State.markBad_set : (s.markBad nsid c).set = s.set := rfl
@[simp] theorem State.markBad_run : (s.markBad nsid c).run = s.run := rfl
@[simp] theorem State.markBad_sloe : (s.markBad nsid c).sloe = s.sloe := rfl
@[simp] theorem State.markBad_cmd : (s.markBad nsid c).cmd = s.cmd := rfl
@[simp] theorem State.markBad_evt : (s.markBad nsid c).evt = s.evt := rfl
@[simp] theorem State.markBad_sec : (s.markBad nsid c).sec = s.sec := rfl
@[simp] theorem State.markBad_brm : (s.markBad nsid c).brm = s.brm := rfl
@[simp] theorem State.markBad_jobs : (s.markBad nsid c).jobs = s.jobs := rfl
@[simp] theorem State.markBad_recipes : (s.markBad nsid c).recipes = s.recipes := rfl
@[simp] theorem State.markBad_models : (s.markBad nsid c).models = s.models := rfl
@[simp] theorem State.markBad_vocabs : (s.markBad nsid c).vocabs = s.vocabs := rfl
@[simp] theorem State.markBad_grammars : (s.markBad nsid c).grammars = s.grammars := rfl
@[simp] theorem State.markBad_loads : (s.markBad nsid c).loads = s.loads := rfl
@[simp] theorem State.markBad_tiles : (s.markBad nsid c).tiles = s.tiles := rfl
@[simp] theorem State.markBad_samples : (s.markBad nsid c).samples = s.samples := rfl
@[simp] theorem State.markBad_mem : (s.markBad nsid c).mem = s.mem := rfl
@[simp] theorem State.markBad_cxe : (s.markBad nsid c).cxe = s.cxe := rfl
@[simp] theorem State.markBad_rma : (s.markBad nsid c).rma = s.rma := rfl
@[simp] theorem State.markBad_net : (s.markBad nsid c).net = s.net := rfl
@[simp] theorem State.markBad_nvme : (s.markBad nsid c).nvme = s.nvme := rfl
@[simp] theorem State.markBad_pwr : (s.markBad nsid c).pwr = s.pwr := rfl
@[simp] theorem State.markBad_tst : (s.markBad nsid c).tst = s.tst := rfl
@[simp] theorem State.markBad_counters : (s.markBad nsid c).counters = s.counters := rfl
@[simp] theorem State.markBad_snaps : (s.markBad nsid c).snaps = s.snaps := rfl
@[simp] theorem State.markBad_shadows : (s.markBad nsid c).shadows = s.shadows := rfl
end

/-! ## updMonitor -/

section
variable (m : Nat) (f : ClockMon → ClockMon)
@[simp] theorem State.updMonitor_pending : (s.updMonitor m f).pending = s.pending := rfl
@[simp] theorem State.updMonitor_emitted : (s.updMonitor m f).emitted = s.emitted := rfl
@[simp] theorem State.updMonitor_fresh : (s.updMonitor m f).fresh = s.fresh := rfl
@[simp] theorem State.updMonitor_now : (s.updMonitor m f).now = s.now := rfl
@[simp] theorem State.updMonitor_sys : (s.updMonitor m f).sys = s.sys := rfl
@[simp] theorem State.updMonitor_upd : (s.updMonitor m f).upd = s.upd := rfl
@[simp] theorem State.updMonitor_set : (s.updMonitor m f).set = s.set := rfl
@[simp] theorem State.updMonitor_run : (s.updMonitor m f).run = s.run := rfl
@[simp] theorem State.updMonitor_sloe : (s.updMonitor m f).sloe = s.sloe := rfl
@[simp] theorem State.updMonitor_cmd : (s.updMonitor m f).cmd = s.cmd := rfl
@[simp] theorem State.updMonitor_evt : (s.updMonitor m f).evt = s.evt := rfl
@[simp] theorem State.updMonitor_sec : (s.updMonitor m f).sec = s.sec := rfl
@[simp] theorem State.updMonitor_brm : (s.updMonitor m f).brm = s.brm := rfl
@[simp] theorem State.updMonitor_jobs : (s.updMonitor m f).jobs = s.jobs := rfl
@[simp] theorem State.updMonitor_recipes : (s.updMonitor m f).recipes = s.recipes := rfl
@[simp] theorem State.updMonitor_models : (s.updMonitor m f).models = s.models := rfl
@[simp] theorem State.updMonitor_vocabs : (s.updMonitor m f).vocabs = s.vocabs := rfl
@[simp] theorem State.updMonitor_grammars : (s.updMonitor m f).grammars = s.grammars := rfl
@[simp] theorem State.updMonitor_loads : (s.updMonitor m f).loads = s.loads := rfl
@[simp] theorem State.updMonitor_tiles : (s.updMonitor m f).tiles = s.tiles := rfl
@[simp] theorem State.updMonitor_samples : (s.updMonitor m f).samples = s.samples := rfl
@[simp] theorem State.updMonitor_mem : (s.updMonitor m f).mem = s.mem := rfl
@[simp] theorem State.updMonitor_cxe : (s.updMonitor m f).cxe = s.cxe := rfl
@[simp] theorem State.updMonitor_rma : (s.updMonitor m f).rma = s.rma := rfl
@[simp] theorem State.updMonitor_net : (s.updMonitor m f).net = s.net := rfl
@[simp] theorem State.updMonitor_med : (s.updMonitor m f).med = s.med := rfl
@[simp] theorem State.updMonitor_nvme : (s.updMonitor m f).nvme = s.nvme := rfl
@[simp] theorem State.updMonitor_tst : (s.updMonitor m f).tst = s.tst := rfl
@[simp] theorem State.updMonitor_counters : (s.updMonitor m f).counters = s.counters := rfl
@[simp] theorem State.updMonitor_snaps : (s.updMonitor m f).snaps = s.snaps := rfl
@[simp] theorem State.updMonitor_shadows : (s.updMonitor m f).shadows = s.shadows := rfl
end

end Sys2Proof.Machine
end

