-- ==== Sys2Proof/Laws/Advance.lean ====
section
/-! SUPPORT. What the block reads of its state does not change as Estate time advances. -/

namespace Sys2Proof.Machine

variable (s : State) (t : Nat)

@[simp] theorem State.advance_at_ring : (s.advance t).ring = s.ring := rfl
@[simp] theorem State.advance_at_arrival : (s.advance t).arrival = s.arrival := rfl
@[simp] theorem State.advance_at_self : (s.advance t).self = s.self := rfl
@[simp] theorem State.advance_at_domain : (s.advance t).domain = s.domain := rfl
@[simp] theorem State.advance_at_domainOn : (s.advance t).domainOn = s.domainOn := rfl
@[simp] theorem State.advance_at_alive : (s.advance t).alive = s.alive := rfl
@[simp] theorem State.advance_at_hostUp : (s.advance t).hostUp = s.hostUp := rfl
@[simp] theorem State.advance_at_powered : (s.advance t).powered = s.powered := rfl
@[simp] theorem State.advance_at_setting : (s.advance t).setting = s.setting := rfl
@[simp] theorem State.advance_at_runSetting : (s.advance t).runSetting = s.runSetting := rfl
@[simp] theorem State.advance_at_tile : (s.advance t).tile = s.tile := rfl
@[simp] theorem State.advance_at_bank : (s.advance t).bank = s.bank := rfl
@[simp] theorem State.advance_at_pool : (s.advance t).pool = s.pool := rfl
@[simp] theorem State.advance_at_die : (s.advance t).die = s.die := rfl
@[simp] theorem State.advance_at_fabPort : (s.advance t).fabPort = s.fabPort := rfl
@[simp] theorem State.advance_at_ethPort : (s.advance t).ethPort = s.ethPort := rfl
@[simp] theorem State.advance_at_shaper : (s.advance t).shaper = s.shaper := rfl
@[simp] theorem State.advance_at_jobNamed : (s.advance t).jobNamed = s.jobNamed := rfl
@[simp] theorem State.advance_at_forwardedBy : (s.advance t).forwardedBy = s.forwardedBy := rfl
@[simp] theorem State.advance_at_chain : (s.advance t).chain = s.chain := rfl
@[simp] theorem State.advance_at_space : (s.advance t).space = s.space := rfl
@[simp] theorem State.advance_at_limitW : (s.advance t).limitW = s.limitW := rfl
@[simp] theorem State.advance_at_policy : (s.advance t).policy = s.policy := rfl
@[simp] theorem State.advance_at_zlim : (s.advance t).zlim = s.zlim := rfl
@[simp] theorem State.advance_at_anySensor : (s.advance t).anySensor = s.anySensor := rfl
@[simp] theorem State.advance_at_allSensors : (s.advance t).allSensors = s.allSensors := rfl
@[simp] theorem State.advance_at_domainBusy : (s.advance t).domainBusy = s.domainBusy := rfl
@[simp] theorem State.advance_at_fMax : (s.advance t).fMax = s.fMax := rfl
@[simp] theorem State.advance_at_mhz : (s.advance t).mhz = s.mhz := rfl
@[simp] theorem State.advance_at_stepMax : (s.advance t).stepMax = s.stepMax := rfl
@[simp] theorem State.advance_at_peakOk : (s.advance t).peakOk = s.peakOk := rfl
@[simp] theorem State.advance_at_reaches : (s.advance t).reaches = s.reaches := rfl
@[simp] theorem State.advance_at_responds : (s.advance t).responds = s.responds := rfl
@[simp] theorem State.advance_at_counter : (s.advance t).counter = s.counter := rfl
@[simp] theorem State.advance_at_usedCells : (s.advance t).usedCells = s.usedCells := rfl
@[simp] theorem State.advance_at_fabricOn : (s.advance t).fabricOn = s.fabricOn := rfl
@[simp] theorem State.advance_at_dieUnclocked : (s.advance t).dieUnclocked = s.dieUnclocked := rfl
@[simp] theorem State.advance_at_lastStep : (s.advance t).lastStep = s.lastStep := rfl
@[simp] theorem State.advance_at_portsTo : (s.advance t).portsTo = s.portsTo := rfl
@[simp] theorem State.advance_at_monitor : (s.advance t).monitor = s.monitor := rfl
@[simp] theorem State.advance_at_canRun : (s.advance t).canRun = s.canRun := rfl
@[simp] theorem State.advance_at_qp : (s.advance t).qp = s.qp := rfl
@[simp] theorem State.advance_at_bindingsOn : (s.advance t).bindingsOn = s.bindingsOn := rfl
@[simp] theorem State.advance_at_needsRead : (s.advance t).needsRead = s.needsRead := rfl
@[simp] theorem State.advance_at_stepDone : (s.advance t).stepDone = s.stepDone := rfl
@[simp] theorem State.advance_at_recipeFor : (s.advance t).recipeFor = s.recipeFor := rfl
@[simp] theorem State.advance_at_readySlot : (s.advance t).readySlot = s.readySlot := rfl
@[simp] theorem State.advance_at_mediaReady : (s.advance t).mediaReady = s.mediaReady := rfl
@[simp] theorem State.advance_at_tileRuns : (s.advance t).tileRuns = s.tileRuns := rfl
@[simp] theorem State.advance_at_sampleRecipe : (s.advance t).sampleRecipe = s.sampleRecipe := rfl

end Sys2Proof.Machine
end

