-- ==== Sys2Proof/Laws/Bits.lean ====
section
/-! SUPPORT. Lemmas of bit fields. -/

namespace Sys2Proof.Machine

/-- The low field of a number that fits it is the number. -/
theorem bits_low {v n : Nat} (h : v < 2 ^ n) : bits v 0 n = v := by
  simp [bits, Nat.mod_eq_of_lt h]

/-- A field above every bit of a number is 0. -/
theorem bits_high {v k n : Nat} (h : v < 2 ^ k) : bits v k n = 0 := by
  simp [bits, Nat.shiftRight_eq_div_pow, Nat.div_eq_of_lt h]

/-- A field is below 2^n. -/
theorem bits_lt (v k n : Nat) : bits v k n < 2 ^ n := Nat.mod_lt _ (Nat.two_pow_pos n)

end Sys2Proof.Machine
end

