-- ==== Sys2Proof/Laws/CMap.lean ====
section
/-! SUPPORT. What a read of a sparse table gives after each operation on it, and that every operation keeps the
canonical form: keys strictly rising, and in a memory no entry equal to what an unlisted cell reads as. -/

namespace Sys2Proof.Machine

variable {α : Type}

/-! ## Keys above a bound -/

/-- Every key lies above `k`. -/
def CMap.above (k : Nat) (m : CMap α) : Prop := ∀ p ∈ m, k < p.1

theorem CMap.sorted_cons {p : Nat × α} {m : CMap α} : CMap.sorted (p :: m) = true ↔ CMap.above p.1 m ∧ CMap.sorted m = true := by
  induction m generalizing p with
  | nil => simp [CMap.sorted, CMap.above]
  | cons q m ih =>
    have e : CMap.sorted (p :: q :: m) = (decide (p.1 < q.1) && CMap.sorted (q :: m)) := rfl
    rw [e, Bool.and_eq_true, decide_eq_true_eq]
    constructor
    · rintro ⟨h, hs⟩
      refine ⟨fun r hr => ?_, hs⟩
      rcases List.mem_cons.1 hr with rfl | hr
      · exact h
      · exact Nat.lt_trans h ((ih.1 hs).1 r hr)
    · rintro ⟨ha, hs⟩
      exact ⟨ha q (by simp), hs⟩

theorem CMap.find_of_above {k : Nat} {m : CMap α} (h : CMap.above k m) : m.find k = none := by
  cases m with
  | nil => rfl
  | cons p m =>
    have hp := h p (by simp)
    simp only [CMap.find, if_neg (Nat.ne_of_gt hp), if_pos hp]

theorem CMap.find_of_below {k : Nat} {m : CMap α} (h : m.all (fun p => decide (p.1 < k)) = true) : m.find k = none := by
  induction m with
  | nil => rfl
  | cons p m ih =>
    simp only [List.all_cons, Bool.and_eq_true, decide_eq_true_eq] at h
    simp only [CMap.find, if_neg (Nat.ne_of_lt h.1), if_neg (Nat.lt_asymm h.1)]
    exact ih h.2

/-! ## Reads after an operation -/

theorem CMap.find_put (m : CMap α) (k i : Nat) (v : α) : (m.put k v).find i = if i = k then some v else m.find i := by
  induction m with
  | nil =>
    simp only [CMap.put, CMap.find]
    by_cases h : i = k
    · simp [h]
    · simp [h, Ne.symm h]
  | cons p m ih =>
    obtain ⟨j, w⟩ := p
    simp only [CMap.put]
    by_cases hjk : j = k
    · subst hjk
      by_cases h : i = j
      · simp [CMap.find, h]
      · simp [CMap.find, h, Ne.symm h]
    · simp only [if_neg hjk]
      by_cases hkj : k < j
      · simp only [if_pos hkj, CMap.find]
        by_cases h : i = k
        · simp [h]
        · simp only [if_neg h, if_neg (Ne.symm h)]
          by_cases hi : i < k
          · have : ¬ j = i := by omega
            simp [hi, this, Nat.lt_trans hi hkj]
          · simp [hi]
      · simp only [if_neg hkj, CMap.find]
        by_cases h : i = k
        · subst h
          simp [hjk, hkj, ih]
        · by_cases hi : j = i
          · simp [hi, h]
          · by_cases hl : i < j
            · simp [hi, hl, h]
            · simp [hi, hl, ih, h]

theorem CMap.above_put {b k : Nat} {v : α} {m : CMap α} (h : CMap.above b m) (hk : b < k) : CMap.above b (m.put k v) := by
  induction m with
  | nil => intro p hp; simp only [CMap.put, List.mem_singleton] at hp; subst hp; exact hk
  | cons q m ih =>
    obtain ⟨j, w⟩ := q
    have hm : CMap.above b m := fun p hp => h p (List.mem_cons_of_mem _ hp)
    have hj := h (j, w) (by simp)
    simp only [CMap.put]
    split
    · intro p hp
      rcases List.mem_cons.1 hp with rfl | hp
      · exact hk
      · exact hm p hp
    · split
      · intro p hp
        rcases List.mem_cons.1 hp with rfl | hp
        · exact hk
        · exact h p hp
      · intro p hp
        rcases List.mem_cons.1 hp with rfl | hp
        · exact hj
        · exact ih hm p hp

theorem CMap.above_del {b k : Nat} {m : CMap α} (h : CMap.above b m) : CMap.above b (m.del k) := by
  induction m with
  | nil => exact h
  | cons q m ih =>
    obtain ⟨j, w⟩ := q
    have hm : CMap.above b m := fun p hp => h p (List.mem_cons_of_mem _ hp)
    simp only [CMap.del]
    split
    · exact hm
    · split
      · exact h
      · intro p hp
        rcases List.mem_cons.1 hp with rfl | hp
        · exact h _ (by simp)
        · exact ih hm p hp

theorem CMap.find_del {m : CMap α} (h : m.sorted = true) (k i : Nat) : (m.del k).find i = if i = k then none else m.find i := by
  induction m with
  | nil => simp [CMap.del, CMap.find]
  | cons p m ih =>
    obtain ⟨j, w⟩ := p
    have ⟨ha, hs⟩ := CMap.sorted_cons.1 h
    simp only [CMap.del]
    by_cases hjk : j = k
    · subst hjk
      simp only [if_true]
      by_cases hi : i = j
      · subst hi
        simp [CMap.find_of_above ha]
      · simp only [hi, CMap.find, if_neg (Ne.symm hi), if_false]
        by_cases hl : i < j
        · simp only [hl, if_true]
          exact CMap.find_of_above fun p hp => Nat.lt_trans hl (ha p hp)
        · simp [hl]
    · simp only [if_neg hjk]
      by_cases hkj : k < j
      · simp only [if_pos hkj]
        by_cases hi : i = k
        · subst hi
          simp [CMap.find, hjk, hkj]
        · simp [hi]
      · simp only [if_neg hkj, CMap.find]
        by_cases hi : i = k
        · subst hi
          simp [hjk, hkj, ih hs]
        · simp [hi, ih hs]

/-- Reading after a write: the written cell has the value, every other cell what it had. -/
theorem CMap.get_set [DecidableEq α] {d : α} {m : CMap α} (h : m.sorted = true) (k i : Nat) (v : α) :
    (m.set d k v).get d i = if i = k then v else m.get d i := by
  unfold CMap.get CMap.set
  by_cases hv : v = d
  · subst hv
    simp only [if_true, CMap.find_del h]
    by_cases hi : i = k <;> simp [hi]
  · simp only [if_neg hv, CMap.find_put]
    by_cases hi : i = k <;> simp [hi]

/-! ## The canonical form -/

theorem CMap.sorted_put {m : CMap α} (h : m.sorted = true) (k : Nat) (v : α) : (m.put k v).sorted = true := by
  induction m with
  | nil => rfl
  | cons p m ih =>
    obtain ⟨j, w⟩ := p
    have ⟨ha, hs⟩ := CMap.sorted_cons.1 h
    simp only [CMap.put]
    split
    next e => subst e; exact CMap.sorted_cons.2 ⟨ha, hs⟩
    next e =>
      split
      next l =>
        refine CMap.sorted_cons.2 ⟨fun q hq => ?_, h⟩
        rcases List.mem_cons.1 hq with rfl | hq
        · exact l
        · exact Nat.lt_trans l (ha q hq)
      next l => exact CMap.sorted_cons.2 ⟨CMap.above_put ha (show j < k by omega), ih hs⟩

theorem CMap.sorted_del {m : CMap α} (h : m.sorted = true) (k : Nat) : (m.del k).sorted = true := by
  induction m with
  | nil => rfl
  | cons p m ih =>
    obtain ⟨j, w⟩ := p
    have ⟨ha, hs⟩ := CMap.sorted_cons.1 h
    simp only [CMap.del]
    split
    · exact hs
    · split
      · exact h
      · exact CMap.sorted_cons.2 ⟨CMap.above_del ha, ih hs⟩

theorem CMap.sorted_upd {m : CMap α} (h : m.sorted = true) (k : Nat) (f : α → α) : (m.upd k f).sorted = true := by
  unfold CMap.upd
  split
  · exact CMap.sorted_put h k _
  · exact h

theorem CMap.sorted_filter {m : CMap α} (h : m.sorted = true) (f : Nat × α → Bool) : CMap.sorted (m.filter f) = true := by
  induction m with
  | nil => rfl
  | cons p m ih =>
    have ⟨ha, hs⟩ := CMap.sorted_cons.1 h
    rw [List.filter_cons]
    split
    · exact CMap.sorted_cons.2 ⟨fun q hq => ha q ((List.mem_filter.1 hq).1), ih hs⟩
    · exact ih hs

theorem CMap.mem_put {m : CMap α} {k : Nat} {v : α} {p : Nat × α} (h : p ∈ m.put k v) : p = (k, v) ∨ p ∈ m := by
  induction m with
  | nil => exact .inl (by simpa [CMap.put] using h)
  | cons q m ih =>
    obtain ⟨j, w⟩ := q
    simp only [CMap.put] at h
    split at h
    · rcases List.mem_cons.1 h with h | h
      · exact .inl h
      · exact .inr (List.mem_cons_of_mem _ h)
    · split at h
      · rcases List.mem_cons.1 h with h | h
        · exact .inl h
        · exact .inr h
      · rcases List.mem_cons.1 h with h | h
        · exact .inr (h ▸ by simp)
        · rcases ih h with h | h
          · exact .inl h
          · exact .inr (List.mem_cons_of_mem _ h)

theorem CMap.mem_del {m : CMap α} {k : Nat} {p : Nat × α} (h : p ∈ m.del k) : p ∈ m := by
  induction m with
  | nil => exact h
  | cons q m ih =>
    obtain ⟨j, w⟩ := q
    simp only [CMap.del] at h
    split at h
    · exact List.mem_cons_of_mem _ h
    · split at h
      · exact h
      · rcases List.mem_cons.1 h with h | h
        · exact h ▸ by simp
        · exact List.mem_cons_of_mem _ (ih h)

theorem CMap.wf_iff [DecidableEq α] {d : α} {m : CMap α} : CMap.wf d m = true ↔ m.sorted = true ∧ ∀ p ∈ m, p.2 ≠ d := by
  simp [CMap.wf]

theorem CMap.wf_nil [DecidableEq α] (d : α) : CMap.wf d [] = true := rfl

/-- A write keeps the canonical form. -/
theorem CMap.wf_set [DecidableEq α] {d : α} {m : CMap α} (h : CMap.wf d m = true) (k : Nat) (v : α) : CMap.wf d (m.set d k v) = true := by
  obtain ⟨hs, hd⟩ := CMap.wf_iff.1 h
  unfold CMap.set
  split
  next => exact CMap.wf_iff.2 ⟨CMap.sorted_del hs k, fun p hp => hd p (CMap.mem_del hp)⟩
  next hv =>
    refine CMap.wf_iff.2 ⟨CMap.sorted_put hs k v, fun p hp => ?_⟩
    rcases CMap.mem_put hp with rfl | hp
    · exact hv
    · exact hd p hp

theorem CMap.wf_filter [DecidableEq α] {d : α} {m : CMap α} (h : CMap.wf d m = true) (f : Nat × α → Bool) : CMap.wf d (m.filter f) = true := by
  obtain ⟨hs, hd⟩ := CMap.wf_iff.1 h
  exact CMap.wf_iff.2 ⟨CMap.sorted_filter hs f, fun p hp => hd p ((List.mem_filter.1 hp).1)⟩

/-! ## Memory by bytes -/

/-- Storing bytes keeps the canonical form. -/
theorem writeMem_wf {m : CMap Byte} (h : CMap.wf 0 m = true) (a : Nat) (bs : Bytes) : CMap.wf 0 (writeMem m a bs) = true := by
  induction bs generalizing m a with
  | nil => exact h
  | cons b bs ih => exact ih (CMap.wf_set h a b) (a + 1)

/-- Clearing bytes keeps the canonical form. -/
theorem clearMem_wf {m : CMap Byte} (h : CMap.wf 0 m = true) (a n : Nat) : CMap.wf 0 (clearMem m a n) = true := CMap.wf_filter h _

/-- A byte outside the stored ones reads as before. -/
theorem writeMem_get_other {m : CMap Byte} (h : CMap.wf 0 m = true) (a : Nat) (bs : Bytes) (i : Nat) (ho : i < a ∨ a + bs.length ≤ i) :
    (writeMem m a bs).get 0 i = m.get 0 i := by
  induction bs generalizing m a with
  | nil => rfl
  | cons b bs ih =>
    simp only [List.length_cons] at ho
    simp only [writeMem]
    rw [ih (CMap.wf_set h a b) (a + 1) (by omega), CMap.get_set (CMap.wf_iff.1 h).1, if_neg (by omega)]

/-- A stored byte reads as stored. -/
theorem writeMem_get_own {m : CMap Byte} (h : CMap.wf 0 m = true) (a : Nat) (bs : Bytes) (i : Nat) (hi : i < bs.length) :
    (writeMem m a bs).get 0 (a + i) = bs[i] := by
  induction bs generalizing m a i with
  | nil => simp at hi
  | cons b bs ih =>
    simp only [writeMem]
    cases i with
    | zero =>
      rw [writeMem_get_other (CMap.wf_set h a b) (a + 1) bs (a + 0) (by omega), CMap.get_set (CMap.wf_iff.1 h).1]
      simp
    | succ i =>
      have := ih (CMap.wf_set h a b) (a + 1) i (by simpa using hi)
      rw [show a + (i + 1) = a + 1 + i by omega, this]
      simp

/-- Reading back the bytes stored. -/
theorem readMem_writeMem {m : CMap Byte} (h : CMap.wf 0 m = true) (a : Nat) (bs : Bytes) : readMem (writeMem m a bs) a bs.length = bs := by
  apply List.ext_getElem
  · simp [readMem]
  · intro i h1 h2
    simp only [readMem, List.getElem_map, List.getElem_range]
    exact writeMem_get_own h a bs i h2

end Sys2Proof.Machine
end

