-- ==== Sys2Proof/Laws/Standing.lean ====
section
/-! SUPPORT. What each operation leaves alone: one lemma per operation says that the queue, the system
block, the loaded recipes and images, the expression unit and the copies of registers are as before. The few
operations that change one of them stand in Laws/Identity.lean. -/

namespace Sys2Proof.Machine

set_option linter.unusedSimpArgs false
set_option linter.unusedVariables false

/-- The parts of the state that few commands touch: the queue, the system block, the settings of the last start,
the loaded recipes and images, the expression unit, and the frozen and shadow copies of registers. -/
structure Standing where
  pending  : List Instr
  sys      : SysBlock
  run      : CMap Byte
  recipes  : CMap HeldRecipe
  models   : CMap HeldImage
  vocabs   : CMap HeldImage
  grammars : CMap HeldImage
  brm      : BrmBlock
  snaps    : CMap (CMap Nat)
  shadows  : CMap Nat

/-- The standing parts of a state. -/
def State.standing (s : State) : Standing :=
  ⟨s.pending, s.sys, s.run, s.recipes, s.models, s.vocabs, s.grammars, s.brm, s.snaps, s.shadows⟩

theorem State.standing_eta (s : State) :
  Standing.mk s.pending s.sys s.run s.recipes s.models s.vocabs s.grammars s.brm s.snaps s.shadows = s.standing := rfl
theorem State.standing_mk (p e f n sy u st ru sl c ev se b j r m v g l ti sa me cx rm ne md nv pw ts co sn sh) :
  (State.mk p e f n sy u st ru sl c ev se b j r m v g l ti sa me cx rm ne md nv pw ts co sn sh).standing = ⟨p, sy, ru, r, m, v, g, b, sn, sh⟩ := rfl
theorem foldl_standing {α} (f : State → α → State) (l : List α) (s : State) (h : ∀ s a, (f s a).standing = s.standing) :
  (l.foldl f s).standing = s.standing := by induction l generalizing s <;> simp_all

theorem State.setPool_standing (s : State) a1 a2 : (State.setPool s a1 a2).standing = s.standing := rfl
theorem State.setCounter_standing (s : State) a1 a2 : (State.setCounter s a1 a2).standing = s.standing := rfl
theorem State.bump64_standing (s : State) a1 a2 : (State.bump64 s a1 a2).standing = s.standing := rfl
theorem State.bump_standing (s : State) a1 a2 : (State.bump s a1 a2).standing = s.standing := rfl
theorem State.emit_standing (s : State) a1 : (State.emit s a1).standing = s.standing := rfl
theorem State.sendEvent_standing (s : State) a1 a2 : (State.sendEvent s a1 a2).standing = s.standing := by
  unfold State.sendEvent
  simp only [↓apply_ite State.standing, ite_self, ↓State.bump_standing, ↓State.emit_standing]
theorem State.sendAll_standing (s : State) a1 : (State.sendAll s a1).standing = s.standing := by
  unfold State.sendAll
  repeat' (first
    | with_reducible rfl
    | simp only [↓State.sendEvent_standing]
      done
    | split
    | (with_reducible refine (foldl_standing _ _ _ (fun s a => ?_)).trans ?_)
    | simp only [↓State.sendEvent_standing])
theorem State.coalesce_standing (s : State) a1 : (State.coalesce s a1).standing = s.standing := by
  unfold State.coalesce
  simp only [↓State.standing_mk, ↓State.standing_eta, ↓apply_ite State.standing, ite_self, ↓State.sendAll_standing]
theorem State.eventIrq_standing (s : State) a1 : (State.eventIrq s a1).standing = s.standing := by
  unfold State.eventIrq
  simp only [↓State.standing_mk, ↓State.standing_eta, ↓apply_ite State.standing, ite_self, ↓State.emit_standing]
theorem State.writeRecord_standing {s a1 a2 x t} (h : State.writeRecord s a1 a2 = (x, t)) : t.standing = s.standing := by
  unfold State.writeRecord at h
  (try dsimp only at h)
  repeat' (split at h)
  all_goals cases h
  repeat' (first
    | with_reducible rfl
    | simp only [↓State.standing_mk, ↓State.standing_eta, ↓apply_ite State.standing, ite_self, ↓State.sendAll_standing,
        ↓State.eventIrq_standing]
      done
    | split
    | (with_reducible refine (foldl_standing _ _ _ (fun s a => ?_)).trans ?_)
    | simp only [↓State.standing_mk, ↓State.standing_eta, ↓apply_ite State.standing, ite_self, ↓State.sendAll_standing,
        ↓State.eventIrq_standing])
theorem State.writeRecord_snd (s a1 a2) : (State.writeRecord s a1 a2).2.standing = s.standing := State.writeRecord_standing (t := (State.writeRecord s a1 a2).2) (x := (State.writeRecord s a1 a2).1) rfl
theorem State.newRecord_standing (s : State) (ev : Event) : (s.newRecord ev).standing = s.standing := by
  have h : ∀ p : Event × State, p.2.standing = s.standing →
      (match p with
       | (l,
           t) => if ev.sev = 3 then { t with sloe := { t.sloe with latches := latchFatal t.sloe.latches l } } else t : State).standing = s.standing := by
    rintro ⟨l, t⟩ h
    dsimp only at h ⊢
    split <;> exact h
  refine h _ ?_
  dsimp only
  split <;> first | exact State.writeRecord_standing rfl | simp only [↓State.writeRecord_snd, ↓State.standing_mk, ↓State.standing_eta]
theorem State.raise_standing (s : State) a1 a2 a3 : (State.raise s a1 a2 a3).standing = s.standing := by
  unfold State.raise
  repeat' (first
    | simp only [↓State.bump64_standing, ↓State.coalesce_standing, ↓State.newRecord_standing]
      done
    | split
    | simp only [↓State.bump64_standing, ↓State.coalesce_standing, ↓State.newRecord_standing])
theorem State.levels_standing (s : State) a1 : (State.levels s a1).standing = s.standing := by
  unfold State.levels
  simp only [↓State.standing_mk, ↓State.standing_eta, ↓apply_ite State.standing, ite_self, ↓State.setPool_standing, ↓State.raise_standing]
theorem State.setBank_standing (s : State) a1 a2 a3 : (State.setBank s a1 a2 a3).standing = s.standing := rfl
theorem State.clearBank_standing (s : State) a1 a2 : (State.clearBank s a1 a2).standing = s.standing := rfl
theorem State.poolBanks_standing (s : State) a1 a2 a3 : (State.poolBanks s a1 a2 a3).standing = s.standing := by
  unfold State.poolBanks
  repeat' (first
    | with_reducible rfl
    | simp only [↓State.standing_mk, ↓State.standing_eta, ↓apply_ite State.standing, ite_self, ↓State.setBank_standing,
        ↓State.clearBank_standing]
      done
    | split
    | (with_reducible refine (foldl_standing _ _ _ (fun s a => ?_)).trans ?_)
    | simp only [↓State.standing_mk, ↓State.standing_eta, ↓apply_ite State.standing, ite_self, ↓State.setBank_standing,
        ↓State.clearBank_standing])
theorem State.endShrink_standing (s : State) a1 : (State.endShrink s a1).standing = s.standing := by
  unfold State.endShrink
  simp only [↓State.standing_mk, ↓State.standing_eta, ↓apply_ite State.standing, ite_self, ↓State.setPool_standing,
      ↓State.poolBanks_standing]
theorem State.poolChanged_standing (s : State) a1 : (State.poolChanged s a1).standing = s.standing := by
  unfold State.poolChanged
  simp only [↓State.levels_standing, ↓State.endShrink_standing]
theorem State.freeChain_standing (s : State) a1 : (State.freeChain s a1).standing = s.standing := by
  unfold State.freeChain
  simp only [↓State.standing_mk, ↓State.standing_eta, ↓State.poolChanged_standing]
theorem State.releasePlan_standing (s : State) a1 : (State.releasePlan s a1).standing = s.standing := by
  unfold State.releasePlan
  repeat' split
  all_goals simp only [↓apply_ite State.standing, ite_self, ↓State.freeChain_standing]
theorem State.setJob_standing (s : State) a1 a2 : (State.setJob s a1 a2).standing = s.standing := rfl
theorem State.audit_standing (s : State) a1 : (State.audit s a1).standing = s.standing := rfl
theorem State.settle_standing (s : State) a1 a2 : (State.settle s a1 a2).standing = s.standing := rfl
theorem State.setRing_standing (s : State) a1 a2 : (State.setRing s a1 a2).standing = s.standing := rfl
theorem State.post_standing (s : State) a1 a2 : (State.post s a1 a2).standing = s.standing := by
  unfold State.post
  repeat' split
  all_goals simp only [↓State.standing_mk, ↓State.standing_eta, ↓apply_ite State.standing, ite_self, ↓State.emit_standing,
      ↓State.setRing_standing]
theorem State.answer_standing (s : State) a1 a2 : (State.answer s a1 a2).standing = s.standing := by
  unfold State.answer
  simp only [↓apply_ite State.standing, ite_self, ↓State.bump64_standing, ↓State.bump_standing, ↓State.settle_standing,
      ↓State.post_standing]
theorem State.answerFollowers_standing (s : State) a1 a2 : (State.answerFollowers s a1 a2).standing = s.standing := by
  unfold State.answerFollowers
  repeat' (first
    | with_reducible rfl
    | simp only [↓State.standing_mk, ↓State.standing_eta, ↓State.answer_standing]
      done
    | split
    | (with_reducible refine (foldl_standing _ _ _ (fun s a => ?_)).trans ?_)
    | simp only [↓State.standing_mk, ↓State.standing_eta, ↓State.answer_standing])
theorem State.complete_standing (s : State) a1 a2 : (State.complete s a1 a2).standing = s.standing := by
  unfold State.complete
  simp only [↓State.standing_mk, ↓State.standing_eta, ↓State.answer_standing, ↓State.answerFollowers_standing]
theorem State.finish_standing (s : State) a1 a2 : (State.finish s a1 a2).standing = s.standing := by
  unfold State.finish
  repeat' split
  all_goals simp only [↓apply_ite State.standing, ite_self, ↓State.audit_standing, ↓State.complete_standing]
theorem State.finishAll_standing (s : State) a1 a2 : (State.finishAll s a1 a2).standing = s.standing := by
  unfold State.finishAll
  repeat' (first
    | with_reducible rfl
    | simp only [↓State.finish_standing]
      done
    | split
    | (with_reducible refine (foldl_standing _ _ _ (fun s a => ?_)).trans ?_)
    | simp only [↓State.finish_standing])
theorem State.abandonPlan_standing (s : State) a1 a2 a3 a4 : (State.abandonPlan s a1 a2 a3 a4).standing = s.standing := by
  unfold State.abandonPlan
  repeat' split
  all_goals simp only [↓State.standing_mk, ↓State.standing_eta, ↓State.raise_standing, ↓State.releasePlan_standing,
      ↓State.setJob_standing, ↓State.finishAll_standing]
theorem State.abandonRecovery_standing (s : State) a1 : (State.abandonRecovery s a1).standing = s.standing := by
  unfold State.abandonRecovery
  repeat' split
  all_goals simp only [↓State.standing_mk, ↓State.standing_eta, ↓apply_ite State.standing, ite_self, ↓State.raise_standing,
      ↓State.setJob_standing, ↓State.finishAll_standing]
theorem State.returnTokens_standing (s : State) a1 : (State.returnTokens s a1).standing = s.standing := rfl
theorem State.updDomain_standing (s : State) a1 a2 : (State.updDomain s a1 a2).standing = s.standing := rfl
theorem State.release_standing (s : State) a1 : (State.release s a1).standing = s.standing := by
  unfold State.release
  repeat' split
  all_goals simp only [↓State.standing_mk, ↓State.standing_eta, ↓apply_ite State.standing, ite_self, ↓State.returnTokens_standing,
      ↓State.updDomain_standing]
theorem State.abandonStages_standing (s : State) a1 a2 a3 : (State.abandonStages s a1 a2 a3).standing = s.standing := by
  unfold State.abandonStages
  repeat' (first
    | with_reducible rfl
    | simp only [↓State.standing_mk, ↓State.standing_eta, ↓apply_ite State.standing, ite_self, ↓State.release_standing]
      done
    | split
    | (with_reducible refine (foldl_standing _ _ _ (fun s a => ?_)).trans ?_)
    | simp only [↓State.standing_mk, ↓State.standing_eta, ↓apply_ite State.standing, ite_self, ↓State.release_standing])
theorem State.abortNamed_standing {s a1 a2 t} (h : State.abortNamed s a1 a2 = some t) : t.standing = s.standing := by
  unfold State.abortNamed at h
  (try dsimp only at h)
  repeat' (split at h)
  all_goals cases h
  repeat' (first
    | with_reducible rfl
    | simp only [↓State.standing_mk, ↓State.standing_eta, ↓apply_ite State.standing, ite_self]
      done
    | split
    | (with_reducible refine (foldl_standing _ _ _ (fun s a => ?_)).trans ?_)
    | simp only [↓State.standing_mk, ↓State.standing_eta, ↓apply_ite State.standing, ite_self])
theorem State.abortSelftest_standing (s : State) a1 : (State.abortSelftest s a1).standing = s.standing := by
  unfold State.abortSelftest
  repeat' split
  all_goals rfl
theorem State.abortSlices_standing (s : State) a1 : (State.abortSlices s a1).standing = s.standing := by
  unfold State.abortSlices
  repeat' (first
    | with_reducible rfl
    | simp only [↓State.standing_mk, ↓State.standing_eta, ↓apply_ite State.standing, ite_self, ↓State.bump_standing,
        ↓State.setBank_standing, ↓State.returnTokens_standing]
      done
    | split
    | (with_reducible refine (foldl_standing _ _ _ (fun s a => ?_)).trans ?_)
    | simp only [↓State.standing_mk, ↓State.standing_eta, ↓apply_ite State.standing, ite_self, ↓State.bump_standing,
        ↓State.setBank_standing, ↓State.returnTokens_standing])
theorem State.noteCred_standing (s : State) a1 : (State.noteCred s a1).standing = s.standing := by
  unfold State.noteCred
  repeat' split
  all_goals simp only [↓State.standing_mk, ↓State.standing_eta, ↓apply_ite State.standing, ite_self, ↓State.raise_standing]
theorem State.turnDown_standing (s : State) a1 a2 a3 a4 : (State.turnDown s a1 a2 a3 a4).standing = s.standing := by
  unfold State.turnDown
  simp only [↓apply_ite State.standing, ite_self, ↓State.raise_standing, ↓State.audit_standing, ↓State.complete_standing]
theorem State.losePiece_standing (s : State) a1 : (State.losePiece s a1).standing = s.standing := rfl
theorem State.loseDirty_standing (s : State) : (State.loseDirty s).standing = s.standing := by
  unfold State.loseDirty
  repeat' (first
    | with_reducible rfl
    | simp only [↓State.losePiece_standing]
      done
    | split
    | (with_reducible refine (foldl_standing _ _ _ (fun s a => ?_)).trans ?_)
    | simp only [↓State.losePiece_standing])
theorem State.writeCount_standing (s : State) a1 a2 : (State.writeCount s a1 a2).standing = s.standing := rfl
theorem State.releaseMirror_standing (s : State) a1 : (State.releaseMirror s a1).standing = s.standing := by
  unfold State.releaseMirror
  repeat' split
  all_goals rfl
theorem State.setupMirror_standing (s : State) a1 a2 : (State.setupMirror s a1 a2).standing = s.standing := by
  unfold State.setupMirror
  repeat' split
  all_goals rfl
theorem State.changePartner_standing (s : State) a1 : (State.changePartner s a1).standing = s.standing := by
  unfold State.changePartner
  repeat' (first
    | with_reducible rfl
    | simp only [↓State.standing_mk, ↓State.standing_eta, ↓apply_ite State.standing, ite_self, ↓State.releaseMirror_standing,
        ↓State.setupMirror_standing]
      done
    | split
    | (with_reducible refine (foldl_standing _ _ _ (fun s a => ?_)).trans ?_)
    | simp only [↓State.standing_mk, ↓State.standing_eta, ↓apply_ite State.standing, ite_self, ↓State.releaseMirror_standing,
        ↓State.setupMirror_standing])
theorem State.leaveService_standing (s : State) a1 : (State.leaveService s a1).standing = s.standing := by
  unfold State.leaveService
  repeat' split
  all_goals rfl
theorem State.takeServices_standing (s : State) : (State.takeServices s).standing = s.standing := by
  unfold State.takeServices
  repeat' (first
    | with_reducible rfl
    | simp only [↓State.standing_mk, ↓State.standing_eta, ↓State.emit_standing, ↓State.leaveService_standing]
      done
    | split
    | (with_reducible refine (foldl_standing _ _ _ (fun s a => ?_)).trans ?_)
    | simp only [↓State.standing_mk, ↓State.standing_eta, ↓State.emit_standing, ↓State.leaveService_standing])
theorem State.revokeKey_standing (s : State) a1 : (State.revokeKey s a1).standing = s.standing := by
  unfold State.revokeKey
  simp only [↓State.standing_mk, ↓State.standing_eta, ↓State.raise_standing]
theorem State.takeKeys_standing (s : State) : (State.takeKeys s).standing = s.standing := by
  unfold State.takeKeys
  repeat' (first
    | with_reducible rfl
    | simp only [↓State.standing_mk, ↓State.standing_eta, ↓State.revokeKey_standing]
      done
    | split
    | (with_reducible refine (foldl_standing _ _ _ (fun s a => ?_)).trans ?_)
    | simp only [↓State.standing_mk, ↓State.standing_eta, ↓State.revokeKey_standing])
theorem State.loadNetwork_standing (s : State) : (State.loadNetwork s).standing = s.standing := rfl
theorem State.loadRetired_standing (s : State) : (State.loadRetired s).standing = s.standing := by
  unfold State.loadRetired
  repeat' (first
    | with_reducible rfl
    | simp only [↓State.standing_mk, ↓State.standing_eta, ↓apply_ite State.standing, ite_self, ↓State.setBank_standing]
      done
    | split
    | (with_reducible refine (foldl_standing _ _ _ (fun s a => ?_)).trans ?_)
    | simp only [↓State.standing_mk, ↓State.standing_eta, ↓apply_ite State.standing, ite_self, ↓State.setBank_standing])
theorem State.loadBypass_standing (s : State) : (State.loadBypass s).standing = s.standing := rfl
theorem State.dropRefs_standing (s : State) a1 a2 : (State.dropRefs s a1 a2).standing = s.standing := by
  unfold State.dropRefs
  repeat' (first
    | with_reducible rfl
    | simp only [↓State.standing_mk, ↓State.standing_eta, ↓apply_ite State.standing, ite_self, ↓State.freeChain_standing]
      done
    | split
    | (with_reducible refine (foldl_standing _ _ _ (fun s a => ?_)).trans ?_)
    | simp only [↓State.standing_mk, ↓State.standing_eta, ↓apply_ite State.standing, ite_self, ↓State.freeChain_standing])
theorem State.trimRefs_standing (s : State) a1 : (State.trimRefs s a1).standing = s.standing := by
  unfold State.trimRefs
  simp only [↓State.dropRefs_standing]
theorem State.configPool_standing (s : State) a1 a2 a3 a4 a5 a6 : (State.configPool s a1 a2 a3 a4 a5 a6).standing = s.standing := by
  unfold State.configPool
  simp only [↓State.standing_mk, ↓State.standing_eta, ↓apply_ite State.standing, ite_self, ↓State.setPool_standing,
      ↓State.poolBanks_standing, ↓State.poolChanged_standing]
theorem State.settingPool_standing (s : State) a1 : (State.settingPool s a1).standing = s.standing := by
  unfold State.settingPool
  simp only [↓State.standing_mk, ↓State.standing_eta, ↓apply_ite State.standing, ite_self, ↓State.setPool_standing,
      ↓State.configPool_standing]
theorem State.takePower_standing (s : State) : (State.takePower s).standing = s.standing := by
  unfold State.takePower State.applyHold
  split <;> rfl
theorem State.takeLive_standing (s : State) : (State.takeLive s).standing = s.standing := by
  unfold State.takeLive
  refine (foldl_standing _ _ _ State.trimRefs_standing).trans ((foldl_standing _ _ _ State.settingPool_standing).trans ?_)
  exact (State.takePower_standing _).trans <| (State.changePartner_standing ..).trans ((State.takeServices_standing _).trans ((State.takeKeys_standing _).trans
    ((State.loadNetwork_standing _).trans ((State.loadRetired_standing _).trans (State.loadBypass_standing _)))))
theorem State.activateSettings_standing (s : State) : (State.activateSettings s).standing = s.standing := by
  unfold State.activateSettings
  simp only [↓State.standing_mk, ↓State.standing_eta, ↓apply_ite State.standing, ite_self, ↓State.takeLive_standing]
theorem State.addReady_standing (s : State) a1 a2 : (State.addReady s a1 a2).standing = s.standing := rfl
theorem State.addEmpty_standing (s : State) a1 a2 a3 a4 a5 a6 : (State.addEmpty s a1 a2 a3 a4 a5 a6).standing = s.standing := by
  unfold State.addEmpty
  repeat' split
  all_goals rfl
theorem State.addRef_standing {s a1 x t} (h : State.addRef s a1 = (x, t)) : t.standing = s.standing := by
  unfold State.addRef at h
  (try dsimp only at h)
  repeat' (split at h)
  all_goals cases h
  repeat' (first
    | with_reducible rfl
    | simp only [↓State.standing_mk, ↓State.standing_eta, ↓apply_ite State.standing, ite_self, ↓State.bump_standing, ↓State.raise_standing]
      done
    | split
    | (with_reducible refine (foldl_standing _ _ _ (fun s a => ?_)).trans ?_)
    | simp only [↓State.standing_mk, ↓State.standing_eta, ↓apply_ite State.standing, ite_self, ↓State.bump_standing, ↓State.raise_standing])
theorem State.addRef_snd (s a1) : (State.addRef s a1).2.standing = s.standing := State.addRef_standing (t := (State.addRef s a1).2) (x := (State.addRef s a1).1) rfl
theorem State.addResolved_standing (s : State) a1 a2 a3 a4 : (State.addResolved s a1 a2 a3 a4).standing = s.standing := rfl
theorem State.addSlice_standing (s : State) a1 a2 a3 a4 : (State.addSlice s a1 a2 a3 a4).standing = s.standing := rfl
theorem State.allocate_standing {s a1 a2 a3 a4 x t} (h : State.allocate s a1 a2 a3 a4 = some (x, t)) : t.standing = s.standing := by
  unfold State.allocate at h
  (try dsimp only at h)
  repeat' (split at h)
  all_goals cases h
  repeat' (first
    | with_reducible rfl
    | simp only [↓State.standing_mk, ↓State.standing_eta, ↓apply_ite State.standing, ite_self, ↓State.setPool_standing,
        ↓State.bump64_standing, ↓State.poolChanged_standing]
      done
    | split
    | (with_reducible refine (foldl_standing _ _ _ (fun s a => ?_)).trans ?_)
    | simp only [↓State.standing_mk, ↓State.standing_eta, ↓apply_ite State.standing, ite_self, ↓State.setPool_standing,
        ↓State.bump64_standing, ↓State.poolChanged_standing])
theorem State.fetchChain_standing {s a1 a2 x t} (h : State.fetchChain s a1 a2 = (x, t)) : t.standing = s.standing := by
  unfold State.fetchChain at h
  (try dsimp only at h)
  repeat' (split at h)
  all_goals cases h
  repeat' (first
    | with_reducible rfl
    | simp only [↓State.standing_mk, ↓State.standing_eta, ↓apply_ite State.standing, ite_self]
      done
    | split
    | (with_reducible refine (foldl_standing _ _ _ (fun s a => ?_)).trans ?_)
    | simp only [State.allocate_standing ‹State.allocate _ _ _ _ _ = some (_, _)›]
    | simp only [↓State.standing_mk, ↓State.standing_eta, ↓apply_ite State.standing, ite_self])
theorem State.fetchChain_snd (s a1 a2) : (State.fetchChain s a1 a2).2.standing = s.standing := State.fetchChain_standing (t := (State.fetchChain s a1 a2).2) (x := (State.fetchChain s a1 a2).1) rfl
theorem State.takeResv_standing (s : State) a1 a2 : (State.takeResv s a1 a2).standing = s.standing := by
  unfold State.takeResv
  simp only [↓State.standing_mk, ↓State.standing_eta, ↓State.setPool_standing, ↓State.poolChanged_standing]
theorem State.setDie_standing (s : State) a1 a2 : (State.setDie s a1 a2).standing = s.standing := rfl
theorem State.putDie_standing (s : State) a1 a2 : (State.putDie s a1 a2).standing = s.standing := by
  unfold State.putDie
  simp only [↓apply_ite State.standing, ite_self, ↓State.bump_standing, ↓State.setDie_standing]
theorem State.nandRequest_standing (s : State) a1 a2 : (State.nandRequest s a1 a2).standing = s.standing := by
  unfold State.nandRequest
  simp only [↓apply_ite State.standing, ite_self, ↓State.putDie_standing]
theorem State.readCodeword_standing (s : State) a1 a2 a3 : (State.readCodeword s a1 a2 a3).standing = s.standing := by
  unfold State.readCodeword
  simp only [↓State.bump64_standing, ↓State.nandRequest_standing]
theorem State.raiseUncorrectable_standing (s : State) a1 a2 : (State.raiseUncorrectable s a1 a2).standing = s.standing := by
  unfold State.raiseUncorrectable
  simp only [↓State.bump_standing, ↓State.raise_standing]
theorem State.lostRead_standing (s : State) a1 a2 a3 : (State.lostRead s a1 a2 a3).standing = s.standing := by
  unfold State.lostRead
  split
  · exact foldl_standing _ _ _ (fun s c => State.raiseUncorrectable_standing s _ c)
  · rfl
theorem State.mediaRead_standing (s : State) a1 a2 a3 a4 : (State.mediaRead s a1 a2 a3 a4).standing = s.standing := by
  unfold State.mediaRead
  rw [State.lostRead_standing]
  exact foldl_standing _ _ _ (fun s c => State.readCodeword_standing s _ c _)
theorem State.stopJob_standing (s : State) a1 a2 a3 : (State.stopJob s a1 a2 a3).standing = s.standing := by
  unfold State.stopJob
  repeat' split
  all_goals rfl
theorem State.admit_standing (s : State) (slot : Nat) (j : Job) (p : EpochPlan) (rec' : PlanRec) (c : CatRecord) (rc : Recipe) (tile : Nat) :
    (s.admitSlot slot j p rec' c rc tile).standing = s.standing := by
  have hf : ∀ (u : State) (x : Sample) (n : Nat), ((u.fetchChain x n).2).standing = u.standing := fun u x n => State.fetchChain_standing rfl
  unfold State.admitSlot
  dsimp only
  repeat' split
  all_goals simp only [↓State.stopJob_standing, ↓State.mediaRead_standing, ↓State.standing_mk, ↓State.standing_eta, hf,
      ↓State.takeResv_standing, ↓State.setJob_standing]
theorem State.nvmeDeliver_standing (s : State) a1 a2 a3 a4 : (State.nvmeDeliver s a1 a2 a3 a4).standing = s.standing := by
  unfold State.nvmeDeliver
  repeat' split
  all_goals rfl
theorem State.nvmePost_standing (s : State) a1 a2 a3 a4 : (State.nvmePost s a1 a2 a3 a4).standing = s.standing := by
  unfold State.nvmePost
  simp only [↓State.standing_mk, ↓State.standing_eta, ↓apply_ite State.standing, ite_self, ↓State.nvmeDeliver_standing]
theorem State.nsWrite_standing (s : State) a1 a2 a3 : (State.nsWrite s a1 a2 a3).standing = s.standing := by
  unfold State.nsWrite
  repeat' split
  all_goals rfl
theorem State.program_standing (s : State) a1 : (State.program s a1).standing = s.standing := by
  unfold State.program
  repeat' split
  all_goals simp only [↓State.standing_mk, ↓State.standing_eta, ↓State.nandRequest_standing]
theorem State.journalFlush_standing (s : State) : (State.journalFlush s).standing = s.standing := by
  unfold State.journalFlush
  simp only [↓State.standing_mk, ↓State.standing_eta, ↓apply_ite State.standing, ite_self, ↓State.program_standing]
theorem State.releaseFlushes_standing (s : State) : (State.releaseFlushes s).standing = s.standing := by
  unfold State.releaseFlushes
  repeat' (first
    | with_reducible rfl
    | simp only [↓State.standing_mk, ↓State.standing_eta, ↓apply_ite State.standing, ite_self, ↓State.nvmePost_standing,
        ↓State.journalFlush_standing]
      done
    | split
    | (with_reducible refine (foldl_standing _ _ _ (fun s a => ?_)).trans ?_)
    | simp only [↓State.standing_mk, ↓State.standing_eta, ↓apply_ite State.standing, ite_self, ↓State.nvmePost_standing,
        ↓State.journalFlush_standing])
theorem State.endWrite_standing (s : State) a1 : (State.endWrite s a1).standing = s.standing := by
  unfold State.endWrite
  simp only [↓State.standing_mk, ↓State.standing_eta, ↓apply_ite State.standing, ite_self, ↓State.nvmePost_standing,
      ↓State.releaseFlushes_standing]
theorem State.admitPiece_standing (s : State) : (State.admitPiece s).standing = s.standing := by
  unfold State.admitPiece
  repeat' split
  all_goals simp only [↓State.standing_mk, ↓State.standing_eta, ↓apply_ite State.standing, ite_self, ↓State.nvmePost_standing,
      ↓State.nsWrite_standing, ↓State.program_standing, ↓State.endWrite_standing]
theorem State.admitAll_standing a0 (s : State) : (State.admitAll a0 s).standing = s.standing := by
  induction a0 generalizing s with
  | zero => rfl
  | succ n ih =>
    unfold State.admitAll
    repeat' (first
      | simp only [↓apply_ite State.standing, ite_self, ↓State.admitPiece_standing, ih]
        done
      | split
      | simp only [↓apply_ite State.standing, ite_self, ↓State.admitPiece_standing, ih])
theorem State.advance_standing (s : State) a1 : (State.advance s a1).standing = s.standing := rfl
theorem State.dropParams_standing (s : State) a1 : (State.dropParams s a1).standing = s.standing := by
  unfold State.dropParams
  repeat' (first
    | with_reducible rfl
    | simp only [↓State.standing_mk, ↓State.standing_eta, ↓apply_ite State.standing, ite_self, ↓State.freeChain_standing,
        ↓State.setJob_standing]
      done
    | split
    | (with_reducible refine (foldl_standing _ _ _ (fun s a => ?_)).trans ?_)
    | simp only [↓State.standing_mk, ↓State.standing_eta, ↓apply_ite State.standing, ite_self, ↓State.freeChain_standing,
        ↓State.setJob_standing])
theorem State.advanceCursor_standing a0 a1 (s : State) : (State.advanceCursor a0 a1 s).standing = s.standing := by
  induction a1 generalizing s with
  | zero => rfl
  | succ n ih =>
    unfold State.advanceCursor
    repeat' (first
      | simp only [↓State.standing_mk, ↓State.standing_eta, ↓apply_ite State.standing, ite_self, ↓State.releasePlan_standing,
          ↓State.setJob_standing, ↓State.dropParams_standing, ih]
        done
      | split
      | simp only [↓State.standing_mk, ↓State.standing_eta, ↓apply_ite State.standing, ite_self, ↓State.releasePlan_standing,
          ↓State.setJob_standing, ↓State.dropParams_standing, ih])
theorem State.emitAll_standing (s : State) a1 : (State.emitAll s a1).standing = s.standing := rfl
theorem State.advancePlan_standing a0 a1 a2 (s : State) : (State.advancePlan a0 a1 a2 s).standing = s.standing := by
  induction a2 generalizing s with
  | zero => rfl
  | succ n ih =>
    unfold State.advancePlan
    repeat' (first
      | simp only [↓State.standing_mk, ↓State.standing_eta, ↓State.setJob_standing, ↓State.complete_standing, ↓State.finishAll_standing,
          ↓State.abandonPlan_standing, ↓State.emitAll_standing, ih]
        done
      | split
      | simp only [↓State.standing_mk, ↓State.standing_eta, ↓State.setJob_standing, ↓State.complete_standing, ↓State.finishAll_standing,
          ↓State.abandonPlan_standing, ↓State.emitAll_standing, ih])
theorem State.mapChange_standing (s : State) a1 a2 : (State.mapChange s a1 a2).standing = s.standing := by
  unfold State.mapChange
  repeat' split
  all_goals rfl
theorem State.pieceDone_standing (s : State) a1 : (State.pieceDone s a1).standing = s.standing := by
  unfold State.pieceDone
  repeat' (first
    | simp only [↓State.standing_mk, ↓State.standing_eta, ↓State.bump64_standing, ↓State.releaseFlushes_standing, ↓State.mapChange_standing]
      done
    | split
    | simp only [↓State.standing_mk, ↓State.standing_eta, ↓State.bump64_standing, ↓State.releaseFlushes_standing,
        ↓State.mapChange_standing])
theorem State.allDone_standing (s : State) : (State.allDone s).standing = s.standing := by
  unfold State.allDone
  repeat' (first
    | with_reducible rfl
    | simp only [↓State.pieceDone_standing]
      done
    | split
    | (with_reducible refine (foldl_standing _ _ _ (fun s a => ?_)).trans ?_)
    | simp only [↓State.pieceDone_standing])
theorem State.applyHold_standing (s : State) : (State.applyHold s).standing = s.standing := by
  unfold State.applyHold
  repeat' split
  all_goals rfl
theorem State.arrive_standing {s a1 a2 a3 x t} (h : State.arrive s a1 a2 a3 = (x, t)) : t.standing = s.standing := by
  unfold State.arrive at h
  (try dsimp only at h)
  repeat' (split at h)
  all_goals cases h
  repeat' (first
    | with_reducible rfl
    | simp only [↓State.standing_mk, ↓State.standing_eta, ↓apply_ite State.standing, ite_self, ↓State.post_standing]
      done
    | split
    | (with_reducible refine (foldl_standing _ _ _ (fun s a => ?_)).trans ?_)
    | simp only [↓State.standing_mk, ↓State.standing_eta, ↓apply_ite State.standing, ite_self, ↓State.post_standing])
theorem State.arrive_snd (s a1 a2 a3) : (State.arrive s a1 a2 a3).2.standing = s.standing := State.arrive_standing (t := (State.arrive s a1 a2 a3).2) (x := (State.arrive s a1 a2 a3).1) rfl
theorem State.updSample_standing (s : State) a1 a2 : (State.updSample s a1 a2).standing = s.standing := rfl
theorem State.returnResv_standing (s : State) a1 a2 : (State.returnResv s a1 a2).standing = s.standing := by
  unfold State.returnResv
  simp only [↓State.standing_mk, ↓State.standing_eta, ↓State.setPool_standing, ↓State.poolChanged_standing]
theorem State.requestTokens_standing (s : State) a1 a2 : (State.requestTokens s a1 a2).standing = s.standing := rfl
theorem State.postWork_standing (s : State) a1 : (State.postWork s a1).standing = s.standing := by
  unfold State.postWork
  simp only [↓State.standing_mk, ↓State.standing_eta, ↓apply_ite State.standing, ite_self, ↓State.updDomain_standing,
      ↓State.requestTokens_standing]
theorem State.assign_standing (s : State) a1 a2 a3 : (State.assign s a1 a2 a3).standing = s.standing := by
  unfold State.assign
  repeat' split
  all_goals simp only [↓State.standing_mk, ↓State.standing_eta, ↓apply_ite State.standing, ite_self, ↓State.abortSlices_standing,
      ↓State.requestTokens_standing, ↓State.postWork_standing]
theorem State.schedule_standing (s : State) a1 : (State.schedule s a1).standing = s.standing := by
  unfold State.schedule
  repeat' (first
    | with_reducible rfl
    | simp only [↓apply_ite State.standing, ite_self, ↓State.assign_standing]
      done
    | split
    | (with_reducible refine (foldl_standing _ _ _ (fun s a => ?_)).trans ?_)
    | simp only [↓apply_ite State.standing, ite_self, ↓State.assign_standing])
theorem State.dropSample_standing (s : State) a1 : (State.dropSample s a1).standing = s.standing := by
  unfold State.dropSample
  repeat' (first
    | with_reducible rfl
    | simp only [↓State.standing_mk, ↓State.standing_eta, ↓State.freeChain_standing, ↓State.release_standing, ↓State.returnResv_standing,
        ↓State.schedule_standing]
      done
    | split
    | (with_reducible refine (foldl_standing _ _ _ (fun s a => ?_)).trans ?_)
    | simp only [↓State.standing_mk, ↓State.standing_eta, ↓State.freeChain_standing, ↓State.release_standing, ↓State.returnResv_standing,
        ↓State.schedule_standing])
theorem State.stopSample_standing (s : State) a1 a2 a3 : (State.stopSample s a1 a2 a3).standing = s.standing := by
  unfold State.stopSample
  repeat' split
  all_goals simp only [↓State.raise_standing, ↓State.stopJob_standing, ↓State.dropSample_standing]
theorem State.unrecoverable_standing (s : State) a1 : (State.unrecoverable s a1).standing = s.standing := by
  unfold State.unrecoverable
  simp only [↓State.stopSample_standing]
theorem State.askReplica_standing (s : State) a1 a2 : (State.askReplica s a1 a2).standing = s.standing := by
  unfold State.askReplica
  repeat' split
  all_goals simp only [↓State.standing_mk, ↓State.standing_eta, ↓State.bump_standing, ↓State.emit_standing, ↓State.updSample_standing,
      ↓State.unrecoverable_standing]
theorem State.freeOwner_standing (s : State) a1 a2 : (State.freeOwner s a1 a2).standing = s.standing := by
  unfold State.freeOwner
  repeat' (first
    | with_reducible rfl
    | simp only [↓State.freeChain_standing]
      done
    | split
    | (with_reducible refine (foldl_standing _ _ _ (fun s a => ?_)).trans ?_)
    | simp only [↓State.freeChain_standing])
theorem State.auditEnds_standing (s : State) a1 : (State.auditEnds s a1).standing = s.standing := by
  unfold State.auditEnds
  repeat' (first
    | with_reducible rfl
    | simp only [↓State.standing_mk, ↓State.standing_eta, ↓apply_ite State.standing, ite_self, ↓State.emit_standing,
        ↓State.raise_standing, ↓State.finish_standing, ↓State.freeOwner_standing]
      done
    | split
    | (with_reducible refine (foldl_standing _ _ _ (fun s a => ?_)).trans ?_)
    | simp only [↓State.standing_mk, ↓State.standing_eta, ↓apply_ite State.standing, ite_self, ↓State.emit_standing,
        ↓State.raise_standing, ↓State.finish_standing, ↓State.freeOwner_standing])
theorem State.startAudit_standing (s : State) a1 a2 a3 : (State.startAudit s a1 a2 a3).standing = s.standing := rfl
theorem State.auditGo_standing (s : State) a1 : (State.auditGo s a1).standing = s.standing := by
  unfold State.auditGo
  simp only [↓apply_ite State.standing, ite_self, ↓State.startAudit_standing]
theorem State.badParam_standing (s : State) a1 : (State.badParam s a1).standing = s.standing := by
  unfold State.badParam
  simp only [↓State.stopSample_standing]
theorem State.badRef_standing (s : State) a1 : (State.badRef s a1).standing = s.standing := by
  unfold State.badRef
  simp only [↓State.bump_standing, ↓State.raise_standing]
theorem State.stageFault_standing (s : State) a1 : (State.stageFault s a1).standing = s.standing := by
  unfold State.stageFault
  simp only [↓State.stopSample_standing]
theorem State.refuseStage_standing (s : State) a1 a2 : (State.refuseStage s a1 a2).standing = s.standing := by
  unfold State.refuseStage
  simp only [↓State.standing_mk, ↓State.standing_eta, ↓apply_ite State.standing, ite_self, ↓State.release_standing,
      ↓State.updSample_standing, ↓State.schedule_standing, ↓State.stageFault_standing]
theorem State.bankRefusal_standing (s : State) a1 a2 a3 a4 : (State.bankRefusal s a1 a2 a3 a4).standing = s.standing := by
  unfold State.bankRefusal
  simp only [↓apply_ite State.standing, ite_self, ↓State.bump_standing, ↓State.raise_standing, ↓State.refuseStage_standing]
theorem State.endSamples_standing (s : State) a1 : (State.endSamples s a1).standing = s.standing := by
  unfold State.endSamples
  repeat' (first
    | with_reducible rfl
    | simp only [↓State.standing_mk, ↓State.standing_eta, ↓apply_ite State.standing, ite_self, ↓State.release_standing,
        ↓State.returnResv_standing]
      done
    | split
    | (with_reducible refine (foldl_standing _ _ _ (fun s a => ?_)).trans ?_)
    | simp only [↓State.standing_mk, ↓State.standing_eta, ↓apply_ite State.standing, ite_self, ↓State.release_standing,
        ↓State.returnResv_standing])
theorem State.markLeft_standing (s : State) a1 : (State.markLeft s a1).standing = s.standing := rfl
theorem State.dropJob_standing (s : State) a1 : (State.dropJob s a1).standing = s.standing := by
  unfold State.dropJob
  repeat' (first
    | with_reducible rfl
    | simp only [↓State.standing_mk, ↓State.standing_eta, ↓apply_ite State.standing, ite_self, ↓State.releasePlan_standing,
        ↓State.markLeft_standing, ↓State.endSamples_standing]
      done
    | split
    | (with_reducible refine (foldl_standing _ _ _ (fun s a => ?_)).trans ?_)
    | simp only [↓State.standing_mk, ↓State.standing_eta, ↓apply_ite State.standing, ite_self, ↓State.releasePlan_standing,
        ↓State.markLeft_standing, ↓State.endSamples_standing])
theorem State.releaseWaiters_standing (s : State) a1 : (State.releaseWaiters s a1).standing = s.standing := by
  unfold State.releaseWaiters
  repeat' split
  all_goals simp only [↓apply_ite State.standing, ite_self, ↓State.finishAll_standing]
theorem State.leaveJobs_standing (s : State) : (State.leaveJobs s).standing = s.standing := by
  unfold State.leaveJobs
  repeat' (first
    | with_reducible rfl
    | simp only [↓State.dropJob_standing, ↓State.releaseWaiters_standing]
      done
    | split
    | (with_reducible refine (foldl_standing _ _ _ (fun s a => ?_)).trans ?_)
    | simp only [↓State.dropJob_standing, ↓State.releaseWaiters_standing])
theorem State.beginActivation_standing (s : State) a1 : (State.beginActivation s a1).standing = s.standing := by
  unfold State.beginActivation
  simp only [↓State.standing_mk, ↓State.standing_eta, ↓apply_ite State.standing, ite_self, ↓State.allDone_standing,
      ↓State.leaveJobs_standing]
theorem State.beginBankMove_standing (s : State) a1 a2 a3 : (State.beginBankMove s a1 a2 a3).standing = s.standing := rfl
theorem State.updTile_standing (s : State) a1 a2 : (State.updTile s a1 a2).standing = s.standing := rfl
theorem State.beginDrain_standing (s : State) a1 : (State.beginDrain s a1).standing = s.standing := rfl
theorem State.beginFlush_standing (s : State) a1 : (State.beginFlush s a1).standing = s.standing := rfl
theorem State.beginHandover_standing (s : State) a1 a2 a3 a4 : (State.beginHandover s a1 a2 a3 a4).standing = s.standing := rfl
theorem State.beginRun_standing (s : State) a1 a2 : (State.beginRun s a1 a2).standing = s.standing := rfl
theorem State.bindGo_standing (s : State) a1 : (State.bindGo s a1).standing = s.standing := by
  unfold State.bindGo
  simp only [↓State.standing_mk, ↓State.standing_eta, ↓apply_ite State.standing, ite_self, ↓State.raise_standing]
theorem State.bindQp_standing (s : State) a1 : (State.bindQp s a1).standing = s.standing := rfl
theorem State.bootRecord_standing (s : State) a1 a2 : (State.bootRecord s a1 a2).standing = s.standing := rfl
theorem State.changeSettings_standing (s : State) a1 : (State.changeSettings s a1).standing = s.standing := rfl
theorem State.changeUnits_standing (s : State) a1 a2 a3 a4 : (State.changeUnits s a1 a2 a3 a4).standing = s.standing := by
  unfold State.changeUnits
  repeat' split
  all_goals simp only [↓State.standing_mk, ↓State.standing_eta, ↓State.mapChange_standing]
theorem State.chooseStep_standing (s : State) : (State.chooseStep s).standing = s.standing := by
  unfold State.chooseStep
  simp only [↓State.standing_mk, ↓State.standing_eta, ↓apply_ite State.standing, ite_self]
theorem State.updMonitor_standing (s : State) a1 a2 : (State.updMonitor s a1 a2).standing = s.standing := rfl
theorem State.sloeClock_standing (s : State) a1 : (State.sloeClock s a1).standing = s.standing := rfl
theorem State.ethDie_standing (s : State) a1 a2 : (State.ethDie s a1 a2).standing = s.standing := rfl
theorem State.updPort_standing (s : State) a1 a2 : (State.updPort s a1 a2).standing = s.standing := rfl
theorem State.serdesBack_standing (s : State) a1 : (State.serdesBack s a1).standing = s.standing := by
  unfold State.serdesBack
  repeat' (first
    | with_reducible rfl
    | simp only [↓State.standing_mk, ↓State.standing_eta, ↓apply_ite State.standing, ite_self, ↓State.updMonitor_standing,
        ↓State.ethDie_standing, ↓State.updPort_standing]
      done
    | split
    | (with_reducible refine (foldl_standing _ _ _ (fun s a => ?_)).trans ?_)
    | simp only [↓State.standing_mk, ↓State.standing_eta, ↓apply_ite State.standing, ite_self, ↓State.updMonitor_standing,
        ↓State.ethDie_standing, ↓State.updPort_standing])
theorem State.clockBack_standing (s : State) a1 : (State.clockBack s a1).standing = s.standing := by
  unfold State.clockBack
  repeat' split
  all_goals simp only [↓State.standing_mk, ↓State.standing_eta, ↓State.updMonitor_standing, ↓State.sloeClock_standing,
      ↓State.serdesBack_standing]
theorem State.hostLinkDown_standing (s : State) : (State.hostLinkDown s).standing = s.standing := rfl
theorem State.setShaper_standing (s : State) a1 a2 : (State.setShaper s a1 a2).standing = s.standing := rfl
theorem State.sendFrame_standing (s : State) a1 a2 : (State.sendFrame s a1 a2).standing = s.standing := by
  unfold State.sendFrame
  simp only [↓State.standing_mk, ↓State.standing_eta, ↓apply_ite State.standing, ite_self, ↓State.bump64_standing, ↓State.emit_standing,
      ↓State.updPort_standing]
theorem State.drain_standing a0 a1 (s : State) : (State.drain a0 a1 s).standing = s.standing := by
  induction a1 generalizing s with
  | zero => rfl
  | succ n ih =>
    unfold State.drain
    repeat' (first
      | simp only [↓State.setShaper_standing, ↓State.sendFrame_standing, ih]
        done
      | split
      | simp only [↓State.setShaper_standing, ↓State.sendFrame_standing, ih])
theorem State.serve_standing (s : State) a1 : (State.serve s a1).standing = s.standing := by
  unfold State.serve
  simp only [↓State.drain_standing]
theorem State.queueFrame_standing (s : State) a1 a2 : (State.queueFrame s a1 a2).standing = s.standing := by
  unfold State.queueFrame
  simp only [↓State.standing_mk, ↓State.standing_eta, ↓State.setShaper_standing, ↓State.serve_standing]
theorem State.reroute_standing (s : State) a1 : (State.reroute s a1).standing = s.standing := by
  unfold State.reroute
  repeat' (first
    | with_reducible rfl
    | simp only [↓State.standing_mk, ↓State.standing_eta, ↓State.updPort_standing, ↓State.setShaper_standing, ↓State.queueFrame_standing]
      done
    | split
    | (with_reducible refine (foldl_standing _ _ _ (fun s a => ?_)).trans ?_)
    | simp only [↓State.standing_mk, ↓State.standing_eta, ↓State.updPort_standing, ↓State.setShaper_standing, ↓State.queueFrame_standing])
theorem State.portStops_standing (s : State) a1 a2 : (State.portStops s a1 a2).standing = s.standing := by
  unfold State.portStops
  simp only [↓State.standing_mk, ↓State.standing_eta, ↓apply_ite State.standing, ite_self, ↓State.raise_standing,
      ↓State.updPort_standing, ↓State.reroute_standing]
theorem State.dieStops_standing (s : State) a1 a2 : (State.dieStops s a1 a2).standing = s.standing := by
  unfold State.dieStops
  repeat' (first
    | with_reducible rfl
    | simp only [↓apply_ite State.standing, ite_self, ↓State.ethDie_standing, ↓State.portStops_standing]
      done
    | split
    | (with_reducible refine (foldl_standing _ _ _ (fun s a => ?_)).trans ?_)
    | simp only [↓apply_ite State.standing, ite_self, ↓State.ethDie_standing, ↓State.portStops_standing])
theorem State.serdesLost_standing (s : State) a1 a2 : (State.serdesLost s a1 a2).standing = s.standing := by
  unfold State.serdesLost
  simp only [↓State.standing_mk, ↓State.standing_eta, ↓apply_ite State.standing, ite_self, ↓State.updMonitor_standing,
      ↓State.dieStops_standing]
theorem State.clockLost_standing (s : State) a1 a2 : (State.clockLost s a1 a2).standing = s.standing := by
  unfold State.clockLost
  repeat' split
  all_goals simp only [↓State.standing_mk, ↓State.standing_eta, ↓State.sloeClock_standing, ↓State.hostLinkDown_standing,
      ↓State.serdesLost_standing]
theorem State.closeWindow_standing (s : State) a1 a2 : (State.closeWindow s a1 a2).standing = s.standing := rfl
theorem State.closeMirror_standing (s : State) a1 a2 : (State.closeMirror s a1 a2).standing = s.standing := by
  unfold State.closeMirror
  repeat' split
  all_goals rfl
theorem State.commitGates_standing (s : State) a1 : (State.commitGates s a1).standing = s.standing := by
  unfold State.commitGates
  simp only [↓State.standing_mk, ↓State.standing_eta, ↓apply_ite State.standing, ite_self, ↓State.raise_standing, ↓State.setShaper_standing]
theorem State.noteConcealed_standing (s : State) a1 : (State.noteConcealed s a1).standing = s.standing := by
  unfold State.noteConcealed
  repeat' split
  all_goals simp only [↓State.standing_mk, ↓State.standing_eta, ↓apply_ite State.standing, ite_self, ↓State.raise_standing,
      ↓State.updSample_standing]
theorem State.enterStage_standing (s : State) a1 a2 : (State.enterStage s a1 a2).standing = s.standing := by
  unfold State.enterStage
  repeat' split
  all_goals simp only [↓State.standing_mk, ↓State.standing_eta, ↓apply_ite State.standing, ite_self, ↓State.updSample_standing,
      ↓State.schedule_standing]
theorem State.dropMember_standing (s : State) a1 a2 : (State.dropMember s a1 a2).standing = s.standing := by
  unfold State.dropMember
  simp only [↓State.standing_mk, ↓State.standing_eta, ↓State.addResolved_standing, ↓State.dropSample_standing]
theorem State.placeReserve_standing (s : State) a1 a2 a3 a4 a5 : (State.placeReserve s a1 a2 a3 a4 a5).standing = s.standing := by
  unfold State.placeReserve
  repeat' split
  all_goals simp only [↓State.standing_mk, ↓State.standing_eta, ↓apply_ite State.standing, ite_self, ↓State.addResolved_standing,
      ↓State.advanceCursor_standing, ↓State.updSample_standing, ↓State.schedule_standing, ↓State.dropSample_standing]
theorem State.tellPlacement_standing (s : State) a1 a2 a3 a4 a5 a6 : (State.tellPlacement s a1 a2 a3 a4 a5 a6).standing = s.standing := by
  unfold State.tellPlacement
  simp only [↓apply_ite State.standing, ite_self, ↓State.emit_standing, ↓State.placeReserve_standing]
theorem State.settleWith_standing (s : State) a1 a2 a3 a4 a5 a6 a7 : (State.settleWith s a1 a2 a3 a4 a5 a6 a7).standing = s.standing := by
  unfold State.settleWith
  repeat' (first
    | with_reducible rfl
    | simp only [↓State.standing_mk, ↓State.standing_eta, ↓apply_ite State.standing, ite_self, ↓State.raise_standing,
        ↓State.addEmpty_standing, ↓State.stopJob_standing, ↓State.advanceCursor_standing, ↓State.tellPlacement_standing]
      done
    | split
    | (with_reducible refine (foldl_standing _ _ _ (fun s a => ?_)).trans ?_)
    | simp only [↓State.standing_mk, ↓State.standing_eta, ↓apply_ite State.standing, ite_self, ↓State.raise_standing,
        ↓State.addEmpty_standing, ↓State.stopJob_standing, ↓State.advanceCursor_standing, ↓State.tellPlacement_standing])
theorem State.settleBatch_standing (s : State) a1 a2 a3 : (State.settleBatch s a1 a2 a3).standing = s.standing := by
  unfold State.settleBatch
  repeat' split
  all_goals simp only [↓apply_ite State.standing, ite_self, ↓State.settleWith_standing]
theorem State.takeVerdict_standing (s : State) a1 a2 : (State.takeVerdict s a1 a2).standing = s.standing := by
  unfold State.takeVerdict
  simp only [↓State.standing_mk, ↓State.standing_eta, ↓State.settleBatch_standing]
theorem State.sendVerdict_standing (s : State) a1 a2 : (State.sendVerdict s a1 a2).standing = s.standing := by
  unfold State.sendVerdict
  repeat' split
  all_goals simp only [↓apply_ite State.standing, ite_self, ↓State.emit_standing, ↓State.takeVerdict_standing]
theorem State.judge_standing (s : State) a1 a2 : (State.judge s a1 a2).standing = s.standing := by
  unfold State.judge
  repeat' split
  all_goals simp only [↓State.standing_mk, ↓State.standing_eta, ↓apply_ite State.standing, ite_self, ↓State.advanceCursor_standing,
      ↓State.updSample_standing, ↓State.enterStage_standing, ↓State.dropMember_standing, ↓State.sendVerdict_standing]
theorem State.goStage_standing (s : State) a1 a2 a3 : (State.goStage s a1 a2 a3).standing = s.standing := by
  unfold State.goStage
  repeat' split
  all_goals simp only [↓apply_ite State.standing, ite_self, ↓State.enterStage_standing, ↓State.judge_standing]
theorem State.updWork_standing (s : State) a1 a2 : (State.updWork s a1 a2).standing = s.standing := rfl
theorem State.sizeMismatch_standing (s : State) a1 a2 : (State.sizeMismatch s a1 a2).standing = s.standing := by
  unfold State.sizeMismatch
  simp only [↓State.stopSample_standing]
theorem State.leaveStage_standing (s : State) a1 a2 a3 : (State.leaveStage s a1 a2 a3).standing = s.standing := by
  unfold State.leaveStage
  repeat' split
  all_goals simp only [↓apply_ite State.standing, ite_self, ↓State.noteConcealed_standing, ↓State.goStage_standing,
      ↓State.updWork_standing, ↓State.sizeMismatch_standing]
theorem State.transformEnds_standing (s : State) a1 a2 a3 : (State.transformEnds s a1 a2 a3).standing = s.standing := by
  unfold State.transformEnds
  repeat' split
  all_goals simp only [↓State.bump64_standing, ↓State.release_standing, ↓State.stopSample_standing, ↓State.badParam_standing,
      ↓State.updWork_standing, ↓State.sizeMismatch_standing, ↓State.leaveStage_standing]
theorem State.textEnds_standing (s : State) a1 a2 a3 : (State.textEnds s a1 a2 a3).standing = s.standing := by
  unfold State.textEnds
  repeat' split
  all_goals simp only [↓State.standing_mk, ↓State.standing_eta, ↓apply_ite State.standing, ite_self, ↓State.bump64_standing,
      ↓State.release_standing, ↓State.updWork_standing, ↓State.sizeMismatch_standing, ↓State.leaveStage_standing]
theorem State.scoreEnds_standing (s : State) a1 a2 a3 : (State.scoreEnds s a1 a2 a3).standing = s.standing := by
  unfold State.scoreEnds
  simp only [↓State.standing_mk, ↓State.standing_eta, ↓State.bump64_standing, ↓State.bump_standing, ↓State.release_standing,
      ↓State.updWork_standing, ↓State.leaveStage_standing]
theorem State.cxeCount_standing (s : State) a1 a2 a3 a4 : (State.cxeCount s a1 a2 a3 a4).standing = s.standing := by
  unfold State.cxeCount
  simp only [↓State.setCounter_standing, ↓State.bump64_standing]
theorem State.countFrc_standing (s : State) a1 a2 : (State.countFrc s a1 a2).standing = s.standing := by
  unfold State.countFrc
  repeat' split
  all_goals simp only [↓State.cxeCount_standing]
theorem State.finishSample_standing (s : State) a1 a2 a3 a4 a5 : (State.finishSample s a1 a2 a3 a4 a5).standing = s.standing := by
  unfold State.finishSample
  simp only [↓State.bump64_standing, ↓State.addReady_standing, ↓State.addResolved_standing, ↓State.advanceCursor_standing,
      ↓State.dropSample_standing]
theorem State.packEnds_standing (s : State) a1 a2 a3 : (State.packEnds s a1 a2 a3).standing = s.standing := by
  unfold State.packEnds
  repeat' split
  all_goals simp only [↓apply_ite State.standing, ite_self, ↓State.bump_standing, ↓State.stopSample_standing, ↓State.countFrc_standing,
      ↓State.finishSample_standing]
theorem State.computedEnds_standing (s : State) a1 a2 a3 : (State.computedEnds s a1 a2 a3).standing = s.standing := by
  unfold State.computedEnds
  repeat' split
  all_goals simp only [↓apply_ite State.standing, ite_self, ↓State.release_standing, ↓State.leaveStage_standing,
      ↓State.transformEnds_standing, ↓State.textEnds_standing, ↓State.scoreEnds_standing, ↓State.packEnds_standing]
theorem State.conflictOf_standing (s : State) a1 a2 a3 a4 : (State.conflictOf s a1 a2 a3 a4).standing = s.standing := by
  unfold State.conflictOf
  repeat' (first
    | simp only [↓State.standing_mk, ↓State.standing_eta, ↓apply_ite State.standing, ite_self, ↓State.raise_standing,
        ↓State.setJob_standing, ↓State.stopJob_standing]
      done
    | split
    | simp only [↓State.standing_mk, ↓State.standing_eta, ↓apply_ite State.standing, ite_self, ↓State.raise_standing,
        ↓State.setJob_standing, ↓State.stopJob_standing])
theorem State.reportDrops_standing (s : State) : (State.reportDrops s).standing = s.standing := by
  unfold State.reportDrops
  repeat' (first
    | with_reducible rfl
    | simp only [↓State.standing_mk, ↓State.standing_eta, ↓apply_ite State.standing, ite_self, ↓State.bump64_standing,
        ↓State.newRecord_standing]
      done
    | split
    | (with_reducible refine (foldl_standing _ _ _ (fun s a => ?_)).trans ?_)
    | simp only [↓State.standing_mk, ↓State.standing_eta, ↓apply_ite State.standing, ite_self, ↓State.bump64_standing,
        ↓State.newRecord_standing])
theorem State.consumeEvents_standing (s : State) a1 : (State.consumeEvents s a1).standing = s.standing := by
  unfold State.consumeEvents
  repeat' split
  all_goals simp only [↓State.standing_mk, ↓State.standing_eta, ↓State.reportDrops_standing]
theorem State.controllerReady_standing (s : State) : (State.controllerReady s).standing = s.standing := by
  unfold State.controllerReady
  simp only [↓State.standing_mk, ↓State.standing_eta, ↓apply_ite State.standing, ite_self]
theorem State.correct_standing (s : State) a1 : (State.correct s a1).standing = s.standing := rfl
theorem State.writeSetting_standing (s : State) a1 a2 : (State.writeSetting s a1 a2).standing = s.standing := rfl
theorem State.writeBypass_standing (s : State) a1 a2 : (State.writeBypass s a1 a2).standing = s.standing := by
  unfold State.writeBypass
  simp only [↓apply_ite State.standing, ite_self, ↓State.writeSetting_standing]
theorem State.endRun_standing (s : State) a1 : (State.endRun s a1).standing = s.standing := by
  unfold State.endRun
  simp only [↓apply_ite State.standing, ite_self, ↓State.raise_standing, ↓State.finish_standing, ↓State.schedule_standing,
      ↓State.startAudit_standing, ↓State.updTile_standing, ↓State.writeBypass_standing]
theorem State.countRuns_standing (s : State) a1 a2 : (State.countRuns s a1 a2).standing = s.standing := by
  unfold State.countRuns
  repeat' (first
    | with_reducible rfl
    | simp only [↓State.standing_mk, ↓State.standing_eta, ↓apply_ite State.standing, ite_self, ↓State.endRun_standing]
      done
    | split
    | (with_reducible refine (foldl_standing _ _ _ (fun s a => ?_)).trans ?_)
    | simp only [↓State.standing_mk, ↓State.standing_eta, ↓apply_ite State.standing, ite_self, ↓State.endRun_standing])
theorem State.nvDone_standing (s : State) a1 a2 a3 : (State.nvDone s a1 a2 a3).standing = s.standing := by
  unfold State.nvDone
  simp only [↓State.nvmePost_standing]
theorem State.createQueue_standing (s : State) a1 : (State.createQueue s a1).standing = s.standing := by
  unfold State.createQueue
  simp only [↓State.standing_mk, ↓State.standing_eta, ↓apply_ite State.standing, ite_self, ↓State.nvDone_standing]
theorem State.writeChain_standing (s : State) a1 a2 a3 : (State.writeChain s a1 a2 a3).standing = s.standing := by
  unfold State.writeChain
  repeat' split
  all_goals rfl
theorem State.cxeWrite_standing (s : State) a1 a2 : (State.cxeWrite s a1 a2).standing = s.standing := by
  unfold State.cxeWrite
  repeat' (first
    | with_reducible rfl
    | simp only [↓apply_ite State.standing, ite_self, ↓State.emit_standing, ↓State.writeChain_standing]
      done
    | split
    | (with_reducible refine (foldl_standing _ _ _ (fun s a => ?_)).trans ?_)
    | simp only [↓apply_ite State.standing, ite_self, ↓State.emit_standing, ↓State.writeChain_standing])
theorem State.leaveJob_standing (s : State) a1 : (State.leaveJob s a1).standing = s.standing := by
  unfold State.leaveJob
  repeat' (first
    | with_reducible rfl
    | simp only [↓State.releaseMirror_standing, ↓State.dropJob_standing, ↓State.releaseWaiters_standing, ↓State.closeMirror_standing]
      done
    | split
    | (with_reducible refine (foldl_standing _ _ _ (fun s a => ?_)).trans ?_)
    | simp only [↓State.releaseMirror_standing, ↓State.dropJob_standing, ↓State.releaseWaiters_standing, ↓State.closeMirror_standing])
theorem State.endIfQuiet_standing (s : State) a1 : (State.endIfQuiet s a1).standing = s.standing := by
  unfold State.endIfQuiet
  repeat' split
  all_goals simp only [↓apply_ite State.standing, ite_self, ↓State.finish_standing, ↓State.leaveJob_standing]
theorem State.finishCancels_standing (s : State) a1 : (State.finishCancels s a1).standing = s.standing := by
  unfold State.finishCancels
  repeat' split
  all_goals simp only [↓State.standing_mk, ↓State.standing_eta, ↓State.setJob_standing, ↓State.finishAll_standing]
theorem State.writesEnded_standing (s : State) a1 : (State.writesEnded s a1).standing = s.standing := by
  unfold State.writesEnded
  simp only [↓State.advanceCursor_standing, ↓State.endIfQuiet_standing, ↓State.finishCancels_standing]
theorem State.sendRoce_standing (s : State) a1 a2 a3 : (State.sendRoce s a1 a2 a3).standing = s.standing := by
  unfold State.sendRoce
  repeat' split
  all_goals simp only [↓State.queueFrame_standing]
theorem State.sendWord_standing (s : State) a1 a2 a3 a4 : (State.sendWord s a1 a2 a3 a4).standing = s.standing := by
  unfold State.sendWord
  simp only [↓State.sendRoce_standing]
theorem State.countEmpty_standing (s : State) a1 a2 a3 : (State.countEmpty s a1 a2 a3).standing = s.standing := by
  unfold State.countEmpty
  repeat' split
  all_goals rfl
theorem State.dataAcked_standing (s : State) a1 a2 a3 : (State.dataAcked s a1 a2 a3).standing = s.standing := by
  unfold State.dataAcked
  repeat' split
  all_goals simp only [↓State.standing_mk, ↓State.standing_eta, ↓apply_ite State.standing, ite_self, ↓State.setJob_standing,
      ↓State.writesEnded_standing, ↓State.sendWord_standing]
theorem State.deallocate_standing (s : State) a1 a2 a3 : (State.deallocate s a1 a2 a3).standing = s.standing := by
  unfold State.deallocate
  simp only [↓State.standing_mk, ↓State.standing_eta, ↓State.changeUnits_standing]
theorem State.decodeEnds_standing (s : State) a1 a2 a3 a4 a5 a6 a7 a8 : (State.decodeEnds s a1 a2 a3 a4 a5 a6 a7 a8).standing = s.standing := by
  unfold State.decodeEnds
  simp only [↓State.standing_mk, ↓State.standing_eta, ↓State.bump64_standing, ↓State.release_standing, ↓State.trimRefs_standing,
      ↓State.updSample_standing, ↓State.leaveStage_standing]
theorem State.deleteQueue_standing (s : State) a1 : (State.deleteQueue s a1).standing = s.standing := by
  unfold State.deleteQueue
  simp only [↓State.standing_mk, ↓State.standing_eta, ↓apply_ite State.standing, ite_self, ↓State.nvDone_standing]
theorem State.deliverEvents_standing (s : State) a1 a2 : (State.deliverEvents s a1 a2).standing = s.standing := by
  unfold State.deliverEvents
  simp only [↓State.standing_mk, ↓State.standing_eta, ↓apply_ite State.standing, ite_self, ↓State.emit_standing]
theorem State.domainsOff_standing (s : State) a1 : (State.domainsOff s a1).standing = s.standing := rfl
theorem State.domainsOn_standing (s : State) a1 : (State.domainsOn s a1).standing = s.standing := by
  unfold State.domainsOn
  repeat' (first
    | with_reducible rfl
    | simp only [↓State.standing_mk, ↓State.standing_eta, ↓State.updDomain_standing]
      done
    | split
    | (with_reducible refine (foldl_standing _ _ _ (fun s a => ?_)).trans ?_)
    | simp only [↓State.standing_mk, ↓State.standing_eta, ↓State.updDomain_standing])
theorem State.setService_standing (s : State) a1 a2 : (State.setService s a1 a2).standing = s.standing := rfl
theorem State.liveRap_standing (s : State) a1 a2 : (State.liveRap s a1 a2).standing = s.standing := by
  unfold State.liveRap
  repeat' split
  all_goals rfl
theorem State.liveLoss_standing (s : State) a1 a2 : (State.liveLoss s a1 a2).standing = s.standing := by
  unfold State.liveLoss
  simp only [↓apply_ite State.standing, ite_self, ↓State.bump_standing, ↓State.raise_standing]
theorem State.livePacket_standing (s : State) a1 a2 a3 : (State.livePacket s a1 a2 a3).standing = s.standing := by
  unfold State.livePacket
  repeat' (first
    | simp only [↓State.standing_mk, ↓State.standing_eta, ↓apply_ite State.standing, ite_self, ↓State.bump64_standing,
        ↓State.setService_standing, ↓State.liveRap_standing, ↓State.liveLoss_standing]
      done
    | split
    | simp only [↓State.standing_mk, ↓State.standing_eta, ↓apply_ite State.standing, ite_self, ↓State.bump64_standing,
        ↓State.setService_standing, ↓State.liveRap_standing, ↓State.liveLoss_standing])
theorem State.liveBurst_standing (s : State) a1 a2 a3 : (State.liveBurst s a1 a2 a3).standing = s.standing := by
  unfold State.liveBurst
  repeat' (first
    | with_reducible rfl
    | simp only [↓State.livePacket_standing]
      done
    | split
    | (with_reducible refine (foldl_standing _ _ _ (fun s a => ?_)).trans ?_)
    | simp only [↓State.livePacket_standing])
theorem State.drainWindow_standing a0 a1 (s : State) : (State.drainWindow a0 a1 s).standing = s.standing := by
  induction a1 generalizing s with
  | zero => rfl
  | succ n ih =>
    unfold State.drainWindow
    repeat' (first
      | simp only [↓State.standing_mk, ↓State.standing_eta, ↓State.setService_standing, ↓State.liveBurst_standing, ih]
        done
      | split
      | simp only [↓State.standing_mk, ↓State.standing_eta, ↓State.setService_standing, ↓State.liveBurst_standing, ih])
theorem State.draw_standing {s a1 x t} (h : State.draw s a1 = (x, t)) : t.standing = s.standing := by
  unfold State.draw at h
  (try dsimp only at h)
  repeat' (split at h)
  all_goals cases h
  repeat' (first
    | with_reducible rfl
    | simp only [↓State.standing_mk, ↓State.standing_eta, ↓apply_ite State.standing, ite_self]
      done
    | split
    | (with_reducible refine (foldl_standing _ _ _ (fun s a => ?_)).trans ?_)
    | simp only [↓State.standing_mk, ↓State.standing_eta, ↓apply_ite State.standing, ite_self])
theorem State.draw_snd (s a1) : (State.draw s a1).2.standing = s.standing := State.draw_standing (t := (State.draw s a1).2) (x := (State.draw s a1).1) rfl
theorem State.dropRef_standing (s : State) a1 : (State.dropRef s a1).standing = s.standing := by
  unfold State.dropRef
  repeat' split
  all_goals simp only [↓State.standing_mk, ↓State.standing_eta, ↓apply_ite State.standing, ite_self, ↓State.raise_standing,
      ↓State.freeChain_standing]
theorem State.emptyRefs_standing (s : State) a1 : (State.emptyRefs s a1).standing = s.standing := by
  unfold State.emptyRefs
  simp only [↓State.standing_mk, ↓State.standing_eta, ↓State.dropRefs_standing]
theorem State.emptyCache_standing (s : State) a1 : (State.emptyCache s a1).standing = s.standing := by
  unfold State.emptyCache
  simp only [↓apply_ite State.standing, ite_self, ↓State.emptyRefs_standing]
theorem State.endTrial_standing (s : State) : (State.endTrial s).standing = s.standing := by
  unfold State.endTrial
  simp only [↓State.standing_mk, ↓State.standing_eta, ↓apply_ite State.standing, ite_self, ↓State.raise_standing]
theorem State.refreshWarning_standing (s : State) : (State.refreshWarning s).standing = s.standing := by
  unfold State.refreshWarning
  repeat' (first
    | simp only [↓State.standing_mk, ↓State.standing_eta, ↓apply_ite State.standing, ite_self, ↓State.nvmePost_standing]
      done
    | split
    | simp only [↓State.standing_mk, ↓State.standing_eta, ↓apply_ite State.standing, ite_self, ↓State.nvmePost_standing])
theorem State.measureHoldup_standing (s : State) : (State.measureHoldup s).standing = s.standing := by
  unfold State.measureHoldup
  simp only [↓State.standing_mk, ↓State.standing_eta, ↓apply_ite State.standing, ite_self, ↓State.raise_standing,
      ↓State.refreshWarning_standing]
theorem State.endBankMove_standing (s : State) a1 a2 : (State.endBankMove s a1 a2).standing = s.standing := by
  unfold State.endBankMove
  repeat' (first
    | simp only [↓State.standing_mk, ↓State.standing_eta, ↓apply_ite State.standing, ite_self, ↓State.setBank_standing,
        ↓State.clearBank_standing]
      done
    | split
    | simp only [↓State.standing_mk, ↓State.standing_eta, ↓apply_ite State.standing, ite_self, ↓State.setBank_standing,
        ↓State.clearBank_standing])
theorem State.endFallback_standing (s : State) : (State.endFallback s).standing = s.standing := by
  unfold State.endFallback
  repeat' split
  all_goals rfl
theorem State.sealMedia_standing (s : State) : (State.sealMedia s).standing = s.standing := by
  unfold State.sealMedia
  simp only [↓State.standing_mk, ↓State.standing_eta, ↓State.journalFlush_standing, ↓State.allDone_standing]
theorem State.endFlush_standing (s : State) : (State.endFlush s).standing = s.standing := by
  unfold State.endFlush
  simp only [↓State.standing_mk, ↓State.standing_eta, ↓State.raise_standing, ↓State.sealMedia_standing]
theorem State.endForwarded_standing (s : State) a1 a2 : (State.endForwarded s a1 a2).standing = s.standing := by
  unfold State.endForwarded
  simp only [↓State.standing_mk, ↓State.standing_eta, ↓State.answer_standing]
theorem State.endHandover_standing (s : State) a1 a2 : (State.endHandover s a1 a2).standing = s.standing := by
  unfold State.endHandover
  repeat' (first
    | simp only [↓State.standing_mk, ↓State.standing_eta, ↓apply_ite State.standing, ite_self, ↓State.setBank_standing,
        ↓State.clearBank_standing]
      done
    | split
    | simp only [↓State.standing_mk, ↓State.standing_eta, ↓apply_ite State.standing, ite_self, ↓State.setBank_standing,
        ↓State.clearBank_standing])
theorem State.storeRead_standing (s : State) a1 a2 : (State.storeRead s a1 a2).standing = s.standing := by
  unfold State.storeRead
  simp only [↓apply_ite State.standing, ite_self, ↓State.emit_standing, ↓State.writeChain_standing]
theorem State.mirrorDone_standing (s : State) a1 : (State.mirrorDone s a1).standing = s.standing := by
  unfold State.mirrorDone
  repeat' split
  all_goals rfl
theorem State.mirrorFailed_standing (s : State) a1 : (State.mirrorFailed s a1).standing = s.standing := by
  unfold State.mirrorFailed
  repeat' split
  all_goals simp only [↓State.standing_mk, ↓State.standing_eta, ↓apply_ite State.standing, ite_self, ↓State.bump_standing,
      ↓State.raise_standing, ↓State.setJob_standing]
theorem State.endRequest_standing (s : State) a1 a2 a3 : (State.endRequest s a1 a2 a3).standing = s.standing := by
  unfold State.endRequest
  repeat' split
  all_goals simp only [↓State.standing_mk, ↓State.standing_eta, ↓apply_ite State.standing, ite_self, ↓State.finish_standing,
      ↓State.storeRead_standing, ↓State.mirrorDone_standing, ↓State.mirrorFailed_standing]
theorem State.markOut_standing (s : State) a1 a2 a3 : (State.markOut s a1 a2 a3).standing = s.standing := by
  unfold State.markOut
  simp only [↓State.abandonStages_standing, ↓State.abortSlices_standing, ↓State.schedule_standing, ↓State.updTile_standing,
      ↓State.writeBypass_standing]
theorem State.engineFault_standing (s : State) a1 a2 a3 : (State.engineFault s a1 a2 a3).standing = s.standing := by
  unfold State.engineFault
  simp only [↓apply_ite State.standing, ite_self, ↓State.raise_standing, ↓State.markOut_standing]
theorem State.evaluateHeld_standing (s : State) a1 : (State.evaluateHeld s a1).standing = s.standing := by
  unfold State.evaluateHeld
  simp only [↓State.standing_mk, ↓State.standing_eta, ↓apply_ite State.standing, ite_self, ↓State.bump_standing, ↓State.raise_standing]
theorem State.fetchEntry_standing (s : State) a1 a2 : (State.fetchEntry s a1 a2).standing = s.standing := by
  unfold State.fetchEntry
  simp only [↓State.standing_mk, ↓State.standing_eta, ↓apply_ite State.standing, ite_self, ↓State.setRing_standing,
      ↓State.complete_standing, ↓State.arrive_snd]
theorem State.unsupported_standing (s : State) a1 a2 : (State.unsupported s a1 a2).standing = s.standing := by
  unfold State.unsupported
  simp only [↓State.stopSample_standing]
theorem State.fetched_standing (s : State) a1 a2 : (State.fetched s a1 a2).standing = s.standing := by
  unfold State.fetched
  repeat' split
  all_goals simp only [↓State.standing_mk, ↓State.standing_eta, ↓apply_ite State.standing, ite_self, ↓State.updSample_standing,
      ↓State.leaveStage_standing, ↓State.writeChain_standing, ↓State.unsupported_standing]
theorem State.flowLost_standing (s : State) : (State.flowLost s).standing = s.standing := by
  unfold State.flowLost
  simp only [↓State.standing_mk, ↓State.standing_eta, ↓apply_ite State.standing, ite_self]
theorem State.journalEntry_standing (s : State) : (State.journalEntry s).standing = s.standing := rfl
theorem State.formatSpace_standing (s : State) a1 : (State.formatSpace s a1).standing = s.standing := by
  unfold State.formatSpace
  repeat' split
  all_goals simp only [↓State.standing_mk, ↓State.standing_eta, ↓State.releaseFlushes_standing, ↓State.journalEntry_standing]
theorem State.sendForward_standing (s : State) a1 a2 : (State.sendForward s a1 a2).standing = s.standing := rfl
theorem State.forward_standing (s : State) a1 a2 : (State.forward s a1 a2).standing = s.standing := by
  unfold State.forward
  repeat' (first
    | simp only [↓State.standing_mk, ↓State.standing_eta, ↓apply_ite State.standing, ite_self, ↓State.complete_standing,
        ↓State.sendForward_standing]
      done
    | split
    | simp only [↓State.standing_mk, ↓State.standing_eta, ↓apply_ite State.standing, ite_self, ↓State.complete_standing,
        ↓State.sendForward_standing])
theorem State.repairCodeword_standing (s : State) a1 a2 : (State.repairCodeword s a1 a2).standing = s.standing := by
  unfold State.repairCodeword
  repeat' split
  all_goals simp only [↓State.standing_mk, ↓State.standing_eta, ↓State.program_standing, ↓State.mapChange_standing]
theorem State.markBad_standing (s : State) a1 a2 : (State.markBad s a1 a2).standing = s.standing := rfl
theorem State.foundBad_standing (s : State) a1 : (State.foundBad s a1).standing = s.standing := by
  unfold State.foundBad
  repeat' (first
    | with_reducible rfl
    | simp only [↓State.standing_mk, ↓State.standing_eta, ↓apply_ite State.standing, ite_self, ↓State.bump_standing,
        ↓State.raise_standing, ↓State.raiseUncorrectable_standing, ↓State.repairCodeword_standing, ↓State.markBad_standing]
      done
    | split
    | (with_reducible refine (foldl_standing _ _ _ (fun s a => ?_)).trans ?_)
    | simp only [↓State.standing_mk, ↓State.standing_eta, ↓apply_ite State.standing, ite_self, ↓State.bump_standing,
        ↓State.raise_standing, ↓State.raiseUncorrectable_standing, ↓State.repairCodeword_standing, ↓State.markBad_standing])
theorem State.freeHeld_standing (s : State) a1 a2 a3 : (State.freeHeld s a1 a2 a3).standing = s.standing := by
  unfold State.freeHeld
  repeat' (first
    | with_reducible rfl
    | simp only [↓State.standing_mk, ↓State.standing_eta, ↓apply_ite State.standing, ite_self, ↓State.schedule_standing]
      done
    | split
    | (with_reducible refine (foldl_standing _ _ _ (fun s a => ?_)).trans ?_)
    | simp only [↓State.standing_mk, ↓State.standing_eta, ↓apply_ite State.standing, ite_self, ↓State.schedule_standing])
theorem State.regInvalid_standing (s : State) a1 a2 : (State.regInvalid s a1 a2).standing = s.standing := by
  unfold State.regInvalid
  simp only [↓State.raise_standing]
theorem State.gated_standing (s : State) a1 a2 (f : State → State) (hf : ∀ s,
    (f s).standing = s.standing) : (State.gated s a1 a2 f).standing = s.standing := by
  unfold State.gated
  simp only [↓apply_ite State.standing, ite_self, ↓State.regInvalid_standing, hf]
theorem State.growPlan_standing {s a1 a2 t} (h : State.growPlan s a1 a2 = some t) : t.standing = s.standing := by
  unfold State.growPlan at h
  (try dsimp only at h)
  repeat' (split at h)
  all_goals cases h
  repeat' (first
    | with_reducible rfl
    | simp only [↓State.standing_mk, ↓State.standing_eta, ↓apply_ite State.standing, ite_self, ↓State.releasePlan_standing,
        ↓State.setJob_standing]
      done
    | split
    | (with_reducible refine (foldl_standing _ _ _ (fun s a => ?_)).trans ?_)
    | simp only [State.allocate_standing ‹State.allocate _ _ _ _ _ = some (_, _)›]
    | simp only [↓State.standing_mk, ↓State.standing_eta, ↓apply_ite State.standing, ite_self, ↓State.releasePlan_standing,
        ↓State.setJob_standing])
theorem State.haltJob_standing (s : State) a1 : (State.haltJob s a1).standing = s.standing := by
  unfold State.haltJob
  repeat' (first
    | with_reducible rfl
    | simp only [↓State.standing_mk, ↓State.standing_eta, ↓State.setJob_standing, ↓State.schedule_standing, ↓State.endSamples_standing]
      done
    | split
    | (with_reducible refine (foldl_standing _ _ _ (fun s a => ?_)).trans ?_)
    | simp only [↓State.standing_mk, ↓State.standing_eta, ↓State.setJob_standing, ↓State.schedule_standing, ↓State.endSamples_standing])
theorem State.holdRef_standing (s : State) a1 a2 a3 : (State.holdRef s a1 a2 a3).standing = s.standing := rfl
theorem State.insertRef_standing (s : State) a1 a2 a3 : (State.insertRef s a1 a2 a3).standing = s.standing := by
  unfold State.insertRef
  repeat' (first
    | with_reducible rfl
    | simp only [↓State.standing_mk, ↓State.standing_eta, ↓apply_ite State.standing, ite_self]
      done
    | split
    | (with_reducible refine (foldl_standing _ _ _ (fun s a => ?_)).trans ?_)
    | simp only [State.allocate_standing ‹State.allocate _ _ _ _ _ = some (_, _)›]
    | simp only [↓State.standing_mk, ↓State.standing_eta, ↓apply_ite State.standing, ite_self])
theorem State.interruptRecoveries_standing (s : State) : (State.interruptRecoveries s).standing = s.standing := by
  unfold State.interruptRecoveries
  repeat' (first
    | with_reducible rfl
    | simp only [↓State.abandonRecovery_standing]
      done
    | split
    | (with_reducible refine (foldl_standing _ _ _ (fun s a => ?_)).trans ?_)
    | simp only [↓State.abandonRecovery_standing])
theorem State.portDone_standing (s : State) a1 : (State.portDone s a1).standing = s.standing := by
  unfold State.portDone
  repeat' split
  all_goals simp only [↓State.standing_mk, ↓State.standing_eta, ↓State.finish_standing, ↓State.updPort_standing]
theorem State.laneDone_standing (s : State) a1 a2 : (State.laneDone s a1 a2).standing = s.standing := by
  unfold State.laneDone
  simp only [↓State.standing_mk, ↓State.standing_eta, ↓State.updPort_standing, ↓State.portDone_standing]
theorem State.latchOnly_standing (s : State) a1 a2 a3 : (State.latchOnly s a1 a2 a3).standing = s.standing := rfl
theorem State.latchStop_standing (s : State) : (State.latchStop s).standing = s.standing := rfl
theorem State.loadServices_standing (s : State) : (State.loadServices s).standing = s.standing := by
  unfold State.loadServices
  simp only [↓State.standing_mk, ↓State.standing_eta]
theorem State.toRanks_standing (s : State) a1 a2 a3 a4 : (State.toRanks s a1 a2 a3 a4).standing = s.standing := rfl
theorem State.loseDevice_standing (s : State) a1 a2 a3 : (State.loseDevice s a1 a2 a3).standing = s.standing := by
  unfold State.loseDevice
  repeat' (first
    | with_reducible rfl
    | simp only [↓apply_ite State.standing, ite_self, ↓State.abandonPlan_standing, ↓State.toRanks_standing]
      done
    | split
    | (with_reducible refine (foldl_standing _ _ _ (fun s a => ?_)).trans ?_)
    | simp only [↓apply_ite State.standing, ite_self, ↓State.abandonPlan_standing, ↓State.toRanks_standing])
theorem State.loseGroup_standing (s : State) a1 a2 a3 : (State.loseGroup s a1 a2 a3).standing = s.standing := by
  unfold State.loseGroup
  simp only [↓State.standing_mk, ↓State.standing_eta, ↓State.setPool_standing, ↓State.poolBanks_standing, ↓State.poolChanged_standing]
theorem State.loseRequests_standing (s : State) a1 : (State.loseRequests s a1).standing = s.standing := by
  unfold State.loseRequests
  repeat' (first
    | with_reducible rfl
    | simp only [↓State.endRequest_standing]
      done
    | split
    | (with_reducible refine (foldl_standing _ _ _ (fun s a => ?_)).trans ?_)
    | simp only [↓State.endRequest_standing])
theorem State.mctpRefused_standing (s : State) a1 a2 : (State.mctpRefused s a1 a2).standing = s.standing := by
  unfold State.mctpRefused
  simp only [↓State.emit_standing, ↓State.regInvalid_standing]
theorem State.sendRequest_standing (s : State) a1 a2 a3 : (State.sendRequest s a1 a2 a3).standing = s.standing := rfl
theorem State.mirrorCursor_standing (s : State) a1 a2 a3 a4 : (State.mirrorCursor s a1 a2 a3 a4).standing = s.standing := by
  unfold State.mirrorCursor
  simp only [↓State.standing_mk, ↓State.standing_eta, ↓State.setJob_standing, ↓State.sendRequest_standing]
theorem State.mirrorInterval_standing (s : State) a1 : (State.mirrorInterval s a1).standing = s.standing := by
  unfold State.mirrorInterval
  repeat' split
  all_goals simp only [↓apply_ite State.standing, ite_self, ↓State.mirrorFailed_standing, ↓State.mirrorCursor_standing]
theorem State.networkImage_standing (s : State) a1 : (State.networkImage s a1).standing = s.standing := by
  unfold State.networkImage
  simp only [↓apply_ite State.standing, ite_self, ↓State.writeSetting_standing]
theorem State.updEth_standing (s : State) a1 a2 : (State.updEth s a1 a2).standing = s.standing := rfl
theorem State.networkSet_standing (s : State) a1 : (State.networkSet s a1).standing = s.standing := by
  unfold State.networkSet
  repeat' split
  all_goals rfl
theorem State.newNonce_standing (s : State) : (State.newNonce s).standing = s.standing := rfl
theorem State.noteAsleep_standing (s : State) a1 : (State.noteAsleep s a1).standing = s.standing := by
  unfold State.noteAsleep
  simp only [↓State.standing_mk, ↓State.standing_eta, ↓apply_ite State.standing, ite_self]
theorem State.noteCool_standing (s : State) : (State.noteCool s).standing = s.standing := by
  unfold State.noteCool
  simp only [↓State.standing_mk, ↓State.standing_eta, ↓apply_ite State.standing, ite_self]
theorem State.noteLost_standing (s : State) a1 : (State.noteLost s a1).standing = s.standing := by
  unfold State.noteLost
  simp only [↓State.standing_mk, ↓State.standing_eta, ↓apply_ite State.standing, ite_self, ↓State.loseRequests_standing]
theorem State.nvmeDsm_standing (s : State) a1 : (State.nvmeDsm s a1).standing = s.standing := by
  unfold State.nvmeDsm
  repeat' (first
    | with_reducible rfl
    | simp only [↓apply_ite State.standing, ite_self, ↓State.nvDone_standing, ↓State.deallocate_standing]
      done
    | split
    | (with_reducible refine (foldl_standing _ _ _ (fun s a => ?_)).trans ?_)
    | simp only [↓apply_ite State.standing, ite_self, ↓State.nvDone_standing, ↓State.deallocate_standing])
theorem State.nvmeFlush_standing (s : State) a1 : (State.nvmeFlush s a1).standing = s.standing := by
  unfold State.nvmeFlush
  simp only [↓State.standing_mk, ↓State.standing_eta, ↓apply_ite State.standing, ite_self, ↓State.releaseFlushes_standing,
      ↓State.nvDone_standing]
theorem State.nvmeWrite_standing (s : State) a1 : (State.nvmeWrite s a1).standing = s.standing := by
  unfold State.nvmeWrite
  repeat' split
  all_goals simp only [↓State.standing_mk, ↓State.standing_eta, ↓State.admitAll_standing, ↓State.nvDone_standing]
theorem State.nvmeRead_standing (s : State) a1 : (State.nvmeRead s a1).standing = s.standing := by
  unfold State.nvmeRead
  repeat' split
  all_goals simp only [↓apply_ite State.standing, ite_self, ↓State.emit_standing, ↓State.mediaRead_standing, ↓State.nvDone_standing]
theorem State.nvmeWriteZeroes_standing (s : State) a1 : (State.nvmeWriteZeroes s a1).standing = s.standing := by
  unfold State.nvmeWriteZeroes
  repeat' split
  all_goals simp only [↓apply_ite State.standing, ite_self, ↓State.journalFlush_standing, ↓State.changeUnits_standing,
      ↓State.nvDone_standing]
theorem State.nvmeVerify_standing (s : State) a1 : (State.nvmeVerify s a1).standing = s.standing := by
  unfold State.nvmeVerify
  repeat' split
  all_goals simp only [↓apply_ite State.standing, ite_self, ↓State.mediaRead_standing, ↓State.nvDone_standing]
theorem State.nvmeIo_standing (s : State) a1 : (State.nvmeIo s a1).standing = s.standing := by
  unfold State.nvmeIo
  repeat' split
  all_goals simp only [↓State.nvDone_standing, ↓State.nvmeDsm_standing, ↓State.nvmeFlush_standing, ↓State.nvmeWrite_standing,
      ↓State.nvmeRead_standing, ↓State.nvmeWriteZeroes_standing, ↓State.nvmeVerify_standing]
theorem State.setDomain_standing (s : State) a1 a2 : (State.setDomain s a1 a2).standing = s.standing := rfl
theorem State.nvmeReset_standing (s : State) a1 : (State.nvmeReset s a1).standing = s.standing := by
  unfold State.nvmeReset
  simp only [↓State.standing_mk, ↓State.standing_eta, ↓apply_ite State.standing, ite_self, ↓State.abortSelftest_standing,
      ↓State.setDomain_standing]
theorem State.nvmeRun_standing (s : State) a1 a2 (f : State → State) (hf : ∀ s,
    (f s).standing = s.standing) : (State.nvmeRun s a1 a2 f).standing = s.standing := by
  unfold State.nvmeRun
  repeat' split
  all_goals simp only [↓State.standing_mk, ↓State.standing_eta, ↓apply_ite State.standing, ite_self, ↓State.nvDone_standing, hf]
theorem State.oldestDone_standing (s : State) : (State.oldestDone s).standing = s.standing := by
  unfold State.oldestDone
  repeat' split
  all_goals simp only [↓State.pieceDone_standing]
theorem State.openMirror_standing {s jobId dev x t} (h : State.openMirror s jobId dev = some (x, t)) : t.standing = s.standing := by
  unfold State.openMirror at h
  split at h
  · next ha =>
    cases h
    simp only [↓State.standing_mk, ↓State.standing_eta, ↓State.draw_snd, State.allocate_standing ha]
  · cases h
theorem State.placeJob_standing (s : State) a1 : (State.placeJob s a1).standing = s.standing := by
  unfold State.placeJob
  repeat' split
  all_goals rfl
theorem State.poison_standing (s : State) a1 a2 a3 : (State.poison s a1 a2 a3).standing = s.standing := by
  unfold State.poison
  simp only [↓State.standing_mk, ↓State.standing_eta, ↓State.raise_standing]
theorem State.servicePort_standing (s : State) a1 a2 : (State.servicePort s a1 a2).standing = s.standing := by
  unfold State.servicePort
  simp only [↓State.standing_mk, ↓State.standing_eta, ↓apply_ite State.standing, ite_self, ↓State.updPort_standing,
      ↓State.portStops_standing]
theorem State.serviceLane_standing (s : State) a1 a2 : (State.serviceLane s a1 a2).standing = s.standing := by
  unfold State.serviceLane
  simp only [↓State.standing_mk, ↓State.standing_eta, ↓apply_ite State.standing, ite_self, ↓State.updPort_standing,
      ↓State.servicePort_standing]
theorem State.writePortCtrl_standing (s : State) a1 a2 a3 : (State.writePortCtrl s a1 a2 a3).standing = s.standing := by
  unfold State.writePortCtrl
  simp only [↓State.standing_mk, ↓State.standing_eta, ↓apply_ite State.standing, ite_self, ↓State.updPort_standing,
      ↓State.regInvalid_standing, ↓State.servicePort_standing, ↓State.serviceLane_standing]
theorem State.portCtrlRow_standing (s : State) a1 a2 a3 : (State.portCtrlRow s a1 a2 a3).standing = s.standing := by
  unfold State.portCtrlRow
  repeat' (first
    | with_reducible rfl
    | simp only [↓apply_ite State.standing, ite_self, ↓State.writePortCtrl_standing]
      done
    | split
    | (with_reducible refine (foldl_standing _ _ _ (fun s a => ?_)).trans ?_)
    | (with_reducible refine (State.gated_standing _ _ _ _ (fun _ => ?_)).trans ?_)
    | simp only [↓apply_ite State.standing, ite_self, ↓State.writePortCtrl_standing])
theorem State.portFails_standing (s : State) a1 : (State.portFails s a1).standing = s.standing := by
  unfold State.portFails
  simp only [↓State.standing_mk, ↓State.standing_eta, ↓State.updPort_standing, ↓State.portDone_standing]
theorem State.routeChange_standing (s : State) a1 : (State.routeChange s a1).standing = s.standing := by
  unfold State.routeChange
  simp only [↓apply_ite State.standing, ite_self, ↓State.raise_standing]
theorem State.portUp_standing (s : State) a1 a2 a3 a4 a5 a6 a7 : (State.portUp s a1 a2 a3 a4 a5 a6 a7).standing = s.standing := by
  unfold State.portUp
  repeat' (first
    | simp only [↓State.standing_mk, ↓State.standing_eta, ↓apply_ite State.standing, ite_self, ↓State.raise_standing,
        ↓State.finish_standing, ↓State.updPort_standing, ↓State.serve_standing, ↓State.routeChange_standing]
      done
    | split
    | simp only [↓State.standing_mk, ↓State.standing_eta, ↓apply_ite State.standing, ite_self, ↓State.raise_standing,
        ↓State.finish_standing, ↓State.updPort_standing, ↓State.serve_standing, ↓State.routeChange_standing])
theorem State.updQp_standing (s : State) a1 a2 : (State.updQp s a1 a2).standing = s.standing := rfl
theorem State.stopDest_standing (s : State) a1 a2 : (State.stopDest s a1 a2).standing = s.standing := by
  unfold State.stopDest
  repeat' split
  all_goals simp only [↓State.standing_mk, ↓State.standing_eta, ↓State.raise_standing, ↓State.setJob_standing, ↓State.writesEnded_standing]
theorem State.qpError_standing (s : State) a1 : (State.qpError s a1).standing = s.standing := by
  unfold State.qpError
  repeat' (first
    | with_reducible rfl
    | simp only [↓State.standing_mk, ↓State.standing_eta, ↓State.bump_standing, ↓State.updQp_standing, ↓State.stopDest_standing]
      done
    | split
    | (with_reducible refine (foldl_standing _ _ _ (fun s a => ?_)).trans ?_)
    | simp only [↓State.standing_mk, ↓State.standing_eta, ↓State.bump_standing, ↓State.updQp_standing, ↓State.stopDest_standing])
theorem State.raiseUnbound_standing (s : State) a1 a2 a3 a4 : (State.raiseUnbound s a1 a2 a3 a4).standing = s.standing := by
  unfold State.raiseUnbound
  simp only [↓State.standing_mk, ↓State.standing_eta, ↓apply_ite State.standing, ite_self, ↓State.raise_standing, ↓State.setJob_standing]
theorem State.receipt_standing (s : State) a1 : (State.receipt s a1).standing = s.standing := by
  unfold State.receipt
  repeat' split
  all_goals rfl
theorem State.touchRef_standing (s : State) a1 a2 : (State.touchRef s a1 a2).standing = s.standing := rfl
theorem State.refDecoded_standing (s : State) a1 a2 a3 a4 a5 : (State.refDecoded s a1 a2 a3 a4 a5).standing = s.standing := by
  unfold State.refDecoded
  simp only [↓apply_ite State.standing, ite_self, ↓State.bump64_standing, ↓State.dropRefs_standing, ↓State.trimRefs_standing,
      ↓State.holdRef_standing, ↓State.insertRef_standing, ↓State.touchRef_standing]
theorem State.refuseRequest_standing (s : State) a1 a2 : (State.refuseRequest s a1 a2).standing = s.standing := by
  unfold State.refuseRequest
  simp only [↓apply_ite State.standing, ite_self, ↓State.bump_standing, ↓State.emit_standing, ↓State.raise_standing]
theorem State.reissuePlan_standing (s : State) a1 a2 a3 a4 : (State.reissuePlan s a1 a2 a3 a4).standing = s.standing := by
  unfold State.reissuePlan
  repeat' (first
    | with_reducible rfl
    | simp only [↓State.standing_mk, ↓State.standing_eta, ↓State.emit_standing, ↓State.setJob_standing]
      done
    | split
    | (with_reducible refine (foldl_standing _ _ _ (fun s a => ?_)).trans ?_)
    | simp only [↓State.standing_mk, ↓State.standing_eta, ↓State.emit_standing, ↓State.setJob_standing])
theorem State.rejoin_standing (s : State) a1 : (State.rejoin s a1).standing = s.standing := by
  unfold State.rejoin
  simp only [↓State.standing_mk, ↓State.standing_eta, ↓apply_ite State.standing, ite_self, ↓State.updTile_standing]
theorem State.repairUnits_standing (s : State) a1 a2 a3 : (State.repairUnits s a1 a2 a3).standing = s.standing := by
  unfold State.repairUnits
  repeat' (first
    | simp only [↓State.standing_mk, ↓State.standing_eta, ↓State.bump_standing, ↓State.raise_standing, ↓State.program_standing,
        ↓State.mapChange_standing]
      done
    | split
    | simp only [↓State.standing_mk, ↓State.standing_eta, ↓State.bump_standing, ↓State.raise_standing, ↓State.program_standing,
        ↓State.mapChange_standing])
theorem State.sendData_standing (s : State) a1 a2 a3 a4 : (State.sendData s a1 a2 a3 a4).standing = s.standing := by
  unfold State.sendData
  simp only [↓State.sendRoce_standing]
theorem State.sendRead_standing (s : State) a1 : (State.sendRead s a1).standing = s.standing := by
  unfold State.sendRead
  simp only [↓State.sendRoce_standing]
theorem State.resend_standing (s : State) a1 a2 : (State.resend s a1 a2).standing = s.standing := by
  unfold State.resend
  repeat' (first
    | with_reducible rfl
    | simp only [↓apply_ite State.standing, ite_self, ↓State.bump64_standing, ↓State.sendWord_standing, ↓State.sendData_standing,
        ↓State.sendRead_standing]
      done
    | split
    | (with_reducible refine (foldl_standing _ _ _ (fun s a => ?_)).trans ?_)
    | simp only [↓apply_ite State.standing, ite_self, ↓State.bump64_standing, ↓State.sendWord_standing, ↓State.sendData_standing,
        ↓State.sendRead_standing])
theorem State.resetPf1_standing (s : State) : (State.resetPf1 s).standing = s.standing := by
  unfold State.resetPf1
  simp only [↓State.standing_mk, ↓State.standing_eta, ↓apply_ite State.standing, ite_self]
theorem State.startRegion_standing (s : State) a1 a2 : (State.startRegion s a1 a2).standing = s.standing := rfl
theorem State.restartSample_standing (s : State) a1 a2 a3 a4 a5 : (State.restartSample s a1 a2 a3 a4 a5).standing = s.standing := by
  unfold State.restartSample
  simp only [↓State.standing_mk, ↓State.standing_eta, ↓apply_ite State.standing, ite_self, ↓State.bump_standing, ↓State.raise_standing,
      ↓State.release_standing, ↓State.mediaRead_standing, ↓State.updSample_standing, ↓State.schedule_standing, ↓State.startRegion_standing]
theorem State.retireBank_standing (s : State) a1 a2 : (State.retireBank s a1 a2).standing = s.standing := rfl
theorem State.retireDie_standing (s : State) a1 : (State.retireDie s a1).standing = s.standing := by
  unfold State.retireDie
  repeat' (first
    | with_reducible rfl
    | simp only [↓State.standing_mk, ↓State.standing_eta, ↓apply_ite State.standing, ite_self, ↓State.raise_standing,
        ↓State.setDie_standing, ↓State.program_standing, ↓State.refreshWarning_standing, ↓State.journalEntry_standing]
      done
    | split
    | (with_reducible refine (foldl_standing _ _ _ (fun s a => ?_)).trans ?_)
    | simp only [↓State.standing_mk, ↓State.standing_eta, ↓apply_ite State.standing, ite_self, ↓State.raise_standing,
        ↓State.setDie_standing, ↓State.program_standing, ↓State.refreshWarning_standing, ↓State.journalEntry_standing])
theorem State.retireBlock_standing (s : State) a1 a2 : (State.retireBlock s a1 a2).standing = s.standing := by
  unfold State.retireBlock
  simp only [↓State.standing_mk, ↓State.standing_eta, ↓apply_ite State.standing, ite_self, ↓State.setDie_standing,
      ↓State.journalEntry_standing, ↓State.retireDie_standing]
theorem State.ringFault_standing (s : State) a1 a2 a3 : (State.ringFault s a1 a2 a3).standing = s.standing := by
  unfold State.ringFault
  simp only [↓State.standing_mk, ↓State.standing_eta, ↓State.setRing_standing, ↓State.regInvalid_standing]
theorem State.roceHeard_standing (s : State) a1 : (State.roceHeard s a1).standing = s.standing := by
  unfold State.roceHeard
  repeat' split
  all_goals rfl
theorem State.slideWindow_standing a0 a1 a2 (s : State) : (State.slideWindow a0 a1 a2 s).standing = s.standing := by
  induction a2 generalizing s with
  | zero => rfl
  | succ n ih =>
    unfold State.slideWindow
    repeat' (first
      | simp only [↓State.standing_mk, ↓State.standing_eta, ↓apply_ite State.standing, ite_self, ↓State.raise_standing,
          ↓State.setService_standing, ↓State.liveBurst_standing, ih]
        done
      | split
      | simp only [↓State.standing_mk, ↓State.standing_eta, ↓apply_ite State.standing, ite_self, ↓State.raise_standing,
          ↓State.setService_standing, ↓State.liveBurst_standing, ih])
theorem State.rtpPacket_standing (s : State) a1 a2 a3 a4 : (State.rtpPacket s a1 a2 a3 a4).standing = s.standing := by
  unfold State.rtpPacket
  repeat' (first
    | simp only [↓State.standing_mk, ↓State.standing_eta, ↓apply_ite State.standing, ite_self, ↓State.raise_standing,
        ↓State.setService_standing, ↓State.drainWindow_standing, ↓State.slideWindow_standing]
      done
    | split
    | simp only [↓State.standing_mk, ↓State.standing_eta, ↓apply_ite State.standing, ite_self, ↓State.raise_standing,
        ↓State.setService_standing, ↓State.drainWindow_standing, ↓State.slideWindow_standing])
theorem State.runHeld_standing (s : State) : (State.runHeld s).standing = s.standing := by
  unfold State.runHeld
  repeat' (first
    | with_reducible rfl
    | simp only [↓State.standing_mk, ↓State.standing_eta, ↓State.nvmeIo_standing]
      done
    | split
    | (with_reducible refine (foldl_standing _ _ _ (fun s a => ?_)).trans ?_)
    | simp only [↓State.standing_mk, ↓State.standing_eta, ↓State.nvmeIo_standing])
theorem State.scanEnds_standing (s : State) a1 a2 a3 a4 : (State.scanEnds s a1 a2 a3 a4).standing = s.standing := by
  unfold State.scanEnds
  repeat' (first
    | simp only [↓State.standing_mk, ↓State.standing_eta, ↓apply_ite State.standing, ite_self, ↓State.bump64_standing,
        ↓State.setJob_standing, ↓State.finishAll_standing, ↓State.emitAll_standing, ↓State.toRanks_standing]
      done
    | split
    | simp only [↓State.standing_mk, ↓State.standing_eta, ↓apply_ite State.standing, ite_self, ↓State.bump64_standing,
        ↓State.setJob_standing, ↓State.finishAll_standing, ↓State.emitAll_standing, ↓State.toRanks_standing])
theorem State.selectEnds_standing (s : State) a1 a2 a3 a4 a5 a6 a7 : (State.selectEnds s a1 a2 a3 a4 a5 a6 a7).standing = s.standing := by
  unfold State.selectEnds
  simp only [↓State.standing_mk, ↓State.standing_eta, ↓State.release_standing, ↓State.updWork_standing, ↓State.leaveStage_standing]
theorem State.sendHeld_standing (s : State) a1 : (State.sendHeld s a1).standing = s.standing := by
  unfold State.sendHeld
  repeat' (first
    | with_reducible rfl
    | simp only [↓State.standing_mk, ↓State.standing_eta, ↓apply_ite State.standing, ite_self, ↓State.sendForward_standing]
      done
    | split
    | (with_reducible refine (foldl_standing _ _ _ (fun s a => ?_)).trans ?_)
    | simp only [↓State.standing_mk, ↓State.standing_eta, ↓apply_ite State.standing, ite_self, ↓State.sendForward_standing])
theorem State.sense_standing (s : State) a1 a2 : (State.sense s a1 a2).standing = s.standing := rfl
theorem State.serveAll_standing (s : State) : (State.serveAll s).standing = s.standing := by
  unfold State.serveAll
  repeat' (first
    | with_reducible rfl
    | simp only [↓apply_ite State.standing, ite_self, ↓State.serve_standing]
      done
    | split
    | (with_reducible refine (foldl_standing _ _ _ (fun s a => ?_)).trans ?_)
    | simp only [↓apply_ite State.standing, ite_self, ↓State.serve_standing])
theorem State.serveRequest_standing (s : State) a1 a2 : (State.serveRequest s a1 a2).standing = s.standing := by
  unfold State.serveRequest
  simp only [↓State.standing_mk, ↓State.standing_eta, ↓apply_ite State.standing, ite_self, ↓State.bump64_standing, ↓State.emit_standing,
      ↓State.writeChain_standing]
theorem State.setHold_standing (s : State) a1 a2 : (State.setHold s a1 a2).standing = s.standing := by
  unfold State.setHold
  simp only [↓State.standing_mk, ↓State.standing_eta, ↓apply_ite State.standing, ite_self, ↓State.raise_standing, ↓State.applyHold_standing]
theorem State.setPowerState_standing (s : State) a1 : (State.setPowerState s a1).standing = s.standing := by
  unfold State.setPowerState
  simp only [↓State.standing_mk, ↓State.standing_eta, ↓apply_ite State.standing, ite_self]
theorem State.sliceCounts_standing (s : State) a1 : (State.sliceCounts s a1).standing = s.standing := by
  unfold State.sliceCounts
  simp only [↓State.standing_mk, ↓State.standing_eta, ↓apply_ite State.standing, ite_self, ↓State.bump64_standing]
theorem State.sliceFails_standing (s : State) a1 a2 a3 : (State.sliceFails s a1 a2 a3).standing = s.standing := by
  unfold State.sliceFails
  simp only [↓State.standing_mk, ↓State.standing_eta, ↓apply_ite State.standing, ite_self, ↓State.bump_standing, ↓State.raise_standing,
      ↓State.setBank_standing, ↓State.updPort_standing, ↓State.engineFault_standing]
theorem State.sliceLeaves_standing (s : State) a1 : (State.sliceLeaves s a1).standing = s.standing := by
  unfold State.sliceLeaves
  simp only [↓State.standing_mk, ↓State.standing_eta, ↓apply_ite State.standing, ite_self, ↓State.setBank_standing,
      ↓State.returnTokens_standing]
theorem State.slicePasses_standing (s : State) a1 : (State.slicePasses s a1).standing = s.standing := by
  unfold State.slicePasses
  simp only [↓State.standing_mk, ↓State.standing_eta, ↓apply_ite State.standing, ite_self]
theorem State.stageEnds_standing (s : State) a1 a2 a3 a4 : (State.stageEnds s a1 a2 a3 a4).standing = s.standing := by
  unfold State.stageEnds
  repeat' split
  all_goals simp only [↓apply_ite State.standing, ite_self, ↓State.badRef_standing, ↓State.stageFault_standing,
      ↓State.refuseStage_standing, ↓State.bankRefusal_standing, ↓State.sizeMismatch_standing, ↓State.computedEnds_standing,
          ↓State.decodeEnds_standing, ↓State.unsupported_standing, ↓State.restartSample_standing, ↓State.selectEnds_standing]
theorem State.startCopy_standing (s : State) a1 a2 a3 a4 a5 : (State.startCopy s a1 a2 a3 a4 a5).standing = s.standing := by
  unfold State.startCopy
  simp only [↓apply_ite State.standing, ite_self, ↓State.setJob_standing, ↓State.sendWord_standing, ↓State.sendData_standing]
theorem State.startEngineSlice_standing (s : State) a1 a2 a3 : (State.startEngineSlice s a1 a2 a3).standing = s.standing := by
  unfold State.startEngineSlice
  simp only [↓apply_ite State.standing, ite_self, ↓State.addSlice_standing, ↓State.requestTokens_standing, ↓State.postWork_standing]
theorem State.startLinkDie_standing (s : State) a1 : (State.startLinkDie s a1).standing = s.standing := by
  unfold State.startLinkDie
  simp only [↓State.standing_mk, ↓State.standing_eta, ↓apply_ite State.standing, ite_self, ↓State.domainsOn_standing]
theorem State.startRecovery_standing (s : State) a1 a2 : (State.startRecovery s a1 a2).standing = s.standing := by
  unfold State.startRecovery
  repeat' split
  all_goals simp only [↓State.standing_mk, ↓State.standing_eta, ↓apply_ite State.standing, ite_self, ↓State.setJob_standing,
      ↓State.finishAll_standing]
theorem State.startSanitize_standing (s : State) a1 : (State.startSanitize s a1).standing = s.standing := by
  unfold State.startSanitize
  repeat' (first
    | with_reducible rfl
    | simp only [↓State.standing_mk, ↓State.standing_eta, ↓State.nvmePost_standing]
      done
    | split
    | (with_reducible refine (foldl_standing _ _ _ (fun s a => ?_)).trans ?_)
    | simp only [↓State.standing_mk, ↓State.standing_eta, ↓State.nvmePost_standing])
theorem State.startSelftest_standing (s : State) a1 : (State.startSelftest s a1).standing = s.standing := rfl
theorem State.stepHub_standing (s : State) a1 : (State.stepHub s a1).standing = s.standing := by
  unfold State.stepHub
  repeat' (first
    | with_reducible rfl
    | simp only [↓State.standing_mk, ↓State.standing_eta, ↓apply_ite State.standing, ite_self, ↓State.bump_standing,
        ↓State.raise_standing, ↓State.domainsOn_standing]
      done
    | split
    | (with_reducible refine (foldl_standing _ _ _ (fun s a => ?_)).trans ?_)
    | simp only [↓State.standing_mk, ↓State.standing_eta, ↓apply_ite State.standing, ite_self, ↓State.bump_standing,
        ↓State.raise_standing, ↓State.domainsOn_standing])
theorem State.stepHbm_standing {s a1 x t} (h : State.stepHbm s a1 = (t, x)) : t.standing = s.standing := by
  unfold State.stepHbm at h
  (try dsimp only at h)
  repeat' (split at h)
  all_goals cases h
  repeat' (first
    | with_reducible rfl
    | simp only [↓State.standing_mk, ↓State.standing_eta, ↓apply_ite State.standing, ite_self, ↓State.domainsOn_standing]
      done
    | split
    | (with_reducible refine (foldl_standing _ _ _ (fun s a => ?_)).trans ?_)
    | simp only [↓State.standing_mk, ↓State.standing_eta, ↓apply_ite State.standing, ite_self, ↓State.domainsOn_standing])
theorem State.stepHbm_fst (s a1) : (State.stepHbm s a1).1.standing = s.standing := State.stepHbm_standing (t := (State.stepHbm s a1).1) (x := (State.stepHbm s a1).2) rfl
theorem State.startTile_standing (s : State) a1 a2 : (State.startTile s a1 a2).standing = s.standing := by
  unfold State.startTile
  simp only [↓State.standing_mk, ↓State.standing_eta, ↓apply_ite State.standing, ite_self, ↓State.raise_standing,
      ↓State.domainsOff_standing, ↓State.domainsOn_standing]
theorem State.stepMedia_standing {s a1 x t} (h : State.stepMedia s a1 = (t, x)) : t.standing = s.standing := by
  unfold State.stepMedia at h
  (try dsimp only at h)
  repeat' (split at h)
  all_goals cases h
  repeat' (first
    | with_reducible rfl
    | simp only [↓State.standing_mk, ↓State.standing_eta, ↓apply_ite State.standing, ite_self, ↓State.raise_standing,
        ↓State.setDie_standing, ↓State.controllerReady_standing, ↓State.runHeld_standing]
      done
    | split
    | (with_reducible refine (foldl_standing _ _ _ (fun s a => ?_)).trans ?_)
    | simp only [↓State.standing_mk, ↓State.standing_eta, ↓apply_ite State.standing, ite_self, ↓State.raise_standing,
        ↓State.setDie_standing, ↓State.controllerReady_standing, ↓State.runHeld_standing])
theorem State.stepMedia_fst (s a1) : (State.stepMedia s a1).1.standing = s.standing := State.stepMedia_standing (t := (State.stepMedia s a1).1) (x := (State.stepMedia s a1).2) rfl
theorem State.stepPools_standing (s : State) : (State.stepPools s).standing = s.standing := by
  unfold State.stepPools
  repeat' (first
    | with_reducible rfl
    | simp only [↓State.settingPool_standing, ↓State.startAudit_standing]
      done
    | split
    | (with_reducible refine (foldl_standing _ _ _ (fun s a => ?_)).trans ?_)
    | simp only [↓State.settingPool_standing, ↓State.startAudit_standing])
theorem State.stopEngines_standing (s : State) : (State.stopEngines s).standing = s.standing := by
  unfold State.stopEngines
  repeat' (first
    | with_reducible rfl
    | simp only [↓State.standing_mk, ↓State.standing_eta, ↓State.finishAll_standing, ↓State.abortSlices_standing,
        ↓State.leaveJobs_standing, ↓State.domainsOff_standing, ↓State.emptyRefs_standing]
      done
    | split
    | (with_reducible refine (foldl_standing _ _ _ (fun s a => ?_)).trans ?_)
    | simp only [↓State.standing_mk, ↓State.standing_eta, ↓State.finishAll_standing, ↓State.abortSlices_standing,
        ↓State.leaveJobs_standing, ↓State.domainsOff_standing, ↓State.emptyRefs_standing])
theorem State.stopFlush_standing (s : State) : (State.stopFlush s).standing = s.standing := by
  unfold State.stopFlush
  simp only [↓apply_ite State.standing, ite_self, ↓State.beginFlush_standing]
theorem State.storeFeature_standing (s : State) a1 a2 : (State.storeFeature s a1 a2).standing = s.standing := rfl
theorem State.take_standing {s a1 a2 x t} (h : State.take s a1 a2 = some (x, t)) : t.standing = s.standing := by
  unfold State.take at h
  (try dsimp only at h)
  repeat' (split at h)
  all_goals cases h
  repeat' (first
    | with_reducible rfl
    | simp only [↓State.standing_mk, ↓State.standing_eta, ↓apply_ite State.standing, ite_self, ↓State.fetched_standing, ↓State.arrive_snd]
      done
    | split
    | (with_reducible refine (foldl_standing _ _ _ (fun s a => ?_)).trans ?_)
    | simp only [State.arrive_standing ‹State.arrive _ _ _ _ = (_, _)›]
    | simp only [↓State.standing_mk, ↓State.standing_eta, ↓apply_ite State.standing, ite_self, ↓State.fetched_standing, ↓State.arrive_snd])
theorem State.takeBudget_standing (s : State) a1 : (State.takeBudget s a1).standing = s.standing := rfl
theorem State.takeRecord_standing {s a1 x t} (h : State.takeRecord s a1 = .taken x t) : t.standing = s.standing := by
  unfold State.takeRecord at h
  (try dsimp only at h)
  repeat' (split at h)
  all_goals cases h
  repeat' (first
    | with_reducible rfl
    | simp only [↓State.standing_mk, ↓State.standing_eta, ↓apply_ite State.standing, ite_self, ↓State.raise_standing,
        ↓State.setJob_standing, ↓State.conflictOf_standing, ↓State.writeChain_standing, ↓State.freeHeld_standing]
      done
    | split
    | (with_reducible refine (foldl_standing _ _ _ (fun s a => ?_)).trans ?_)
    | simp only [State.allocate_standing ‹State.allocate _ _ _ _ _ = some (_, _)›]
    | simp only [↓State.standing_mk, ↓State.standing_eta, ↓apply_ite State.standing, ite_self, ↓State.raise_standing,
        ↓State.setJob_standing, ↓State.conflictOf_standing, ↓State.writeChain_standing, ↓State.freeHeld_standing])
  all_goals (rename_i hq; split at hq <;> first | cases hq | exact State.allocate_standing hq)
theorem State.takeFromRing_standing (s : State) a1 a2 : (State.takeFromRing s a1 a2).standing = s.standing := by
  unfold State.takeFromRing
  repeat' (first
    | with_reducible rfl
    | simp only [↓State.standing_mk, ↓State.standing_eta, ↓apply_ite State.standing, ite_self]
      done
    | split
    | (with_reducible refine (foldl_standing _ _ _ (fun s a => ?_)).trans ?_)
    | simp only [State.takeRecord_standing ‹State.takeRecord _ _ = .taken _ _›]
    | simp only [↓State.standing_mk, ↓State.standing_eta, ↓apply_ite State.standing, ite_self])
theorem State.takeFromTable_standing (s : State) a1 : (State.takeFromTable s a1).standing = s.standing := by
  unfold State.takeFromTable
  repeat' (first
    | with_reducible rfl
    | simp only [↓State.standing_mk, ↓State.standing_eta, ↓apply_ite State.standing, ite_self, ↓State.finish_standing]
      done
    | split
    | (with_reducible refine (foldl_standing _ _ _ (fun s a => ?_)).trans ?_)
    | simp only [State.takeRecord_standing ‹State.takeRecord _ _ = .taken _ _›]
    | simp only [↓State.standing_mk, ↓State.standing_eta, ↓apply_ite State.standing, ite_self, ↓State.finish_standing])
theorem State.wakePort_standing (s : State) a1 : (State.wakePort s a1).standing = s.standing := rfl
theorem State.transit_standing (s : State) a1 a2 : (State.transit s a1 a2).standing = s.standing := by
  unfold State.transit
  repeat' split
  all_goals simp only [↓apply_ite State.standing, ite_self, ↓State.bump64_standing, ↓State.bump_standing, ↓State.queueFrame_standing,
      ↓State.wakePort_standing]
theorem State.updMirror_standing (s : State) a1 a2 : (State.updMirror s a1 a2).standing = s.standing := by
  unfold State.updMirror
  repeat' split
  all_goals rfl
theorem State.withPlan_standing (s : State) (jobId epoch : Nat) (f : Nat → Job → EpochPlan → State)
    (hf : ∀ n j p, (f n j p).standing = s.standing) : (s.withPlan jobId epoch f).standing = s.standing := by
  unfold State.withPlan
  repeat' split
  · exact (State.advancePlan_standing ..).trans (hf ..)
  · rfl
  · rfl
theorem State.writeBindCtrl_standing (s : State) a1 a2 : (State.writeBindCtrl s a1 a2).standing = s.standing := by
  unfold State.writeBindCtrl
  simp only [↓State.standing_mk, ↓State.standing_eta, ↓apply_ite State.standing, ite_self, ↓State.bindGo_standing, ↓State.newNonce_standing]
theorem State.writeBnkOwn_standing (s : State) a1 a2 a3 a4 : (State.writeBnkOwn s a1 a2 a3 a4).standing = s.standing := by
  unfold State.writeBnkOwn
  simp only [↓apply_ite State.standing, ite_self, ↓State.beginHandover_standing, ↓State.regInvalid_standing]
theorem State.writeBnkState_standing (s : State) a1 a2 a3 a4 : (State.writeBnkState s a1 a2 a3 a4).standing = s.standing := by
  unfold State.writeBnkState
  simp only [↓State.standing_mk, ↓State.standing_eta, ↓apply_ite State.standing, ite_self, ↓State.setBank_standing,
      ↓State.beginBankMove_standing, ↓State.regInvalid_standing]
theorem State.writeBnk_standing (s : State) a1 a2 a3 a4 : (State.writeBnk s a1 a2 a3 a4).standing = s.standing := by
  unfold State.writeBnk
  simp only [↓State.standing_mk, ↓State.standing_eta, ↓apply_ite State.standing, ite_self, ↓State.writeBnkOwn_standing,
      ↓State.writeBnkState_standing]
theorem State.writeCc_standing (s : State) a1 : (State.writeCc s a1).standing = s.standing := by
  unfold State.writeCc
  simp only [↓State.standing_mk, ↓State.standing_eta, ↓apply_ite State.standing, ite_self, ↓State.controllerReady_standing,
      ↓State.nvmeReset_standing]
theorem State.writeRingCfg_standing (s : State) a1 a2 a3 : (State.writeRingCfg s a1 a2 a3).standing = s.standing := by
  unfold State.writeRingCfg
  simp only [↓State.standing_mk, ↓State.standing_eta, ↓apply_ite State.standing, ite_self, ↓State.setRing_standing,
      ↓State.regInvalid_standing]
theorem State.writeSqTail_standing (s : State) a1 a2 a3 : (State.writeSqTail s a1 a2 a3).standing = s.standing := by
  unfold State.writeSqTail
  simp only [↓State.standing_mk, ↓State.standing_eta, ↓apply_ite State.standing, ite_self, ↓State.setRing_standing,
      ↓State.regInvalid_standing, ↓State.ringFault_standing]
theorem State.writeCqHead_standing (s : State) a1 a2 a3 : (State.writeCqHead s a1 a2 a3).standing = s.standing := by
  unfold State.writeCqHead
  simp only [↓State.standing_mk, ↓State.standing_eta, ↓apply_ite State.standing, ite_self, ↓State.setRing_standing,
      ↓State.regInvalid_standing, ↓State.ringFault_standing]
theorem State.writeRing_standing (s : State) a1 a2 a3 a4 : (State.writeRing s a1 a2 a3 a4).standing = s.standing := by
  unfold State.writeRing
  repeat' split
  all_goals simp only [↓State.standing_mk, ↓State.standing_eta, ↓apply_ite State.standing, ite_self, ↓State.setRing_standing,
      ↓State.writeRingCfg_standing, ↓State.writeSqTail_standing, ↓State.writeCqHead_standing]
theorem State.writePringTail_standing (s : State) a1 a2 a3 : (State.writePringTail s a1 a2 a3).standing = s.standing := by
  unfold State.writePringTail
  repeat' split
  all_goals simp only [↓State.standing_mk, ↓State.standing_eta, ↓apply_ite State.standing, ite_self, ↓State.regInvalid_standing]
theorem State.writeCmd_standing (s : State) a1 a2 a3 : (State.writeCmd s a1 a2 a3).standing = s.standing := by
  unfold State.writeCmd
  simp only [↓State.standing_mk, ↓State.standing_eta, ↓apply_ite State.standing, ite_self, ↓State.regInvalid_standing,
      ↓State.writeRing_standing, ↓State.writePringTail_standing]
theorem State.writeEth_standing (s : State) (o v : Nat) : (s.writeEth o v).standing = s.standing := by
  unfold State.writeEth
  rw [apply_ite State.standing, apply_ite State.standing]
  simp only [State.standing, ite_self]
theorem State.writeEvtCtrl_standing (s : State) a1 : (State.writeEvtCtrl s a1).standing = s.standing := by
  unfold State.writeEvtCtrl
  simp only [↓State.standing_mk, ↓State.standing_eta, ↓apply_ite State.standing, ite_self]
theorem State.writeFab_standing (s : State) a1 a2 a3 a4 : (State.writeFab s a1 a2 a3 a4).standing = s.standing := by
  unfold State.writeFab
  repeat' split
  all_goals simp only [↓State.standing_mk, ↓State.standing_eta, ↓apply_ite State.standing, ite_self, ↓State.regInvalid_standing,
      ↓State.writePortCtrl_standing]
theorem State.writeGclCtrl_standing (s : State) a1 a2 : (State.writeGclCtrl s a1 a2).standing = s.standing := by
  unfold State.writeGclCtrl
  simp only [↓State.standing_mk, ↓State.standing_eta, ↓apply_ite State.standing, ite_self, ↓State.setShaper_standing,
      ↓State.commitGates_standing]
theorem State.writeRma_standing (s : State) a1 a2 a3 : (State.writeRma s a1 a2 a3).standing = s.standing := by
  unfold State.writeRma
  repeat' split
  all_goals simp only [↓State.standing_mk, ↓State.standing_eta, ↓apply_ite State.standing, ite_self, ↓State.regInvalid_standing]
theorem State.writeShp_standing (s : State) a1 a2 a3 a4 : (State.writeShp s a1 a2 a3 a4).standing = s.standing := by
  unfold State.writeShp
  repeat' (first
    | simp only [↓State.standing_mk, ↓State.standing_eta, ↓apply_ite State.standing, ite_self, ↓State.setShaper_standing,
        ↓State.serve_standing, ↓State.regInvalid_standing, ↓State.writeGclCtrl_standing]
      done
    | split
    | simp only [↓State.standing_mk, ↓State.standing_eta, ↓apply_ite State.standing, ite_self, ↓State.setShaper_standing,
        ↓State.serve_standing, ↓State.regInvalid_standing, ↓State.writeGclCtrl_standing])
theorem State.writeHigh_standing (s : State) a1 a2 a3 : (State.writeHigh s a1 a2 a3).standing = s.standing := by
  unfold State.writeHigh
  simp only [↓State.standing_mk, ↓State.standing_eta, ↓apply_ite State.standing, ite_self, ↓State.writeEth_standing,
      ↓State.writeFab_standing, ↓State.writeRma_standing, ↓State.writeShp_standing]
theorem State.writeSloe_standing (s : State) a1 a2 : (State.writeSloe s a1 a2).standing = s.standing := by
  unfold State.writeSloe
  simp only [↓State.standing_mk, ↓State.standing_eta, ↓apply_ite State.standing, ite_self]
theorem State.writeSec_standing (s : State) a1 a2 a3 : (State.writeSec s a1 a2 a3).standing = s.standing := by
  unfold State.writeSec
  simp only [↓State.standing_mk, ↓State.standing_eta, ↓apply_ite State.standing, ite_self, ↓State.writeBindCtrl_standing]
theorem State.writeUpd_standing (s : State) a1 a2 : (State.writeUpd s a1 a2).standing = s.standing := by
  unfold State.writeUpd
  simp only [↓State.standing_mk, ↓State.standing_eta, ↓apply_ite State.standing, ite_self]
theorem State.writeTschCtrl_standing (s : State) a1 a2 a3 : (State.writeTschCtrl s a1 a2 a3).standing = s.standing := by
  unfold State.writeTschCtrl
  simp only [↓apply_ite State.standing, ite_self, ↓State.beginDrain_standing, ↓State.regInvalid_standing, ↓State.rejoin_standing]
theorem State.writePoolEntry_standing (s : State) a1 a2 a3 a4 a5 : (State.writePoolEntry s a1 a2 a3 a4 a5).standing = s.standing := rfl
theorem State.writeSlot_standing (s : State) a1 a2 a3 a4 a5 : (State.writeSlot s a1 a2 a3 a4 a5).standing = s.standing := by
  unfold State.writeSlot
  repeat' (first
    | simp only [↓apply_ite State.standing, ite_self, ↓State.raiseUnbound_standing, ↓State.startCopy_standing]
      done
    | split
    | simp only [↓apply_ite State.standing, ite_self, ↓State.raiseUnbound_standing, ↓State.startCopy_standing])
theorem adminRow_standing a0 (s : State) (f : State → State) (hf : ∀ s,
    (f s).standing = s.standing) : (adminRow a0 s f).standing = s.standing := by
  unfold adminRow
  repeat' (first
    | with_reducible rfl
    | simp only [hf]
      done
    | split
    | (with_reducible refine (foldl_standing _ _ _ (fun s a => ?_)).trans ?_)
    | (with_reducible refine (State.nvmeRun_standing _ _ _ _ (fun _ => ?_)).trans ?_)
    | simp only [hf])
theorem cursorStart_standing {a0 a1 a2 a3 a4 a5 s t} (h : cursorStart a0 a1 a2 a3 a4 a5 s = .inr t) : t.standing = s.standing := by
  unfold cursorStart at h
  (try dsimp only at h)
  repeat' (split at h)
  all_goals cases h
  repeat' (first
    | with_reducible rfl
    | simp only [↓State.standing_mk, ↓State.standing_eta, ↓apply_ite State.standing, ite_self, ↓State.writeChain_standing]
      done
    | split
    | (with_reducible refine (foldl_standing _ _ _ (fun s a => ?_)).trans ?_)
    | simp only [↓State.standing_mk, ↓State.standing_eta, ↓apply_ite State.standing, ite_self, ↓State.writeChain_standing])
theorem ioRow_standing a0 a1 (s : State) : (ioRow a0 a1 s).standing = s.standing := by
  unfold ioRow
  repeat' (first
    | with_reducible rfl
    | simp only [↓State.standing_mk, ↓State.standing_eta, ↓State.nvmeIo_standing]
      done
    | split
    | (with_reducible refine (foldl_standing _ _ _ (fun s a => ?_)).trans ?_)
    | (with_reducible refine (State.nvmeRun_standing _ _ _ _ (fun _ => ?_)).trans ?_)
    | simp only [↓State.standing_mk, ↓State.standing_eta, ↓State.nvmeIo_standing])
theorem leaveStart_standing {a0 a1 s t} (h : leaveStart a0 a1 s = .inr t) : t.standing = s.standing := by
  unfold leaveStart at h
  (try dsimp only at h)
  repeat' (split at h)
  all_goals cases h
  repeat' (first
    | with_reducible rfl
    | simp only [↓State.standing_mk, ↓State.standing_eta, ↓apply_ite State.standing, ite_self, ↓State.haltJob_standing,
        ↓State.loseDevice_standing]
      done
    | split
    | (with_reducible refine (foldl_standing _ _ _ (fun s a => ?_)).trans ?_)
    | simp only [↓State.standing_mk, ↓State.standing_eta, ↓apply_ite State.standing, ite_self, ↓State.haltJob_standing,
        ↓State.loseDevice_standing])
theorem resumeStart_standing {a0 a1 a2 a3 s t} (h : resumeStart a0 a1 a2 a3 s = .inr t) : t.standing = s.standing := by
  unfold resumeStart at h
  (try dsimp only at h)
  repeat' (split at h)
  all_goals cases h
  repeat' (first
    | with_reducible rfl
    | simp only [↓State.standing_mk, ↓State.standing_eta, ↓apply_ite State.standing, ite_self, ↓State.releasePlan_standing,
        ↓State.setJob_standing]
      done
    | split
    | (with_reducible refine (foldl_standing _ _ _ (fun s a => ?_)).trans ?_)
    | simp only [↓State.standing_mk, ↓State.standing_eta, ↓apply_ite State.standing, ite_self, ↓State.releasePlan_standing,
        ↓State.setJob_standing])
theorem foldl_some_standing {α : Type} (f : Option State → α → Option State) (hn : ∀ a, f none a = none)
    (hf : ∀ s a t, f (some s) a = some t → t.standing = s.standing) (l : List α) (s t : State) (h : l.foldl f (some s) = some t) :
    t.standing = s.standing := by
  have hnone : ∀ l : List α, l.foldl f none = none := fun l => by induction l <;> simp_all
  induction l generalizing s with
  | nil => cases h; rfl
  | cons a l ih =>
    rw [List.foldl_cons] at h
    cases hx : f (some s) a with
    | none => rw [hx, hnone] at h; cases h
    | some u => rw [hx] at h; exact (ih u h).trans (hf s a u hx)
theorem takeoverStart_standing {failed slot j s t} (h : takeoverStart failed slot j s = .inr t) : t.standing = s.standing := by
  unfold takeoverStart at h
  (try dsimp only at h)
  repeat' (split at h)
  all_goals cases h
  · exact State.loseDevice_standing ..
  · rename_i hq
    refine (foldl_some_standing _ (fun _ => rfl) ?_ _ _ _ hq).trans ?_
    · intro s p t hs
      dsimp only at hs
      repeat' (split at hs)
      all_goals cases hs
      · rfl
      all_goals simp only [↓State.reissuePlan_standing, State.growPlan_standing ‹State.growPlan _ _ _ = some _›]
    · exact (State.setJob_standing ..).trans (State.loseDevice_standing ..)
theorem State.retrainLinks_standing (s : State) : (State.retrainLinks s).standing = s.standing := by
  unfold State.retrainLinks
  refine foldl_standing _ _ _ (fun s a => ?_)
  split
  · rfl
  · exact State.portStops_standing _ _ _
theorem State.rebuildAudit_standing (s : State) : (State.rebuildAudit s).standing = s.standing := by
  unfold State.rebuildAudit
  exact State.raise_standing ..
theorem State.tornRecords_standing (s : State) a1 a2 : (State.tornRecords s a1 a2).standing = s.standing := by
  unfold State.tornRecords
  repeat' (first
    | with_reducible rfl
    | simp only [↓State.standing_mk, ↓State.standing_eta, ↓apply_ite State.standing, ite_self, ↓State.rebuildAudit_standing]
      done
    | split
    | simp only [↓State.standing_mk, ↓State.standing_eta, ↓apply_ite State.standing, ite_self, ↓State.rebuildAudit_standing])

end Sys2Proof.Machine
end

