-- ==== Sys2Proof/Laws/Identity.lean ====
section
/-! SUPPORT. What no operation changes, not even a reset: the queue and what is fused into the device. -/

namespace Sys2Proof.Machine

set_option linter.unusedSimpArgs false
set_option linter.unusedVariables false

/-- What is fused into the device: vendor, part, stepping, serial number and MAC base address (R595, R596). -/
def SysBlock.fused (y : SysBlock) : Nat × Nat × Nat × Nat × Nat := (y.vendor, y.part, y.stepping, y.serial, y.macBase)
/-- What no command changes: the queue and what is fused. -/
def State.core (s : State) : List Instr × Nat × Nat × Nat × Nat × Nat := (s.pending, s.sys.fused)
theorem State.core_of_standing {s t : State} (h : s.standing = t.standing) : s.core = t.core := by
  rw [State.core, State.core, show s.pending = t.pending from congrArg Standing.pending h, show s.sys = t.sys from congrArg Standing.sys h]
theorem State.core_eta (s : State) : (s.pending, s.sys.fused) = s.core := rfl
theorem State.core_mk (p e f n sy u st ru sl c ev se b j r m v g l ti sa me cx rm ne md nv pw ts co sn sh) :
  (State.mk p e f n sy u st ru sl c ev se b j r m v g l ti sa me cx rm ne md nv pw ts co sn sh).core = (p, sy.fused) := rfl
theorem SysBlock.fused_eta (y : SysBlock) : (y.vendor, y.part, y.stepping, y.serial, y.macBase) = y.fused := rfl
theorem SysBlock.fused_mk (f1 f2 f3 f4 f5 f6 f7 f8 f9 f10 f11 f12 f13 f14 f15 f16 f17 f18 f19 f20 f21 f22 f23 f24 f25 f26 f27 f28 f29) :
  (SysBlock.mk f1 f2 f3 f4 f5 f6 f7 f8 f9 f10 f11 f12 f13 f14 f15 f16 f17 f18 f19 f20 f21 f22 f23 f24 f25 f26 f27 f28 f29).fused = (f1, f2, f3, f4, f5) := rfl
theorem SysBlock.afterReset_fused (y : SysBlock) (a b c) : (y.afterReset a b c).fused = y.fused := rfl
theorem foldl_core {α} (f : State → α → State) (l : List α) (s : State) (h : ∀ s a, (f s a).core = s.core) :
  (l.foldl f s).core = s.core := by induction l generalizing s <;> simp_all

theorem State.clearDies_core (s : State) a1 a2 : (State.clearDies s a1 a2).core = s.core := by
  unfold State.clearDies
  repeat' (first
    | with_reducible rfl
    | simp only [↓State.core_mk, ↓State.core_eta, ↓SysBlock.fused_mk, ↓SysBlock.fused_eta, State.core_eta, SysBlock.fused_eta,
        SysBlock.afterReset_fused, ↓apply_ite State.core, ite_self, ↓State.core_of_standing (State.abortSelftest_standing _ _),
            ↓State.core_of_standing (State.loseDirty_standing _)]
      done
    | split
    | (with_reducible refine (foldl_core _ _ _ (fun s a => ?_)).trans ?_)
    | simp only [↓State.core_mk, ↓State.core_eta, ↓SysBlock.fused_mk, ↓SysBlock.fused_eta, State.core_eta, SysBlock.fused_eta,
        SysBlock.afterReset_fused, ↓apply_ite State.core, ite_self, ↓State.core_of_standing (State.abortSelftest_standing _ _),
            ↓State.core_of_standing (State.loseDirty_standing _)])
theorem State.deviceReset_core (s : State) a1 a2 : (State.deviceReset s a1 a2).core = s.core := by
  unfold State.deviceReset
  repeat' (first
    | with_reducible rfl
    | simp only [↓State.core_mk, ↓State.core_eta, ↓SysBlock.fused_mk, ↓SysBlock.fused_eta, State.core_eta, SysBlock.fused_eta,
        SysBlock.afterReset_fused, ↓apply_ite State.core, ite_self, ↓State.clearDies_core]
      done
    | split
    | (with_reducible refine (foldl_core _ _ _ (fun s a => ?_)).trans ?_)
    | simp only [↓State.core_mk, ↓State.core_eta, ↓SysBlock.fused_mk, ↓SysBlock.fused_eta, State.core_eta, SysBlock.fused_eta,
        SysBlock.afterReset_fused, ↓apply_ite State.core, ite_self, ↓State.clearDies_core])
theorem State.activateReset_core (s : State) : (State.activateReset s).core = s.core := by
  unfold State.activateReset
  repeat' (first
    | with_reducible rfl
    | simp only [↓State.core_mk, ↓State.core_eta, ↓SysBlock.fused_mk, ↓SysBlock.fused_eta, State.core_eta, SysBlock.fused_eta,
        SysBlock.afterReset_fused, ↓apply_ite State.core, ite_self, ↓State.deviceReset_core,
            ↓State.core_of_standing (State.writeCount_standing _ _ _)]
      done
    | split
    | (with_reducible refine (foldl_core _ _ _ (fun s a => ?_)).trans ?_)
    | simp only [↓State.core_mk, ↓State.core_eta, ↓SysBlock.fused_mk, ↓SysBlock.fused_eta, State.core_eta, SysBlock.fused_eta,
        SysBlock.afterReset_fused, ↓apply_ite State.core, ite_self, ↓State.deviceReset_core,
            ↓State.core_of_standing (State.writeCount_standing _ _ _)])
theorem State.debugReset_core (s : State) : (State.debugReset s).core = s.core := by
  unfold State.debugReset
  repeat' (first
    | with_reducible rfl
    | simp only [↓State.core_mk, ↓State.core_eta, ↓SysBlock.fused_mk, ↓SysBlock.fused_eta, State.core_eta, SysBlock.fused_eta,
        SysBlock.afterReset_fused, ↓apply_ite State.core, ite_self, ↓State.core_of_standing (State.raise_standing _ _ _ _),
            ↓State.deviceReset_core]
      done
    | split
    | (with_reducible refine (foldl_core _ _ _ (fun s a => ?_)).trans ?_)
    | simp only [↓State.core_mk, ↓State.core_eta, ↓SysBlock.fused_mk, ↓SysBlock.fused_eta, State.core_eta, SysBlock.fused_eta,
        SysBlock.afterReset_fused, ↓apply_ite State.core, ite_self, ↓State.core_of_standing (State.raise_standing _ _ _ _),
            ↓State.deviceReset_core])
theorem State.endActivation_core (s : State) a1 : (State.endActivation s a1).core = s.core := by
  unfold State.endActivation
  repeat' (first
    | with_reducible rfl
    | simp only [↓State.core_mk, ↓State.core_eta, ↓SysBlock.fused_mk, ↓SysBlock.fused_eta, State.core_eta, SysBlock.fused_eta,
        SysBlock.afterReset_fused, ↓apply_ite State.core, ite_self, ↓State.core_of_standing (State.finish_standing _ _ _), ↓State.core_of_standing (State.retrainLinks_standing _),
            ↓State.core_of_standing (State.endTrial_standing _), ↓State.core_of_standing (State.measureHoldup_standing _)]
      done
    | split
    | (with_reducible refine (foldl_core _ _ _ (fun s a => ?_)).trans ?_)
    | simp only [↓State.core_mk, ↓State.core_eta, ↓SysBlock.fused_mk, ↓SysBlock.fused_eta, State.core_eta, SysBlock.fused_eta,
        SysBlock.afterReset_fused, ↓apply_ite State.core, ite_self, ↓State.core_of_standing (State.finish_standing _ _ _), ↓State.core_of_standing (State.retrainLinks_standing _),
            ↓State.core_of_standing (State.endTrial_standing _), ↓State.core_of_standing (State.measureHoldup_standing _)])
theorem State.failStart_core (s : State) a1 a2 : (State.failStart s a1 a2).core = s.core := by
  unfold State.failStart
  repeat' (first
    | with_reducible rfl
    | simp only [↓State.core_mk, ↓State.core_eta, ↓SysBlock.fused_mk, ↓SysBlock.fused_eta, State.core_eta, SysBlock.fused_eta,
        SysBlock.afterReset_fused, ↓apply_ite State.core, ite_self, ↓State.core_of_standing (State.writeRecord_snd _ _ _),
            ↓State.core_of_standing (State.raise_standing _ _ _ _), ↓State.deviceReset_core,
                ↓State.core_of_standing (State.writeCount_standing _ _ _), ↓State.core_of_standing (State.bootRecord_standing _ _ _)]
      done
    | split
    | (with_reducible refine (foldl_core _ _ _ (fun s a => ?_)).trans ?_)
    | simp only [State.core_of_standing (State.writeRecord_standing ‹State.writeRecord _ _ _ = (_, _)›)]
    | simp only [↓State.core_mk, ↓State.core_eta, ↓SysBlock.fused_mk, ↓SysBlock.fused_eta, State.core_eta, SysBlock.fused_eta,
        SysBlock.afterReset_fused, ↓apply_ite State.core, ite_self, ↓State.core_of_standing (State.writeRecord_snd _ _ _),
            ↓State.core_of_standing (State.raise_standing _ _ _ _), ↓State.deviceReset_core,
                ↓State.core_of_standing (State.writeCount_standing _ _ _), ↓State.core_of_standing (State.bootRecord_standing _ _ _)])
theorem State.fatalStart_core (s : State) a1 : (State.fatalStart s a1).core = s.core := by
  unfold State.fatalStart
  repeat' (first
    | with_reducible rfl
    | simp only [↓State.core_mk, ↓State.core_eta, ↓SysBlock.fused_mk, ↓SysBlock.fused_eta, State.core_eta, SysBlock.fused_eta,
        SysBlock.afterReset_fused, ↓apply_ite State.core, ite_self, ↓State.failStart_core]
      done
    | split
    | (with_reducible refine (foldl_core _ _ _ (fun s a => ?_)).trans ?_)
    | simp only [↓State.core_mk, ↓State.core_eta, ↓SysBlock.fused_mk, ↓SysBlock.fused_eta, State.core_eta, SysBlock.fused_eta,
        SysBlock.afterReset_fused, ↓apply_ite State.core, ite_self, ↓State.failStart_core])
theorem State.flowBack_core (s : State) : (State.flowBack s).core = s.core := by
  unfold State.flowBack
  repeat' (first
    | with_reducible rfl
    | simp only [↓State.core_mk, ↓State.core_eta, ↓SysBlock.fused_mk, ↓SysBlock.fused_eta, State.core_eta, SysBlock.fused_eta,
        SysBlock.afterReset_fused, ↓apply_ite State.core, ite_self]
      done
    | split
    | (with_reducible refine (foldl_core _ _ _ (fun s a => ?_)).trans ?_)
    | simp only [↓State.core_mk, ↓State.core_eta, ↓SysBlock.fused_mk, ↓SysBlock.fused_eta, State.core_eta, SysBlock.fused_eta,
        SysBlock.afterReset_fused, ↓apply_ite State.core, ite_self])
theorem State.markStep_core (s : State) a1 : (State.markStep s a1).core = s.core := by
  unfold State.markStep
  repeat' (first
    | with_reducible rfl
    | simp only [↓State.core_mk, ↓State.core_eta, ↓SysBlock.fused_mk, ↓SysBlock.fused_eta, State.core_eta, SysBlock.fused_eta,
        SysBlock.afterReset_fused, ↓apply_ite State.core, ite_self]
      done
    | split
    | (with_reducible refine (foldl_core _ _ _ (fun s a => ?_)).trans ?_)
    | simp only [↓State.core_mk, ↓State.core_eta, ↓SysBlock.fused_mk, ↓SysBlock.fused_eta, State.core_eta, SysBlock.fused_eta,
        SysBlock.afterReset_fused, ↓apply_ite State.core, ite_self])
theorem State.readReg_core (s : State) a1 a2 : (State.readReg s a1 a2).2.core = s.core := by
  unfold State.readReg
  repeat' (first
    | with_reducible rfl
    | simp only [↓State.core_mk, ↓State.core_eta, ↓SysBlock.fused_mk, ↓SysBlock.fused_eta, State.core_eta, SysBlock.fused_eta,
        SysBlock.afterReset_fused, ↓apply_ite State.core, ite_self, ↓State.core_of_standing (State.setCounter_standing _ _ _)]
      done
    | split
    | (with_reducible refine (foldl_core _ _ _ (fun s a => ?_)).trans ?_)
    | simp only [↓State.core_mk, ↓State.core_eta, ↓SysBlock.fused_mk, ↓SysBlock.fused_eta, State.core_eta, SysBlock.fused_eta,
        SysBlock.afterReset_fused, ↓apply_ite State.core, ite_self, ↓State.core_of_standing (State.setCounter_standing _ _ _)])
theorem State.readRow_core (s : State) a1 a2 : (State.readRow s a1 a2).core = s.core := by
  unfold State.readRow
  repeat' (first
    | with_reducible rfl
    | simp only [↓State.core_mk, ↓State.core_eta, ↓SysBlock.fused_mk, ↓SysBlock.fused_eta, State.core_eta, SysBlock.fused_eta,
        SysBlock.afterReset_fused, ↓apply_ite State.core, ite_self, ↓State.core_of_standing (State.emit_standing _ _), ↓State.readReg_core]
      done
    | split
    | (with_reducible refine (foldl_core _ _ _ (fun s a => ?_)).trans ?_)
    | simp only [↓State.core_mk, ↓State.core_eta, ↓SysBlock.fused_mk, ↓SysBlock.fused_eta, State.core_eta, SysBlock.fused_eta,
        SysBlock.afterReset_fused, ↓apply_ite State.core, ite_self, ↓State.core_of_standing (State.emit_standing _ _), ↓State.readReg_core])
theorem State.revertActivation_core (s : State) : (State.revertActivation s).core = s.core := by
  unfold State.revertActivation
  repeat' (first
    | with_reducible rfl
    | simp only [↓State.core_mk, ↓State.core_eta, ↓SysBlock.fused_mk, ↓SysBlock.fused_eta, State.core_eta, SysBlock.fused_eta,
        SysBlock.afterReset_fused, ↓apply_ite State.core, ite_self, ↓State.core_of_standing (State.writeRecord_snd _ _ _),
            ↓State.core_of_standing (State.raise_standing _ _ _ _), ↓State.deviceReset_core,
                ↓State.core_of_standing (State.writeCount_standing _ _ _), ↓State.core_of_standing (State.bootRecord_standing _ _ _)]
      done
    | split
    | (with_reducible refine (foldl_core _ _ _ (fun s a => ?_)).trans ?_)
    | simp only [State.core_of_standing (State.writeRecord_standing ‹State.writeRecord _ _ _ = (_, _)›)]
    | simp only [↓State.core_mk, ↓State.core_eta, ↓SysBlock.fused_mk, ↓SysBlock.fused_eta, State.core_eta, SysBlock.fused_eta,
        SysBlock.afterReset_fused, ↓apply_ite State.core, ite_self, ↓State.core_of_standing (State.writeRecord_snd _ _ _),
            ↓State.core_of_standing (State.raise_standing _ _ _ _), ↓State.deviceReset_core,
                ↓State.core_of_standing (State.writeCount_standing _ _ _), ↓State.core_of_standing (State.bootRecord_standing _ _ _)])
theorem State.setBrm_core (s : State) a1 : (State.setBrm s a1).core = s.core := by
  unfold State.setBrm
  repeat' (first
    | with_reducible rfl
    | simp only [↓State.core_mk, ↓State.core_eta, ↓SysBlock.fused_mk, ↓SysBlock.fused_eta, State.core_eta, SysBlock.fused_eta,
        SysBlock.afterReset_fused, ↓apply_ite State.core, ite_self]
      done
    | split
    | (with_reducible refine (foldl_core _ _ _ (fun s a => ?_)).trans ?_)
    | simp only [↓State.core_mk, ↓State.core_eta, ↓SysBlock.fused_mk, ↓SysBlock.fused_eta, State.core_eta, SysBlock.fused_eta,
        SysBlock.afterReset_fused, ↓apply_ite State.core, ite_self])
theorem State.setImages_core (s : State) a1 a2 : (State.setImages s a1 a2).core = s.core := by
  unfold State.setImages
  repeat' (first
    | with_reducible rfl
    | simp only [↓State.core_mk, ↓State.core_eta, ↓SysBlock.fused_mk, ↓SysBlock.fused_eta, State.core_eta, SysBlock.fused_eta,
        SysBlock.afterReset_fused, ↓apply_ite State.core, ite_self]
      done
    | split
    | (with_reducible refine (foldl_core _ _ _ (fun s a => ?_)).trans ?_)
    | simp only [↓State.core_mk, ↓State.core_eta, ↓SysBlock.fused_mk, ↓SysBlock.fused_eta, State.core_eta, SysBlock.fused_eta,
        SysBlock.afterReset_fused, ↓apply_ite State.core, ite_self])
theorem State.stepCount_core (s : State) : (State.stepCount s).core = s.core := by
  unfold State.stepCount
  repeat' (first
    | with_reducible rfl
    | simp only [↓State.core_mk, ↓State.core_eta, ↓SysBlock.fused_mk, ↓SysBlock.fused_eta, State.core_eta, SysBlock.fused_eta,
        SysBlock.afterReset_fused, ↓apply_ite State.core, ite_self, ↓State.core_of_standing (State.writeCount_standing _ _ _)]
      done
    | split
    | (with_reducible refine (foldl_core _ _ _ (fun s a => ?_)).trans ?_)
    | simp only [↓State.core_mk, ↓State.core_eta, ↓SysBlock.fused_mk, ↓SysBlock.fused_eta, State.core_eta, SysBlock.fused_eta,
        SysBlock.afterReset_fused, ↓apply_ite State.core, ite_self, ↓State.core_of_standing (State.writeCount_standing _ _ _)])
theorem State.stepFirmware_core (s : State) a1 : (State.stepFirmware s a1).1.core = s.core := by
  unfold State.stepFirmware
  repeat' (first
    | with_reducible rfl
    | simp only [↓State.core_mk, ↓State.core_eta, ↓SysBlock.fused_mk, ↓SysBlock.fused_eta, State.core_eta, SysBlock.fused_eta,
        SysBlock.afterReset_fused, ↓apply_ite State.core, ite_self, ↓State.core_of_standing (State.bootRecord_standing _ _ _)]
      done
    | split
    | (with_reducible refine (foldl_core _ _ _ (fun s a => ?_)).trans ?_)
    | simp only [↓State.core_mk, ↓State.core_eta, ↓SysBlock.fused_mk, ↓SysBlock.fused_eta, State.core_eta, SysBlock.fused_eta,
        SysBlock.afterReset_fused, ↓apply_ite State.core, ite_self, ↓State.core_of_standing (State.bootRecord_standing _ _ _)])
theorem State.stepSettings_core (s : State) : (State.stepSettings s).1.core = s.core := by
  unfold State.stepSettings
  repeat' (first
    | with_reducible rfl
    | simp only [↓State.core_mk, ↓State.core_eta, ↓SysBlock.fused_mk, ↓SysBlock.fused_eta, State.core_eta, SysBlock.fused_eta,
        SysBlock.afterReset_fused, ↓apply_ite State.core, ite_self, ↓State.core_of_standing (State.loadNetwork_standing _),
            ↓State.core_of_standing (State.loadRetired_standing _), ↓State.core_of_standing (State.loadBypass_standing _),
                ↓State.core_of_standing (State.loadServices_standing _)]
      done
    | split
    | (with_reducible refine (foldl_core _ _ _ (fun s a => ?_)).trans ?_)
    | simp only [↓State.core_mk, ↓State.core_eta, ↓SysBlock.fused_mk, ↓SysBlock.fused_eta, State.core_eta, SysBlock.fused_eta,
        SysBlock.afterReset_fused, ↓apply_ite State.core, ite_self, ↓State.core_of_standing (State.loadNetwork_standing _),
            ↓State.core_of_standing (State.loadRetired_standing _), ↓State.core_of_standing (State.loadBypass_standing _),
                ↓State.core_of_standing (State.loadServices_standing _)])
theorem State.stepPit_core (s : State) : (State.stepPit s).core = s.core := by
  unfold State.stepPit
  repeat' (first
    | with_reducible rfl
    | simp only [↓State.core_mk, ↓State.core_eta, ↓SysBlock.fused_mk, ↓SysBlock.fused_eta, State.core_eta, SysBlock.fused_eta,
        SysBlock.afterReset_fused, ↓apply_ite State.core, ite_self, ↓State.core_of_standing (State.domainsOff_standing _ _)]
      done
    | split
    | (with_reducible refine (foldl_core _ _ _ (fun s a => ?_)).trans ?_)
    | simp only [↓State.core_mk, ↓State.core_eta, ↓SysBlock.fused_mk, ↓SysBlock.fused_eta, State.core_eta, SysBlock.fused_eta,
        SysBlock.afterReset_fused, ↓apply_ite State.core, ite_self, ↓State.core_of_standing (State.domainsOff_standing _ _)])
theorem State.stepTiles_core (s : State) a1 : (State.stepTiles s a1).1.core = s.core := by
  unfold State.stepTiles
  repeat' (first
    | with_reducible rfl
    | simp only [↓State.core_mk, ↓State.core_eta, ↓SysBlock.fused_mk, ↓SysBlock.fused_eta, State.core_eta, SysBlock.fused_eta,
        SysBlock.afterReset_fused, ↓apply_ite State.core, ite_self, ↓State.core_of_standing (State.startTile_standing _ _ _)]
      done
    | split
    | (with_reducible refine (foldl_core _ _ _ (fun s a => ?_)).trans ?_)
    | simp only [↓State.core_mk, ↓State.core_eta, ↓SysBlock.fused_mk, ↓SysBlock.fused_eta, State.core_eta, SysBlock.fused_eta,
        SysBlock.afterReset_fused, ↓apply_ite State.core, ite_self, ↓State.core_of_standing (State.startTile_standing _ _ _)])
theorem State.stepLinks_core (s : State) a1 : (State.stepLinks s a1).1.core = s.core := by
  unfold State.stepLinks
  repeat' (first
    | with_reducible rfl
    | simp only [↓State.core_mk, ↓State.core_eta, ↓SysBlock.fused_mk, ↓SysBlock.fused_eta, State.core_eta, SysBlock.fused_eta,
        SysBlock.afterReset_fused, ↓apply_ite State.core, ite_self, ↓State.core_of_standing (State.raise_standing _ _ _ _),
            ↓State.core_of_standing (State.emitAll_standing _ _), ↓State.core_of_standing (State.startLinkDie_standing _ _)]
      done
    | split
    | (with_reducible refine (foldl_core _ _ _ (fun s a => ?_)).trans ?_)
    | simp only [↓State.core_mk, ↓State.core_eta, ↓SysBlock.fused_mk, ↓SysBlock.fused_eta, State.core_eta, SysBlock.fused_eta,
        SysBlock.afterReset_fused, ↓apply_ite State.core, ite_self, ↓State.core_of_standing (State.raise_standing _ _ _ _),
            ↓State.core_of_standing (State.emitAll_standing _ _), ↓State.core_of_standing (State.startLinkDie_standing _ _)])
theorem State.stepReady_core (s : State) : (State.stepReady s).core = s.core := by
  unfold State.stepReady
  repeat' (first
    | with_reducible rfl
    | simp only [↓State.core_mk, ↓State.core_eta, ↓SysBlock.fused_mk, ↓SysBlock.fused_eta, State.core_eta, SysBlock.fused_eta,
        SysBlock.afterReset_fused, ↓apply_ite State.core, ite_self, ↓State.core_of_standing (State.writeCount_standing _ _ _),
            ↓State.core_of_standing (State.endTrial_standing _), ↓State.core_of_standing (State.endFallback_standing _)]
      done
    | split
    | (with_reducible refine (foldl_core _ _ _ (fun s a => ?_)).trans ?_)
    | simp only [↓State.core_mk, ↓State.core_eta, ↓SysBlock.fused_mk, ↓SysBlock.fused_eta, State.core_eta, SysBlock.fused_eta,
        SysBlock.afterReset_fused, ↓apply_ite State.core, ite_self, ↓State.core_of_standing (State.writeCount_standing _ _ _),
            ↓State.core_of_standing (State.endTrial_standing _), ↓State.core_of_standing (State.endFallback_standing _)])
theorem State.startStep_core (s : State) a1 a2 : (State.startStep s a1 a2).1.core = s.core := by
  unfold State.startStep
  repeat' (first
    | with_reducible rfl
    | simp only [↓State.core_mk, ↓State.core_eta, ↓SysBlock.fused_mk, ↓SysBlock.fused_eta, State.core_eta, SysBlock.fused_eta,
        SysBlock.afterReset_fused, ↓apply_ite State.core, ite_self, ↓State.core_of_standing (State.stepHub_standing _ _), ↓State.core_of_standing (State.tornRecords_standing _ _ _),
            ↓State.stepCount_core, ↓State.stepFirmware_core, ↓State.stepSettings_core, ↓State.stepPit_core,
                ↓State.core_of_standing (State.stepHbm_fst _ _), ↓State.stepTiles_core, ↓State.stepLinks_core,
                    ↓State.core_of_standing (State.stepMedia_fst _ _), ↓State.core_of_standing (State.stepPools_standing _),
                        ↓State.stepReady_core]
      done
    | split
    | (with_reducible refine (foldl_core _ _ _ (fun s a => ?_)).trans ?_)
    | simp only [State.core_of_standing (State.stepHbm_standing ‹State.stepHbm _ _ = (_, _)›)]
    | simp only [State.core_of_standing (State.stepMedia_standing ‹State.stepMedia _ _ = (_, _)›)]
    | simp only [↓State.core_mk, ↓State.core_eta, ↓SysBlock.fused_mk, ↓SysBlock.fused_eta, State.core_eta, SysBlock.fused_eta,
        SysBlock.afterReset_fused, ↓apply_ite State.core, ite_self, ↓State.core_of_standing (State.stepHub_standing _ _), ↓State.core_of_standing (State.tornRecords_standing _ _ _),
            ↓State.stepCount_core, ↓State.stepFirmware_core, ↓State.stepSettings_core, ↓State.stepPit_core,
                ↓State.core_of_standing (State.stepHbm_fst _ _), ↓State.stepTiles_core, ↓State.stepLinks_core,
                    ↓State.core_of_standing (State.stepMedia_fst _ _), ↓State.core_of_standing (State.stepPools_standing _),
                        ↓State.stepReady_core])
theorem State.writeSys_core (s : State) a1 a2 : (State.writeSys s a1 a2).core = s.core := by
  unfold State.writeSys
  repeat' (first
    | with_reducible rfl
    | simp only [↓State.core_mk, ↓State.core_eta, ↓SysBlock.fused_mk, ↓SysBlock.fused_eta, State.core_eta, SysBlock.fused_eta,
        SysBlock.afterReset_fused, ↓apply_ite State.core, ite_self]
      done
    | split
    | (with_reducible refine (foldl_core _ _ _ (fun s a => ?_)).trans ?_)
    | simp only [↓State.core_mk, ↓State.core_eta, ↓SysBlock.fused_mk, ↓SysBlock.fused_eta, State.core_eta, SysBlock.fused_eta,
        SysBlock.afterReset_fused, ↓apply_ite State.core, ite_self])
theorem State.writeHub_core (s : State) a1 a2 a3 a4 : (State.writeHub s a1 a2 a3 a4).core = s.core := by
  unfold State.writeHub
  repeat' (first
    | with_reducible rfl
    | simp only [↓State.core_mk, ↓State.core_eta, ↓SysBlock.fused_mk, ↓SysBlock.fused_eta, State.core_eta, SysBlock.fused_eta,
        SysBlock.afterReset_fused, ↓apply_ite State.core, ite_self, ↓State.core_of_standing (State.writeCmd_standing _ _ _ _),
            ↓State.core_of_standing (State.writeEvtCtrl_standing _ _), ↓State.writeSys_core,
                ↓State.core_of_standing (State.writeSloe_standing _ _ _), ↓State.core_of_standing (State.writeSec_standing _ _ _ _),
                    ↓State.core_of_standing (State.writeUpd_standing _ _ _)]
      done
    | split
    | (with_reducible refine (foldl_core _ _ _ (fun s a => ?_)).trans ?_)
    | simp only [↓State.core_mk, ↓State.core_eta, ↓SysBlock.fused_mk, ↓SysBlock.fused_eta, State.core_eta, SysBlock.fused_eta,
        SysBlock.afterReset_fused, ↓apply_ite State.core, ite_self, ↓State.core_of_standing (State.writeCmd_standing _ _ _ _),
            ↓State.core_of_standing (State.writeEvtCtrl_standing _ _), ↓State.writeSys_core,
                ↓State.core_of_standing (State.writeSloe_standing _ _ _), ↓State.core_of_standing (State.writeSec_standing _ _ _ _),
                    ↓State.core_of_standing (State.writeUpd_standing _ _ _)])
theorem State.writeMid_core (s : State) a1 a2 a3 : (State.writeMid s a1 a2 a3).core = s.core := by
  unfold State.writeMid
  repeat' (first
    | with_reducible rfl
    | simp only [↓State.core_mk, ↓State.core_eta, ↓SysBlock.fused_mk, ↓SysBlock.fused_eta, State.core_eta, SysBlock.fused_eta,
        SysBlock.afterReset_fused, ↓apply_ite State.core, ite_self, ↓State.core_of_standing (State.auditGo_standing _ _),
            ↓State.setBrm_core, ↓State.core_of_standing (State.writeBnk_standing _ _ _ _ _),
                ↓State.core_of_standing (State.writeTschCtrl_standing _ _ _ _)]
      done
    | split
    | (with_reducible refine (foldl_core _ _ _ (fun s a => ?_)).trans ?_)
    | simp only [↓State.core_mk, ↓State.core_eta, ↓SysBlock.fused_mk, ↓SysBlock.fused_eta, State.core_eta, SysBlock.fused_eta,
        SysBlock.afterReset_fused, ↓apply_ite State.core, ite_self, ↓State.core_of_standing (State.auditGo_standing _ _),
            ↓State.setBrm_core, ↓State.core_of_standing (State.writeBnk_standing _ _ _ _ _),
                ↓State.core_of_standing (State.writeTschCtrl_standing _ _ _ _)])
theorem State.writeSnap_core (s : State) a1 a2 : (State.writeSnap s a1 a2).core = s.core := by
  unfold State.writeSnap
  repeat' (first
    | with_reducible rfl
    | simp only [↓State.core_mk, ↓State.core_eta, ↓SysBlock.fused_mk, ↓SysBlock.fused_eta, State.core_eta, SysBlock.fused_eta,
        SysBlock.afterReset_fused, ↓apply_ite State.core, ite_self]
      done
    | split
    | (with_reducible refine (foldl_core _ _ _ (fun s a => ?_)).trans ?_)
    | simp only [↓State.core_mk, ↓State.core_eta, ↓SysBlock.fused_mk, ↓SysBlock.fused_eta, State.core_eta, SysBlock.fused_eta,
        SysBlock.afterReset_fused, ↓apply_ite State.core, ite_self])
theorem State.gated_core (s : State) (path addr : Nat) (f : State → State) (hf : ∀ s,
    (f s).core = s.core) : (s.gated path addr f).core = s.core := by
  unfold State.gated
  repeat' split
  all_goals first | rfl | exact State.core_of_standing (State.regInvalid_standing ..) | exact hf s
theorem State.writeReg_core (s : State) (path addr v : Nat) (sigOk : Bool) : (s.writeReg path addr v sigOk).core = s.core := by
  unfold State.writeReg
  repeat' split
  all_goals first
  | rfl
  | exact State.core_of_standing (State.regInvalid_standing ..)
  | (refine State.gated_core _ _ _ _ (fun u => ?_)
     first
     | exact State.writeSnap_core ..
     | exact State.writeHub_core ..
     | exact State.writeMid_core ..
     | exact State.core_of_standing (State.writeTile_standing ..)
     | exact State.core_of_standing (State.writeHigh_standing ..))

end Sys2Proof.Machine
end

