-- ==== Sys2Proof/Laws/Commands.lean ====
section
/-! SUPPORT. What a command packet leaves alone: a property that the standing parts decide holds after the
packet if it held before and the command's own effect keeps it; and each command's own effect keeps the standing
parts, or the queue and what is fused. -/

namespace Sys2Proof.Machine

set_option linter.unusedSimpArgs false
set_option linter.unusedVariables false

/-- `P` holds of every state that a command's own checks and effect lead to. -/
def Own.holds (o : Own) (P : State → Prop) : Prop :=
  match o with
  | .refuse _ => True
  | .done _ t => P t
  | .run t => P t
  | .fail _ t => P t
  | .last _ t f => P t ∧ ∀ u, P u → P (f u)
theorem Own.holds_refuse (r) (P : State → Prop) : (Own.refuse r).holds P = True := rfl
theorem Own.holds_done (r t) (P : State → Prop) : (Own.done r t).holds P = P t := rfl
theorem Own.holds_run (t) (P : State → Prop) : (Own.run t).holds P = P t := rfl
theorem Own.holds_fail (r t) (P : State → Prop) : (Own.fail r t).holds P = P t := rfl
theorem Own.holds_last (r t f) (P : State → Prop) : (Own.last r t f).holds P = (P t ∧ ∀ u, P u → P (f u)) := rfl
theorem State.runOwn_holds {P : State → Prop} (hP : ∀ a b : State, a.standing = b.standing → P a → P b) (s : State) (sp : OpSpec)
    (own : Waiter → CmdIn → State → Own) (w : Waiter) (x : CmdIn) (hs : P s) (h : (own w x s).holds P) : P (s.runOwn sp own w x) := by
  unfold State.runOwn
  revert h
  cases own w x s <;> intro h <;> dsimp only [Own.holds] at h ⊢ <;> repeat' split
  all_goals first
  | refine hP _ _ (Eq.symm ?_) hs; simp only [↓State.turnDown_standing, ↓State.complete_standing, ↓State.audit_standing, ↓State.raise_standing]; done
  | refine hP _ _ (Eq.symm ?_) h; simp only [↓State.turnDown_standing, ↓State.complete_standing, ↓State.audit_standing, ↓State.raise_standing]; done
  | refine h.2 _ (hP _ _ (Eq.symm ?_) h.1); simp only [↓State.turnDown_standing, ↓State.complete_standing, ↓State.audit_standing, ↓State.raise_standing]
theorem State.accept_holds {P : State → Prop} (hP : ∀ a b : State, a.standing = b.standing → P a → P b) (s : State) (sp : OpSpec)
    (own : Waiter → CmdIn → State → Own) (w : Waiter) (x : CmdIn) (hs : P s) (h : ∀ u, P u → (own w x u).holds P) : P (s.accept sp own w x) := by
  unfold State.accept
  dsimp only
  have hn : P (s.noteCred x) := hP _ _ (State.noteCred_standing ..).symm hs
  repeat' split
  all_goals first
  | exact State.runOwn_holds hP _ _ _ _ _ hn (h _ hn)
  | refine hP _ _ (Eq.symm ?_) hs; simp only [↓State.turnDown_standing, ↓State.noteCred_standing]
theorem State.consider_holds {P : State → Prop} (hP : ∀ a b : State, a.standing = b.standing → P a → P b) (s : State) (sp : OpSpec)
    (own : Waiter → CmdIn → State → Own) (w : Waiter) (x : CmdIn) (hs : P s) (h : ∀ u, P u → (own w x u).holds P) : P (s.consider sp own w x) := by
  unfold State.consider
  split
  · exact State.accept_holds hP _ _ _ _ _ hs h
  · exact hP s _ rfl hs
theorem runCommand_holds {P : State → Prop} (hP : ∀ a b : State, a.standing = b.standing → P a → P b) (sp : OpSpec)
    (own : Waiter → CmdIn → State → Own) (x : CmdIn) (s : State) (hs : P s) (h : ∀ w u, P u → (own w x u).holds P) : P (runCommand sp own x s) := by
  unfold runCommand
  split
  · exact hs
  · next w u hu =>
    have hu : P u := hP _ _ (State.take_standing hu).symm hs
    have hr : P (u.receipt x) := hP _ _ (State.receipt_standing ..).symm hu
    dsimp only
    repeat' split
    all_goals first
    | exact State.consider_holds hP _ _ _ _ _ hr (h _)
    | refine hP _ _ (Eq.symm ?_) hu; simp only [↓State.forward_standing, ↓State.answer_standing, ↓State.receipt_standing, ↓State.standing_mk, ↓State.standing_eta]
theorem State.sourceFails_holds (s : State) (x : CmdIn) (a b n : Nat) (r : Result) :
    (State.sourceFails s x a b n r).holds (fun t => t.standing = s.standing) := by
  unfold State.sourceFails
  split <;> simp only [Own.holds_refuse, Own.holds_done, ↓State.lostRead_standing]
theorem State.sourceFails_core (s : State) (x : CmdIn) (a b n : Nat) (r : Result) :
    (State.sourceFails s x a b n r).holds (fun t => t.core = s.core) := by
  unfold State.sourceFails
  split <;> simp only [Own.holds_refuse, Own.holds_done, ↓State.core_of_standing (State.lostRead_standing _ _ _ _)]
theorem State.startJob_holds (s : State) (p : Packet) (h : HeldRecipe) (d : Bytes) : (State.startJob s p h d).holds (fun t => t.standing = s.standing) := by
  unfold State.startJob
  repeat' (first
    | exact trivial
    | with_reducible rfl
    | simp only [Own.holds_refuse, Own.holds_done, Own.holds_run, Own.holds_fail, ↓State.standing_mk, ↓State.standing_eta,
        ↓apply_ite State.standing, ite_self, ↓State.lostRead_standing, ↓State.setJob_standing, ↓State.setupMirror_standing]
      done
    | split
    | (with_reducible refine (foldl_standing _ _ _ (fun s a => ?_)).trans ?_)
    | refine And.intro ?_ (fun u hu => (Eq.trans ?_ hu))
    | simp only [Own.holds_refuse, Own.holds_done, Own.holds_run, Own.holds_fail, Own.holds_last, ↓State.standing_mk,
        ↓State.standing_eta, ↓apply_ite State.standing, ite_self, ↓State.lostRead_standing, ↓State.setJob_standing, ↓State.setupMirror_standing])
theorem State.beginPlan_holds (s : State) (w : Waiter) (slot : Nat) (j : Job) (epoch : Nat) : (State.beginPlan s w slot j epoch).holds (fun t => t.standing = s.standing) := by
  unfold State.beginPlan
  repeat' (first
    | exact trivial
    | with_reducible rfl
    | simp only [Own.holds_refuse, Own.holds_done, Own.holds_run, Own.holds_fail, ↓State.standing_mk, ↓State.standing_eta,
        ↓apply_ite State.standing, ite_self, ↓State.lostRead_standing, ↓State.raise_standing, ↓State.setJob_standing]
      done
    | split
    | (with_reducible refine (foldl_standing _ _ _ (fun s a => ?_)).trans ?_)
    | simp only [State.allocate_standing ‹State.allocate _ _ _ _ _ = some (_, _)›]
    | refine And.intro ?_ (fun u hu => (Eq.trans ?_ hu))
    | simp only [Own.holds_refuse, Own.holds_done, Own.holds_run, Own.holds_fail, Own.holds_last, ↓State.standing_mk,
        ↓State.standing_eta, ↓apply_ite State.standing, ite_self, ↓State.lostRead_standing, ↓State.raise_standing, ↓State.setJob_standing])
theorem State.loadRecipe_holds (s : State) (x : CmdIn) (img : Bytes) : (State.loadRecipe s x img).holds (fun t => t.core = s.core) := by
  unfold State.loadRecipe
  repeat' (first
    | exact trivial
    | with_reducible rfl
    | simp only [↓State.core_of_standing (State.lostRead_standing _ _ _ _), Own.holds_refuse, Own.holds_done, Own.holds_run, Own.holds_fail, ↓State.core_mk, ↓State.core_eta, ↓SysBlock.fused_mk,
        ↓SysBlock.fused_eta, State.core_eta, SysBlock.fused_eta, SysBlock.afterReset_fused, ↓apply_ite State.core, ite_self]
      done
    | split
    | (with_reducible refine (foldl_core _ _ _ (fun s a => ?_)).trans ?_)
    | refine And.intro ?_ (fun u hu => (Eq.trans ?_ hu))
    | simp only [↓State.core_of_standing (State.lostRead_standing _ _ _ _), Own.holds_refuse, Own.holds_done, Own.holds_run, Own.holds_fail, Own.holds_last, ↓State.core_mk, ↓State.core_eta,
        ↓SysBlock.fused_mk, ↓SysBlock.fused_eta, State.core_eta, SysBlock.fused_eta, SysBlock.afterReset_fused, ↓apply_ite State.core,
            ite_self])
theorem State.loadImage_holds (s : State) (kind : Nat) (sigOk : Bool) (img : Bytes) : (State.loadImage s kind sigOk img).holds (fun t => t.core = s.core) := by
  unfold State.loadImage
  repeat' (first
    | exact trivial
    | with_reducible rfl
    | simp only [Own.holds_refuse, Own.holds_done, Own.holds_run, Own.holds_fail, ↓State.core_mk, ↓State.core_eta, ↓SysBlock.fused_mk,
        ↓SysBlock.fused_eta, State.core_eta, SysBlock.fused_eta, SysBlock.afterReset_fused, ↓apply_ite State.core, ite_self,
            ↓State.setImages_core]
      done
    | split
    | (with_reducible refine (foldl_core _ _ _ (fun s a => ?_)).trans ?_)
    | refine And.intro ?_ (fun u hu => (Eq.trans ?_ hu))
    | simp only [Own.holds_refuse, Own.holds_done, Own.holds_run, Own.holds_fail, Own.holds_last, ↓State.core_mk, ↓State.core_eta,
        ↓SysBlock.fused_mk, ↓SysBlock.fused_eta, State.core_eta, SysBlock.fused_eta, SysBlock.afterReset_fused, ↓apply_ite State.core,
            ite_self, ↓State.setImages_core])
theorem State.recovery_holds (s : State) (w : Waiter) (start : Nat → Job → State → Result ⊕ State)
    (h : ∀ n j u t, start n j u = .inr t → t.standing = u.standing) : (s.recovery w start).holds (fun t => t.standing = s.standing) := by
  unfold State.recovery
  dsimp only
  repeat' split
  all_goals first
  | exact trivial
  | (simp only [Own.holds_done, Own.holds_run, ↓State.setJob_standing]; done)
  | (simp only [Own.holds_run, ↓State.startRecovery_standing]; exact h _ _ _ _ ‹start _ _ _ = Sum.inr _›)
theorem ownCxe_holds (decode : Bool) (w : Waiter) (x : CmdIn) (s : State) : (ownCxe decode w x s).holds (fun t => t.standing = s.standing) := by
  unfold ownCxe
  repeat' (first
    | exact trivial
    | with_reducible rfl
    | simp only [Own.holds_refuse, Own.holds_done, Own.holds_run, Own.holds_fail, ↓State.standing_mk, ↓State.standing_eta,
        ↓apply_ite State.standing, ite_self, ↓State.badRef_standing, ↓State.placeJob_standing]
      done
    | split
    | (with_reducible refine (foldl_standing _ _ _ (fun s a => ?_)).trans ?_)
    | refine And.intro ?_ (fun u hu => (Eq.trans ?_ hu))
    | simp only [Own.holds_refuse, Own.holds_done, Own.holds_run, Own.holds_fail, Own.holds_last, ↓State.standing_mk,
        ↓State.standing_eta, ↓apply_ite State.standing, ite_self, ↓State.badRef_standing, ↓State.placeJob_standing])
theorem ownRma_holds (isWrite : Bool) (w : Waiter) (x : CmdIn) (s : State) : (ownRma isWrite w x s).holds (fun t => t.standing = s.standing) := by
  unfold ownRma
  repeat' (first
    | exact trivial
    | with_reducible rfl
    | simp only [Own.holds_refuse, Own.holds_done, Own.holds_run, Own.holds_fail, ↓State.standing_mk, ↓State.standing_eta,
        ↓apply_ite State.standing, ite_self, ↓State.badRef_standing, ↓State.sendRequest_standing]
      done
    | split
    | (with_reducible refine (foldl_standing _ _ _ (fun s a => ?_)).trans ?_)
    | refine And.intro ?_ (fun u hu => (Eq.trans ?_ hu))
    | simp only [Own.holds_refuse, Own.holds_done, Own.holds_run, Own.holds_fail, Own.holds_last, ↓State.standing_mk,
        ↓State.standing_eta, ↓apply_ite State.standing, ite_self, ↓State.badRef_standing, ↓State.sendRequest_standing])
theorem ownAuditRead_holds (u0 : Waiter) (x : CmdIn) (s : State) : (ownAuditRead u0 x s).holds (fun t => t.standing = s.standing) := by
  unfold ownAuditRead
  repeat' (first
    | exact trivial
    | with_reducible rfl
    | simp only [Own.holds_refuse, Own.holds_done, Own.holds_run, Own.holds_fail, ↓State.standing_mk, ↓State.standing_eta,
        ↓apply_ite State.standing, ite_self, ↓State.emit_standing, ↓State.audit_standing]
      done
    | split
    | (with_reducible refine (foldl_standing _ _ _ (fun s a => ?_)).trans ?_)
    | simp only [State.take_standing ‹State.take _ _ _ = some (_, _)›]
    | refine And.intro ?_ (fun u hu => (Eq.trans ?_ hu))
    | simp only [Own.holds_refuse, Own.holds_done, Own.holds_run, Own.holds_fail, Own.holds_last, ↓State.standing_mk,
        ↓State.standing_eta, ↓apply_ite State.standing, ite_self, ↓State.emit_standing, ↓State.audit_standing])
theorem ownBankOwn_holds (u0 : Waiter) (x : CmdIn) (s : State) : (ownBankOwn u0 x s).holds (fun t => t.standing = s.standing) := by
  unfold ownBankOwn
  repeat' (first
    | exact trivial
    | with_reducible rfl
    | simp only [Own.holds_refuse, Own.holds_done, Own.holds_run, Own.holds_fail, ↓State.standing_mk, ↓State.standing_eta,
        ↓apply_ite State.standing, ite_self, ↓State.beginHandover_standing]
      done
    | split
    | (with_reducible refine (foldl_standing _ _ _ (fun s a => ?_)).trans ?_)
    | refine And.intro ?_ (fun u hu => (Eq.trans ?_ hu))
    | simp only [Own.holds_refuse, Own.holds_done, Own.holds_run, Own.holds_fail, Own.holds_last, ↓State.standing_mk,
        ↓State.standing_eta, ↓apply_ite State.standing, ite_self, ↓State.beginHandover_standing])
theorem ownBankRetire_holds (u0 : Waiter) (x : CmdIn) (s : State) : (ownBankRetire u0 x s).holds (fun t => t.standing = s.standing) := by
  unfold ownBankRetire
  repeat' (first
    | exact trivial
    | with_reducible rfl
    | simp only [Own.holds_refuse, Own.holds_done, Own.holds_run, Own.holds_fail, ↓State.standing_mk, ↓State.standing_eta,
        ↓apply_ite State.standing, ite_self, ↓State.loseGroup_standing, ↓State.retireBank_standing]
      done
    | split
    | (with_reducible refine (foldl_standing _ _ _ (fun s a => ?_)).trans ?_)
    | refine And.intro ?_ (fun u hu => (Eq.trans ?_ hu))
    | simp only [Own.holds_refuse, Own.holds_done, Own.holds_run, Own.holds_fail, Own.holds_last, ↓State.standing_mk,
        ↓State.standing_eta, ↓apply_ite State.standing, ite_self, ↓State.loseGroup_standing, ↓State.retireBank_standing])
theorem ownBankState_holds (u0 : Waiter) (x : CmdIn) (s : State) : (ownBankState u0 x s).holds (fun t => t.standing = s.standing) := by
  unfold ownBankState
  repeat' (first
    | exact trivial
    | with_reducible rfl
    | simp only [Own.holds_refuse, Own.holds_done, Own.holds_run, Own.holds_fail, ↓State.standing_mk, ↓State.standing_eta,
        ↓apply_ite State.standing, ite_self, ↓State.beginBankMove_standing]
      done
    | split
    | (with_reducible refine (foldl_standing _ _ _ (fun s a => ?_)).trans ?_)
    | refine And.intro ?_ (fun u hu => (Eq.trans ?_ hu))
    | simp only [Own.holds_refuse, Own.holds_done, Own.holds_run, Own.holds_fail, Own.holds_last, ↓State.standing_mk,
        ↓State.standing_eta, ↓apply_ite State.standing, ite_self, ↓State.beginBankMove_standing])
theorem ownBudgetSet_holds (u0 : Waiter) (x : CmdIn) (s : State) : (ownBudgetSet u0 x s).holds (fun t => t.standing = s.standing) := by
  unfold ownBudgetSet
  repeat' (first
    | exact trivial
    | with_reducible rfl
    | simp only [Own.holds_refuse, Own.holds_done, Own.holds_run, Own.holds_fail, ↓State.standing_mk, ↓State.standing_eta,
        ↓apply_ite State.standing, ite_self, ↓State.takeBudget_standing]
      done
    | split
    | (with_reducible refine (foldl_standing _ _ _ (fun s a => ?_)).trans ?_)
    | refine And.intro ?_ (fun u hu => (Eq.trans ?_ hu))
    | simp only [Own.holds_refuse, Own.holds_done, Own.holds_run, Own.holds_fail, Own.holds_last, ↓State.standing_mk,
        ↓State.standing_eta, ↓apply_ite State.standing, ite_self, ↓State.takeBudget_standing])
theorem ownColumnRepair_holds (u0 : Waiter) (x : CmdIn) (s : State) : (ownColumnRepair u0 x s).holds (fun t => t.standing = s.standing) := by
  unfold ownColumnRepair
  repeat' (first
    | exact trivial
    | with_reducible rfl
    | simp only [Own.holds_refuse, Own.holds_done, Own.holds_run, Own.holds_fail, ↓State.standing_mk, ↓State.standing_eta,
        ↓apply_ite State.standing, ite_self, ↓State.setBank_standing]
      done
    | split
    | (with_reducible refine (foldl_standing _ _ _ (fun s a => ?_)).trans ?_)
    | refine And.intro ?_ (fun u hu => (Eq.trans ?_ hu))
    | simp only [Own.holds_refuse, Own.holds_done, Own.holds_run, Own.holds_fail, Own.holds_last, ↓State.standing_mk,
        ↓State.standing_eta, ↓apply_ite State.standing, ite_self, ↓State.setBank_standing])
theorem ownCompress_holds (w : Waiter) (x : CmdIn) (s : State) : (ownCompress w x s).holds (fun t => t.standing = s.standing) := ownCxe_holds ..
theorem ownCredClear_holds (u0 : Waiter) (x : CmdIn) (s : State) : (ownCredClear u0 x s).holds (fun t => t.standing = s.standing) := by
  unfold ownCredClear
  repeat' (first
    | exact trivial
    | with_reducible rfl
    | simp only [Own.holds_refuse, Own.holds_done, Own.holds_run, Own.holds_fail, ↓State.standing_mk, ↓State.standing_eta,
        ↓apply_ite State.standing, ite_self]
      done
    | split
    | (with_reducible refine (foldl_standing _ _ _ (fun s a => ?_)).trans ?_)
    | refine And.intro ?_ (fun u hu => (Eq.trans ?_ hu))
    | simp only [Own.holds_refuse, Own.holds_done, Own.holds_run, Own.holds_fail, Own.holds_last, ↓State.standing_mk,
        ↓State.standing_eta, ↓apply_ite State.standing, ite_self])
theorem ownCredSet_holds (u0 : Waiter) (x : CmdIn) (s : State) : (ownCredSet u0 x s).holds (fun t => t.standing = s.standing) := by
  unfold ownCredSet
  repeat' (first
    | exact trivial
    | with_reducible rfl
    | simp only [Own.holds_refuse, Own.holds_done, Own.holds_run, Own.holds_fail, ↓State.standing_mk, ↓State.standing_eta,
        ↓apply_ite State.standing, ite_self]
      done
    | split
    | (with_reducible refine (foldl_standing _ _ _ (fun s a => ?_)).trans ?_)
    | refine And.intro ?_ (fun u hu => (Eq.trans ?_ hu))
    | simp only [Own.holds_refuse, Own.holds_done, Own.holds_run, Own.holds_fail, Own.holds_last, ↓State.standing_mk,
        ↓State.standing_eta, ↓apply_ite State.standing, ite_self])
theorem ownCursorReset_holds (w : Waiter) (x : CmdIn) (s : State) : (ownCursorReset w x s).holds (fun t => t.standing = s.standing) := by
  unfold ownCursorReset
  repeat' (first
    | exact trivial
    | with_reducible rfl
    | simp only [Own.holds_refuse, Own.holds_done, Own.holds_run, Own.holds_fail, ↓State.standing_mk, ↓State.standing_eta,
        ↓apply_ite State.standing, ite_self]
      done
    | split
    | (with_reducible refine (foldl_standing _ _ _ (fun s a => ?_)).trans ?_)
    | (with_reducible exact State.recovery_holds _ _ _ (fun _ _ _ _ h => cursorStart_standing h))
    | simp only [cursorStart_standing ‹cursorStart _ _ _ _ _ _ _ = .inr _›]
    | refine And.intro ?_ (fun u hu => (Eq.trans ?_ hu))
    | simp only [Own.holds_refuse, Own.holds_done, Own.holds_run, Own.holds_fail, Own.holds_last, ↓State.standing_mk,
        ↓State.standing_eta, ↓apply_ite State.standing, ite_self])
theorem ownDebugUnlock_holds (u0 : Waiter) (u1 : CmdIn) (s : State) : (ownDebugUnlock u0 u1 s).holds (fun t => t.core = s.core) := by
  unfold ownDebugUnlock
  repeat' (first
    | exact trivial
    | with_reducible rfl
    | simp only [Own.holds_refuse, Own.holds_done, Own.holds_run, Own.holds_fail, ↓State.core_mk, ↓State.core_eta, ↓SysBlock.fused_mk,
        ↓SysBlock.fused_eta, State.core_eta, SysBlock.fused_eta, SysBlock.afterReset_fused, ↓apply_ite State.core, ite_self,
            ↓State.debugReset_core, ↓State.core_of_standing (State.endFlush_standing _)]
      done
    | split
    | (with_reducible refine (foldl_core _ _ _ (fun s a => ?_)).trans ?_)
    | refine And.intro ?_ (fun u hu => (Eq.trans ?_ hu))
    | simp only [Own.holds_refuse, Own.holds_done, Own.holds_run, Own.holds_fail, Own.holds_last, ↓State.core_mk, ↓State.core_eta,
        ↓SysBlock.fused_mk, ↓SysBlock.fused_eta, State.core_eta, SysBlock.fused_eta, SysBlock.afterReset_fused, ↓apply_ite State.core,
            ite_self, ↓State.debugReset_core, ↓State.core_of_standing (State.endFlush_standing _)])
theorem ownDecommission_holds (u0 : Waiter) (x : CmdIn) (s : State) : (ownDecommission u0 x s).holds (fun t => t.standing = s.standing) := by
  unfold ownDecommission
  repeat' (first
    | exact trivial
    | with_reducible rfl
    | simp only [Own.holds_refuse, Own.holds_done, Own.holds_run, Own.holds_fail, ↓State.standing_mk, ↓State.standing_eta,
        ↓apply_ite State.standing, ite_self, ↓State.raise_standing, ↓State.writeSetting_standing]
      done
    | split
    | (with_reducible refine (foldl_standing _ _ _ (fun s a => ?_)).trans ?_)
    | refine And.intro ?_ (fun u hu => (Eq.trans ?_ hu))
    | simp only [Own.holds_refuse, Own.holds_done, Own.holds_run, Own.holds_fail, Own.holds_last, ↓State.standing_mk,
        ↓State.standing_eta, ↓apply_ite State.standing, ite_self, ↓State.raise_standing, ↓State.writeSetting_standing])
theorem ownDecompress_holds (w : Waiter) (x : CmdIn) (s : State) : (ownDecompress w x s).holds (fun t => t.standing = s.standing) := ownCxe_holds ..
theorem ownDestBind_holds (u0 : Waiter) (x : CmdIn) (s : State) : (ownDestBind u0 x s).holds (fun t => t.standing = s.standing) := by
  unfold ownDestBind
  repeat' (first
    | exact trivial
    | with_reducible rfl
    | simp only [Own.holds_refuse, Own.holds_done, Own.holds_run, Own.holds_fail, ↓State.standing_mk, ↓State.standing_eta,
        ↓apply_ite State.standing, ite_self, ↓State.setJob_standing, ↓State.bindQp_standing]
      done
    | split
    | (with_reducible refine (foldl_standing _ _ _ (fun s a => ?_)).trans ?_)
    | refine And.intro ?_ (fun u hu => (Eq.trans ?_ hu))
    | simp only [Own.holds_refuse, Own.holds_done, Own.holds_run, Own.holds_fail, Own.holds_last, ↓State.standing_mk,
        ↓State.standing_eta, ↓apply_ite State.standing, ite_self, ↓State.setJob_standing, ↓State.bindQp_standing])
theorem ownDieRetire_holds (u0 : Waiter) (x : CmdIn) (s : State) : (ownDieRetire u0 x s).holds (fun t => t.standing = s.standing) := by
  unfold ownDieRetire
  repeat' (first
    | exact trivial
    | with_reducible rfl
    | simp only [Own.holds_refuse, Own.holds_done, Own.holds_run, Own.holds_fail, ↓State.standing_mk, ↓State.standing_eta,
        ↓apply_ite State.standing, ite_self, ↓State.retireDie_standing]
      done
    | split
    | (with_reducible refine (foldl_standing _ _ _ (fun s a => ?_)).trans ?_)
    | refine And.intro ?_ (fun u hu => (Eq.trans ?_ hu))
    | simp only [Own.holds_refuse, Own.holds_done, Own.holds_run, Own.holds_fail, Own.holds_last, ↓State.standing_mk,
        ↓State.standing_eta, ↓apply_ite State.standing, ite_self, ↓State.retireDie_standing])
theorem ownEngineBypass_holds (w : Waiter) (x : CmdIn) (s : State) : (ownEngineBypass w x s).holds (fun t => t.standing = s.standing) := by
  unfold ownEngineBypass
  repeat' (first
    | exact trivial
    | with_reducible rfl
    | simp only [Own.holds_refuse, Own.holds_done, Own.holds_run, Own.holds_fail, ↓State.standing_mk, ↓State.standing_eta,
        ↓apply_ite State.standing, ite_self, ↓State.beginRun_standing, ↓State.markOut_standing]
      done
    | split
    | (with_reducible refine (foldl_standing _ _ _ (fun s a => ?_)).trans ?_)
    | refine And.intro ?_ (fun u hu => (Eq.trans ?_ hu))
    | simp only [Own.holds_refuse, Own.holds_done, Own.holds_run, Own.holds_fail, Own.holds_last, ↓State.standing_mk,
        ↓State.standing_eta, ↓apply_ite State.standing, ite_self, ↓State.beginRun_standing, ↓State.markOut_standing])
theorem ownEpochPlan_holds (w : Waiter) (x : CmdIn) (s : State) : (ownEpochPlan w x s).holds (fun t => t.standing = s.standing) := by
  unfold ownEpochPlan
  repeat' (first
    | exact trivial
    | with_reducible rfl
    | simp only [Own.holds_refuse, Own.holds_done, Own.holds_run, Own.holds_fail, ↓State.standing_mk, ↓State.standing_eta,
        ↓apply_ite State.standing, ite_self, ↓State.setJob_standing]
      done
    | split
    | (with_reducible refine (foldl_standing _ _ _ (fun s a => ?_)).trans ?_)
    | (with_reducible exact State.beginPlan_holds ..)
    | refine And.intro ?_ (fun u hu => (Eq.trans ?_ hu))
    | simp only [Own.holds_refuse, Own.holds_done, Own.holds_run, Own.holds_fail, Own.holds_last, ↓State.standing_mk,
        ↓State.standing_eta, ↓apply_ite State.standing, ite_self, ↓State.setJob_standing])
theorem ownEvtRead_holds (u0 : Waiter) (x : CmdIn) (s : State) : (ownEvtRead u0 x s).holds (fun t => t.standing = s.standing) := by
  unfold ownEvtRead
  repeat' (first
    | exact trivial
    | with_reducible rfl
    | simp only [Own.holds_refuse, Own.holds_done, Own.holds_run, Own.holds_fail, ↓State.standing_mk, ↓State.standing_eta,
        ↓apply_ite State.standing, ite_self, ↓State.consumeEvents_standing, ↓State.deliverEvents_standing]
      done
    | split
    | (with_reducible refine (foldl_standing _ _ _ (fun s a => ?_)).trans ?_)
    | simp only [State.take_standing ‹State.take _ _ _ = some (_, _)›]
    | refine And.intro ?_ (fun u hu => (Eq.trans ?_ hu))
    | simp only [Own.holds_refuse, Own.holds_done, Own.holds_run, Own.holds_fail, Own.holds_last, ↓State.standing_mk,
        ↓State.standing_eta, ↓apply_ite State.standing, ite_self, ↓State.consumeEvents_standing, ↓State.deliverEvents_standing])
theorem ownEvtSubscribe_holds (u0 : Waiter) (x : CmdIn) (s : State) : (ownEvtSubscribe u0 x s).holds (fun t => t.standing = s.standing) := by
  unfold ownEvtSubscribe
  repeat' (first
    | exact trivial
    | with_reducible rfl
    | simp only [Own.holds_refuse, Own.holds_done, Own.holds_run, Own.holds_fail, ↓State.standing_mk, ↓State.standing_eta,
        ↓apply_ite State.standing, ite_self]
      done
    | split
    | (with_reducible refine (foldl_standing _ _ _ (fun s a => ?_)).trans ?_)
    | refine And.intro ?_ (fun u hu => (Eq.trans ?_ hu))
    | simp only [Own.holds_refuse, Own.holds_done, Own.holds_run, Own.holds_fail, Own.holds_last, ↓State.standing_mk,
        ↓State.standing_eta, ↓apply_ite State.standing, ite_self])
theorem ownFreqAnnounce_holds (u0 : Waiter) (x : CmdIn) (s : State) : (ownFreqAnnounce u0 x s).holds (fun t => t.standing = s.standing) := by
  unfold ownFreqAnnounce
  repeat' (first
    | exact trivial
    | with_reducible rfl
    | simp only [Own.holds_refuse, Own.holds_done, Own.holds_run, Own.holds_fail, ↓State.standing_mk, ↓State.standing_eta,
        ↓apply_ite State.standing, ite_self]
      done
    | split
    | (with_reducible refine (foldl_standing _ _ _ (fun s a => ?_)).trans ?_)
    | refine And.intro ?_ (fun u hu => (Eq.trans ?_ hu))
    | simp only [Own.holds_refuse, Own.holds_done, Own.holds_run, Own.holds_fail, Own.holds_last, ↓State.standing_mk,
        ↓State.standing_eta, ↓apply_ite State.standing, ite_self])
theorem ownIdentify_holds (u0 : Waiter) (u1 : CmdIn) (s : State) : (ownIdentify u0 u1 s).holds (fun t => t.standing = s.standing) := by
  unfold ownIdentify
  repeat' (first
    | exact trivial
    | with_reducible rfl
    | simp only [Own.holds_refuse, Own.holds_done, Own.holds_run, Own.holds_fail, ↓State.standing_mk, ↓State.standing_eta,
        ↓apply_ite State.standing, ite_self]
      done
    | split
    | (with_reducible refine (foldl_standing _ _ _ (fun s a => ?_)).trans ?_)
    | refine And.intro ?_ (fun u hu => (Eq.trans ?_ hu))
    | simp only [Own.holds_refuse, Own.holds_done, Own.holds_run, Own.holds_fail, Own.holds_last, ↓State.standing_mk,
        ↓State.standing_eta, ↓apply_ite State.standing, ite_self])
theorem ownImageLoad_holds (u0 : Waiter) (x : CmdIn) (s : State) : (ownImageLoad u0 x s).holds (fun t => t.core = s.core) := by
  unfold ownImageLoad
  repeat' (first
    | exact trivial
    | with_reducible rfl
    | simp only [Own.holds_refuse, Own.holds_done, Own.holds_run, Own.holds_fail, ↓State.core_mk, ↓State.core_eta, ↓SysBlock.fused_mk,
        ↓SysBlock.fused_eta, State.core_eta, SysBlock.fused_eta, SysBlock.afterReset_fused, ↓apply_ite State.core, ite_self]
      done
    | split
    | (with_reducible exact State.sourceFails_core ..)
    | (with_reducible refine (foldl_core _ _ _ (fun s a => ?_)).trans ?_)
    | (with_reducible exact State.loadImage_holds ..)
    | refine And.intro ?_ (fun u hu => (Eq.trans ?_ hu))
    | simp only [Own.holds_refuse, Own.holds_done, Own.holds_run, Own.holds_fail, Own.holds_last, ↓State.core_mk, ↓State.core_eta,
        ↓SysBlock.fused_mk, ↓SysBlock.fused_eta, State.core_eta, SysBlock.fused_eta, SysBlock.afterReset_fused, ↓apply_ite State.core,
            ite_self])
theorem ownImageUnload_holds (u0 : Waiter) (x : CmdIn) (s : State) : (ownImageUnload u0 x s).holds (fun t => t.core = s.core) := by
  unfold ownImageUnload
  repeat' (first
    | exact trivial
    | with_reducible rfl
    | simp only [Own.holds_refuse, Own.holds_done, Own.holds_run, Own.holds_fail, ↓State.core_mk, ↓State.core_eta, ↓SysBlock.fused_mk,
        ↓SysBlock.fused_eta, State.core_eta, SysBlock.fused_eta, SysBlock.afterReset_fused, ↓apply_ite State.core, ite_self,
            ↓State.setImages_core]
      done
    | split
    | (with_reducible refine (foldl_core _ _ _ (fun s a => ?_)).trans ?_)
    | refine And.intro ?_ (fun u hu => (Eq.trans ?_ hu))
    | simp only [Own.holds_refuse, Own.holds_done, Own.holds_run, Own.holds_fail, Own.holds_last, ↓State.core_mk, ↓State.core_eta,
        ↓SysBlock.fused_mk, ↓SysBlock.fused_eta, State.core_eta, SysBlock.fused_eta, SysBlock.afterReset_fused, ↓apply_ite State.core,
            ite_self, ↓State.setImages_core])
theorem ownJobEnd_holds (w : Waiter) (x : CmdIn) (s : State) : (ownJobEnd w x s).holds (fun t => t.standing = s.standing) := by
  unfold ownJobEnd
  repeat' (first
    | exact trivial
    | with_reducible rfl
    | simp only [Own.holds_refuse, Own.holds_done, Own.holds_run, Own.holds_fail, ↓State.standing_mk, ↓State.standing_eta,
        ↓apply_ite State.standing, ite_self, ↓State.setJob_standing, ↓State.leaveJob_standing, ↓State.haltJob_standing]
      done
    | split
    | (with_reducible refine (foldl_standing _ _ _ (fun s a => ?_)).trans ?_)
    | refine And.intro ?_ (fun u hu => (Eq.trans ?_ hu))
    | simp only [Own.holds_refuse, Own.holds_done, Own.holds_run, Own.holds_fail, Own.holds_last, ↓State.standing_mk,
        ↓State.standing_eta, ↓apply_ite State.standing, ite_self, ↓State.setJob_standing, ↓State.leaveJob_standing,
            ↓State.haltJob_standing])
theorem ownJobLeave_holds (w : Waiter) (u1 : CmdIn) (s : State) : (ownJobLeave w u1 s).holds (fun t => t.standing = s.standing) := by
  unfold ownJobLeave
  repeat' (first
    | exact trivial
    | with_reducible rfl
    | simp only [Own.holds_refuse, Own.holds_done, Own.holds_run, Own.holds_fail, ↓State.standing_mk, ↓State.standing_eta,
        ↓apply_ite State.standing, ite_self]
      done
    | split
    | (with_reducible refine (foldl_standing _ _ _ (fun s a => ?_)).trans ?_)
    | (with_reducible exact State.recovery_holds _ _ _ (fun _ _ _ _ h => leaveStart_standing h))
    | simp only [leaveStart_standing ‹leaveStart _ _ _ = .inr _›]
    | refine And.intro ?_ (fun u hu => (Eq.trans ?_ hu))
    | simp only [Own.holds_refuse, Own.holds_done, Own.holds_run, Own.holds_fail, Own.holds_last, ↓State.standing_mk,
        ↓State.standing_eta, ↓apply_ite State.standing, ite_self])
theorem ownJobQuery_holds (u0 : Waiter) (x : CmdIn) (s : State) : (ownJobQuery u0 x s).holds (fun t => t.standing = s.standing) := by
  unfold ownJobQuery
  repeat' (first
    | exact trivial
    | with_reducible rfl
    | simp only [Own.holds_refuse, Own.holds_done, Own.holds_run, Own.holds_fail, ↓State.standing_mk, ↓State.standing_eta,
        ↓apply_ite State.standing, ite_self]
      done
    | split
    | (with_reducible refine (foldl_standing _ _ _ (fun s a => ?_)).trans ?_)
    | refine And.intro ?_ (fun u hu => (Eq.trans ?_ hu))
    | simp only [Own.holds_refuse, Own.holds_done, Own.holds_run, Own.holds_fail, Own.holds_last, ↓State.standing_mk,
        ↓State.standing_eta, ↓apply_ite State.standing, ite_self])
theorem ownJobResume_holds (w : Waiter) (x : CmdIn) (s : State) : (ownJobResume w x s).holds (fun t => t.standing = s.standing) := by
  unfold ownJobResume
  repeat' (first
    | exact trivial
    | with_reducible rfl
    | simp only [Own.holds_refuse, Own.holds_done, Own.holds_run, Own.holds_fail, ↓State.standing_mk, ↓State.standing_eta,
        ↓apply_ite State.standing, ite_self]
      done
    | split
    | (with_reducible refine (foldl_standing _ _ _ (fun s a => ?_)).trans ?_)
    | (with_reducible exact State.recovery_holds _ _ _ (fun _ _ _ _ h => resumeStart_standing h))
    | simp only [resumeStart_standing ‹resumeStart _ _ _ _ _ = .inr _›]
    | refine And.intro ?_ (fun u hu => (Eq.trans ?_ hu))
    | simp only [Own.holds_refuse, Own.holds_done, Own.holds_run, Own.holds_fail, Own.holds_last, ↓State.standing_mk,
        ↓State.standing_eta, ↓apply_ite State.standing, ite_self])
theorem ownJobStart_holds (u0 : Waiter) (x : CmdIn) (s : State) : (ownJobStart u0 x s).holds (fun t => t.standing = s.standing) := by
  unfold ownJobStart
  repeat' (first
    | exact trivial
    | with_reducible rfl
    | simp only [Own.holds_refuse, Own.holds_done, Own.holds_run, Own.holds_fail, ↓State.standing_mk, ↓State.standing_eta,
        ↓apply_ite State.standing, ite_self]
      done
    | split
    | (with_reducible refine (foldl_standing _ _ _ (fun s a => ?_)).trans ?_)
    | (with_reducible exact State.startJob_holds ..)
    | refine And.intro ?_ (fun u hu => (Eq.trans ?_ hu))
    | simp only [Own.holds_refuse, Own.holds_done, Own.holds_run, Own.holds_fail, Own.holds_last, ↓State.standing_mk,
        ↓State.standing_eta, ↓apply_ite State.standing, ite_self])
theorem ownJobTakeover_holds (w : Waiter) (x : CmdIn) (s : State) : (ownJobTakeover w x s).holds (fun t => t.standing = s.standing) := by
  unfold ownJobTakeover
  repeat' (first
    | exact trivial
    | with_reducible rfl
    | simp only [Own.holds_refuse, Own.holds_done, Own.holds_run, Own.holds_fail, ↓State.standing_mk, ↓State.standing_eta,
        ↓apply_ite State.standing, ite_self]
      done
    | split
    | (with_reducible refine (foldl_standing _ _ _ (fun s a => ?_)).trans ?_)
    | (with_reducible exact State.recovery_holds _ _ _ (fun _ _ _ _ h => takeoverStart_standing h))
    | simp only [takeoverStart_standing ‹takeoverStart _ _ _ _ = .inr _›]
    | refine And.intro ?_ (fun u hu => (Eq.trans ?_ hu))
    | simp only [Own.holds_refuse, Own.holds_done, Own.holds_run, Own.holds_fail, Own.holds_last, ↓State.standing_mk,
        ↓State.standing_eta, ↓apply_ite State.standing, ite_self])
theorem ownLiveServiceRemove_holds (u0 : Waiter) (x : CmdIn) (s : State) : (ownLiveServiceRemove u0 x s).holds (fun t => t.standing = s.standing) := by
  unfold ownLiveServiceRemove
  repeat' (first
    | exact trivial
    | with_reducible rfl
    | simp only [Own.holds_refuse, Own.holds_done, Own.holds_run, Own.holds_fail, ↓State.standing_mk, ↓State.standing_eta,
        ↓apply_ite State.standing, ite_self, ↓State.leaveService_standing, ↓State.writeSetting_standing]
      done
    | split
    | (with_reducible refine (foldl_standing _ _ _ (fun s a => ?_)).trans ?_)
    | refine And.intro ?_ (fun u hu => (Eq.trans ?_ hu))
    | simp only [Own.holds_refuse, Own.holds_done, Own.holds_run, Own.holds_fail, Own.holds_last, ↓State.standing_mk,
        ↓State.standing_eta, ↓apply_ite State.standing, ite_self, ↓State.leaveService_standing, ↓State.writeSetting_standing])
theorem ownLiveServiceSet_holds (u0 : Waiter) (x : CmdIn) (s : State) : (ownLiveServiceSet u0 x s).holds (fun t => t.standing = s.standing) := by
  unfold ownLiveServiceSet
  repeat' (first
    | exact trivial
    | with_reducible rfl
    | simp only [Own.holds_refuse, Own.holds_done, Own.holds_run, Own.holds_fail, ↓State.standing_mk, ↓State.standing_eta,
        ↓apply_ite State.standing, ite_self, ↓State.emit_standing, ↓State.leaveService_standing, ↓State.writeSetting_standing]
      done
    | split
    | (with_reducible refine (foldl_standing _ _ _ (fun s a => ?_)).trans ?_)
    | refine And.intro ?_ (fun u hu => (Eq.trans ?_ hu))
    | simp only [Own.holds_refuse, Own.holds_done, Own.holds_run, Own.holds_fail, Own.holds_last, ↓State.standing_mk,
        ↓State.standing_eta, ↓apply_ite State.standing, ite_self, ↓State.emit_standing, ↓State.leaveService_standing,
            ↓State.writeSetting_standing])
theorem ownNetworkSet_holds (u0 : Waiter) (x : CmdIn) (s : State) : (ownNetworkSet u0 x s).holds (fun t => t.standing = s.standing) := by
  unfold ownNetworkSet
  repeat' (first
    | exact trivial
    | with_reducible rfl
    | simp only [Own.holds_refuse, Own.holds_done, Own.holds_run, Own.holds_fail, ↓State.standing_mk, ↓State.standing_eta,
        ↓apply_ite State.standing, ite_self, ↓State.networkImage_standing, ↓State.networkSet_standing]
      done
    | split
    | (with_reducible refine (foldl_standing _ _ _ (fun s a => ?_)).trans ?_)
    | refine And.intro ?_ (fun u hu => (Eq.trans ?_ hu))
    | simp only [Own.holds_refuse, Own.holds_done, Own.holds_run, Own.holds_fail, Own.holds_last, ↓State.standing_mk,
        ↓State.standing_eta, ↓apply_ite State.standing, ite_self, ↓State.networkImage_standing, ↓State.networkSet_standing])
theorem ownNsCreate_holds (u0 : Waiter) (x : CmdIn) (s : State) : (ownNsCreate u0 x s).holds (fun t => t.standing = s.standing) := by
  unfold ownNsCreate
  repeat' (first
    | exact trivial
    | with_reducible rfl
    | simp only [Own.holds_refuse, Own.holds_done, Own.holds_run, Own.holds_fail, ↓State.standing_mk, ↓State.standing_eta,
        ↓apply_ite State.standing, ite_self, ↓State.journalEntry_standing]
      done
    | split
    | (with_reducible refine (foldl_standing _ _ _ (fun s a => ?_)).trans ?_)
    | refine And.intro ?_ (fun u hu => (Eq.trans ?_ hu))
    | simp only [Own.holds_refuse, Own.holds_done, Own.holds_run, Own.holds_fail, Own.holds_last, ↓State.standing_mk,
        ↓State.standing_eta, ↓apply_ite State.standing, ite_self, ↓State.journalEntry_standing])
theorem ownNsDelete_holds (u0 : Waiter) (x : CmdIn) (s : State) : (ownNsDelete u0 x s).holds (fun t => t.standing = s.standing) := by
  unfold ownNsDelete
  repeat' (first
    | exact trivial
    | with_reducible rfl
    | simp only [Own.holds_refuse, Own.holds_done, Own.holds_run, Own.holds_fail, ↓State.standing_mk, ↓State.standing_eta,
        ↓apply_ite State.standing, ite_self, ↓State.releaseFlushes_standing, ↓State.journalEntry_standing]
      done
    | split
    | (with_reducible refine (foldl_standing _ _ _ (fun s a => ?_)).trans ?_)
    | refine And.intro ?_ (fun u hu => (Eq.trans ?_ hu))
    | simp only [Own.holds_refuse, Own.holds_done, Own.holds_run, Own.holds_fail, Own.holds_last, ↓State.standing_mk,
        ↓State.standing_eta, ↓apply_ite State.standing, ite_self, ↓State.releaseFlushes_standing, ↓State.journalEntry_standing])
theorem ownNsSeal_holds (u0 : Waiter) (x : CmdIn) (s : State) : (ownNsSeal u0 x s).holds (fun t => t.standing = s.standing) := by
  unfold ownNsSeal
  repeat' (first
    | exact trivial
    | with_reducible rfl
    | simp only [Own.holds_refuse, Own.holds_done, Own.holds_run, Own.holds_fail, ↓State.standing_mk, ↓State.standing_eta,
        ↓apply_ite State.standing, ite_self, ↓State.journalFlush_standing, ↓State.journalEntry_standing]
      done
    | split
    | (with_reducible refine (foldl_standing _ _ _ (fun s a => ?_)).trans ?_)
    | refine And.intro ?_ (fun u hu => (Eq.trans ?_ hu))
    | simp only [Own.holds_refuse, Own.holds_done, Own.holds_run, Own.holds_fail, Own.holds_last, ↓State.standing_mk,
        ↓State.standing_eta, ↓apply_ite State.standing, ite_self, ↓State.journalFlush_standing, ↓State.journalEntry_standing])
theorem ownParamRing_holds (u0 : Waiter) (x : CmdIn) (s : State) : (ownParamRing u0 x s).holds (fun t => t.standing = s.standing) := by
  unfold ownParamRing
  repeat' (first
    | exact trivial
    | with_reducible rfl
    | simp only [Own.holds_refuse, Own.holds_done, Own.holds_run, Own.holds_fail, ↓State.standing_mk, ↓State.standing_eta,
        ↓apply_ite State.standing, ite_self, ↓State.setJob_standing]
      done
    | split
    | (with_reducible refine (foldl_standing _ _ _ (fun s a => ?_)).trans ?_)
    | refine And.intro ?_ (fun u hu => (Eq.trans ?_ hu))
    | simp only [Own.holds_refuse, Own.holds_done, Own.holds_run, Own.holds_fail, Own.holds_last, ↓State.standing_mk,
        ↓State.standing_eta, ↓apply_ite State.standing, ite_self, ↓State.setJob_standing])
theorem ownParamTable_holds (w : Waiter) (x : CmdIn) (s : State) : (ownParamTable w x s).holds (fun t => t.standing = s.standing) := by
  unfold ownParamTable
  repeat' (first
    | exact trivial
    | with_reducible rfl
    | simp only [Own.holds_refuse, Own.holds_done, Own.holds_run, Own.holds_fail, ↓State.standing_mk, ↓State.standing_eta,
        ↓apply_ite State.standing, ite_self]
      done
    | split
    | (with_reducible exact State.sourceFails_holds ..)
    | (with_reducible refine (foldl_standing _ _ _ (fun s a => ?_)).trans ?_)
    | refine And.intro ?_ (fun u hu => (Eq.trans ?_ hu))
    | simp only [Own.holds_refuse, Own.holds_done, Own.holds_run, Own.holds_fail, Own.holds_last, ↓State.standing_mk,
        ↓State.standing_eta, ↓apply_ite State.standing, ite_self])
theorem ownPartnerSet_holds (u0 : Waiter) (x : CmdIn) (s : State) : (ownPartnerSet u0 x s).holds (fun t => t.standing = s.standing) := by
  unfold ownPartnerSet
  repeat' (first
    | exact trivial
    | with_reducible rfl
    | simp only [Own.holds_refuse, Own.holds_done, Own.holds_run, Own.holds_fail, ↓State.standing_mk, ↓State.standing_eta,
        ↓apply_ite State.standing, ite_self, ↓State.changePartner_standing, ↓State.writeSetting_standing]
      done
    | split
    | (with_reducible refine (foldl_standing _ _ _ (fun s a => ?_)).trans ?_)
    | refine And.intro ?_ (fun u hu => (Eq.trans ?_ hu))
    | simp only [Own.holds_refuse, Own.holds_done, Own.holds_run, Own.holds_fail, Own.holds_last, ↓State.standing_mk,
        ↓State.standing_eta, ↓apply_ite State.standing, ite_self, ↓State.changePartner_standing, ↓State.writeSetting_standing])
theorem ownPitClear_holds (u0 : Waiter) (u1 : CmdIn) (s : State) : (ownPitClear u0 u1 s).holds (fun t => t.core = s.core) := by
  unfold ownPitClear
  repeat' (first
    | exact trivial
    | with_reducible rfl
    | simp only [Own.holds_refuse, Own.holds_done, Own.holds_run, Own.holds_fail, ↓State.core_mk, ↓State.core_eta, ↓SysBlock.fused_mk,
        ↓SysBlock.fused_eta, State.core_eta, SysBlock.fused_eta, SysBlock.afterReset_fused, ↓apply_ite State.core, ite_self,
            ↓State.deviceReset_core, ↓State.core_of_standing (State.writeCount_standing _ _ _)]
      done
    | split
    | (with_reducible refine (foldl_core _ _ _ (fun s a => ?_)).trans ?_)
    | refine And.intro ?_ (fun u hu => (Eq.trans ?_ hu))
    | simp only [Own.holds_refuse, Own.holds_done, Own.holds_run, Own.holds_fail, Own.holds_last, ↓State.core_mk, ↓State.core_eta,
        ↓SysBlock.fused_mk, ↓SysBlock.fused_eta, State.core_eta, SysBlock.fused_eta, SysBlock.afterReset_fused, ↓apply_ite State.core,
            ite_self, ↓State.deviceReset_core, ↓State.core_of_standing (State.writeCount_standing _ _ _)])
theorem ownPlanReissue_holds (w : Waiter) (x : CmdIn) (s : State) : (ownPlanReissue w x s).holds (fun t => t.standing = s.standing) := by
  unfold ownPlanReissue
  repeat' (first
    | exact trivial
    | with_reducible rfl
    | simp only [Own.holds_refuse, Own.holds_done, Own.holds_run, Own.holds_fail, ↓State.standing_mk, ↓State.standing_eta,
        ↓apply_ite State.standing, ite_self, ↓State.setJob_standing]
      done
    | split
    | (with_reducible refine (foldl_standing _ _ _ (fun s a => ?_)).trans ?_)
    | refine And.intro ?_ (fun u hu => (Eq.trans ?_ hu))
    | simp only [Own.holds_refuse, Own.holds_done, Own.holds_run, Own.holds_fail, Own.holds_last, ↓State.standing_mk,
        ↓State.standing_eta, ↓apply_ite State.standing, ite_self, ↓State.setJob_standing])
theorem ownPoolAudit_holds (w : Waiter) (x : CmdIn) (s : State) : (ownPoolAudit w x s).holds (fun t => t.standing = s.standing) := by
  unfold ownPoolAudit
  repeat' (first
    | exact trivial
    | with_reducible rfl
    | simp only [Own.holds_refuse, Own.holds_done, Own.holds_run, Own.holds_fail, ↓State.standing_mk, ↓State.standing_eta,
        ↓apply_ite State.standing, ite_self, ↓State.startAudit_standing]
      done
    | split
    | (with_reducible refine (foldl_standing _ _ _ (fun s a => ?_)).trans ?_)
    | refine And.intro ?_ (fun u hu => (Eq.trans ?_ hu))
    | simp only [Own.holds_refuse, Own.holds_done, Own.holds_run, Own.holds_fail, Own.holds_last, ↓State.standing_mk,
        ↓State.standing_eta, ↓apply_ite State.standing, ite_self, ↓State.startAudit_standing])
theorem Own.holds_ite_refuse {c : Prop} [Decidable c] {r : Result} {o : Own} {P : State → Prop} (h : o.holds P) :
    (if c then .refuse r else o : Own).holds P := by
  split
  · trivial
  · exact h
theorem ownPoolConfig_holds (w : Waiter) (x : CmdIn) (s : State) : (ownPoolConfig w x s).holds (fun t => t.standing = s.standing) := by
  unfold ownPoolConfig
  dsimp only
  repeat' refine Own.holds_ite_refuse ?_
  simp only [Own.holds_done, ↓State.writePoolEntry_standing, ↓State.configPool_standing]
theorem ownPoolThreshold_holds (u0 : Waiter) (x : CmdIn) (s : State) : (ownPoolThreshold u0 x s).holds (fun t => t.standing = s.standing) := by
  unfold ownPoolThreshold
  repeat' (first
    | exact trivial
    | with_reducible rfl
    | simp only [Own.holds_refuse, Own.holds_done, Own.holds_run, Own.holds_fail, ↓State.standing_mk, ↓State.standing_eta,
        ↓apply_ite State.standing, ite_self, ↓State.setPool_standing, ↓State.writeSetting_standing]
      done
    | split
    | (with_reducible refine (foldl_standing _ _ _ (fun s a => ?_)).trans ?_)
    | refine And.intro ?_ (fun u hu => (Eq.trans ?_ hu))
    | simp only [Own.holds_refuse, Own.holds_done, Own.holds_run, Own.holds_fail, Own.holds_last, ↓State.standing_mk,
        ↓State.standing_eta, ↓apply_ite State.standing, ite_self, ↓State.setPool_standing, ↓State.writeSetting_standing])
theorem ownPortService_holds (w : Waiter) (x : CmdIn) (s : State) : (ownPortService w x s).holds (fun t => t.standing = s.standing) := by
  unfold ownPortService
  repeat' (first
    | exact trivial
    | with_reducible rfl
    | simp only [Own.holds_refuse, Own.holds_done, Own.holds_run, Own.holds_fail, ↓State.standing_mk, ↓State.standing_eta,
        ↓apply_ite State.standing, ite_self, ↓State.updPort_standing, ↓State.servicePort_standing, ↓State.serviceLane_standing]
      done
    | split
    | (with_reducible refine (foldl_standing _ _ _ (fun s a => ?_)).trans ?_)
    | refine And.intro ?_ (fun u hu => (Eq.trans ?_ hu))
    | simp only [Own.holds_refuse, Own.holds_done, Own.holds_run, Own.holds_fail, Own.holds_last, ↓State.standing_mk,
        ↓State.standing_eta, ↓apply_ite State.standing, ite_self, ↓State.updPort_standing, ↓State.servicePort_standing,
            ↓State.serviceLane_standing])
theorem ownRecipeLoad_holds (u0 : Waiter) (x : CmdIn) (s : State) : (ownRecipeLoad u0 x s).holds (fun t => t.core = s.core) := by
  unfold ownRecipeLoad
  repeat' (first
    | exact trivial
    | with_reducible rfl
    | simp only [Own.holds_refuse, Own.holds_done, Own.holds_run, Own.holds_fail, ↓State.core_mk, ↓State.core_eta, ↓SysBlock.fused_mk,
        ↓SysBlock.fused_eta, State.core_eta, SysBlock.fused_eta, SysBlock.afterReset_fused, ↓apply_ite State.core, ite_self]
      done
    | split
    | (with_reducible exact State.sourceFails_core ..)
    | (with_reducible refine (foldl_core _ _ _ (fun s a => ?_)).trans ?_)
    | (with_reducible exact State.loadRecipe_holds ..)
    | refine And.intro ?_ (fun u hu => (Eq.trans ?_ hu))
    | simp only [Own.holds_refuse, Own.holds_done, Own.holds_run, Own.holds_fail, Own.holds_last, ↓State.core_mk, ↓State.core_eta,
        ↓SysBlock.fused_mk, ↓SysBlock.fused_eta, State.core_eta, SysBlock.fused_eta, SysBlock.afterReset_fused, ↓apply_ite State.core,
            ite_self])
theorem ownRecipeReplace_holds (u0 : Waiter) (x : CmdIn) (s : State) : (ownRecipeReplace u0 x s).holds (fun t => t.standing = s.standing) := by
  unfold ownRecipeReplace
  repeat' (first
    | exact trivial
    | with_reducible rfl
    | simp only [Own.holds_refuse, Own.holds_done, Own.holds_run, Own.holds_fail, ↓State.standing_mk, ↓State.standing_eta,
        ↓apply_ite State.standing, ite_self, ↓State.setJob_standing]
      done
    | split
    | (with_reducible refine (foldl_standing _ _ _ (fun s a => ?_)).trans ?_)
    | refine And.intro ?_ (fun u hu => (Eq.trans ?_ hu))
    | simp only [Own.holds_refuse, Own.holds_done, Own.holds_run, Own.holds_fail, Own.holds_last, ↓State.standing_mk,
        ↓State.standing_eta, ↓apply_ite State.standing, ite_self, ↓State.setJob_standing])
theorem ownRecipeUnload_holds (u0 : Waiter) (x : CmdIn) (s : State) : (ownRecipeUnload u0 x s).holds (fun t => t.core = s.core) := by
  unfold ownRecipeUnload
  repeat' (first
    | exact trivial
    | with_reducible rfl
    | simp only [Own.holds_refuse, Own.holds_done, Own.holds_run, Own.holds_fail, ↓State.core_mk, ↓State.core_eta, ↓SysBlock.fused_mk,
        ↓SysBlock.fused_eta, State.core_eta, SysBlock.fused_eta, SysBlock.afterReset_fused, ↓apply_ite State.core, ite_self]
      done
    | split
    | (with_reducible refine (foldl_core _ _ _ (fun s a => ?_)).trans ?_)
    | refine And.intro ?_ (fun u hu => (Eq.trans ?_ hu))
    | simp only [Own.holds_refuse, Own.holds_done, Own.holds_run, Own.holds_fail, Own.holds_last, ↓State.core_mk, ↓State.core_eta,
        ↓SysBlock.fused_mk, ↓SysBlock.fused_eta, State.core_eta, SysBlock.fused_eta, SysBlock.afterReset_fused, ↓apply_ite State.core,
            ite_self])
theorem ownReplicaSet_holds (u0 : Waiter) (x : CmdIn) (s : State) : (ownReplicaSet u0 x s).holds (fun t => t.standing = s.standing) := by
  unfold ownReplicaSet
  repeat' (first
    | exact trivial
    | with_reducible rfl
    | simp only [Own.holds_refuse, Own.holds_done, Own.holds_run, Own.holds_fail, ↓State.standing_mk, ↓State.standing_eta,
        ↓apply_ite State.standing, ite_self, ↓State.journalEntry_standing]
      done
    | split
    | (with_reducible refine (foldl_standing _ _ _ (fun s a => ?_)).trans ?_)
    | refine And.intro ?_ (fun u hu => (Eq.trans ?_ hu))
    | simp only [Own.holds_refuse, Own.holds_done, Own.holds_run, Own.holds_fail, Own.holds_last, ↓State.standing_mk,
        ↓State.standing_eta, ↓apply_ite State.standing, ite_self, ↓State.journalEntry_standing])
theorem ownRestartAfterStop_holds (u0 : Waiter) (u1 : CmdIn) (s : State) : (ownRestartAfterStop u0 u1 s).holds (fun t => t.core = s.core) := by
  unfold ownRestartAfterStop
  repeat' (first
    | exact trivial
    | with_reducible rfl
    | simp only [Own.holds_refuse, Own.holds_done, Own.holds_run, Own.holds_fail, ↓State.core_mk, ↓State.core_eta, ↓SysBlock.fused_mk,
        ↓SysBlock.fused_eta, State.core_eta, SysBlock.fused_eta, SysBlock.afterReset_fused, ↓apply_ite State.core, ite_self,
            ↓State.core_of_standing (State.updDomain_standing _ _ _)]
      done
    | split
    | (with_reducible refine (foldl_core _ _ _ (fun s a => ?_)).trans ?_)
    | refine And.intro ?_ (fun u hu => (Eq.trans ?_ hu))
    | simp only [Own.holds_refuse, Own.holds_done, Own.holds_run, Own.holds_fail, Own.holds_last, ↓State.core_mk, ↓State.core_eta,
        ↓SysBlock.fused_mk, ↓SysBlock.fused_eta, State.core_eta, SysBlock.fused_eta, SysBlock.afterReset_fused, ↓apply_ite State.core,
            ite_self, ↓State.core_of_standing (State.updDomain_standing _ _ _)])
theorem ownRmaRead_holds (w : Waiter) (x : CmdIn) (s : State) : (ownRmaRead w x s).holds (fun t => t.standing = s.standing) := ownRma_holds ..
theorem ownRmaWrite_holds (w : Waiter) (x : CmdIn) (s : State) : (ownRmaWrite w x s).holds (fun t => t.standing = s.standing) := ownRma_holds ..
theorem ownSanitize_holds (u0 : Waiter) (x : CmdIn) (s : State) : (ownSanitize u0 x s).holds (fun t => t.standing = s.standing) := by
  unfold ownSanitize
  repeat' (first
    | exact trivial
    | with_reducible rfl
    | simp only [Own.holds_refuse, Own.holds_done, Own.holds_run, Own.holds_fail, ↓State.standing_mk, ↓State.standing_eta,
        ↓apply_ite State.standing, ite_self, ↓State.startSanitize_standing]
      done
    | split
    | (with_reducible refine (foldl_standing _ _ _ (fun s a => ?_)).trans ?_)
    | refine And.intro ?_ (fun u hu => (Eq.trans ?_ hu))
    | simp only [Own.holds_refuse, Own.holds_done, Own.holds_run, Own.holds_fail, Own.holds_last, ↓State.standing_mk,
        ↓State.standing_eta, ↓apply_ite State.standing, ite_self, ↓State.startSanitize_standing])
theorem ownSelftest_holds (u0 : Waiter) (x : CmdIn) (s : State) : (ownSelftest u0 x s).holds (fun t => t.standing = s.standing) := by
  unfold ownSelftest
  repeat' (first
    | exact trivial
    | with_reducible rfl
    | simp only [Own.holds_refuse, Own.holds_done, Own.holds_run, Own.holds_fail, ↓State.standing_mk, ↓State.standing_eta,
        ↓apply_ite State.standing, ite_self, ↓State.abortSelftest_standing, ↓State.startSelftest_standing]
      done
    | split
    | (with_reducible refine (foldl_standing _ _ _ (fun s a => ?_)).trans ?_)
    | refine And.intro ?_ (fun u hu => (Eq.trans ?_ hu))
    | simp only [Own.holds_refuse, Own.holds_done, Own.holds_run, Own.holds_fail, Own.holds_last, ↓State.standing_mk,
        ↓State.standing_eta, ↓apply_ite State.standing, ite_self, ↓State.abortSelftest_standing, ↓State.startSelftest_standing])
theorem ownSignkeyRevoke_holds (u0 : Waiter) (x : CmdIn) (s : State) : (ownSignkeyRevoke u0 x s).holds (fun t => t.standing = s.standing) := by
  unfold ownSignkeyRevoke
  repeat' (first
    | exact trivial
    | with_reducible rfl
    | simp only [Own.holds_refuse, Own.holds_done, Own.holds_run, Own.holds_fail, ↓State.standing_mk, ↓State.standing_eta,
        ↓apply_ite State.standing, ite_self, ↓State.revokeKey_standing, ↓State.writeSetting_standing]
      done
    | split
    | (with_reducible refine (foldl_standing _ _ _ (fun s a => ?_)).trans ?_)
    | refine And.intro ?_ (fun u hu => (Eq.trans ?_ hu))
    | simp only [Own.holds_refuse, Own.holds_done, Own.holds_run, Own.holds_fail, Own.holds_last, ↓State.standing_mk,
        ↓State.standing_eta, ↓apply_ite State.standing, ite_self, ↓State.revokeKey_standing, ↓State.writeSetting_standing])
theorem ownSignkeyTrust_holds (u0 : Waiter) (x : CmdIn) (s : State) : (ownSignkeyTrust u0 x s).holds (fun t => t.standing = s.standing) := by
  unfold ownSignkeyTrust
  repeat' (first
    | exact trivial
    | with_reducible rfl
    | simp only [Own.holds_refuse, Own.holds_done, Own.holds_run, Own.holds_fail, ↓State.standing_mk, ↓State.standing_eta,
        ↓apply_ite State.standing, ite_self, ↓State.writeSetting_standing]
      done
    | split
    | (with_reducible refine (foldl_standing _ _ _ (fun s a => ?_)).trans ?_)
    | refine And.intro ?_ (fun u hu => (Eq.trans ?_ hu))
    | simp only [Own.holds_refuse, Own.holds_done, Own.holds_run, Own.holds_fail, Own.holds_last, ↓State.standing_mk,
        ↓State.standing_eta, ↓apply_ite State.standing, ite_self, ↓State.writeSetting_standing])
theorem ownSlotCancel_holds (w : Waiter) (x : CmdIn) (s : State) : (ownSlotCancel w x s).holds (fun t => t.standing = s.standing) := by
  unfold ownSlotCancel
  repeat' (first
    | exact trivial
    | with_reducible rfl
    | simp only [Own.holds_refuse, Own.holds_done, Own.holds_run, Own.holds_fail, ↓State.standing_mk, ↓State.standing_eta,
        ↓apply_ite State.standing, ite_self, ↓State.setJob_standing, ↓State.advanceCursor_standing]
      done
    | split
    | (with_reducible refine (foldl_standing _ _ _ (fun s a => ?_)).trans ?_)
    | refine And.intro ?_ (fun u hu => (Eq.trans ?_ hu))
    | simp only [Own.holds_refuse, Own.holds_done, Own.holds_run, Own.holds_fail, Own.holds_last, ↓State.standing_mk,
        ↓State.standing_eta, ↓apply_ite State.standing, ite_self, ↓State.setJob_standing, ↓State.advanceCursor_standing])
theorem ownTelemetryGet_holds (u0 : Waiter) (x : CmdIn) (s : State) : (ownTelemetryGet u0 x s).holds (fun t => t.standing = s.standing) := by
  unfold ownTelemetryGet
  repeat' (first
    | exact trivial
    | with_reducible rfl
    | simp only [Own.holds_refuse, Own.holds_done, Own.holds_run, Own.holds_fail, ↓State.standing_mk, ↓State.standing_eta,
        ↓apply_ite State.standing, ite_self, ↓State.emit_standing]
      done
    | split
    | (with_reducible refine (foldl_standing _ _ _ (fun s a => ?_)).trans ?_)
    | simp only [State.take_standing ‹State.take _ _ _ = some (_, _)›]
    | refine And.intro ?_ (fun u hu => (Eq.trans ?_ hu))
    | simp only [Own.holds_refuse, Own.holds_done, Own.holds_run, Own.holds_fail, Own.holds_last, ↓State.standing_mk,
        ↓State.standing_eta, ↓apply_ite State.standing, ite_self, ↓State.emit_standing])
theorem ownTestRun_holds (w : Waiter) (x : CmdIn) (s : State) : (ownTestRun w x s).holds (fun t => t.standing = s.standing) := by
  unfold ownTestRun
  repeat' (first
    | exact trivial
    | with_reducible rfl
    | simp only [Own.holds_refuse, Own.holds_done, Own.holds_run, Own.holds_fail, ↓State.standing_mk, ↓State.standing_eta,
        ↓apply_ite State.standing, ite_self, ↓State.beginRun_standing]
      done
    | split
    | (with_reducible refine (foldl_standing _ _ _ (fun s a => ?_)).trans ?_)
    | refine And.intro ?_ (fun u hu => (Eq.trans ?_ hu))
    | simp only [Own.holds_refuse, Own.holds_done, Own.holds_run, Own.holds_fail, Own.holds_last, ↓State.standing_mk,
        ↓State.standing_eta, ↓apply_ite State.standing, ite_self, ↓State.beginRun_standing])
theorem ownTileDrain_holds (w : Waiter) (x : CmdIn) (s : State) : (ownTileDrain w x s).holds (fun t => t.standing = s.standing) := by
  unfold ownTileDrain
  repeat' (first
    | exact trivial
    | with_reducible rfl
    | simp only [Own.holds_refuse, Own.holds_done, Own.holds_run, Own.holds_fail, ↓State.standing_mk, ↓State.standing_eta,
        ↓apply_ite State.standing, ite_self, ↓State.updTile_standing, ↓State.beginDrain_standing]
      done
    | split
    | (with_reducible refine (foldl_standing _ _ _ (fun s a => ?_)).trans ?_)
    | refine And.intro ?_ (fun u hu => (Eq.trans ?_ hu))
    | simp only [Own.holds_refuse, Own.holds_done, Own.holds_run, Own.holds_fail, Own.holds_last, ↓State.standing_mk,
        ↓State.standing_eta, ↓apply_ite State.standing, ite_self, ↓State.updTile_standing, ↓State.beginDrain_standing])
theorem ownTileRejoin_holds (u0 : Waiter) (x : CmdIn) (s : State) : (ownTileRejoin u0 x s).holds (fun t => t.standing = s.standing) := by
  unfold ownTileRejoin
  repeat' (first
    | exact trivial
    | with_reducible rfl
    | simp only [Own.holds_refuse, Own.holds_done, Own.holds_run, Own.holds_fail, ↓State.standing_mk, ↓State.standing_eta,
        ↓apply_ite State.standing, ite_self, ↓State.rejoin_standing]
      done
    | split
    | (with_reducible refine (foldl_standing _ _ _ (fun s a => ?_)).trans ?_)
    | refine And.intro ?_ (fun u hu => (Eq.trans ?_ hu))
    | simp only [Own.holds_refuse, Own.holds_done, Own.holds_run, Own.holds_fail, Own.holds_last, ↓State.standing_mk,
        ↓State.standing_eta, ↓apply_ite State.standing, ite_self, ↓State.rejoin_standing])
theorem ownUcodeApply_holds (u0 : Waiter) (x : CmdIn) (s : State) : (ownUcodeApply u0 x s).holds (fun t => t.standing = s.standing) := by
  unfold ownUcodeApply
  repeat' (first
    | exact trivial
    | with_reducible rfl
    | simp only [Own.holds_refuse, Own.holds_done, Own.holds_run, Own.holds_fail, ↓State.standing_mk, ↓State.standing_eta,
        ↓apply_ite State.standing, ite_self]
      done
    | split
    | (with_reducible refine (foldl_standing _ _ _ (fun s a => ?_)).trans ?_)
    | refine And.intro ?_ (fun u hu => (Eq.trans ?_ hu))
    | simp only [Own.holds_refuse, Own.holds_done, Own.holds_run, Own.holds_fail, Own.holds_last, ↓State.standing_mk,
        ↓State.standing_eta, ↓apply_ite State.standing, ite_self])
theorem ownUpdActivate_holds (w : Waiter) (x : CmdIn) (s : State) : (ownUpdActivate w x s).holds (fun t => t.core = s.core) := by
  unfold ownUpdActivate
  repeat' (first
    | exact trivial
    | with_reducible rfl
    | simp only [Own.holds_refuse, Own.holds_done, Own.holds_run, Own.holds_fail, ↓State.core_mk, ↓State.core_eta, ↓SysBlock.fused_mk,
        ↓SysBlock.fused_eta, State.core_eta, SysBlock.fused_eta, SysBlock.afterReset_fused, ↓apply_ite State.core, ite_self,
            ↓State.activateReset_core, ↓State.core_of_standing (State.activateSettings_standing _),
                ↓State.core_of_standing (State.beginActivation_standing _ _)]
      done
    | split
    | (with_reducible refine (foldl_core _ _ _ (fun s a => ?_)).trans ?_)
    | refine And.intro ?_ (fun u hu => (Eq.trans ?_ hu))
    | simp only [Own.holds_refuse, Own.holds_done, Own.holds_run, Own.holds_fail, Own.holds_last, ↓State.core_mk, ↓State.core_eta,
        ↓SysBlock.fused_mk, ↓SysBlock.fused_eta, State.core_eta, SysBlock.fused_eta, SysBlock.afterReset_fused, ↓apply_ite State.core,
            ite_self, ↓State.activateReset_core, ↓State.core_of_standing (State.activateSettings_standing _),
                ↓State.core_of_standing (State.beginActivation_standing _ _)])
theorem ownUpdStage_holds (u0 : Waiter) (x : CmdIn) (s : State) : (ownUpdStage u0 x s).holds (fun t => t.standing = s.standing) := by
  unfold ownUpdStage
  repeat' (first
    | exact trivial
    | with_reducible rfl
    | simp only [Own.holds_refuse, Own.holds_done, Own.holds_run, Own.holds_fail, ↓State.standing_mk, ↓State.standing_eta,
        ↓apply_ite State.standing, ite_self]
      done
    | split
    | (with_reducible refine (foldl_standing _ _ _ (fun s a => ?_)).trans ?_)
    | refine And.intro ?_ (fun u hu => (Eq.trans ?_ hu))
    | simp only [Own.holds_refuse, Own.holds_done, Own.holds_run, Own.holds_fail, Own.holds_last, ↓State.standing_mk,
        ↓State.standing_eta, ↓apply_ite State.standing, ite_self])
theorem ownUpdVerify_holds (u0 : Waiter) (x : CmdIn) (s : State) : (ownUpdVerify u0 x s).holds (fun t => t.standing = s.standing) := by
  unfold ownUpdVerify
  repeat' (first
    | exact trivial
    | with_reducible rfl
    | simp only [Own.holds_refuse, Own.holds_done, Own.holds_run, Own.holds_fail, ↓State.standing_mk, ↓State.standing_eta,
        ↓apply_ite State.standing, ite_self]
      done
    | split
    | (with_reducible refine (foldl_standing _ _ _ (fun s a => ?_)).trans ?_)
    | refine And.intro ?_ (fun u hu => (Eq.trans ?_ hu))
    | simp only [Own.holds_refuse, Own.holds_done, Own.holds_run, Own.holds_fail, Own.holds_last, ↓State.standing_mk,
        ↓State.standing_eta, ↓apply_ite State.standing, ite_self])
theorem ownWindowClose_holds (w : Waiter) (x : CmdIn) (s : State) : (ownWindowClose w x s).holds (fun t => t.standing = s.standing) := by
  unfold ownWindowClose
  repeat' (first
    | exact trivial
    | with_reducible rfl
    | simp only [Own.holds_refuse, Own.holds_done, Own.holds_run, Own.holds_fail, ↓State.standing_mk, ↓State.standing_eta,
        ↓apply_ite State.standing, ite_self, ↓State.closeWindow_standing]
      done
    | split
    | (with_reducible refine (foldl_standing _ _ _ (fun s a => ?_)).trans ?_)
    | refine And.intro ?_ (fun u hu => (Eq.trans ?_ hu))
    | simp only [Own.holds_refuse, Own.holds_done, Own.holds_run, Own.holds_fail, Own.holds_last, ↓State.standing_mk,
        ↓State.standing_eta, ↓apply_ite State.standing, ite_self, ↓State.closeWindow_standing])
theorem ownWindowOpen_holds (u0 : Waiter) (x : CmdIn) (s : State) : (ownWindowOpen u0 x s).holds (fun t => t.standing = s.standing) := by
  unfold ownWindowOpen
  repeat' (first
    | exact trivial
    | with_reducible rfl
    | simp only [Own.holds_refuse, Own.holds_done, Own.holds_run, Own.holds_fail, ↓State.standing_mk, ↓State.standing_eta,
        ↓apply_ite State.standing, ite_self, ↓State.badRef_standing, ↓State.addRef_snd]
      done
    | split
    | (with_reducible refine (foldl_standing _ _ _ (fun s a => ?_)).trans ?_)
    | simp only [State.addRef_standing ‹State.addRef _ _ = (_, _)›]
    | refine And.intro ?_ (fun u hu => (Eq.trans ?_ hu))
    | simp only [Own.holds_refuse, Own.holds_done, Own.holds_run, Own.holds_fail, Own.holds_last, ↓State.standing_mk,
        ↓State.standing_eta, ↓apply_ite State.standing, ite_self, ↓State.badRef_standing, ↓State.addRef_snd])
theorem ownWindowRekey_holds (u0 : Waiter) (x : CmdIn) (s : State) : (ownWindowRekey u0 x s).holds (fun t => t.standing = s.standing) := by
  unfold ownWindowRekey
  repeat' (first
    | exact trivial
    | with_reducible rfl
    | simp only [Own.holds_refuse, Own.holds_done, Own.holds_run, Own.holds_fail, ↓State.standing_mk, ↓State.standing_eta,
        ↓apply_ite State.standing, ite_self]
      done
    | split
    | (with_reducible refine (foldl_standing _ _ _ (fun s a => ?_)).trans ?_)
    | refine And.intro ?_ (fun u hu => (Eq.trans ?_ hu))
    | simp only [Own.holds_refuse, Own.holds_done, Own.holds_run, Own.holds_fail, Own.holds_last, ↓State.standing_mk,
        ↓State.standing_eta, ↓apply_ite State.standing, ite_self])

end Sys2Proof.Machine
end

