-- ==== Sys2Proof/WellFormed.lean ====
section
/-! DEFINITION. Which commands are well formed: every operand within the range its row gives it. The meanings
take every operand; the ranges say which ones a sender can spell. -/

open Sys2Proof Sys2Proof.Machine

/-- Fields of a packet and of its source with their limits (Table 15-1, R439): a ring, an endpoint, a device. -/
def Sys2Proof.Machine.CmdIn.bounds (x : CmdIn) : List (Nat × Nat) :=
  [(x.pkt.rsv2, 32), (x.pkt.cred, 0x100), (x.pkt.tag, 0x100000000), (x.pkt.unit, 0x10000), (x.pkt.device, 0x2000), (x.pkt.rsv8, 4),
   (x.pkt.gen, 0x100000000)]
  ++ (match x.src with | .ring r => [(r, 64)] | .mctp e => [(e, 0x100)] | .fabric d _ => [(d, 0x1800)])

/-- Fields of an NVMe command (R414). -/
def Sys2Proof.Machine.NvmeIn.bounds (c : NvmeIn) : List (Nat × Nat) :=
  [(c.sq, 0x10000), (c.cid, 0x10000), (c.opcode, 0x100), (c.nsid, 0x100000000), (c.cdw10, 0x100000000), (c.cdw11, 0x100000000),
   (c.cdw12, 0x100000000)]

/-- Fields of an incoming remote request (R326). -/
def Sys2Proof.Machine.RmaIn.bounds (q : RmaIn) : List (Nat × Nat) :=
  [(q.requester, 0x1800), (q.window, 0x10000), (q.key, 0x100000000), (q.offset, 0x10000000000000000), (q.cls, 8)]

/-- Fields of a fabric packet (R344). -/
def Sys2Proof.Machine.FabricIn.bounds (p : FabricIn) : List (Nat × Nat) := [(p.src, 0x2000), (p.dst, 0x2000), (p.cls, 16), (p.vc, 8)]

/-- Operands of a command with their limits. -/
def Sys2Proof.Instr.bounds (i : Sys2Proof.Instr) : List (Nat × Nat) :=
  match i with
  | .identify x => x.bounds
  | .networkSet x => x.bounds
  | .partnerSet x => x.bounds
  | .liveServiceSet x => x.bounds
  | .liveServiceRemove x => x.bounds
  | .recipeLoad x => x.bounds
  | .recipeReplace x => x.bounds
  | .recipeUnload x => x.bounds
  | .imageLoad x => x.bounds
  | .imageUnload x => x.bounds
  | .jobStart x => x.bounds
  | .jobEnd x => x.bounds
  | .epochPlan x => x.bounds
  | .paramTable x => x.bounds
  | .paramRing x => x.bounds
  | .jobTakeover x => x.bounds
  | .jobResume x => x.bounds
  | .jobLeave x => x.bounds
  | .cursorReset x => x.bounds
  | .jobQuery x => x.bounds
  | .planReissue x => x.bounds
  | .poolConfig x => x.bounds
  | .poolThreshold x => x.bounds
  | .poolAudit x => x.bounds
  | .bankOwn x => x.bounds
  | .bankState x => x.bounds
  | .bankRetire x => x.bounds
  | .compress x => x.bounds
  | .decompress x => x.bounds
  | .nsCreate x => x.bounds
  | .nsDelete x => x.bounds
  | .nsSeal x => x.bounds
  | .replicaSet x => x.bounds
  | .dieRetire x => x.bounds
  | .sanitize x => x.bounds
  | .budgetSet x => x.bounds
  | .freqAnnounce x => x.bounds
  | .restartAfterStop x => x.bounds
  | .selftest x => x.bounds
  | .testRun x => x.bounds
  | .engineBypass x => x.bounds
  | .tileDrain x => x.bounds
  | .tileRejoin x => x.bounds
  | .columnRepair x => x.bounds
  | .pitClear x => x.bounds
  | .credSet x => x.bounds
  | .credClear x => x.bounds
  | .signkeyTrust x => x.bounds
  | .signkeyRevoke x => x.bounds
  | .auditRead x => x.bounds
  | .debugUnlock x => x.bounds
  | .decommission x => x.bounds
  | .updStage x => x.bounds
  | .updVerify x => x.bounds
  | .updActivate x => x.bounds
  | .ucodeApply x => x.bounds
  | .evtRead x => x.bounds
  | .evtSubscribe x => x.bounds
  | .telemetryGet x => x.bounds
  | .destBind x => x.bounds
  | .slotCancel x => x.bounds
  | .windowOpen x => x.bounds
  | .windowClose x => x.bounds
  | .windowRekey x => x.bounds
  | .rmaWrite x => x.bounds
  | .rmaRead x => x.bounds
  | .portService x => x.bounds
  | .cmdSqTailWrite path ring v => [(path, 2), (ring, 64), (v, 0x100000000)]
  | .ringEntryFetch ring entry => [(ring, 64), (entry.length, 65)]
  | .cmdCqHeadWrite path ring v => [(path, 2), (ring, 64), (v, 0x100000000)]
  | .cmdRingCfgWrite path ring v => [(path, 2), (ring, 64), (v, 0x100000000)]
  | .cmdPringTailWrite path j v => [(path, 2), (j, 16), (v, 0x100000000)]
  | .deferredCommandAccept _ => []
  | .forwardReceipt _ => []
  | .forwardedCompletion _ _ => []
  | .fabTimeout _ _ => []
  | .fabUnreachable _ _ => []
  | .mctpRegisterRead eid _ off => [(eid, 0x100), (off, 0x100000000)]
  | .mctpRegisterWrite eid off v _ => [(eid, 0x100), (off, 0x100000000), (v, 0x100000000)]
  | .spdmRequest eid _ _ _ _ => [(eid, 0x100)]
  | .pldmBudget _ => []
  | .registerWrite path addr v _ => [(path, 2), (addr, 0x4000000), (v, 0x100000000)]
  | .invalidRegisterAccess path addr _ _ => [(path, 2), (addr, 0x4000000)]
  | .rcCounterRead path addr => [(path, 2), (addr, 0x4000000)]
  | .counterPairLoRead path addr => [(path, 2), (addr, 0x4000000)]
  | .counterPairHiRead path addr => [(path, 2), (addr, 0x4000000)]
  | .snapWrite path addr v => [(path, 2), (addr, 0x4000000), (v, 0x100000000)]
  | .brmEvalGo path v => [(path, 2), (v, 0x100000000)]
  | .brmEvalDone => []
  | .tschDrain path tile v => [(path, 2), (tile, 4), (v, 0x100000000)]
  | .tschRejoin path tile v => [(path, 2), (tile, 4), (v, 0x100000000)]
  | .tileDrained tile => [(tile, 4)]
  | .bnkLock path die v => [(path, 2), (die, 5), (v, 0x100000000)]
  | .bnkOwnWrite path die bank v => [(path, 2), (die, 5), (bank, 0x180), (v, 0x100000000)]
  | .bankHandoverComplete die bank => [(die, 5), (bank, 0x180)]
  | .bnkStateWrite path die bank v => [(path, 2), (die, 5), (bank, 0x180), (v, 0x100000000)]
  | .bankTransitionComplete die bank => [(die, 5), (bank, 0x180)]
  | .poolAuditGo path v => [(path, 2), (v, 0x100000000)]
  | .leakAuditComplete => []
  | .fabPortRetrain path f v => [(path, 2), (f, 16), (v, 0x100000000)]
  | .fabPortRecal path f v => [(path, 2), (f, 16), (v, 0x100000000)]
  | .fabLaneRecal path f v => [(path, 2), (f, 16), (v, 0x100000000)]
  | .shpGclCommit path sp v => [(path, 2), (sp, 24), (v, 0x100000000)]
  | .gclBaseTimeReached sp _ => [(sp, 24)]
  | .shaperRefill _ => []
  | .updWindowWrite path off v => [(path, 2), (off, 0x10000), (v, 0x100000000)]
  | .evtFatalClear path v => [(path, 2), (v, 0x100000000)]
  | .secBindStart path v => [(path, 2), (v, 0x100000000)]
  | .secBindGo path v _ => [(path, 2), (v, 0x100000000)]
  | .tstCtrlWrite path v => [(path, 2), (v, 0x100000000)]
  | .paramRecordReceive _ j _ => [(j, 16)]
  | .paramMissing _ _ => []
  | .countEntryReceive rank jobId epoch _ _ => [(rank, 0x1800), (jobId, 0x10000), (epoch, 0x100000)]
  | .stepEntryReceive rank jobId epoch _ => [(rank, 0x1800), (jobId, 0x10000), (epoch, 0x100000)]
  | .planRecordReceive jobId epoch _ => [(jobId, 0x10000), (epoch, 0x100000)]
  | .endMarkerReceive rank jobId epoch _ => [(rank, 0x1800), (jobId, 0x10000), (epoch, 0x100000)]
  | .planScanComplete jobId epoch rank => [(jobId, 0x10000), (epoch, 0x100000), (rank, 0x1800)]
  | .abortMessageReceive rank jobId epoch lost => [(rank, 0x1800), (jobId, 0x10000), (epoch, 0x100000), (lost, 0x1800)]
  | .sampleAdmit jobId epoch _ tile => [(jobId, 0x10000), (epoch, 0x100000), (tile, 4)]
  | .fetchReadComplete _ => []
  | .replicaFetchRequest dev nsid off _ => [(dev, 0x1800), (nsid, 0x10000), (off, 0x1000000000000)]
  | .replicaFetchResponse _ dev _ => [(dev, 0x1800)]
  | .stageComplete _ _ => []
  | .refFrameDecoded tile _ _ _ _ => [(tile, 4)]
  | .roiResult _ _ => []
  | .engineSelfFault tile cls idx => [(tile, 4), (cls, 8), (idx, 24)]
  | .memberVerdictReceive jobId epoch step member _ sample => [(jobId, 0x10000), (epoch, 0x100000), (step, 0x100000000000), (member, 0x10000), (sample, 0x100000000000)]
  | .reservePlacementReceive jobId epoch step member slot => [(jobId, 0x10000), (epoch, 0x100000), (step, 0x100000000000), (member, 0x10000), (slot, 0x10000)]
  | .slotWriteReady jobId index slot dest => [(jobId, 0x10000), (index, 0x100000000000), (slot, 0x10000), (dest, 8)]
  | .rdmaWriteAck jobId index slot dest => [(jobId, 0x10000), (index, 0x100000000000), (slot, 0x10000), (dest, 8)]
  | .consumedWordResponse jobId rank dest value => [(jobId, 0x10000), (rank, 0x10000), (dest, 8), (value, 0x10000000000000000)]
  | .roceAckTimeout qp => [(qp, 0x4000)]
  | .cnpReceive qp port _ => [(qp, 0x4000), (port, 8)]
  | .cePacketReceive qp port _ => [(qp, 0x4000), (port, 8)]
  | .roceRateRecovery qp _ => [(qp, 0x4000)]
  | .cursorMirrorTimer _ => []
  | .mirrorWriteFail jobId => [(jobId, 0x10000)]
  | .mirrorSetupReceive dev jobId => [(dev, 0x1800), (jobId, 0x10000)]
  | .mirrorSetupReply jobId _ window key => [(jobId, 0x10000), (window, 0x10000), (key, 0x100000000)]
  | .mirrorSetupRetry _ => []
  | .mirrorReleaseReceive dev jobId => [(dev, 0x1800), (jobId, 0x10000)]
  | .rmaRequestReceive q => q.bounds
  | .rmaResponseReceive _ status _ => [(status, 0x10000)]
  | .rmaViolationRemote dev window off _ status => [(dev, 0x1800), (window, 0x10000), (off, 0x10000000000), (status, 0x10000)]
  | .rmaTimeout _ _ => []
  | .windowCloseComplete window => [(window, 0x10000)]
  | .fabricPacketReceive f p => p.bounds ++ [(f, 16)]
  | .flowCreditReceive f vc => [(f, 16), (vc, 8)]
  | .portTrainingComplete f lanes peer peerPort ver _ _ _ => [(f, 16), (lanes, 0x200), (peer, 0x1800), (peerPort, 16), (ver, 0x10000)]
  | .linkDown f _ _ _ => [(f, 16)]
  | .laneFail f lane _ _ _ => [(f, 16), (lane, 9)]
  | .peerLost dev _ _ _ => [(dev, 0x1800)]
  | .deviceUnreachable dev _ => [(dev, 0x1800)]
  | .portIdleTimer f _ _ => [(f, 16)]
  | .quietEntryCommit f _ => [(f, 16)]
  | .quietExitComplete f => [(f, 16)]
  | .quietKeepalive _ => []
  | .linkDelayExchange f _ _ _ _ => [(f, 16)]
  | .ptpMessageReceive q _ => [(q, 8)]
  | .timeHoldover => []
  | .pfcFrameReceive q prio _ => [(q, 8), (prio, 8)]
  | .liveDatagramReceive service _ _ => [(service, 0x200)]
  | .nandOpComplete die _ _ _ _ => [(die, 0x400)]
  | .dieUnresponsive die _ => [(die, 0x400)]
  | .journalFlushTimer _ => []
  | .checkpointTimer _ => []
  | .patrolReadTimer die _ _ _ => [(die, 0x400)]
  | .foldComplete _ _ _ => []
  | .holdupSample v => [(v, 0x100000000)]
  | .holdupEvaluation _ => []
  | .nvmeDoorbellWrite _ q v _ => [(q, 0x10000), (v, 0x100000000)]
  | .nvmeWrite c => c.bounds
  | .writePieceAdmit => []
  | .nvmeRead c => c.bounds
  | .nvmeFlush c => c.bounds
  | .nvmeWriteZeroes c => c.bounds
  | .nvmeDatasetManagement c => c.bounds
  | .nvmeVerify c => c.bounds
  | .nvmeAbort c => c.bounds
  | .nvmeFormatNvm c => c.bounds
  | .nvmeSanitize c => c.bounds
  | .nvmeDeviceSelfTest c => c.bounds
  | .nvmeIdentify c => c.bounds
  | .nvmeGetLogPage c => c.bounds
  | .nvmeSetFeatures c => c.bounds
  | .nvmeGetFeatures c => c.bounds
  | .nvmeAsyncEventRequest c => c.bounds
  | .nvmeKeepAlive c => c.bounds
  | .nvmeCreateQueue c => c.bounds
  | .nvmeDeleteQueue c => c.bounds
  | .nvmeUnsupportedOpcode c => c.bounds
  | .nvmeCcWrite v => [(v, 0x100000000)]
  | .nvmeShutdownComplete => []
  | .nvmePowerStateCommit _ => []
  | .nvmePowerStateExit => []
  | .selftestComplete _ _ => []
  | .sanitizeComplete => []
  | .pf0Flr => []
  | .pf1Flr => []
  | .perstAssert => []
  | .pcieLinkDown => []
  | .pcieLinkUp => []
  | .currantTokenRefresh _ => []
  | .tokenGrant => []
  | .clockStepEvaluation _ _ _ _ => []
  | .thermalLimitUpdate _ _ => []
  | .peakClamp _ => []
  | .boostEnd i _ => [(i, 96)]
  | .boostCooldownStep _ => []
  | .boostRearm _ => []
  | .thermtrip i _ => [(i, 96)]
  | .prochotChange _ => []
  | .heldFreqTimeReached jobId _ => [(jobId, 0x10000)]
  | .heldModeLeft _ => []
  | .coolantStop => []
  | .coolantFlowReturn => []
  | .coolantFlushEnd _ => []
  | .domainIdleTimer d _ => [(d, 36)]
  | .domainPowerDownCommit d _ _ => [(d, 36)]
  | .domainWakeComplete d => [(d, 36)]
  | .clkLoss m _ => [(m, 7)]
  | .clkRestored m _ => [(m, 7)]
  | .clkHoldoverExpiry _ => []
  | .pwrFailAssert => []
  | .holdupFlushComplete _ => []
  | .mainRailLoss => []
  | .mainRailsValid => []
  | .standbyRailsApply strap => [(strap, 16)]
  | .warmReset cause => [(cause, 8)]
  | .startStepComplete k _ _ => [(k, 13)]
  | .bootWatchdogExpiry _ => []
  | .liveActivationReady _ => []
  | .recoveryComplete jobId => [(jobId, 0x10000)]
  | .eventIrqHoldoffExpiry _ => []
  | .testSliceStart tile cls idx _ => [(tile, 4), (cls, 8), (idx, 0x180)]
  | .testSliceComplete tile cls idx _ _ _ _ _ => [(tile, 4), (cls, 8), (idx, 0x180)]
  | .testDomainWakeTimer d _ => [(d, 36)]
  | .compressionJobComplete _ => []
  | .credentialExpiry slot _ => [(slot, 255)]
  | .firstTimeLock _ => []
  | .perstDeassert _ => []
  | .standbyRailsRemove => []
  | .hubUnitFault _ => []
  | .gateIntervalEnd sp _ => [(sp, 24)]
  | .consumedWordRead jobId rank dest _ => [(jobId, 0x10000), (rank, 0x10000), (dest, 8)]
  | .ethPortLinkChange q st => [(q, 8), (st, 3)]
  | .liveStreamStop service => [(service, 0x200)]
  | .pmbusRead _ _ _ _ => []
  | .currentSensorSample _ => []
  | .configurationRequest pf off => [(pf, 2), (off, 0x1000)]

/-- The offset of a register access that its row gives as aligned (R9). -/
def Sys2Proof.Instr.offset (i : Sys2Proof.Instr) : Nat :=
  match i with
  | .registerWrite _ addr _ _ => addr
  | .rcCounterRead _ addr => addr
  | .counterPairLoRead _ addr => addr
  | .counterPairHiRead _ addr => addr
  | .snapWrite _ addr _ => addr
  | .updWindowWrite _ off _ => off
  | _ => 0

/-- A command is well formed: every operand is below its limit, and an aligned offset is aligned. -/
def Sys2Proof.Instr.wellFormed (i : Sys2Proof.Instr) : Bool := i.bounds.all (fun b => decide (b.1 < b.2)) && i.offset % 4 == 0
end

