-- ==== Sys2Proof/Tests/Slice0.lean ====
section
/-! SUPPORT. Checks of the model by computation: the well-formedness checks refuse an ill-formed term of each
kind, the decoder answers none, the small formats give the manual's figures, and every statement with hypotheses
has a state and operands that meet them. -/

set_option Elab.async false

namespace Sys2Proof.Tests

open Sys2Proof.Machine

/-! ## Well-formedness and decoding -/

/-- One ill-formed command for each kind of limit, each refused: a path of access, a ring, a value of 32 bits, an
unaligned offset, an entry longer than 64 bytes, a tile, an SRAM bank, a link die, a fabric port, a shaped port, a
job ID, an epoch, a plan rank, a step of 44 bits, a class, a power domain, a sensor, a clock monitor, a start
step, a credential slot, a NAND die, an Ethernet port, a live service, a configuration function, a device number
of a packet, a namespace identifier and the key of a remote request. -/
theorem test_ill_formed_refused :
    ([.cmdSqTailWrite 2 0 0, .cmdSqTailWrite 0 64 0, .cmdSqTailWrite 0 0 0x100000000, .registerWrite 0 2 0 true,
      .ringEntryFetch 0 (List.replicate 65 0#8), .tschDrain 0 4 1, .bnkOwnWrite 0 0 384 0, .bnkLock 0 5 1,
      .fabPortRetrain 0 16 1, .shpGclCommit 0 24 1, .mirrorWriteFail 0x10000, .planRecordReceive 1 0x100000 [],
      .countEntryReceive 0x1800 1 0 [] [], .memberVerdictReceive 1 0 0x100000000000 0 true 0, .engineSelfFault 0 8 0,
      .domainWakeComplete 36, .boostEnd 96 0, .clkLoss 7 0, .startStepComplete 13 0 {}, .credentialExpiry 255 0,
      .nandOpComplete 0x400 true 0 0 [], .pfcFrameReceive 8 0 false, .liveStreamStop 0x200, .configurationRequest 2 0,
      .identify { src := .ring 0, pkt := { device := 0x2000 } }, .nvmeRead ⟨1, 0, 2, 0x100000000, 0, 0, 0, 0, []⟩,
      .rmaRequestReceive { id := 0, requester := 0, window := 0, key := 0x100000000, offset := 0, length := 1, isWrite := false, data := [], cls := 0 }] : List Instr).all
      (fun i => !i.wellFormed) = true := by decide +kernel

/-- The same operands at the top of their limits are accepted. -/
theorem test_well_formed_at_limits :
    ([.cmdSqTailWrite 1 63 0xFFFFFFFF, .registerWrite 1 0x3FFFFFC 0xFFFFFFFF true, .ringEntryFetch 63 (List.replicate 64 0#8),
      .tschDrain 1 3 1, .bnkOwnWrite 1 4 383 0, .domainWakeComplete 35, .startStepComplete 12 0 {}] : List Instr).all
      (·.wellFormed) = true := by decide +kernel

/-- No word spells a command: the table gives its rows no bits. -/
theorem test_no_word_spells_a_command : decodeTableWord 32 0xFFFFFFFF = none := rfl

/-! ## The manual's worked examples -/

/-- The round keys of the chapter on the epoch plan, as its example writes them. -/
def exampleKeys : List Nat :=
  [0x5A17C3E29B046D31, 0x0C6B91A4E25F08B6, 0xD3F02E574A9C17E3, 0x7B2864D901C7A55C, 0x91E40F3A6D82B2C9, 0x2FA5B718C4609E1E]

/-- Chapter 03, worked example: one pass over 0 to 15. -/
theorem test_pass_of_the_example :
    (List.range 16).map (feistelE 2 exampleKeys) = [14, 4, 1, 11, 13, 7, 2, 8, 15, 5, 0, 10, 12, 6, 3, 9] := by decide +kernel

/-- Chapter 03, worked example: the permutation of ten ordinals and its inverse. -/
theorem test_permutation_of_the_example :
    (List.range 10).map (fun c => (positionOf exampleKeys 10 c).1) = [3, 4, 1, 0, 6, 7, 2, 8, 9, 5] ∧
    (List.range 10).map (fun p => (ordinalOf exampleKeys 10 p).1) = [3, 2, 6, 0, 1, 9, 4, 5, 7, 8] := by decide +kernel

/-- The example's catalog and bucket map. -/
def exampleCatalog : Catalog := { n := 10, catalogId := 0, digest := [], counts := [6, 4], maxLens := [] }
def exampleShape : PlanShape := { map := [0, 1], batch := [2, 2], reserve := [1, 0], shortTail := false }
def exampleLow : List (Nat × Nat) := (scanSamples exampleCatalog exampleShape exampleKeys 0 5).1
def exampleHigh : List (Nat × Nat) := (scanSamples exampleCatalog exampleShape exampleKeys 5 10).1
def exampleA0 : Assigned := assignScan exampleShape (List.replicate 64 0) [6, 4] exampleLow
def exampleA1 : Assigned := assignScan exampleShape [4, 1] [6, 4] exampleHigh

/-- Chapter 03, worked example: the counts of both plan ranks. -/
theorem test_counts_of_the_example :
    (bucketCounts exampleLow).take 2 = [4, 1] ∧ (bucketCounts exampleHigh).take 2 = [2, 3] := by decide +kernel

/-- Chapter 03, worked example: ordinal, bucket, step, member and reserve of every plan record. -/
theorem test_plan_of_the_example :
    (recordsNow exampleA0 ++ recordsLater exampleA0 [stepEntry exampleA1] ++ recordsNow exampleA1).map
      (fun r => (r.ordinal, r.bucket, r.step, r.member, r.reserve)) =
    [(3, 0, 0, 0, false), (2, 0, 0, 1, false), (0, 0, 0, 2, true), (6, 1, 1, 0, false), (1, 0, 2, 0, false),
     (9, 1, 1, 1, false), (4, 0, 2, 1, false), (5, 0, 2, 2, true), (7, 1, 3, 0, false), (8, 1, 3, 1, false)] := by decide +kernel

/-- Chapter 03, worked example: the filter drops slot 0 of step 2, and the reserve takes it. -/
theorem test_replacement_of_the_example : replacements 2 [false, true, true] = [(0, some 2)] := by decide +kernel

/-- Chapter 05, deinterlacing: a sample of 112 is kept, one of 180 becomes the median. -/
theorem test_adaptive_deinterlace :
    deintSample true 16 8 0 { w := 1, h := 3, px := [100, 112, 120] } 0 1 = 112 ∧
    deintSample true 16 8 0 { w := 1, h := 3, px := [100, 180, 120] } 0 1 = 120 := by decide +kernel

/-- Chapter 06, colour: cy of 8-bit limited range, and luma 235, 16 and 126. -/
theorem test_colour_of_the_example :
    (colourCoeffs 2 false 8).cy = 19611424 ∧ [235, 16, 126].map (lumaOnly (colourCoeffs 2 false 8)) = [65535, 0, 32917] := by
  decide +kernel

/-- Chapter 06, area resize from 6 to 4 at output 1. -/
theorem test_area_resize_of_the_example :
    weights (areaTaps 6 4 0 1) = [(1, 5461), (2, 10923)] ∧
    resample 4 false 6 6 4 0 1 [0, 30000, 60000, 0, 0, 0] = 50001 := by decide +kernel

/-- Chapter 06, region of interest: x0 goes from 136 to 160, to 184, and holds at low confidence. -/
theorem test_roi_of_the_example :
    let w := fun x => ({ x0 := x, y0 := 0, wc := 448, hc := 576 } : Window2)
    let r := fun c => ({ x0 := 40960, x1 := 56320, y0 := 0, y1 := 65536, conf := c } : RoiResult)
    (roiStep 64 24 5 720 576 (w 136) (r 5)).x0 = 160 ∧ (roiStep 64 24 5 720 576 (w 160) (r 5)).x0 = 184 ∧
    (roiStep 64 24 5 720 576 (w 184) (r 4)).x0 = 184 := by decide +kernel

/-- The vocabulary of chapter 07's example with the score of "abc". -/
def examplePieces (abc : Int) : List (Nat × Piece) :=
  [(10, ⟨[97], 0, -262144⟩), (11, ⟨[98], 0, -262144⟩), (12, ⟨[99], 0, -262144⟩), (20, ⟨[97, 98], 0, -524288⟩),
   (21, ⟨[98, 99], 0, -524288⟩), (30, ⟨[97, 98, 99], 0, abc⟩)]

/-- Chapter 07, segmentation of "abc" under both scores. -/
theorem test_segmentation_of_the_example :
    segEmit 0 (segBest (examplePieces (-851968)) [97, 98, 99]) = [10, 21] ∧
    segEmit 0 (segBest (examplePieces (-786432)) [97, 98, 99]) = [30] := by decide +kernel

/-- Three documents of 2, 4 and 3 tokens packed into two sequences of 8 (chapter 07). -/
def examplePacked (split : Bool) : TextRegion :=
  packText ⟨0, 0, true, true, split, true, false, false, 8, 2⟩ ⟨false, false, 1000, 1, 2, 3, 0, [], []⟩
    [[10, 11], [12, 13, 14, 15], [16, 17, 18]]

/-- Chapter 07, packing with SPLIT set: 15 tokens, and the segments of both sequences. -/
theorem test_packing_with_split :
    (examplePacked true).validTokens = 15 ∧
    (examplePacked true).segments = [1, 1, 1, 1, 2, 2, 2, 2, 1, 1, 2, 2, 2, 2, 2, 0] := by decide +kernel

/-- Chapter 07, packing with SPLIT clear: 10 tokens of two documents, the text cut. -/
theorem test_packing_without_split :
    (examplePacked false).validTokens = 10 ∧ (examplePacked false).docs = 2 ∧ (examplePacked false).cut = true := by decide +kernel

/-- Chapter 08: blocks of 128 products are rounded one by one, so the sum is 1.0. -/
theorem test_block_sums_of_the_example :
    let row : List Fp := [.fin false 1 1, .fin false 1 4096] ++ List.replicate 126 (.fin false 0 1)
      ++ [.fin false 1 4096] ++ List.replicate 127 (.fin false 0 1)
    codeFp32 (floatAcc (.fin false 0 1) row row) = 0x3F800000 := by decide +kernel

/-- The ramp block of chapter 09. -/
def ramp : List Nat := (List.range 256).map (fun i => 40 + i / 2)

/-- Chapter 09: the ramp's sizes at q = 0, 3 and 4. -/
theorem test_ramp_sizes :
    [0, 3, 4].map (fun q => frcSize (frcGroups (frcZ 8 q ramp))) = [696, 648, 408] := by decide +kernel

/-- Chapter 09: at 4:1 the ramp is stored with q = 4, and its element 16 decodes as 56. -/
theorem test_ramp_slot :
    (match frcEncodeBlock ⟨64, false, 8, false, 7⟩ (ramp.map (BitVec.ofNat 8)) with
     | .coded q b => (q, (frcDecodeSlot ⟨64, false, 8, false, 7⟩ b).map (fun l : Bytes => l.getD 16 0))
     | _ => (0, none)) = (4, some 56#8) := by decide +kernel

/-- Chapter 10: the thresholds of a pool of 655,360 cells. -/
theorem test_thresholds_of_the_example :
    [250, 125, 30].map (thresholdCells 655360) = [163840, 81920, 19660] := by decide +kernel

/-- Chapter 11: slot 45 of a batch of 64 over 4 ranks, and its completion word. -/
theorem test_delivery_of_the_example :
    rankOf 64 4 45 = (2, 13) ∧ slotPlace ⟨4, 1, 8, 4816960, 16⟩ 64 57 0 45 = 29 ∧
    completionWord 0x0B712A04 57 3 false false false = 0x830390000B712A04 := by decide +kernel

/-- Chapter 12: after four frames of 33,424 bits from a full bucket the next refill gives 97,376 tokens. -/
theorem test_refill_of_the_example :
    (ShapeClass.refill { rate := 100000, en := true, fRate := 100000, fEn := true, tokens := 131072 - 4 * 33424 }).tokens = 97376 := by
  decide +kernel

/-- Chapter 13: the limits of a 47 mF bank at 48, 40 and 36 V. -/
theorem test_holdup_of_the_example :
    [48, 40, 36].map (fun v => dirtyLimit 2147483648 (2 ^ 40) (holdupCharge 47 (v * 1000000) 30000000)) = [2147483648, 1032000000, 0] := by
  decide +kernel

/-- Chapter 16: under 900 W the example's device fits step 9, 1,120 MHz, and not step 10. -/
theorem test_held_frequency_of_the_example :
    highestStep (fun k => fitsLimit 1050 475 1520 (stepMhz 1600 k) 900) 15 = 9 ∧ stepMhz 1600 9 = 1120 := by decide +kernel

/-! ## A device in service -/

/-- The credential of a role in its slot of the tests. -/
def credOf (role : Nat) : Credential :=
  { role := role, chain := [], leaf := [BitVec.ofNat 8 role], notBefore := 0, notAfter := 10 ^ 18, expired := false }

/-- Every domain on and the start done: operator, installer and maker in slots 1 to 3, a session of each over
MCTP, the media ready, both links up. -/
def up : State :=
  { State.reset with
    now := 5000000000
    sys := { State.reset.sys with ready := true, readyOnce := true, mgmt := true, steps := 0x1FFE, perstLow := false, perstSeen := true, dl := 7 }
    pwr := { State.reset.pwr with domains := List.replicate 36 { on := true }, monitors := List.replicate 7 { state := 0 } }
    evt := { State.reset.evt with early := false }
    nvme := { State.reset.nvme with linkUp := true, rdy := true }
    med := { State.reset.med with state := 2, userCap := 2 ^ 40 }
    tiles := List.replicate 4 { state := 1 }
    sec := { State.reset.sec with
      creds := [(1, credOf 1), (2, credOf 2), (3, credOf 3)]
      sessions := [(1, [1]), (2, [2]), (3, [3])]
      timeChecked := true } }

/-- Parameter bytes 16 to 63 from fields (byte, bytes, value). -/
def paramsOf (fs : List (Nat × Nat × Nat)) : BitVec 384 :=
  BitVec.ofNat 384 (packFields (fs.map fun f => (8 * (f.1 - 16), 8 * f.2.1, f.2.2)))

/-- A packet of a role that the opcode lists, from that role's endpoint. -/
def ask (sp : OpSpec) (unit : Nat := 0) (fs : List (Nat × Nat × Nat) := []) (gen : Nat := 0) : CmdIn :=
  { src := .mctp (sp.roles.headD 0),
    pkt := { cred := sp.roles.headD 0, unit := unit, gen := gen, params := paramsOf fs } }

/-- The same packet forwarded by device 9 from its ring 0. -/
def askFrom (sp : OpSpec) (unit : Nat := 0) (fs : List (Nat × Nat × Nat) := []) (gen : Nat := 0) : CmdIn :=
  { src := .fabric 9 (.ring 0),
    pkt := { cred := sp.roles.headD 0, unit := unit, remote := true, gen := gen, params := paramsOf fs },
    fwd := { time := 5000000000, counter := 1, leaf := (credOf (sp.roles.headD 0)).leaf, role := sp.roles.headD 0 } }

theorem takes_of {s : State} {sp : OpSpec} {x : CmdIn} (h : (s.turn sp x).isSome = true)
    (a : (!sp.audited || x.auditOk) = true) :
    s.takes sp x ((s.turn sp x).get h).1 ((s.turn sp x).get h).2 :=
  ⟨(Option.some_get h).symm, fun e => by simpa [e] using a⟩

theorem nvmeTakes_of {s : State} {c : NvmeIn} {io : Bool} {v : Nvme} (e : s.nvme.takeFrom c.sq = some v)
    (h : (s.alive && s.nvme.linkUp && s.nvme.rdy && !s.sys.pit && (c.sq != 0) == io) = true)
    (g : (!io || decide (v.shst = 0) && s.med.sanitize.isNone && !State.ioHeld { s with nvme := v }) = true) :
    s.nvmeTakes c io { s with nvme := v } := by
  simp only [Bool.and_eq_true, beq_iff_eq, Bool.not_eq_true'] at h
  obtain ⟨⟨⟨⟨h1, h2⟩, h3⟩, h4⟩, h5⟩ := h
  refine ⟨h1, h2, h3, h4, h5, ⟨v, e, rfl⟩, fun hi => ?_⟩
  rw [hi] at g
  simpa [and_assoc] using g

/-- `crcByte` from the left, the sum so far worked out at each byte. -/
def strictFold (bs : Bytes) (c : Nat) : Nat :=
  match bs, c with
  | [], c => c
  | b :: bs, 0 => strictFold bs (crcByte 0 b)
  | b :: bs, c + 1 => strictFold bs (crcByte (c + 1) b)

theorem strictFold_eq (bs : Bytes) (c : Nat) : strictFold bs c = bs.foldl crcByte c := by
  induction bs generalizing c with
  | nil => simp [strictFold]
  | cons b bs ih => cases c <;> simp [strictFold, ih]

theorem crc32c_strict : crc32c = fun bs => strictFold bs 0xFFFFFFFF ^^^ 0xFFFFFFFF := by
  funext bs
  rw [strictFold_eq]
  rfl

/-- A live service on port 0 (R163). -/
def live : Service :=
  { port := 0, ipv6 := false, specific := false, udp := 5000, program := 1, duration := 1000, group := 0, source := 0, state := 2,
    rtp := false, window := [], nextSeq := none, counters := [], segment := [], segCount := 0, segStart := none, cutting := false,
    segs := [] }
/-- The device with live service 511. -/
def upLive : State := { up with net := { up.net with services := [(511, live)], eth := List.replicate 8 { state := 2 } } }

/-- The recipe as held, loaded against the catalog at offset 0 of namespace 3. -/
def held : HeldRecipe := { image := [], digest := [], nsid := 3, offset := 0, signer := 0 }
/-- A catalog header of one record: class 0 holds ordinal 0, of at most 2 bytes. Its CRC was computed outside the model. -/
def hdr : Bytes :=
  leBytes 9 0x10000000154434b46 ++ zeros 39 ++ leBytes 1 0x1 ++ zeros 2047 ++ leBytes 1 0x2 ++ zeros 1995 ++ leBytes 4 0x8b7951a2
/-- A grammar of one state and one class (R220). -/
def grammarImage : Bytes :=
  leBytes 393 (packFields
  [(0, 40, 5591485254), (64, 8, 1), (96, 8, 1), (352, 8, 128), (384, 16, 384), (416, 16, 392), (448, 16, 393),
   (992, 32, 2452828048)])
/-- A sealed dataset: the header of a catalog of one record at 0, the record at 4096, its sample of 2 bytes at 0x2000. -/
def dataset : Namespace :=
  { kind := 1, capacity := 65536, sealed := true, replicas := [], key := 1, units := [0], bad := [],
    bytes :=
  [(0, 70), (1, 75), (2, 67), (3, 84), (4, 1), (8, 1), (48, 1), (2096, 2), (4092, 162), (4093, 81), (4094, 121),
   (4095, 139), (4096, 5), (4113, 32), (4118, 3), (4120, 2), (4128, 194), (4129, 85), (4130, 78), (4131, 240),
   (4132, 83), (4133, 229), (4134, 211), (4135, 177), (4136, 104), (4137, 102), (4138, 227), (4139, 107),
   (4140, 109), (4141, 166), (4142, 34), (4143, 173), (4144, 38), (4145, 146), (4146, 42), (4147, 1), (4148, 81),
   (4149, 64), (4150, 182), (4151, 132), (4156, 161), (4157, 220), (4158, 254), (4159, 40), (8192, 102), (8193, 107)] }
/-- A job descriptor: one shard from ordinal 0 at device 0, the catalog at offset 0 of namespace 3. -/
def desc : Bytes := leBytes 80 (packFields [(128, 16, 3), (256, 32, 1)])
/-- Job 77 in DL 7 with recipe slot 0, started at epoch 0. -/
def job : Job := newJob { params := paramsOf [(16, 2, 77), (20, 2, 7)] } desc 1
/-- Pool 0 of 1,024 HBM cells, namespace 3, recipe 0, a signing key. -/
def upData : State :=
  { up with
    mem := { up.mem with pools := [(0, { kind := 1, cells := 1024, target := 1024 })] }
    med := { up.med with spaces := [(3, dataset)] }
    sec := { up.sec with signkeys := [(0, [])] } }
/-- The same with the recipe in slot 0, job 77 in job slot 2 and pool 0. -/
def upJob : State := { upData with recipes := [(0, held)], jobs := [(2, job)] }
/-- `upJob` with the job changed. -/
def withJob (f : Job → Job) : State := { upJob with jobs := [(2, f job)] }
/-- `n` little-endian numbers of `w` bytes, one behind the other. -/
def numbers (w : Nat) : Nat → Bytes → List Nat
  | 0, _ => []
  | n + 1, b => leNat (b.take w) :: numbers w n (b.drop w)

theorem tabulate_field (w n o : Nat) (b : Bytes) : tabulate n (fun c => field b (o + w * c) w) = numbers w n (b.drop o) := by
  induction n generalizing o with
  | zero => rfl
  | succ n ih =>
    have h := ih (o + w)
    simp only [tabulate, numbers, List.range_succ_eq_map, List.map_cons, List.map_map, List.drop_drop] at h ⊢
    rw [← h]
    simp [field, Function.comp_def, Nat.mul_add, Nat.add_assoc, Nat.add_comm, Nat.add_left_comm]

theorem hdr_crc : strictFold (hdr.take 4092) 0xFFFFFFFF ^^^ 0xFFFFFFFF = 0x8b7951a2 := by decide +kernel
theorem hdr_counts : numbers 8 256 (hdr.drop 48) = 1 :: List.replicate 255 0 := by decide +kernel
theorem hdr_lens : numbers 4 256 (hdr.drop 2096) = 2 :: List.replicate 255 0 := by decide +kernel

/-- A valid catalog header passes (R608). -/
theorem test_catalog_valid : catalogFault hdr = none := by
  unfold catalogFault parseCatalog
  simp only [crc32c_strict, hdr_crc, tabulate_field, hdr_counts, hdr_lens]
  decide +kernel

theorem hdr_read : readMem dataset.bytes 0 4096 = hdr := by
  have h : (readMem dataset.bytes 0 4096 == hdr) = true := by decide +kernel
  exact eq_of_beq h

theorem nsRead_hdr {s : State} (h : s.med.spaces = [(3, dataset)]) : s.nsRead 3 0 4096 = some hdr := by
  unfold State.nsRead State.space
  have e : CMap.find [(3, dataset)] 3 = some dataset := rfl
  have r : dataset.readable 0 4096 = true := by decide +kernel
  rw [h, e]
  simp only [r, hdr_read, if_true]

/-- The JOB_START of the tests. -/
def startCmd : CmdIn := { askFrom opJobStart 0 [(16, 2, 77), (20, 2, 7), (28, 4, 80)] with dma := desc }

theorem start_of {u : State} {b : Bytes} (hc : u.catalogOf (newJob startCmd.pkt desc 1) = some b)
    (hf : catalogFault b = none) (hb : (parseCatalog b).n = 1) (h1 : u.med.spaces = [(3, dataset)]) (h2 : u.jobs = []) (h3 : u.rma.partner = none) (h4 : u.self = 0) :
    u.startJob startCmd.pkt held (startCmd.bytes (min (startCmd.pkt.f 28 4) 1048640)) =
      .done success (u.setJob 0 (newJob startCmd.pkt desc 1)) := by
  have hd : startCmd.bytes (min (startCmd.pkt.f 28 4) 1048640) = desc := by decide +kernel
  have hs : u.space 3 = some dataset := by unfold State.space; rw [h1]; rfl
  have hu : ∀ k, u.unsealed k = false := by
    intro k
    unfold State.unsealed State.space
    rw [h1]
    simp only [CMap.find]
    split <;> rename_i h
    · split at h
      · cases h; decide
      · split at h <;> cases h
    · rfl
  have hn : u.catalogNames (newJob startCmd.pkt desc 1) u.unsealed = false := by
    unfold State.catalogNames
    simp only [hu, Bool.and_false, Bool.false_or]
    have : ∀ (l : List (Nat × Nat)), l.any (fun r => (List.range (r.2 - r.1)).any (fun i =>
        match u.nsRead (newJob startCmd.pkt desc 1).nsid (recordOffset (newJob startCmd.pkt desc 1).catOffset (r.1 + i)) 64 with
        | some _ => false
        | none => false)) = false := by
      intro l
      rw [List.any_eq_false]
      intro r _
      rw [Bool.not_eq_true, List.any_eq_false]
      intro i _
      split <;> simp
    exact this _
  unfold State.startJob
  rw [hd]
  simp only [show field desc 32 4 = 1 by decide +kernel, show descReserved desc 1 = none by decide +kernel,
    show (newJob startCmd.pkt desc 1).nsid = 3 by decide +kernel, show startCmd.pkt.f 28 4 = 80 by decide +kernel,
    show (newJob startCmd.pkt desc 1).catOffset = 0 by decide +kernel, hs, hc, hn, hf, hb, h2, h4,
    show descRanges desc 1 1 = none by decide +kernel,
    show (newJob startCmd.pkt desc 1).devices.contains 0 = true by decide +kernel,
    show CMap.free ([] : CMap Job) 16 = some 0 by decide, show dataset.sealed = true by rfl]
  have hp : (u.setJob 0 (newJob startCmd.pkt desc 1)).rma.partner = none := h3
  rw [hp]
  rfl

theorem start_ok {u : State} (h1 : u.med.spaces = [(3, dataset)]) (h2 : u.jobs = []) (h3 : u.rma.partner = none) (h4 : u.self = 0) :
    u.startJob startCmd.pkt held (startCmd.bytes (min (startCmd.pkt.f 28 4) 1048640)) =
      .done success (u.setJob 0 (newJob startCmd.pkt desc 1)) := by
  refine start_of (b := hdr) ?_ test_catalog_valid (by decide +kernel) h1 h2 h3 h4
  unfold State.catalogOf
  rw [show (newJob startCmd.pkt desc 1).nsid = 3 by decide +kernel, show (newJob startCmd.pkt desc 1).catOffset = 0 by decide +kernel]
  exact nsRead_hdr h1

/-- A waiter of an MCTP endpoint. -/
def waiter (opcode : Nat) : Waiter := { src := .mctp 1, seq := 0, opcode := opcode, pkt := { cred := 1 } }
/-- A copy of slot 0 whose data is outstanding. -/
def copy1 : SlotCopy := { index := 0, slot := 0, rank := 0, dest := 0, phase := 1 }

theorem right_of {α β : Type} {x : α ⊕ β} (h : x.isRight = true) : x = .inr (x.getRight h) := by
  cases x <;> simp at h ⊢
theorem pair_of {α β : Type} {x : Option (α × β)} (h : x.isSome = true) : x = some ((x.get h).1, (x.get h).2) := by
  cases x <;> simp at h ⊢
theorem true_of {α : Type} {x : Bool × α} (h : x.1 = true) : x = (true, x.2) := by
  cases x; simp at h ⊢; exact h

/-- A plan of epoch 0 or 1 in a phase. -/
def plan (epoch phase : Nat) : EpochPlan := { EpochPlan.blank epoch with phase := phase }
/-- A chain of pool 0 from cell 4, for delivery or owned by no one in particular. -/
def chain1 : Chain := { owner := 1, cells := [4], length := 512, refs := 1, time := 0, bytes := [] }
/-- Window 1 over 128 bytes of the chain at cell 4, for device 5. -/
def window1 : Window :=
  { pool := 0, cell := 4, offset := 0, length := 128, key := 9, read := true, write := true, any := false, requester := 5, closing := none }
/-- The mirror window of device 5 for job 77. -/
def mirror5 : MirrorWindow := { jobId := 77, device := 5, index := 1, key := 9 }
/-- Job 77 with device 5 in its shard map, and its mirror window; `bs` are the bytes of the window. -/
def upMirror (bs : CMap Byte) : State :=
  { upJob with
    jobs := [(2, { job with shards := [(0, 0), (1, 5)] })]
    mem := { upJob.mem with chains := [(4, { chain1 with bytes := bs })] }
    rma := { upJob.rma with windows := [(1, window1)], mirrors := [(77 * 8192 + 5, mirror5)] } }
/-- A valid cursor record of device 5 for job 77 (R333), its CRC computed outside the model. -/
def cursor5 : CMap Byte := [(0, 1), (8, 77), (10, 5), (60, 72), (61, 227), (62, 16), (63, 196)]

/-- A firmware image of one component, an empty SIGNATURE (R503). Its digest and CRC were computed outside the model. -/
def firmware : Bytes :=
  leBytes 68 0x100000c4307be1411b7fd216ae3b1b17e32d94c3896ac51a760b03800000000000000010000010000000007000000000000000200000000000000000000000157464b46 ++ zeros 184 ++ leBytes 4 0xd26e640b
/-- An event record of severity 1. -/
def event1 : Event := { time := 0, seq := 1, code := 0x0101, sev := 1, rsvSlot := false, die := 4, count := 1, detail := [] }
/-- An audit record. -/
def audit1 : AuditRec := { seq := 1, time := 0, opcode := 0x0102, status := 0, cred := 2, role := 2, route := 1, source := 2, leaf := [], packet := [], count := 1, chain := [], prev := [] }
/-- One job slot's binding of rank 0, destination 0, to queue pair 3. -/
def bind3 : Binding :=
  { rank := 0, dest := 0, qp := 3, dataAddr := 0, dataKey := 0, cwAddr := 0, cwKey := 0, consAddr := 0, consKey := 0, c := some 0, lastRead := some 0,
    reading := false, error := false }
/-- Ring 63, enabled, 16 entries, one entry to fetch. -/
def ring63 : Ring := { en := true, depthLog2 := 4, sqTail := 1, cqTail := 1 }
/-- The device with ring 63 enabled. -/
def upRing : State := { up with cmd := { up.cmd with rings := List.replicate 63 {} ++ [ring63] } }
/-- A packet forwarded to device 9. -/
def forwarded (receipt : Bool) : Forwarded := { dev := 9, cmd := waiter 0x0101, sentAt := 0, receipt := receipt, held := false }
/-- The device with a packet forwarded; no route to device 9 since time 0. -/
def upForwarded (receipt : Bool) : State :=
  { up with cmd := { up.cmd with forwarded := [forwarded receipt] }, net := { up.net with lost := [(9, (0, false))] } }

theorem some_of {α : Type} {x : Option α} (h : x.isSome = true) : x = some (x.get h) := by
  cases x <;> simp at h ⊢

/-- A sample of job 77 in slot 2 on tile 3 in a stage, on engine 5 of class 0, whose tokens are granted. -/
def sample (stage : Nat) : Sample :=
  { job := 2, epoch := 0, step := 0, member := 0, bucket := 0, reserve := false,
    record := { sample := 5, sizeClass := 0, container := 0, ordinal := 0, offset := 0x2000, nsid := 3, length := 2, attr := 0, check := sha384h [0x66, 0x6B] },
    tile := 3, stage := stage, engine := some (0, 5), held := none, chains := [], reserved := 0, replicas := [], refusals := 0, avoid := none,
    refs := [], concealed := false, work := Work.empty, verdict := none, slot := none }
/-- The device of job 77 with samples. -/
def upSamples (xs : List Sample) : State := { upJob with samples := xs, pwr := { upJob.pwr with granted := [(tokenKey 3 0 5, 1)] } }
/-- A decoded frame without planes. -/
def frame0 : Decoded := { planes := [], depth := 8, matrix := none, full := none, chroma := none, chromaDefault := 0, rgb := false, jfif := false, interlaced := false, bottomFirst := false, concealed := false }
/-- A recipe of the transform stage alone with region of interest and model 0; not a valid image, but one that is held. -/
def roiImage : Bytes :=
  zeros 14 ++ leBytes 1 0x3 ++ zeros 113 ++ leBytes 41 0x100000060c00000004000000000000001c000005f0000000050000000000000540000000b000000001 ++ zeros 75 ++ leBytes 1 0x8 ++ zeros 1303 ++ leBytes 13 0x1000000400002000100000001 ++ zeros 3
/-- A fabric port that carries, to device 5. -/
def linkUp : FabPort := { state := 2, peer := 5, timeHops := some 0 }
/-- Every fabric port carries. -/
def upLinks : State := { up with net := { up.net with ports := List.replicate 16 linkUp } }
/-- A test slice of engine 5 of class 0 of tile 3. -/
def slice3 : Slice := { tile := 3, cls := 0, idx := 5, forRun := false }
/-- A remote request. -/
def request1 : RmaRequest :=
  { target := 5, window := 1, offset := 0, length := 4, isWrite := true, cls := 3, localChain := false, localAddr := 0, localOff := 0, sentAt := 0,
    cmd := some (waiter 0x0A06), mirror := some 2 }
/-- A write of four bytes to window 1 by device 5. -/
def rmaIn : RmaIn := { requester := 5, id := 0, window := 1, key := 9, offset := 124, length := 4, isWrite := true, cls := 3, data := [1, 2, 3, 4] }
/-- Queue pair 3, connected. -/
def pair3 : QueuePair :=
  { state := 1, ipVersion := 4, dscp := 0, port := 0, udp := 0, addr := 0, qpn := 0, psn := 0, cfg := 0x2FEA, retries := 0, rate := 0, lastCut := none,
    lastCnpSent := none, lastCnp := 0 }
/-- A slot of job 77 ready for delivery. -/
def ready0 : ReadySlot := { epoch := 0, step := 0, index := 0, slot := 0, bucket := 0, data := [], empty := true, word := 0 }
/-- Job 77 in delivery: a slot ready, one copy in a phase, queue pair 3 bound. -/
def upDelivery (phase : Nat) (b : Binding) : State :=
  { upJob with
    jobs := [(2, { job with ready := [ready0], copies := [{ copy1 with phase := phase }], dests := [b] })]
    rma := { upJob.rma with qps := [(3, pair3)] } }

/-- A queue of 4 entries with one posted. -/
def queue4 : NvmeQueue := { size := 4, base := 4096, head := 0, tail := 1, prio := 2, other := 0 }
/-- PF0 with its admin queue and I/O queue 1, an entry posted in each, and namespace 1 of kind block. -/
def upNvme : State :=
  { up with
    nvme := { up.nvme with sqs := [(0, queue4), (1, { queue4 with other := 1 })], cqs := [(0, { queue4 with tail := 0 }), (1, { queue4 with tail := 0 })], cc := 1 }
    med := { up.med with spaces := [(1, { dataset with kind := 0, sealed := false })] }
    set := writeMem up.set 0x45 [4] }
/-- An NVMe command. -/
def ncmd (sq opcode cdw10 : Nat) (cdw11 : Nat := 0) : NvmeIn :=
  { sq := sq, cid := 7, opcode := opcode, nsid := 1, cdw10 := cdw10, cdw11 := cdw11, cdw12 := 0, prp := 0, data := [] }
/-- A TS packet. -/
def ts : Bytes := 0x47 :: zeros 187
/-- An RTP packet of one TS packet. -/
def rtp : Bytes := 0x80 :: zeros 11 ++ ts

/-- A recipe image of fetch, pack and deliver with one bucket of batch 1 in pool 0, written from Tables 04-1 to 04-4
with its CRCs computed outside the model. -/
def recipeImage : Bytes :=
  leBytes 22 0x10000000000000050000000100010000000145524b46 ++ zeros 102 ++ leBytes 84 0x289cdea9000004b000000b500001000fd508a3150000001000000b4000010004347a478d0000050000000640000100030000000000000000000006400001000221607cc6000005400000010000010001f7edf37b ++ zeros 48 ++ leBytes 2 0x181 ++ zeros 1598 ++ leBytes 10 0x1000000000000000001 ++ zeros 1014 ++ leBytes 13 0x1000000400002000100000001 ++ zeros 1203

/-- Its stage section. -/
def recipePart1 : Bytes := leBytes 2 0x181 ++ zeros 1342

/-- Its stage program section. -/
def recipePart2 : Bytes := []

/-- Its bucket section. -/
def recipePart3 : Bytes := zeros 256 ++ leBytes 10 0x1000000000000000001 ++ zeros 1014

/-- Its delivery section. -/
def recipePart4 : Bytes := leBytes 13 0x1000000400002000100000001 ++ zeros 3

/-- Its signature section. -/
def recipePart15 : Bytes := zeros 1200

theorem recipe_sec1 : sectionOf recipeImage 1 = some recipePart1 := by
  have h : (sectionOf recipeImage 1 == some recipePart1) = true := by decide +kernel
  exact eq_of_beq h

theorem recipe_crc1 : (strictFold recipePart1 0xFFFFFFFF ^^^ 0xFFFFFFFF) = 559971526 := by decide +kernel

theorem recipe_sec2 : sectionOf recipeImage 2 = some recipePart2 := by
  have h : (sectionOf recipeImage 2 == some recipePart2) = true := by decide +kernel
  exact eq_of_beq h

theorem recipe_crc2 : (strictFold recipePart2 0xFFFFFFFF ^^^ 0xFFFFFFFF) = 0 := by decide +kernel

theorem recipe_sec3 : sectionOf recipeImage 3 = some recipePart3 := by
  have h : (sectionOf recipeImage 3 == some recipePart3) = true := by decide +kernel
  exact eq_of_beq h

theorem recipe_crc3 : (strictFold recipePart3 0xFFFFFFFF ^^^ 0xFFFFFFFF) = 880428941 := by decide +kernel

theorem recipe_sec4 : sectionOf recipeImage 4 = some recipePart4 := by
  have h : (sectionOf recipeImage 4 == some recipePart4) = true := by decide +kernel
  exact eq_of_beq h

theorem recipe_crc4 : (strictFold recipePart4 0xFFFFFFFF ^^^ 0xFFFFFFFF) = 3574113045 := by decide +kernel

theorem recipe_sec15 : sectionOf recipeImage 15 = some recipePart15 := by
  have h : (sectionOf recipeImage 15 == some recipePart15) = true := by decide +kernel
  exact eq_of_beq h

theorem recipe_crc15 : (strictFold recipePart15 0xFFFFFFFF ^^^ 0xFFFFFFFF) = 681369257 := by decide +kernel

theorem recipe_tab : sectionTable recipeImage 5 = [{ typ := 1, flags := 1, off := 256, len := 1344, crc := 559971526 }, { typ := 2, flags := 1, off := 1600, len := 0, crc := 0 }, { typ := 3, flags := 1, off := 1600, len := 1280, crc := 880428941 },
     { typ := 4, flags := 1, off := 2880, len := 16, crc := 3574113045 }, { typ := 15, flags := 1, off := 2896, len := 1200, crc := 681369257 }] := by decide +kernel

theorem recipe_slice1 : slice recipeImage 256 1344 = recipePart1 := by
  have h : (slice recipeImage 256 1344 == recipePart1) = true := by decide +kernel
  exact eq_of_beq h

theorem recipe_slice2 : slice recipeImage 1600 0 = recipePart2 := by
  have h : (slice recipeImage 1600 0 == recipePart2) = true := by decide +kernel
  exact eq_of_beq h

theorem recipe_slice3 : slice recipeImage 1600 1280 = recipePart3 := by
  have h : (slice recipeImage 1600 1280 == recipePart3) = true := by decide +kernel
  exact eq_of_beq h

theorem recipe_slice4 : slice recipeImage 2880 16 = recipePart4 := by
  have h : (slice recipeImage 2880 16 == recipePart4) = true := by decide +kernel
  exact eq_of_beq h

theorem recipe_slice15 : slice recipeImage 2896 1200 = recipePart15 := by
  have h : (slice recipeImage 2896 1200 == recipePart15) = true := by decide +kernel
  exact eq_of_beq h

/-- The recipe that the image spells. -/
def recipeParsed : Recipe :=
  { id := 1, revision := 1, dl := 0, live := false, dropConcealed := false, shortTail := false, reserveStop := false, catalogId := 0, mask := 385, demux := (List.replicate 32 (0#8)), decode := (List.replicate 16 (0#8)), transform := { matrix := 0, range := 0, luma := false, filter := 0, antialias := false, letterbox := false, header := false, roi := false, roiModel := 0, roiAlpha := 0, roiMaxStep := 0, roiConfMin := 0, windowW := 0, windowH := 0, aug := [], audioRate := 0, audioChannels := 0, audioTables := 0, audioOffset := 0, normM := [0, 0, 0], normS := [0, 0, 0], audioS := 0 }, text := { vocab := 0, source := 0, bos := false, eos := false, split := false, cut := false, token16 := false, detokDrop := false, seqLen := 0, seqCount := 0 }, score := { filterModel := 0, embedModel := 0, labelModel := 0, grammar := 0, scoresOut := false, embedOut := false, tokensOut := false, textOut := false, detokDrop := false, embedFormat := 0, labelMax := 0 }, packComp := (List.replicate 64 (0)), shapes := (List.replicate 64 ({ t := 0, h := 0, w := 0, layout := 0, interleaved := false, pad := 0, audioLen := 0 })), tables := [], map := (List.replicate 256 (0)), descs := ([{ batch := 1, reserve := 0, pool := 0, format := 1, work := 0 }] ++ List.replicate 63 ({ batch := 0, reserve := 0, pool := 0, format := 0, work := 0 })), delivery := { ranks := 1, dests := 1, depth := 2, stride := 64, perRank := 1 }, images := [], schema := 0, paramTimeout := 0, hasParams := false, thresholds := { dupEn := 0, dupMax := 0, rules := [] }, services := [] }

theorem recipe_n : field recipeImage 14 2 = 5 := by decide +kernel

theorem recipe_len : recipeImage.length = 4096 := by decide +kernel

theorem recipe_sec5 : sectionOf recipeImage 5 = none := by
  unfold sectionOf; rw [recipe_n, recipe_tab]; rfl

theorem recipe_sec6 : sectionOf recipeImage 6 = none := by
  unfold sectionOf; rw [recipe_n, recipe_tab]; rfl

theorem recipe_sec7 : sectionOf recipeImage 7 = none := by
  unfold sectionOf; rw [recipe_n, recipe_tab]; rfl

theorem recipe_sec8 : sectionOf recipeImage 8 = none := by
  unfold sectionOf; rw [recipe_n, recipe_tab]; rfl

theorem recipe_parse : parseRecipe recipeImage = recipeParsed := by
  unfold parseRecipe
  simp only [recipe_sec1, recipe_sec3, recipe_sec4, recipe_sec5, recipe_sec6, recipe_sec7, recipe_sec8]
  decide +kernel

/-- What the load checks see in the state of the tests. -/
def recipeEnv : LoadEnv :=
  { dl := 7, sigOk := true, held := [], catalog := some hdr, pools := (1, 524288) :: List.replicate 63 (0, 0), services := [] }

theorem recipe_sections : sectionsOk recipeImage (field recipeImage 20 4) 2 32 = true := by
  unfold sectionsOk sectionBytes
  simp only [recipe_n, recipe_tab, crc32c_strict, List.all_cons, List.all_nil, recipe_slice1, recipe_slice2, recipe_slice3, recipe_slice4, recipe_slice15, recipe_crc1, recipe_crc2, recipe_crc3, recipe_crc4, recipe_crc15]
  decide +kernel

theorem recipe_b : recipeParsed.buckets = [0] := by decide +kernel

theorem recipe_form : recipeForm recipeImage = true := by
  unfold recipeForm
  simp only [recipe_sections, recipe_parse, recipe_n, recipe_tab, recipe_sec1, recipe_sec2, recipe_sec3, recipe_sec4, recipe_sec5, recipe_sec6, recipe_sec7, recipe_sec8, recipe_sec15, show sigType = 15 from rfl]
  decide +kernel

theorem recipe_buckets : recipeBuckets recipeImage = true := by
  unfold recipeBuckets
  simp only [recipe_parse, recipe_sec3, recipe_b]
  decide +kernel

theorem recipe_stages : recipeStages (recipeEnv) recipeImage = true := by
  unfold recipeStages
  simp only [recipe_parse, recipe_sec1, recipe_sec2, recipe_sec7, recipe_b]
  decide +kernel

theorem recipe_formats (e : LoadEnv) : recipeFormats e recipeParsed = true := by
  unfold recipeFormats
  rw [recipe_b, show recipeParsed.namedModels = [] by decide +kernel]
  rfl

theorem recipe_images (e : LoadEnv) : recipeImages e recipeParsed = true := by
  unfold recipeImages
  rfl

theorem recipe_ranks : recipeRanks (recipeEnv) recipeParsed = true := by
  unfold recipeRanks
  rw [recipe_b]
  decide +kernel

theorem hdr_parse : parseCatalog hdr = { n := 1, catalogId := 0, digest := zeros 24, counts := 1 :: List.replicate 255 0, maxLens := 2 :: List.replicate 255 0 } := by
  unfold parseCatalog
  simp only [tabulate_field, hdr_counts, hdr_lens]
  decide +kernel

/-- The load checks pass when each passes. -/
theorem recipeCheck_none {e : LoadEnv} {recipeImage cb : Bytes} {r : Recipe} {cat : Catalog} {ss : List Section}
    (hr : parseRecipe recipeImage = r) (hs : sectionTable recipeImage (field recipeImage 14 2) = ss) (hf : recipeForm recipeImage = true)
    (hv : (field recipeImage 4 2 == 1 && ss.all fun s => (recipeTypes.map (·.1)).contains s.typ || s.flags == 0) = true)
    (he : e.sigOk = true) (hd : (r.dl == 0 || r.dl == e.dl) = true) (hg : recipeStages e recipeImage = true) (hb : recipeBuckets recipeImage = true)
    (ho : recipeFormats e r = true) (hi : recipeImages e r = true) (hc : e.catalog = some cb) (hq : catalogFault cb = none)
    (hp : parseCatalog cb = cat) (hk : (r.catalogId == 0 || r.catalogId == cat.catalogId) = true) (hn : recipeRanks e r = true)
    (hx : (r.buckets.all fun b => (e.pools.getD (r.desc b).pool (0, 0)).1 == 1) = true)
    (hy : (r.buckets.all fun b => decide (bucketNeed r cat b ≤ (e.pools.getD (r.desc b).pool (0, 0)).2)) = true)
    (hl : r.live = false) (hz : findSection ss 8 = none) : recipeCheck e recipeImage = none := by
  subst hr hs hp
  simp only [recipeCheck, hf, hv, he, hd, hg, hb, ho, hi, hc, hq, hn, hx, hl, hz, Option.getD_some, hk, hy]
  rfl

theorem recipe_check : recipeCheck recipeEnv recipeImage = none :=
  recipeCheck_none recipe_parse ((congrArg (sectionTable recipeImage) recipe_n).trans recipe_tab) recipe_form (by decide +kernel) rfl (by decide +kernel) recipe_stages recipe_buckets
    (recipe_formats _) (recipe_images _) rfl test_catalog_valid hdr_parse (by decide +kernel) recipe_ranks
    (by rw [recipe_b]; decide +kernel) (by rw [recipe_b]; decide +kernel) rfl rfl

/-- The load checks of Table 04-5 pass for the image in a state with its pool, dataset and key. -/
theorem recipe_ok {u : State} (h1 : u.med.spaces = [(3, dataset)]) (h2 : u.mem.pools = [(0, { kind := 1, cells := 1024, target := 1024 })])
    (h3 : u.net.services = []) (h4 : u.sec.signkeys = [(0, [])]) (h5 : u.sys.dl = 7) (h6 : u.models = []) (h7 : u.vocabs = []) (h8 : u.grammars = []) :
    recipeCheck (u.loadEnv (u.imageSigned recipeImage true) (u.catalogAt 3 0)) recipeImage = none := by
  have e : u.loadEnv (u.imageSigned recipeImage true) (u.catalogAt 3 0) = recipeEnv := by
    unfold State.loadEnv State.imageSigned State.catalogAt State.pool recipeEnv
    rw [nsRead_hdr h1, h2, h3, h4, h5, h6, h7, h8, show signerOf recipeImage = 0 by decide +kernel]
    rfl
  rw [e, recipe_check]
/-- The RECIPE_LOAD of the tests. -/
def loadCmd : CmdIn :=
  { askFrom opRecipeLoad 0 [(16, 1, 31), (20, 4, 4096), (32, 2, 3)] with dma := recipeImage, sigOk := true }

theorem load_source (u : State) : u.recipeBytes loadCmd (loadCmd.pkt.f 20 4) = .inr recipeImage := by
  have h1 : loadCmd.pkt.f 17 1 = 0 := by decide +kernel
  have h2 : loadCmd.pkt.f 18 2 = 0 := by decide +kernel
  have h3 : hostAddress loadCmd 24 = none := by decide +kernel
  have h4 : (loadCmd.bytes (loadCmd.pkt.f 20 4) == recipeImage) = true := by decide +kernel
  unfold State.recipeBytes State.sourceBytes
  simp only [h1, h2, h3, eq_of_beq h4]
  rfl

/-- The image's first 512 bytes, the first pool's entry and every other entry. -/
def settingsHead : Bytes :=
  leBytes 9 0x10000000154534b46 ++ zeros 16 ++ leBytes 1 0x6 ++ zeros 34 ++ leBytes 23 0x30032646464646464643c000100010f010000b4453999 ++ zeros 429
def settingsEntry0 : Bytes := leBytes 13 0x1e007d00fa0000004000000001 ++ zeros 3
def settingsEntry1 : Bytes := leBytes 13 0x1e007d00fa0000000000000000 ++ zeros 3

/-- A settings image of SEQ 1: the values of Table 17-5 for one HBM pool of 64 MiB, each pool's thresholds as at reset.
Its CRC was computed outside the model. -/
def settings : Bytes := settingsHead ++ (settingsEntry0 ++ (List.replicate 63 settingsEntry1).flatten)

theorem settings_length : settings.length = 0x600 := by decide +kernel

theorem settings_head_length : settingsHead.length = 0x200 := by decide +kernel

theorem getD_left (xs ys : Bytes) (i : Nat) (h : i < xs.length) : (xs ++ ys).getD i 0 = xs.getD i 0 := by
  simp only [List.getD_eq_getElem?_getD, List.getElem?_append_left h]

theorem getD_right (xs ys : Bytes) (i : Nat) (h : xs.length ≤ i) : (xs ++ ys).getD i 0 = ys.getD (i - xs.length) 0 := by
  simp only [List.getD_eq_getElem?_getD, List.getElem?_append_right h]

theorem settings_entries_get (n q r : Nat) (hq : q < n) (hr : r < 16) : ((List.replicate n settingsEntry1).flatten).getD (16 * q + r) 0 = settingsEntry1.getD r 0 := by
  have l : settingsEntry1.length = 16 := by decide +kernel
  induction n generalizing q with
  | zero => omega
  | succ n ih =>
    rw [List.replicate_succ, List.flatten_cons]
    cases q with
    | zero => rw [getD_left _ _ _ (by omega)]; simp
    | succ q =>
      rw [getD_right _ _ _ (by omega), ← ih q (by omega)]
      congr 1
      omega

/-- A byte of the settings that the image gives is the image's byte. -/
theorem settings_get (a : Nat) (h : 0x40 ≤ a) (h' : a < 0x600) : (settingsBody settings).get 0 a = settings.getD a 0 := by
  have l : field settings 24 4 = 0x600 := by decide +kernel
  have t : settings.take 0x600 = settings := List.take_of_length_le (Nat.le_of_eq settings_length)
  unfold settingsBody
  rw [l, t]
  have e := writeMem_get_own (CMap.wf_nil 0) 0x40 (settings.drop 0x40) (a - 0x40) (by rw [List.length_drop, settings_length]; omega)
  rw [show 0x40 + (a - 0x40) = a by omega] at e
  rw [e, List.getElem_drop, List.getD_eq_getElem?_getD, List.getElem?_eq_getElem (by rw [settings_length]; omega)]
  simp [show 64 + (a - 64) = a by omega]

theorem settings_above (a : Nat) (h : 0x600 ≤ a) : (settingsBody settings).get 0 a = 0 := by
  have l : field settings 24 4 = 0x600 := by decide +kernel
  have t : settings.take 0x600 = settings := List.take_of_length_le (Nat.le_of_eq settings_length)
  unfold settingsBody
  rw [l, t, writeMem_get_other (CMap.wf_nil 0) _ _ _ (by rw [List.length_drop, settings_length]; omega)]
  simp [CMap.get, CMap.find]

theorem settings_read (a n : Nat) (h : 0x40 ≤ a) (h' : a + n ≤ 0x600) :
    setField (settingsBody settings) a n = leNat ((List.range n).map fun i => settings.getD (a + i) 0) := by
  unfold setField readMem
  refine congrArg leNat (List.map_congr_left fun i hi => settings_get (a + i) (by omega) ?_)
  have := List.mem_range.1 hi
  omega

theorem settings_entry_read (q k n : Nat) (hq : q < 63) (hk : k + n ≤ 16) :
    setField (settingsBody settings) (0x210 + 16 * q + k) n = leNat ((List.range n).map fun i => settingsEntry1.getD (k + i) 0) := by
  rw [settings_read _ _ (by omega) (by omega)]
  refine congrArg leNat (List.map_congr_left fun i hi => ?_)
  have hi := List.mem_range.1 hi
  have l : settingsHead.length = 0x200 := settings_head_length
  have l0 : settingsEntry0.length = 16 := by decide +kernel
  unfold settings
  rw [getD_right _ _ _ (by omega), getD_right _ _ _ (by omega), ← settings_entries_get 63 q (k + i) hq (by omega)]
  exact congrArg (fun m => List.getD _ m 0) (by omega)

theorem settings_entry_later (q : Nat) (hq : q < 63) : poolSet (settingsBody settings) (q + 1) = ⟨0, 0, 0, 0, 250, 125, 30⟩ := by
  have e : 0x200 + 16 * (q + 1) = 0x210 + 16 * q := by omega
  unfold poolSet
  simp only [e]
  have h0 := settings_entry_read q 0 1 hq (by omega)
  rw [Nat.add_zero] at h0
  rw [h0, settings_entry_read q 1 1 hq (by omega), settings_entry_read q 2 2 hq (by omega), settings_entry_read q 4 4 hq (by omega), settings_entry_read q 8 2 hq (by omega),
    settings_entry_read q 10 2 hq (by omega), settings_entry_read q 12 2 hq (by omega)]
  decide +kernel

theorem settings_entry_first : poolSet (settingsBody settings) 0 = ⟨1, 0, 0, 64, 250, 125, 30⟩ := by
  unfold poolSet
  simp only [settings_read, Nat.mul_zero, Nat.add_zero, Nat.reduceAdd, Nat.reduceLeDiff]
  decide +kernel

theorem settings_entries_eq : tabulate 64 (poolSet (settingsBody settings)) = ⟨1, 0, 0, 64, 250, 125, 30⟩ :: List.replicate 63 ⟨0, 0, 0, 0, 250, 125, 30⟩ := by
  unfold tabulate
  rw [List.range_succ_eq_map, List.map_cons, settings_entry_first, List.map_map]
  refine congrArg (List.cons _) (List.eq_replicate_iff.2 ⟨by simp, fun b hb => ?_⟩)
  obtain ⟨q, hq, rfl⟩ := List.mem_map.1 hb
  exact settings_entry_later q (List.mem_range.1 hq)

/-- Entries without an SRAM pool share no bank group. -/
theorem disjoint_of_no_sram {ps : List PoolSet} (h : ps.all (fun p => p.kind != 2) = true) : poolsDisjoint ps = true := by
  induction ps with
  | nil => rfl
  | cons p ps ih =>
    simp only [List.all_cons, Bool.and_eq_true] at h
    simp only [poolsDisjoint, h.1, ih h.2, Bool.true_or, Bool.and_true]
    exact List.all_eq_true.2 fun _ _ => rfl

theorem settings_pools : poolsOk (settingsBody settings) = true := by
  unfold poolsOk
  have d := disjoint_of_no_sram (ps := ⟨1, 0, 0, 64, 250, 125, 30⟩ :: List.replicate 63 ⟨0, 0, 0, 0, 250, 125, 30⟩) (by decide +kernel)
  simp only [settings_entries_eq, d]
  decide +kernel

theorem settings_crc : strictFold (settings.take 60 ++ zeros 4 ++ settings.drop 64) 0xFFFFFFFF ^^^ 0xFFFFFFFF = 0xb4453999 := by decide +kernel

theorem settings_form : settingsFormOk settings = true := by
  have l : field settings 24 4 = 0x600 := by decide +kernel
  have t : settings.take 0x600 = settings := List.take_of_length_le (Nat.le_of_eq settings_length)
  unfold settingsFormOk
  simp only [l, t, crc32c_strict, settings_crc]
  decide +kernel

theorem default_low : defaultSettings.all (fun p => decide (p.1 < 0x600)) = true := by decide +kernel

theorem default_above (a : Nat) (h : 0x600 ≤ a) : defaultSettings.get 0 a = 0 := by
  unfold CMap.get
  rw [CMap.find_of_below (List.all_eq_true.2 fun p hp => by
    have := List.all_eq_true.1 default_low p hp
    simp only [decide_eq_true_eq] at this ⊢
    omega)]
  rfl

theorem settings_banks : (List.range 224).all (fun i =>
    ((defaultSettings.get 0 (0x600 + i)).toNat &&& (255 - ((settingsBody settings).get 0 (0x600 + i)).toNat)) == 0) = true :=
  List.all_eq_true.2 fun i _ => by
    rw [default_above _ (by omega), settings_above _ (by omega)]
    rfl

theorem settings_keys : (List.range 32).all (fun i => decide (setField (settingsBody settings) (0x15000 + 2048 * i) 2 ≤ 2046)) = true :=
  List.all_eq_true.2 fun i _ => by
    have e : setField (settingsBody settings) (0x15000 + 2048 * i) 2 = 0 := by
      show leNat [(settingsBody settings).get 0 (0x15000 + 2048 * i + 0), (settingsBody settings).get 0 (0x15000 + 2048 * i + 1)] = 0
      rw [settings_above _ (by omega), settings_above _ (by omega)]
      rfl
    rw [e]
    rfl

theorem settings_fields : settingsFieldsOk defaultSettings (settingsBody settings) = true := by
  unfold settingsFieldsOk partnerOk
  rw [settings_pools, settings_banks, settings_keys]
  have e : (poolSet (settingsBody settings) (setField (settingsBody settings) 0x53 1)).kind = 1 := by
    rw [settings_read 0x53 1 (by omega) (by omega), show leNat ((List.range 1).map fun i => settings.getD (0x53 + i) 0) = 0 by decide +kernel, settings_entry_first]
  rw [e]
  have z : (List.range 7).all (fun z => inRange 70 105 (setField (settingsBody settings) (0x49 + z) 1)) = true :=
    List.all_eq_true.2 fun z hz => by
      have hz := List.mem_range.1 hz
      rw [settings_read _ _ (by omega) (by omega)]
      exact (show ∀ z < 7, inRange 70 105 (leNat ((List.range 1).map fun i => settings.getD (0x49 + z + i) 0)) = true by decide +kernel) z hz
  have y : (List.range 4).all (fun t => decide (setField (settingsBody settings) (0x5C + 2 * t) 2 < 2 ^ 14)
      && decide (setField (settingsBody settings) (0x64 + 4 * t) 4 < 2 ^ 24)) = true :=
    List.all_eq_true.2 fun t ht => by
      have ht := List.mem_range.1 ht
      rw [settings_read _ _ (by omega) (by omega), settings_read _ _ (by omega) (by omega)]
      exact (show ∀ t < 4, (decide (leNat ((List.range 2).map fun i => settings.getD (0x5C + 2 * t + i) 0) < 2 ^ 14)
        && decide (leNat ((List.range 4).map fun i => settings.getD (0x64 + 4 * t + i) 0) < 2 ^ 24)) = true by decide +kernel) t ht
  rw [z, y]
  simp only [settings_read, Nat.reduceAdd, Nat.reduceLeDiff]
  decide +kernel

/-- The checks of UPD_VERIFY pass for the image over the settings of a device without any. -/
theorem settings_ok {u : State} (h : u.set = defaultSettings) (h2 : u.upd.setSeq = 0) (h3 : u.upd.set.data = settings) :
    u.settingsFault u.upd.set.data = none := by
  unfold State.settingsFault
  rw [h, h2, h3, settings_form, settings_fields, show field settings 16 8 = 0 by decide +kernel, show field settings 8 8 = 1 by decide +kernel]
  rfl

/-- States and operands that meet the hypotheses of `DeviceCommandsComplete`, clause by clause. -/
theorem witness_DeviceCommandsComplete :
    (∃ (x : CmdIn) (s : State) (w : Waiter) (u : State), s.takes opIdentify x w u) ∧
    (∃ (x : CmdIn) (s : State) (w : Waiter) (u : State), s.takes opNetworkSet x w u ∧ x.pkt.f 16 1 = 0 ∧ x.pkt.f 17 1 ≤ 7 ∧ (x.pkt.f 18 1 = 4 ∨ x.pkt.f 18 1 = 6)) ∧
    (∃ (x : CmdIn) (s : State) (w : Waiter) (u : State), s.takes opNetworkSet x w u ∧ x.pkt.f 16 1 = 1 ∧ x.pkt.f 17 1 ≤ 7 ∧ bits (x.pkt.f 18 2) 2 2 ≠ 3) ∧
    (∃ (x : CmdIn) (s : State) (w : Waiter) (u : State), s.takes opNetworkSet x w u ∧ x.pkt.f 16 1 = 2 ∧ x.pkt.f 17 1 ≤ 7 ∧ (x.pkt.f 18 1 = 4 ∨ x.pkt.f 18 1 = 6)) ∧
    (∃ (x : CmdIn) (s : State) (w : Waiter) (u : State), s.takes opNetworkSet x w u ∧ x.pkt.f 16 1 = 3 ∧ x.pkt.f 17 1 ≤ 7 ∧ (x.pkt.f 20 1 = 4 ∨ x.pkt.f 20 1 = 6) ∧ u.rma.qps.find (x.pkt.f 18 2) = none) ∧
    (∃ (x : CmdIn) (s : State) (w : Waiter) (u : State), s.takes opPartnerSet x w u ∧ bit (x.pkt.f 16 2) 15 = false ∧ u.rma.partner = none) ∧
    (∃ (x : CmdIn) (s : State) (w : Waiter) (u : State), s.takes opPartnerSet x w u ∧ bit (x.pkt.f 16 2) 15 = true ∧ bits (x.pkt.f 16 2) 0 13 < 6144 ∧ bits (x.pkt.f 16 2) 0 13 ≠ u.self) ∧
    (∃ (x : CmdIn) (s : State) (w : Waiter) (u : State), s.takes opLiveServiceSet x w u ∧ x.pkt.f 16 2 ≤ 511 ∧ x.pkt.f 18 1 ≤ 7 ∧ u.net.services.find (x.pkt.f 16 2) = none) ∧
    (∃ (v : Service) (x : CmdIn) (s : State) (w : Waiter) (u : State), s.takes opLiveServiceRemove x w u ∧ x.pkt.f 16 2 ≤ 511 ∧ u.net.services.find (x.pkt.f 16 2) = some v ∧ u.serviceInUse (x.pkt.f 16 2) = false) :=
  ⟨⟨ask opIdentify, up, _, _, takes_of (by decide +kernel) (by decide +kernel)⟩,
   ⟨ask opNetworkSet 0 [(17, 1, 7), (18, 1, 6)], up, _, _, takes_of (by decide +kernel) (by decide +kernel), by decide +kernel, by decide +kernel, by decide +kernel⟩,
   ⟨ask opNetworkSet 0 [(16, 1, 1), (17, 1, 7), (18, 2, 8)], up, _, _, takes_of (by decide +kernel) (by decide +kernel), by decide +kernel, by decide +kernel, by decide +kernel⟩,
   ⟨ask opNetworkSet 0 [(16, 1, 2), (17, 1, 7), (18, 1, 4)], up, _, _, takes_of (by decide +kernel) (by decide +kernel), by decide +kernel, by decide +kernel, by decide +kernel⟩,
   ⟨ask opNetworkSet 0 [(16, 1, 3), (17, 1, 7), (20, 1, 6)], up, _, _, takes_of (by decide +kernel) (by decide +kernel), by decide +kernel, by decide +kernel, by decide +kernel, by decide +kernel⟩,
   ⟨ask opPartnerSet, up, _, _, takes_of (by decide +kernel) (by decide +kernel), by decide +kernel, by decide +kernel⟩,
   ⟨ask opPartnerSet 0 [(16, 2, 0x8000 + 6143)], up, _, _, takes_of (by decide +kernel) (by decide +kernel), by decide +kernel, by decide +kernel, by decide +kernel⟩,
   ⟨ask opLiveServiceSet 0 [(16, 2, 511), (18, 1, 7)], up, _, _, takes_of (by decide +kernel) (by decide +kernel), by decide +kernel, by decide +kernel, by decide +kernel⟩,
   ⟨live, ask opLiveServiceRemove 0 [(16, 2, 511)], upLive, _, _, takes_of (by decide +kernel) (by decide +kernel), by decide +kernel, by decide +kernel, by decide +kernel⟩⟩

/-- States and operands that meet the hypotheses of `RecipeAndImageCommandsComplete`, clause by clause. -/
theorem witness_RecipeAndImageCommandsComplete :
    (∃ (n : Namespace) (img : Bytes) (x : CmdIn) (s : State) (w : Waiter) (u : State), s.takes opRecipeLoad x w u ∧ x.pkt.f 16 1 ≤ 31 ∧ 4096 ≤ x.pkt.f 20 4 ∧ x.pkt.f 20 4 ≤ 16777216 ∧ u.space (x.pkt.f 32 2) = some n ∧ x.pkt.f 40 8 + 4096 ≤ n.capacity ∧ u.recipeBytes x (x.pkt.f 20 4) = .inr img ∧ u.recipes.all (fun r => r.2.digest != sha384 img) = true ∧ u.recipes.has (x.pkt.f 16 1) = false ∧ recipeCheck (u.loadEnv (u.imageSigned img x.sigOk) (u.catalogAt (x.pkt.f 32 2) (x.pkt.f 40 8))) img = none ∧ u.recipes.all (fun r => field r.2.image 8 4 != field img 8 4) = true) ∧
    (∃ (slot : Nat) (j : Job) (h : HeldRecipe) (x : CmdIn) (s : State) (w : Waiter) (u : State), s.takes opRecipeReplace x w u ∧ u.jobNamed (x.pkt.f 16 2) = some (slot, j) ∧ u.recipes.find (x.pkt.f 18 1) = some h ∧ h.nsid = j.nsid ∧ h.offset = j.catOffset ∧ j.epoch < bits (x.pkt.f 20 4) 0 20 ∧ j.planned (bits (x.pkt.f 20 4) 0 20) = false) ∧
    (∃ (x : CmdIn) (s : State) (w : Waiter) (u : State), s.takes opRecipeUnload x w u ∧ x.pkt.f 16 1 ≤ 31 ∧ u.recipes.has (x.pkt.f 16 1) = true ∧ u.jobs.any (fun j => j.2.binds (x.pkt.f 16 1)) = false) ∧
    (∃ (x : CmdIn) (s : State) (w : Waiter) (u : State), s.takes opRecipeUnload x w u ∧ x.pkt.f 16 1 ≤ 31 ∧ u.recipes.has (x.pkt.f 16 1) = false) ∧
    (∃ (img : Bytes) (i : Nat) (x : CmdIn) (s : State) (w : Waiter) (u : State), s.takes opImageLoad x w u ∧ 0 < x.pkt.f 20 4 ∧ x.pkt.f 20 4 ≤ imageLimit x.pkt.unit ∧ u.sourceBytes x 17 18 24 (x.pkt.f 20 4) = .inr img ∧ (u.images x.pkt.unit).all (fun h => h.2.digest != sha384 img) = true ∧ imageCheck x.pkt.unit img (u.imageSigned img x.sigOk) = 0 ∧ u.imageFits x.pkt.unit img = true ∧ (u.images x.pkt.unit).free (imageCount x.pkt.unit) = some i) ∧
    (∃ (h : HeldImage) (x : CmdIn) (s : State) (w : Waiter) (u : State), s.takes opImageUnload x w u ∧ x.pkt.f 16 1 < imageCount x.pkt.unit ∧ (u.images x.pkt.unit).find (x.pkt.f 16 1) = some h ∧ u.imageInUse x.pkt.unit h = false) ∧
    (∃ (x : CmdIn) (s : State) (w : Waiter) (u : State), s.takes opImageUnload x w u ∧ x.pkt.f 16 1 < imageCount x.pkt.unit ∧ (u.images x.pkt.unit).find (x.pkt.f 16 1) = none) :=
  ⟨⟨dataset, recipeImage, loadCmd, upData, _, _, takes_of (by decide +kernel) (by decide +kernel), by decide +kernel, by decide +kernel, by decide +kernel, by decide +kernel, by decide +kernel, load_source _, by decide +kernel, by decide +kernel, by rw [show loadCmd.pkt.f 32 2 = 3 by decide +kernel, show loadCmd.pkt.f 40 8 = 0 by decide +kernel]; exact recipe_ok rfl rfl rfl rfl rfl rfl rfl rfl, by decide +kernel⟩,
   ⟨2, job, held, ask opRecipeReplace 0 [(16, 2, 77), (20, 3, 1048575)], upJob, _, _, takes_of (by decide +kernel) (by decide +kernel), by decide +kernel, by decide +kernel, by decide +kernel, by decide +kernel, by decide +kernel, by decide +kernel⟩,
   ⟨ask opRecipeUnload 0 [(16, 1, 31)], { upData with recipes := [(31, held)] }, _, _, takes_of (by decide +kernel) (by decide +kernel), by decide +kernel, by decide +kernel, by decide +kernel⟩,
   ⟨ask opRecipeUnload 0 [(16, 1, 31)], up, _, _, takes_of (by decide +kernel) (by decide +kernel), by decide +kernel, by decide +kernel⟩,
   ⟨grammarImage, 0, { askFrom opImageLoad 2 [(20, 4, 393)] with dma := grammarImage }, up, _, _, takes_of (by decide +kernel) (by decide +kernel), by decide +kernel, by decide +kernel, by decide +kernel, by decide +kernel, by decide +kernel, by decide +kernel, by decide +kernel⟩,
   ⟨{ image := grammarImage, digest := [1], signer := 0 }, ask opImageUnload 2 [(16, 1, 15)], { up with grammars := [(15, { image := grammarImage, digest := [1], signer := 0 })] }, _, _, takes_of (by decide +kernel) (by decide +kernel), by decide +kernel, by decide +kernel, by decide +kernel⟩,
   ⟨ask opImageUnload 2 [(16, 1, 15)], up, _, _, takes_of (by decide +kernel) (by decide +kernel), by decide +kernel, by decide +kernel⟩⟩

/-- States and operands that meet the hypotheses of `JobCommandsComplete`, clause by clause. -/
theorem witness_JobCommandsComplete :
    (∃ (h : HeldRecipe) (t : State) (x : CmdIn) (s : State) (w : Waiter) (u : State), s.takes opJobStart x w u ∧ x.pkt.f 18 1 ≤ 31 ∧ x.pkt.f 19 1 ≤ 63 ∧ u.jobNamed (x.pkt.f 16 2) = none ∧ u.jobs.free 16 ≠ none ∧ u.med.sanitize = none ∧ u.recipes.find (x.pkt.f 18 1) = some h ∧ (u.pool (x.pkt.f 19 1)).kind ≠ 0 ∧ x.pkt.f 20 2 = u.sys.dl ∧ x.src.isMctp = false ∧ u.startJob x.pkt h (x.bytes (min (x.pkt.f 28 4) 1048640)) = .done success t) ∧
    (∃ (u : State) (p : Packet) (h : HeldRecipe) (d : Bytes) (n : Namespace) (hdr : Bytes) (slot : Nat), 0 < field d 32 4 ∧ field d 32 4 ≤ 65536 ∧ p.f 28 4 = 64 + 16 * field d 32 4 ∧ descReserved d (field d 32 4) = none ∧ h.nsid = field d 16 2 ∧ h.offset = field d 24 8 ∧ u.space (field d 16 2) = some n ∧ n.sealed = true ∧ u.nsRead (field d 16 2) (field d 24 8) 4096 = some hdr ∧ catalogFault hdr = none ∧ descRanges d (field d 32 4) (parseCatalog hdr).n = none ∧ (newJob p d (field d 32 4)).devices.contains u.self = true ∧ u.catalogNames (newJob p d (field d 32 4)) u.unsealed = false ∧ u.jobs.free 16 = some slot ∧ u.rma.partner = none) ∧
    (∃ (slot : Nat) (j : Job) (x : CmdIn) (s : State) (w : Waiter) (u : State), s.takes opJobEnd x w u ∧ u.jobNamed (x.pkt.f 16 2) = some (slot, j) ∧ j.ending = none ∧ j.quiet = true) ∧
    (∃ (slot : Nat) (j : Job) (k : Job) (x : CmdIn) (s : State) (w : Waiter) (u : State), s.takes opJobEnd x w u ∧ u.jobNamed (x.pkt.f 16 2) = some (slot, j) ∧ j.ending = none ∧ j.quiet = false ∧ (u.haltJob slot).jobs.find slot = some k) ∧
    (∃ (slot : Nat) (j : Job) (x : CmdIn) (s : State) (w : Waiter) (u : State), s.takes opJobQuery x w u ∧ u.jobNamed (x.pkt.f 16 2) = some (slot, j)) ∧
    (∃ (slot : Nat) (j : Job) (b : Bytes) (x : CmdIn) (s : State) (w : Waiter) (u : State), s.takes opParamTable x w u ∧ u.jobNamed (x.pkt.f 16 2) = some (slot, j) ∧ 0 < x.pkt.f 32 8 ∧ x.pkt.f 32 8 ≤ 2 ^ 32 ∧ u.sourceBytes x 18 40 24 (64 * x.pkt.f 32 8) = .inr b) ∧
    (∃ (slot : Nat) (j : Job) (x : CmdIn) (s : State) (w : Waiter) (u : State), s.takes opParamRing x w u ∧ u.jobNamed (x.pkt.f 16 2) = some (slot, j) ∧ 6 ≤ x.pkt.f 18 1 ∧ x.pkt.f 18 1 ≤ 20 ∧ x.pkt.f 24 8 % 4096 = 0 ∧ x.src.isMctp = false) ∧
    (∃ (slot : Nat) (j : Job) (x : CmdIn) (s : State) (w : Waiter) (u : State), s.takes opParamRing x w u ∧ u.jobNamed (x.pkt.f 16 2) = some (slot, j) ∧ x.pkt.f 18 1 = 0) :=
  ⟨⟨held, _, startCmd, { upJob with jobs := [] }, _, _, takes_of (by decide +kernel) (by decide +kernel), by decide +kernel, by decide +kernel, by decide +kernel, by decide +kernel, by decide +kernel, by decide +kernel, by decide +kernel, by decide +kernel, by decide +kernel, start_ok rfl rfl rfl rfl⟩,
   ⟨{ upJob with jobs := [] }, startCmd.pkt, held, desc, dataset, hdr, 0, by decide +kernel, by decide +kernel, by decide +kernel, by decide +kernel, by decide +kernel, by decide +kernel, by decide +kernel, by decide +kernel, by rw [show field desc 16 2 = 3 by decide +kernel]; exact nsRead_hdr rfl, test_catalog_valid, by decide +kernel, by decide +kernel, by decide +kernel, by decide +kernel, by decide +kernel⟩,
   ⟨2, job, ask opJobEnd 0 [(16, 2, 77)], upJob, _, _, takes_of (by decide +kernel) (by decide +kernel), by decide +kernel, by decide +kernel, by decide +kernel⟩,
   ⟨2, { job with copies := [copy1] }, { job with copies := [copy1] }, ask opJobEnd 0 [(16, 2, 77)], withJob fun j => { j with copies := [copy1] }, _, _, takes_of (by decide +kernel) (by decide +kernel), by decide +kernel, by decide +kernel, by decide +kernel, by decide +kernel⟩,
   ⟨2, job, ask opJobQuery 0 [(16, 2, 77)], upJob, _, _, takes_of (by decide +kernel) (by decide +kernel), by decide +kernel⟩,
   ⟨2, job, zeros 64, { askFrom opParamTable 0 [(16, 2, 77), (32, 8, 1)] with dma := zeros 64 }, upJob, _, _, takes_of (by decide +kernel) (by decide +kernel), by decide +kernel, by decide +kernel, by decide +kernel, by decide +kernel⟩,
   ⟨2, job, askFrom opParamRing 0 [(16, 2, 77), (18, 1, 20), (24, 8, 4096)], upJob, _, _, takes_of (by decide +kernel) (by decide +kernel), by decide +kernel, by decide +kernel, by decide +kernel, by decide +kernel, by decide +kernel⟩,
   ⟨2, job, ask opParamRing 0 [(16, 2, 77)], upJob, _, _, takes_of (by decide +kernel) (by decide +kernel), by decide +kernel, by decide +kernel⟩⟩

/-- States and operands that meet the hypotheses of `PlanAndRecoveryCommandsComplete`, clause by clause. -/
theorem witness_PlanAndRecoveryCommandsComplete :
    (∃ (slot : Nat) (j : Job) (p : EpochPlan) (x : CmdIn) (s : State) (w : Waiter) (u : State), s.takes opEpochPlan x w u ∧ u.jobNamed (x.pkt.f 16 2) = some (slot, j) ∧ (x.pkt.f 20 4 = j.epoch ∨ x.pkt.f 20 4 = j.epoch + 1) ∧ x.pkt.f 20 4 < 2 ^ 20 ∧ j.plan (x.pkt.f 20 4) = some p ∧ (p.phase = 6 ∨ p.phase = 8)) ∧
    (∃ (slot : Nat) (j : Job) (p : EpochPlan) (x : CmdIn) (s : State) (w : Waiter) (u : State), s.takes opEpochPlan x w u ∧ u.jobNamed (x.pkt.f 16 2) = some (slot, j) ∧ (x.pkt.f 20 4 = j.epoch ∨ x.pkt.f 20 4 = j.epoch + 1) ∧ x.pkt.f 20 4 < 2 ^ 20 ∧ j.plan (x.pkt.f 20 4) = some p ∧ 1 ≤ p.phase ∧ p.phase ≤ 5) ∧
    (∃ (slot : Nat) (j : Job) (hdr : Bytes) (c : Nat) (t : State) (x : CmdIn) (s : State) (w : Waiter) (u : State), s.takes opEpochPlan x w u ∧ u.jobNamed (x.pkt.f 16 2) = some (slot, j) ∧ (x.pkt.f 20 4 = j.epoch ∨ x.pkt.f 20 4 = j.epoch + 1) ∧ x.pkt.f 20 4 < 2 ^ 20 ∧ j.plan (x.pkt.f 20 4) = none ∧ u.catalogOf j = some hdr ∧ catalogFault hdr = none ∧ u.badRecord j (u.servedRanges j (parseCatalog hdr).n) = none ∧ rangeTotal (u.servedRanges j (parseCatalog hdr).n) ≠ 0 ∧ u.allocate (u.runSetting 0x5B 1) 3 (16 * rangeTotal (u.servedRanges j (parseCatalog hdr).n)) false = some (c, t)) ∧
    (∃ (slot : Nat) (j : Job) (t : State) (x : CmdIn) (s : State) (w : Waiter) (u : State), s.takes opJobTakeover x w u ∧ u.jobNamed (x.pkt.f 16 2) = some (slot, j) ∧ j.gen < x.pkt.gen ∧ takeoverStart (bits (x.pkt.f 18 2) 0 13) slot j u = .inr t) ∧
    (∃ (slot : Nat) (j : Job) (t : State) (x : CmdIn) (s : State) (w : Waiter) (u : State), s.takes opJobResume x w u ∧ u.jobNamed (x.pkt.f 16 2) = some (slot, j) ∧ j.gen < x.pkt.gen ∧ x.pkt.f 20 4 < 2 ^ 20 ∧ resumeStart (x.pkt.f 20 4) (bits (x.pkt.f 24 8) 0 44) slot j u = .inr t) ∧
    (∃ (slot : Nat) (j : Job) (x : CmdIn) (s : State) (w : Waiter) (u : State), s.takes opJobLeave x w u ∧ u.jobNamed (x.pkt.f 16 2) = some (slot, j) ∧ j.gen < x.pkt.gen) ∧
    (∃ (slot : Nat) (j : Job) (m : MirrorWindow) (v : Window) (x : CmdIn) (s : State) (w : Waiter) (u : State), s.takes opCursorReset x w u ∧ u.jobNamed (x.pkt.f 16 2) = some (slot, j) ∧ j.gen < x.pkt.gen ∧ x.pkt.f 20 4 < 2 ^ 20 ∧ x.pkt.f 20 4 ≠ j.epoch ∧ bits (x.pkt.f 18 2) 0 13 < 6144 ∧ u.rma.mirrors.find (j.id * 8192 + bits (x.pkt.f 18 2) 0 13) = some m ∧ u.rma.windows.find m.index = some v ∧ u.mirrorRecord m = none) ∧
    (∃ (slot : Nat) (j : Job) (r : Recovery) (x : CmdIn) (s : State) (w : Waiter) (u : State), s.takes opJobLeave x w u ∧ u.jobNamed (x.pkt.f 16 2) = some (slot, j) ∧ x.pkt.gen = j.gen ∧ j.recovery = some r ∧ r.opcode = 0x020D ∧ r.params = x.pkt.params.toNat ∧ r.status = 1) ∧
    (∃ (slot : Nat) (j : Job) (p : EpochPlan) (x : CmdIn) (s : State) (w : Waiter) (u : State), s.takes opPlanReissue x w u ∧ u.jobNamed (x.pkt.f 16 2) = some (slot, j) ∧ j.devices.contains (bits (x.pkt.f 18 2) 0 13) = true ∧ j.devices.contains (bits (x.pkt.f 32 2) 0 13) = true ∧ j.plan (bits (x.pkt.f 20 4) 0 20) = some p ∧ (p.phase = 6 ∨ p.phase = 8)) :=
  ⟨⟨2, { job with plans := [plan 1 8] }, plan 1 8, ask opEpochPlan 0 [(16, 2, 77), (20, 4, 1)], withJob fun j => { j with plans := [plan 1 8] }, _, _, takes_of (by decide +kernel) (by decide +kernel), by decide +kernel, by decide +kernel, by decide +kernel, by decide +kernel, by decide +kernel⟩,
   ⟨2, { job with plans := [plan 0 5] }, plan 0 5, ask opEpochPlan 0 [(16, 2, 77)], withJob fun j => { j with plans := [plan 0 5] }, _, _, takes_of (by decide +kernel) (by decide +kernel), by decide +kernel, by decide +kernel, by decide +kernel, by decide +kernel, by decide +kernel, by decide +kernel⟩,
   ⟨2, job, hdr, _, _, ask opEpochPlan 0 [(16, 2, 77)], upJob, _, _, takes_of (by decide +kernel) (by decide +kernel), by decide +kernel, by decide +kernel, by decide +kernel, by decide +kernel, nsRead_hdr rfl, test_catalog_valid, by decide +kernel, by decide +kernel, pair_of (by decide +kernel)⟩,
   ⟨2, { job with shards := [(0, 0), (1, 5)] }, _, ask opJobTakeover 0 [(16, 2, 77), (18, 2, 5)] 1, upMirror cursor5, _, _, takes_of (by decide +kernel) (by decide +kernel), by decide +kernel, by decide +kernel, right_of (by decide +kernel)⟩,
   ⟨2, job, _, ask opJobResume 0 [(16, 2, 77)] 1, upJob, _, _, takes_of (by decide +kernel) (by decide +kernel), by decide +kernel, by decide +kernel, by decide +kernel, right_of (by decide +kernel)⟩,
   ⟨2, job, ask opJobLeave 0 [(16, 2, 77)] 1, upJob, _, _, takes_of (by decide +kernel) (by decide +kernel), by decide +kernel, by decide +kernel⟩,
   ⟨2, { job with shards := [(0, 0), (1, 5)] }, mirror5, window1, ask opCursorReset 0 [(16, 2, 77), (18, 2, 5), (20, 4, 1048575)] 1, upMirror [], _, _, takes_of (by decide +kernel) (by decide +kernel), by decide +kernel, by decide +kernel, by decide +kernel, by decide +kernel, by decide +kernel, by decide +kernel, by decide +kernel, by decide +kernel⟩,
   ⟨2, { job with recovery := some { opcode := 0x020D, params := (ask opJobLeave 0 [(16, 2, 77)]).pkt.params.toNat, status := 1, waiters := [] } }, { opcode := 0x020D, params := (ask opJobLeave 0 [(16, 2, 77)]).pkt.params.toNat, status := 1, waiters := [] }, ask opJobLeave 0 [(16, 2, 77)], withJob fun j => { j with recovery := some { opcode := 0x020D, params := (ask opJobLeave 0 [(16, 2, 77)]).pkt.params.toNat, status := 1, waiters := [] } }, _, _, takes_of (by decide +kernel) (by decide +kernel), by decide +kernel, by decide +kernel, by decide +kernel, by decide +kernel, by decide +kernel, by decide +kernel⟩,
   ⟨2, { job with plans := [plan 1 6], shards := [(0, 0), (1, 5)] }, plan 1 6, { askFrom opPlanReissue 0 [(16, 2, 77), (18, 2, 5), (20, 4, 1)] with src := .fabric 5 .firmware, pkt := { (askFrom opPlanReissue 0 [(16, 2, 77), (18, 2, 5), (20, 4, 1)]).pkt with cred := 255 } }, withJob fun j => { j with plans := [plan 1 6], shards := [(0, 0), (1, 5)] }, _, _, takes_of (by decide +kernel) (by decide +kernel), by decide +kernel, by decide +kernel, by decide +kernel, by decide +kernel, by decide +kernel⟩⟩

/-- States and operands that meet the hypotheses of `PoolAndBankCommandsComplete`, clause by clause. -/
theorem witness_PoolAndBankCommandsComplete :
    (∃ (x : CmdIn) (s : State) (w : Waiter) (u : State), s.takes opPoolConfig x w u ∧ x.pkt.f 16 1 = 1 ∧ 64 ≤ x.pkt.f 20 4 ∧ (((u.usedCells x.pkt.unit).isEmpty = true ∧ (u.pool x.pkt.unit).resv = 0) ∨ (u.pool x.pkt.unit).kind = 1) ∧ u.breaks x.pkt.unit 1 (2048 * x.pkt.f 20 4) = false ∧ u.areaUsed x.pkt.unit + hbmTake (x.pkt.f 20 4) ≤ 257935228928) ∧
    (∃ (x : CmdIn) (s : State) (w : Waiter) (u : State), s.takes opPoolThreshold x w u ∧ x.pkt.f 16 2 ≤ 1000 ∧ x.pkt.f 18 2 < x.pkt.f 16 2 ∧ x.pkt.f 20 2 < x.pkt.f 18 2 ∧ (u.pool x.pkt.unit).kind ≠ 0) ∧
    (∃ (x : CmdIn) (s : State) (w : Waiter) (u : State), s.takes opPoolThreshold x w u ∧ x.pkt.f 16 2 ≤ 1000 ∧ x.pkt.f 18 2 < x.pkt.f 16 2 ∧ x.pkt.f 20 2 < x.pkt.f 18 2 ∧ (u.pool x.pkt.unit).kind = 0) ∧
    (∃ (x : CmdIn) (s : State) (w : Waiter) (u : State), s.takes opPoolAudit x w u ∧ 0 < x.pkt.f 24 4 ∧ x.pkt.f 24 4 ≤ 65536 ∧ x.src.isMctp = false) ∧
    (∃ (x : CmdIn) (s : State) (w : Waiter) (u : State), s.takes opBankOwn x w u ∧ x.pkt.f 16 2 < dieBanks x.pkt.unit ∧ ownerOk (bits (x.pkt.f 18 2) 0 12) = true ∧ u.handoverOk x.pkt.unit (x.pkt.f 16 2) (bits (x.pkt.f 18 2) 0 12) = true) ∧
    (∃ (x : CmdIn) (s : State) (w : Waiter) (u : State), s.takes opBankState x w u ∧ x.pkt.f 16 2 < dieBanks x.pkt.unit ∧ x.pkt.f 18 1 ≤ 2 ∧ u.bankMoveOk x.pkt.unit (x.pkt.f 16 2) (x.pkt.f 18 1) = true) ∧
    (∃ (x : CmdIn) (s : State) (w : Waiter) (u : State), s.takes opBankRetire x w u ∧ x.pkt.f 16 2 < dieBanks x.pkt.unit ∧ (u.bank x.pkt.unit (x.pkt.f 16 2)).retired = false ∧ u.bankPool x.pkt.unit (x.pkt.f 16 2) = none ∧ x.physOk = true) ∧
    (∃ (x : CmdIn) (s : State) (w : Waiter) (u : State), s.takes opColumnRepair x w u ∧ x.pkt.f 16 2 < dieBanks x.pkt.unit ∧ x.pkt.f 18 1 ≤ 15 ∧ x.pkt.f 19 1 ≤ 63 ∧ ((u.bank x.pkt.unit (x.pkt.f 16 2)).spares.filter (fun c => c.1 == x.pkt.f 18 1)).length < 4 ∧ x.physOk = true) :=
  ⟨⟨ask opPoolConfig 63 [(16, 1, 1), (20, 4, 64)], up, _, _, takes_of (by decide +kernel) (by decide +kernel), by decide +kernel, by decide +kernel, by decide +kernel, by decide +kernel, by decide +kernel⟩,
   ⟨ask opPoolThreshold 0 [(16, 2, 1000), (18, 2, 999), (20, 2, 998)], upData, _, _, takes_of (by decide +kernel) (by decide +kernel), by decide +kernel, by decide +kernel, by decide +kernel, by decide +kernel⟩,
   ⟨ask opPoolThreshold 63 [(16, 2, 2), (18, 2, 1)], up, _, _, takes_of (by decide +kernel) (by decide +kernel), by decide +kernel, by decide +kernel, by decide +kernel, by decide +kernel⟩,
   ⟨askFrom opPoolAudit 0 [(24, 4, 65536)], up, _, _, takes_of (by decide +kernel) (by decide +kernel), by decide +kernel, by decide +kernel, by decide +kernel⟩,
   ⟨ask opBankOwn 3 [(16, 2, 383), (18, 2, 8)], up, _, _, takes_of (by decide +kernel) (by decide +kernel), by decide +kernel, by decide +kernel, by decide +kernel⟩,
   ⟨ask opBankState 4 [(16, 2, 255), (18, 1, 2)], up, _, _, takes_of (by decide +kernel) (by decide +kernel), by decide +kernel, by decide +kernel, by decide +kernel⟩,
   ⟨ask opBankRetire 0 [(16, 2, 383)], up, _, _, takes_of (by decide +kernel) (by decide +kernel), by decide +kernel, by decide +kernel, by decide +kernel, by decide +kernel⟩,
   ⟨ask opColumnRepair 4 [(16, 2, 255), (18, 1, 15), (19, 1, 63)], up, _, _, takes_of (by decide +kernel) (by decide +kernel), by decide +kernel, by decide +kernel, by decide +kernel, by decide +kernel, by decide +kernel⟩⟩

/-- States and operands that meet the hypotheses of `CompressionCommandsComplete`, clause by clause. -/
theorem witness_CompressionCommandsComplete :
    (∃ (n : Nat) (x : CmdIn) (s : State) (w : Waiter) (u : State), s.takes opCompress x w u ∧ x.pkt.unit = 0 ∧ cxeCheck x.pkt false = none ∧ u.cxe.queued.length + u.cxe.running.length < 64 ∧ x.src.isMctp = false ∧ u.freeCxe = some n) ∧
    (∃ (x : CmdIn) (s : State) (w : Waiter) (u : State), s.takes opCompress x w u ∧ x.pkt.unit = 0 ∧ cxeCheck x.pkt false = none ∧ u.cxe.queued.length + u.cxe.running.length < 64 ∧ x.src.isMctp = false ∧ u.freeCxe = none) ∧
    (∃ (n : Nat) (x : CmdIn) (s : State) (w : Waiter) (u : State), s.takes opDecompress x w u ∧ x.pkt.unit = 0 ∧ cxeCheck x.pkt true = none ∧ u.cxe.queued.length + u.cxe.running.length < 64 ∧ x.src.isMctp = false ∧ u.freeCxe = some n) ∧
    (∃ (s : State) (i : Nat) (j : CompJob), s.cxe.running[i]? = some j ∧ s.cxe.queued = []) :=
  ⟨⟨0, askFrom opCompress 0 [(24, 4, 64), (28, 4, 64), (32, 8, 4096), (42, 1, 9)], up, _, _, takes_of (by decide +kernel) (by decide +kernel), by decide +kernel, by decide +kernel, by decide +kernel, by decide +kernel, by decide +kernel⟩,
   ⟨askFrom opCompress 0 [(24, 4, 64), (28, 4, 64), (32, 8, 4096), (42, 1, 1)], { up with tiles := List.replicate 4 { state := 1, bypMisc := 2 ^ 32 - 1 } }, _, _, takes_of (by decide +kernel) (by decide +kernel), by decide +kernel, by decide +kernel, by decide +kernel, by decide +kernel, by decide +kernel⟩,
   ⟨0, askFrom opDecompress 0 [(24, 4, 64), (28, 4, 64), (32, 8, 4096), (40, 1, 1)], up, _, _, takes_of (by decide +kernel) (by decide +kernel), by decide +kernel, by decide +kernel, by decide +kernel, by decide +kernel, by decide +kernel⟩,
   ⟨{ up with cxe := { running := [{ cmd := waiter 0x0307, input := [], tile := 0 }] } }, 0, { cmd := waiter 0x0307, input := [], tile := 0 }, by decide +kernel, by decide +kernel⟩⟩

/-- States and operands that meet the hypotheses of `MediaCommandsComplete`, clause by clause. -/
theorem witness_MediaCommandsComplete :
    (∃ (x : CmdIn) (s : State) (w : Waiter) (u : State), s.takes opNsCreate x w u ∧ 0 < x.pkt.f 16 2 ∧ x.pkt.f 16 2 ≤ 256 ∧ u.space (x.pkt.f 16 2) = none ∧ x.pkt.f 18 1 ≤ 1 ∧ 0 < x.pkt.f 24 8 ∧ x.pkt.f 24 8 % (if x.pkt.f 18 1 = 0 then 4096 else 65536) = 0 ∧ u.createRefusal (x.pkt.f 18 1) (x.pkt.f 24 8) = none) ∧
    (∃ (x : CmdIn) (s : State) (w : Waiter) (u : State), s.takes opNsDelete x w u ∧ u.space (x.pkt.f 16 2) ≠ none ∧ u.jobs.any (fun j => u.catalogNames j.2 (· == x.pkt.f 16 2)) = false) ∧
    (∃ (n : Namespace) (x : CmdIn) (s : State) (w : Waiter) (u : State), s.takes opNsSeal x w u ∧ u.space (x.pkt.f 16 2) = some n ∧ n.kind ≠ 0 ∧ n.sealed = false) ∧
    (∃ (n : Namespace) (x : CmdIn) (s : State) (w : Waiter) (u : State), s.takes opNsSeal x w u ∧ u.space (x.pkt.f 16 2) = some n ∧ n.kind ≠ 0 ∧ n.sealed = true) ∧
    (∃ (n : Namespace) (x : CmdIn) (s : State) (w : Waiter) (u : State), s.takes opReplicaSet x w u ∧ u.space (x.pkt.f 16 2) = some n ∧ n.kind ≠ 0 ∧ x.pkt.f 18 1 = 2 ∧ x.pkt.f 20 2 < 6144 ∧ x.pkt.f 22 2 < 6144) ∧
    (∃ (x : CmdIn) (s : State) (w : Waiter) (u : State), s.takes opDieRetire x w u ∧ (u.die x.pkt.unit).state = 1) ∧
    (∃ (x : CmdIn) (s : State) (w : Waiter) (u : State), s.takes opSanitize x w u ∧ (x.pkt.f 16 1 = 1 ∨ x.pkt.f 16 1 = 2) ∧ u.jobs = [] ∧ u.med.sanitize = none ∧ u.nvme.writes = [] ∧ u.nvme.held = []) ∧
    (∃ (s : State) (a : Nat), s.med.sanitize = some a) :=
  ⟨⟨ask opNsCreate 0 [(16, 2, 256), (18, 1, 1), (24, 8, 65536)], up, _, _, takes_of (by decide +kernel) (by decide +kernel), by decide +kernel, by decide +kernel, by decide +kernel, by decide +kernel, by decide +kernel, by decide +kernel, by decide +kernel⟩,
   ⟨ask opNsDelete 0 [(16, 2, 3)], upData, _, _, takes_of (by decide +kernel) (by decide +kernel), by decide +kernel, by decide +kernel⟩,
   ⟨{ dataset with sealed := false }, ask opNsSeal 0 [(16, 2, 3)], { upData with med := { upData.med with spaces := [(3, { dataset with sealed := false })] } }, _, _, takes_of (by decide +kernel) (by decide +kernel), by decide +kernel, by decide +kernel, by decide +kernel⟩,
   ⟨dataset, ask opNsSeal 0 [(16, 2, 3)], upData, _, _, takes_of (by decide +kernel) (by decide +kernel), by decide +kernel, by decide +kernel, by decide +kernel⟩,
   ⟨dataset, ask opReplicaSet 0 [(16, 2, 3), (18, 1, 2), (20, 2, 6143), (22, 2, 6143)], upData, _, _, takes_of (by decide +kernel) (by decide +kernel), by decide +kernel, by decide +kernel, by decide +kernel, by decide +kernel, by decide +kernel⟩,
   ⟨ask opDieRetire 1023, { up with med := { up.med with dies := [(1023, { state := 1 })] } }, _, _, takes_of (by decide +kernel) (by decide +kernel), by decide +kernel⟩,
   ⟨ask opSanitize 0 [(16, 1, 2)], up, _, _, takes_of (by decide +kernel) (by decide +kernel), by decide +kernel, by decide +kernel, by decide +kernel, by decide +kernel, by decide +kernel⟩,
   ⟨{ up with med := { up.med with sanitize := some 1 } }, 1, by decide +kernel⟩⟩

/-- States and operands that meet the hypotheses of `PowerAndTestCommandsComplete`, clause by clause. -/
theorem witness_PowerAndTestCommandsComplete :
    (∃ (x : CmdIn) (s : State) (w : Waiter) (u : State), s.takes opBudgetSet x w u ∧ 60 ≤ x.pkt.f 16 2 ∧ x.pkt.f 16 2 ≤ 130) ∧
    (∃ (slot : Nat) (j : Job) (x : CmdIn) (s : State) (w : Waiter) (u : State), s.takes opFreqAnnounce x w u ∧ u.jobNamed (x.pkt.f 16 2) = some (slot, j) ∧ (x.pkt.f 18 2 = 0 ∨ 400 ≤ x.pkt.f 18 2) ∧ x.pkt.f 24 8 ≤ u.now + 50000000 ∧ u.pwr.held.find (x.pkt.f 16 2) = none) ∧
    (∃ (x : CmdIn) (s : State) (w : Waiter) (u : State), s.takes opRestartAfterStop x w u ∧ (u.pwr.stopped = false ∨ u.pwr.flowLow = true)) ∧
    (∃ (x : CmdIn) (s : State) (w : Waiter) (u : State), s.takes opRestartAfterStop x w u ∧ u.pwr.stopped = true ∧ u.pwr.flowLow = false) ∧
    (∃ (x : CmdIn) (s : State) (w : Waiter) (u : State), s.takes opSelftest x w u ∧ (x.pkt.f 16 1 = 1 ∨ x.pkt.f 16 1 = 2) ∧ u.nvme.selftest = none) ∧
    (∃ (x : CmdIn) (s : State) (w : Waiter) (u : State), s.takes opSelftest x w u ∧ x.pkt.f 16 1 = 0xF) ∧
    (∃ (x : CmdIn) (s : State) (w : Waiter) (u : State), s.takes opEngineBypass x w u ∧ x.pkt.f 16 1 = 0) ∧
    (∃ (x : CmdIn) (s : State) (w : Waiter) (u : State), s.takes opEngineBypass x w u ∧ x.pkt.f 16 1 = 1 ∧ u.bypassLeavesNone (engineTile x.pkt.unit) (engineClass x.pkt.unit) (engineIndex x.pkt.unit) = false) ∧
    (∃ (x : CmdIn) (s : State) (w : Waiter) (u : State), s.takes opTestRun x w u ∧ x.pkt.f 16 1 = 0 ∧ engineOk x.pkt.unit = true) ∧
    (∃ (x : CmdIn) (s : State) (w : Waiter) (u : State), s.takes opTestRun x w u ∧ x.pkt.f 16 1 = 1 ∧ x.pkt.unit < 4 ∧ (u.tile x.pkt.unit).state = 3) ∧
    (∃ (x : CmdIn) (s : State) (w : Waiter) (u : State), s.takes opTestRun x w u ∧ x.pkt.f 16 1 = 2 ∧ x.pkt.unit < 16 ∧ (u.fabPort x.pkt.unit).spareFree = true) ∧
    (∃ (x : CmdIn) (s : State) (w : Waiter) (u : State), s.takes opTileDrain x w u ∧ (u.tile x.pkt.unit).state ≠ 2 ∧ (u.tile x.pkt.unit).state ≠ 3 ∧ u.drainOk x.pkt.unit = true) ∧
    (∃ (x : CmdIn) (s : State) (w : Waiter) (u : State), s.takes opTileDrain x w u ∧ (u.tile x.pkt.unit).state = 3) ∧
    (∃ (x : CmdIn) (s : State) (w : Waiter) (u : State), s.takes opTileRejoin x w u ∧ (u.tile x.pkt.unit).state = 3) :=
  ⟨⟨ask opBudgetSet 0 [(16, 2, 130)], up, _, _, takes_of (by decide +kernel) (by decide +kernel), by decide +kernel, by decide +kernel⟩,
   ⟨2, job, ask opFreqAnnounce 0 [(16, 2, 77), (18, 2, 400)], upJob, _, _, takes_of (by decide +kernel) (by decide +kernel), by decide +kernel, by decide +kernel, by decide +kernel, by decide +kernel⟩,
   ⟨ask opRestartAfterStop, up, _, _, takes_of (by decide +kernel) (by decide +kernel), by decide +kernel⟩,
   ⟨ask opRestartAfterStop, { up with pwr := { up.pwr with stopped := true } }, _, _, takes_of (by decide +kernel) (by decide +kernel), by decide +kernel, by decide +kernel⟩,
   ⟨ask opSelftest 0 [(16, 1, 2)], up, _, _, takes_of (by decide +kernel) (by decide +kernel), by decide +kernel, by decide +kernel⟩,
   ⟨ask opSelftest 0 [(16, 1, 15)], up, _, _, takes_of (by decide +kernel) (by decide +kernel), by decide +kernel⟩,
   ⟨ask opEngineBypass 0x3A1, up, _, _, takes_of (by decide +kernel) (by decide +kernel), by decide +kernel⟩,
   ⟨ask opEngineBypass 0x3A1 [(16, 1, 1)], up, _, _, takes_of (by decide +kernel) (by decide +kernel), by decide +kernel, by decide +kernel⟩,
   ⟨ask opTestRun 0x3A1, up, _, _, takes_of (by decide +kernel) (by decide +kernel), by decide +kernel, by decide +kernel⟩,
   ⟨ask opTestRun 3 [(16, 1, 1)], { up with tiles := List.replicate 4 { state := 3 } }, _, _, takes_of (by decide +kernel) (by decide +kernel), by decide +kernel, by decide +kernel, by decide +kernel⟩,
   ⟨ask opTestRun 15 [(16, 1, 2)], up, _, _, takes_of (by decide +kernel) (by decide +kernel), by decide +kernel, by decide +kernel, by decide +kernel⟩,
   ⟨ask opTileDrain 3, up, _, _, takes_of (by decide +kernel) (by decide +kernel), by decide +kernel, by decide +kernel, by decide +kernel⟩,
   ⟨ask opTileDrain 3, { up with tiles := List.replicate 4 { state := 3 } }, _, _, takes_of (by decide +kernel) (by decide +kernel), by decide +kernel⟩,
   ⟨ask opTileRejoin 3, { up with tiles := List.replicate 4 { state := 3 } }, _, _, takes_of (by decide +kernel) (by decide +kernel), by decide +kernel⟩⟩

/-- States and operands that meet the hypotheses of `SecurityCommandsComplete`, clause by clause. -/
theorem witness_SecurityCommandsComplete :
    (∃ (b : Bytes) (x : CmdIn) (s : State) (w : Waiter) (u : State), s.takes opCredSet x w u ∧ x.pkt.f 16 1 = 1 ∧ x.pkt.f 17 1 = 2 ∧ x.pkt.f 18 1 ≤ 1 ∧ 0 < x.pkt.f 20 4 ∧ x.pkt.f 20 4 ≤ 8192 ∧ u.windowBytes x (x.pkt.f 18 1 == 1) 24 (x.pkt.f 20 4) = .inr b ∧ x.sigOk = true) ∧
    (∃ (b : Bytes) (x : CmdIn) (s : State) (w : Waiter) (u : State), s.takes opCredSet x w u ∧ 2 ≤ x.pkt.f 16 1 ∧ x.pkt.f 16 1 ≤ 254 ∧ 1 ≤ x.pkt.f 17 1 ∧ x.pkt.f 17 1 ≤ 3 ∧ x.pkt.f 18 1 ≤ 1 ∧ 0 < x.pkt.f 20 4 ∧ x.pkt.f 20 4 ≤ 8192 ∧ u.windowBytes x (x.pkt.f 18 1 == 1) 24 (x.pkt.f 20 4) = .inr b ∧ x.sigOk = true) ∧
    (∃ (x : CmdIn) (s : State) (w : Waiter) (u : State), s.takes opCredClear x w u ∧ 2 ≤ x.pkt.f 16 1 ∧ x.pkt.f 16 1 ≤ 254) ∧
    (∃ (b : Bytes) (x : CmdIn) (s : State) (w : Waiter) (u : State), s.takes opSignkeyTrust x w u ∧ x.pkt.f 16 1 ≤ 31 ∧ x.pkt.f 17 1 ≤ 1 ∧ 0 < x.pkt.f 20 4 ∧ x.pkt.f 20 4 ≤ 2046 ∧ u.windowBytes x (x.pkt.f 17 1 == 1) 24 (x.pkt.f 20 4) = .inr b) ∧
    (∃ (x : CmdIn) (s : State) (w : Waiter) (u : State), s.takes opSignkeyRevoke x w u ∧ x.pkt.f 16 1 ≤ 31) ∧
    (∃ (a : AuditRec) (as : List AuditRec) (x : CmdIn) (s : State) (w : Waiter) (u : State), s.takes opAuditRead x w u ∧ 0 < x.pkt.f 32 4 ∧ x.pkt.f 32 4 ≤ 32 ∧ x.pkt.f 16 8 = 0 ∧ ((u.sec.audit.filter (fun a => x.pkt.f 24 8 ≤ a.seq)).reverse).take (x.pkt.f 32 4) = a :: as) ∧
    (∃ (x : CmdIn) (s : State) (w : Waiter) (u : State), s.takes opAuditRead x w u ∧ 0 < x.pkt.f 32 4 ∧ x.pkt.f 32 4 ≤ 65536 ∧ x.pkt.f 16 8 ≠ 0 ∧ x.src.isMctp = false ∧ (u.sec.audit.filter (fun a => x.pkt.f 24 8 ≤ a.seq)) = []) ∧
    (∃ (x : CmdIn) (s : State) (w : Waiter) (u : State), s.takes opDebugUnlock x w u ∧ u.jobs = [] ∧ u.mediaReady = false) ∧
    (∃ (x : CmdIn) (s : State) (w : Waiter) (u : State), s.takes opDebugUnlock x w u ∧ u.jobs = [] ∧ u.mediaReady = true) ∧
    (∃ (x : CmdIn) (s : State) (w : Waiter) (u : State), s.takes opDecommission x w u ∧ x.pkt.f 16 4 = 0x44434D4D ∧ u.jobs = []) :=
  ⟨⟨[1], { askFrom opCredSet 0 [(16, 1, 1), (17, 1, 2), (20, 4, 1)] with dma := [1] }, up, _, _, takes_of (by decide +kernel) (by decide +kernel), by decide +kernel, by decide +kernel, by decide +kernel, by decide +kernel, by decide +kernel, by decide +kernel, by decide +kernel⟩,
   ⟨[1], { askFrom opCredSet 0 [(16, 1, 254), (17, 1, 3), (20, 4, 1)] with dma := [1] }, up, _, _, takes_of (by decide +kernel) (by decide +kernel), by decide +kernel, by decide +kernel, by decide +kernel, by decide +kernel, by decide +kernel, by decide +kernel, by decide +kernel, by decide +kernel, by decide +kernel⟩,
   ⟨ask opCredClear 0 [(16, 1, 254)], up, _, _, takes_of (by decide +kernel) (by decide +kernel), by decide +kernel, by decide +kernel⟩,
   ⟨[1], { askFrom opSignkeyTrust 0 [(16, 1, 31), (20, 4, 1)] with dma := [1] }, up, _, _, takes_of (by decide +kernel) (by decide +kernel), by decide +kernel, by decide +kernel, by decide +kernel, by decide +kernel, by decide +kernel⟩,
   ⟨ask opSignkeyRevoke 0 [(16, 1, 31)], up, _, _, takes_of (by decide +kernel) (by decide +kernel), by decide +kernel⟩,
   ⟨audit1, [], ask opAuditRead 0 [(32, 4, 32)], { up with sec := { up.sec with audit := [audit1], auditSeq := 1 } }, _, _, takes_of (by decide +kernel) (by decide +kernel), by decide +kernel, by decide +kernel, by decide +kernel, by decide +kernel⟩,
   ⟨askFrom opAuditRead 0 [(16, 8, 4096), (32, 4, 65536)], up, _, _, takes_of (by decide +kernel) (by decide +kernel), by decide +kernel, by decide +kernel, by decide +kernel, by decide +kernel, by decide +kernel⟩,
   ⟨ask opDebugUnlock, { up with med := { up.med with state := 4 } }, _, _, takes_of (by decide +kernel) (by decide +kernel), by decide +kernel, by decide +kernel⟩,
   ⟨ask opDebugUnlock, up, _, _, takes_of (by decide +kernel) (by decide +kernel), by decide +kernel, by decide +kernel⟩,
   ⟨ask opDecommission 0 [(16, 4, 0x44434D4D)], up, _, _, takes_of (by decide +kernel) (by decide +kernel), by decide +kernel, by decide +kernel⟩⟩

/-- States and operands that meet the hypotheses of `UpdateCommandsComplete`, clause by clause. -/
theorem witness_UpdateCommandsComplete :
    (∃ (b : Bytes) (x : CmdIn) (s : State) (w : Waiter) (u : State), s.takes opUpdStage x w u ∧ u.upd.activating = none ∧ x.pkt.f 16 1 = 0 ∧ x.pkt.unit = 0 ∧ x.pkt.f 20 4 = 0 ∧ 0 < x.pkt.f 24 4 ∧ x.pkt.f 24 4 ≤ 65011712 ∧ u.windowBytes x false 32 (x.pkt.f 24 4) = .inr b) ∧
    (∃ (b : Bytes) (x : CmdIn) (s : State) (w : Waiter) (u : State), s.takes opUpdStage x w u ∧ u.upd.activating = none ∧ x.pkt.f 16 1 = 1 ∧ x.pkt.unit = 1 ∧ (u.upd.set).started = true ∧ x.pkt.f 20 4 = u.upd.set.data.length ∧ 0 < x.pkt.f 20 4 ∧ 0 < x.pkt.f 24 4 ∧ x.pkt.f 24 4 ≤ 65536 ∧ x.pkt.f 20 4 + x.pkt.f 24 4 ≤ 1048576 ∧ u.windowBytes x true 32 (x.pkt.f 24 4) = .inr b) ∧
    (∃ (x : CmdIn) (s : State) (w : Waiter) (u : State), s.takes opUpdVerify x w u ∧ u.upd.activating = none ∧ x.pkt.unit = 0 ∧ u.fwFault u.upd.fw.data x.sigOk = none) ∧
    (∃ (x : CmdIn) (s : State) (w : Waiter) (u : State), s.takes opUpdVerify x w u ∧ u.upd.activating = none ∧ x.pkt.unit = 1 ∧ u.settingsFault u.upd.set.data = none) ∧
    (∃ (x : CmdIn) (s : State) (w : Waiter) (u : State), s.takes opUpdActivate x w u ∧ u.upd.activating = none ∧ x.pkt.unit = 1 ∧ u.upd.set.verified = true ∧ x.pkt.f 16 1 = 0 ∧ u.sys.pit = false) ∧
    (∃ (x : CmdIn) (s : State) (w : Waiter) (u : State), s.takes opUpdActivate x w u ∧ u.upd.activating = none ∧ x.pkt.unit = 0 ∧ u.upd.fw.verified = true ∧ x.pkt.f 16 1 = 1) ∧
    (∃ (x : CmdIn) (s : State) (w : Waiter) (u : State), s.takes opUpdActivate x w u ∧ u.upd.activating = none ∧ x.pkt.unit = 0 ∧ u.upd.fw.verified = true ∧ x.pkt.f 16 1 = 0 ∧ u.sys.pit = false) ∧
    (∃ (x : CmdIn) (s : State) (w : Waiter) (u : State), s.takes opUcodeApply x w u ∧ u.upd.activating = none ∧ (u.tiles.getD x.pkt.unit {}).state = 3 ∧ x.pkt.f 16 1 = u.upd.slot ∧ u.upd.slot ≤ 1 ∧ x.pkt.f 17 1 = 0 ∧ fwDl (u.upd.fwSlot u.upd.slot).data = u.sys.dl) ∧
    (∃ (x : CmdIn) (s : State) (w : Waiter) (u : State), s.takes opPitClear x w u ∧ u.sys.pit = true) ∧
    (∃ (x : CmdIn) (s : State) (w : Waiter) (u : State), s.takes opPitClear x w u ∧ u.sys.pit = false) :=
  ⟨⟨[1], { askFrom opUpdStage 0 [(24, 4, 1)] with dma := [1] }, up, _, _, takes_of (by decide +kernel) (by decide +kernel), by decide +kernel, by decide +kernel, by decide +kernel, by decide +kernel, by decide +kernel, by decide +kernel, by decide +kernel⟩,
   ⟨[0], ask opUpdStage 1 [(16, 1, 1), (20, 4, 1), (24, 4, 1)], { up with upd := { up.upd with set := { data := [0], started := true } } }, _, _, takes_of (by decide +kernel) (by decide +kernel), by decide +kernel, by decide +kernel, by decide +kernel, by decide +kernel, by decide +kernel, by decide +kernel, by decide +kernel, by decide +kernel, by decide +kernel, by decide +kernel⟩,
   ⟨ask opUpdVerify, { up with upd := { up.upd with fw := { data := firmware, started := true } } }, _, _, takes_of (by decide +kernel) (by decide +kernel), by decide +kernel, by decide +kernel, by decide +kernel⟩,
   ⟨ask opUpdVerify 1, { up with upd := { up.upd with set := { data := settings, started := true } } }, _, _, takes_of (by decide +kernel) (by decide +kernel), by decide +kernel, by decide +kernel, settings_ok (by decide +kernel) rfl (by decide +kernel)⟩,
   ⟨ask opUpdActivate 1, { up with upd := { up.upd with set := { data := [], started := true, verified := true } } }, _, _, takes_of (by decide +kernel) (by decide +kernel), by decide +kernel, by decide +kernel, by decide +kernel, by decide +kernel, by decide +kernel⟩,
   ⟨ask opUpdActivate 0 [(16, 1, 1)], { up with upd := { up.upd with fw := { data := [], started := true, verified := true } } }, _, _, takes_of (by decide +kernel) (by decide +kernel), by decide +kernel, by decide +kernel, by decide +kernel, by decide +kernel⟩,
   ⟨ask opUpdActivate, { up with upd := { up.upd with fw := { data := [], started := true, verified := true } } }, _, _, takes_of (by decide +kernel) (by decide +kernel), by decide +kernel, by decide +kernel, by decide +kernel, by decide +kernel, by decide +kernel⟩,
   ⟨ask opUcodeApply 3 [(16, 1, 1)], { up with tiles := List.replicate 4 { state := 3 }, upd := { up.upd with slot := 1, slotB := { data := firmware, valid := true } } }, _, _, takes_of (by decide +kernel) (by decide +kernel), by decide +kernel, by decide +kernel, by decide +kernel, by decide +kernel, by decide +kernel, by decide +kernel⟩,
   ⟨ask opPitClear, { up with sys := { up.sys with pit := true } }, _, _, takes_of (by decide +kernel) (by decide +kernel), by decide +kernel⟩,
   ⟨ask opPitClear, up, _, _, takes_of (by decide +kernel) (by decide +kernel), by decide +kernel⟩⟩

/-- States and operands that meet the hypotheses of `EventAndTelemetryCommandsComplete`, clause by clause. -/
theorem witness_EventAndTelemetryCommandsComplete :
    (∃ (e : Event) (es : List Event) (x : CmdIn) (s : State) (w : Waiter) (u : State), s.takes opEvtRead x w u ∧ x.pkt.f 16 8 = 0 ∧ 0 < x.pkt.f 24 4 ∧ x.pkt.f 24 4 ≤ 32 ∧ bit (x.pkt.f 28 1) 0 = false ∧ u.evt.ring.take (x.pkt.f 24 4) = e :: es) ∧
    (∃ (x : CmdIn) (s : State) (w : Waiter) (u : State), s.takes opEvtRead x w u ∧ x.pkt.f 16 8 = 0 ∧ 0 < x.pkt.f 24 4 ∧ x.pkt.f 24 4 ≤ 32 ∧ bit (x.pkt.f 28 1) 0 = false ∧ u.evt.ring = []) ∧
    (∃ (e : Event) (es : List Event) (x : CmdIn) (s : State) (w : Waiter) (u : State), s.takes opEvtRead x w u ∧ x.pkt.f 16 8 = 0 ∧ 0 < x.pkt.f 24 4 ∧ x.pkt.f 24 4 ≤ 32 ∧ bit (x.pkt.f 28 1) 0 = true ∧ u.evt.ring.take (x.pkt.f 24 4) = e :: es) ∧
    (∃ (x : CmdIn) (s : State) (w : Waiter) (u : State), s.takes opEvtSubscribe x w u ∧ x.pkt.f 16 1 ≤ 7 ∧ x.pkt.f 17 1 = 0 ∧ x.pkt.f 20 1 ≤ 3) ∧
    (∃ (x : CmdIn) (s : State) (w : Waiter) (u : State), s.takes opEvtSubscribe x w u ∧ x.pkt.f 16 1 ≤ 7 ∧ ((x.pkt.f 17 1 = 1 ∧ x.pkt.f 18 2 < 6144) ∨ x.pkt.f 17 1 = 2) ∧ x.pkt.f 20 1 ≤ 3) ∧
    (∃ (b : Bytes) (x : CmdIn) (s : State) (w : Waiter) (u : State), s.takes opTelemetryGet x w u ∧ x.pkt.f 16 1 ≤ 5 ∧ x.src.isMctp = false ∧ b = ((telemetrySet (x.pkt.f 16 1)).map (fun a => leBytes 4 (u.telemetryWord a))).flatten) :=
  ⟨⟨event1, [], ask opEvtRead 0 [(24, 4, 32)], { up with evt := { up.evt with ring := [event1] } }, _, _, takes_of (by decide +kernel) (by decide +kernel), by decide +kernel, by decide +kernel, by decide +kernel, by decide +kernel, by decide +kernel⟩,
   ⟨ask opEvtRead 0 [(24, 4, 32)], up, _, _, takes_of (by decide +kernel) (by decide +kernel), by decide +kernel, by decide +kernel, by decide +kernel, by decide +kernel, by decide +kernel⟩,
   ⟨event1, [], ask opEvtRead 0 [(24, 4, 1), (28, 1, 1)], { up with evt := { up.evt with ring := [event1] } }, _, _, takes_of (by decide +kernel) (by decide +kernel), by decide +kernel, by decide +kernel, by decide +kernel, by decide +kernel, by decide +kernel⟩,
   ⟨ask opEvtSubscribe 0 [(16, 1, 7), (20, 1, 3)], up, _, _, takes_of (by decide +kernel) (by decide +kernel), by decide +kernel, by decide +kernel, by decide +kernel⟩,
   ⟨ask opEvtSubscribe 0 [(16, 1, 7), (17, 1, 1), (18, 2, 6143), (20, 1, 3)], up, _, _, takes_of (by decide +kernel) (by decide +kernel), by decide +kernel, by decide +kernel, by decide +kernel⟩,
   ⟨_, askFrom opTelemetryGet 0 [(16, 1, 5), (24, 8, 4096), (32, 4, 64)], up, _, _, takes_of (by decide +kernel) (by decide +kernel), by decide +kernel, by decide +kernel, rfl⟩⟩

/-- States and operands that meet the hypotheses of `DeliveryAndRmaCommandsComplete`, clause by clause. -/
theorem witness_DeliveryAndRmaCommandsComplete :
    (∃ (js : Nat) (j : Job) (x : CmdIn) (s : State) (w : Waiter) (u : State), s.takes opDestBind x w u ∧ u.jobNamed (x.pkt.f 16 2) = some (js, j) ∧ x.pkt.f 18 1 ≤ 7 ∧ x.pkt.f 24 8 % 64 = 0 ∧ x.pkt.f 40 8 % 8 = 0 ∧ x.pkt.f 48 8 % 8 = 0) ∧
    (∃ (js : Nat) (j : Job) (x : CmdIn) (s : State) (w : Waiter) (u : State), s.takes opSlotCancel x w u ∧ u.jobNamed (x.pkt.f 16 2) = some (js, j) ∧ u.servesSlot j (bits (x.pkt.f 24 8) 0 44) (x.pkt.f 20 2) = false) ∧
    (∃ (js : Nat) (j : Job) (x : CmdIn) (s : State) (w : Waiter) (u : State), s.takes opSlotCancel x w u ∧ u.jobNamed (x.pkt.f 16 2) = some (js, j) ∧ u.servesSlot j (bits (x.pkt.f 24 8) 0 44) (x.pkt.f 20 2) = true ∧ j.cancelled.contains (bits (x.pkt.f 24 8) 0 44, x.pkt.f 20 2) = true ∧ j.outstanding (bits (x.pkt.f 24 8) 0 44) (x.pkt.f 20 2) = false) ∧
    (∃ (js : Nat) (j : Job) (k : Job) (x : CmdIn) (s : State) (w : Waiter) (u : State), s.takes opSlotCancel x w u ∧ u.jobNamed (x.pkt.f 16 2) = some (js, j) ∧ u.servesSlot j (bits (x.pkt.f 24 8) 0 44) (x.pkt.f 20 2) = true ∧ k = { j with cancelled := j.cancelled ++ [(bits (x.pkt.f 24 8) 0 44, x.pkt.f 20 2)] } ∧ j.cancelled.contains (bits (x.pkt.f 24 8) 0 44, x.pkt.f 20 2) = false ∧ k.outstanding (bits (x.pkt.f 24 8) 0 44) (x.pkt.f 20 2) = true) ∧
    (∃ (c : Chain) (t : State) (x : CmdIn) (s : State) (w : Waiter) (u : State), s.takes opWindowOpen x w u ∧ x.pkt.f 16 2 < 61440 ∧ (bit (x.pkt.f 19 1) 0 = true ∨ bits (x.pkt.f 20 2) 0 13 < 6144) ∧ u.rma.windows.has (x.pkt.f 16 2) = false ∧ u.refOk (x.pkt.f 24 8) 1 = true ∧ (u.pool (refPool (x.pkt.f 24 8))).kind = 1 ∧ u.chain (x.pkt.f 24 8) = some c ∧ x.pkt.f 32 8 ≤ c.length ∧ x.pkt.f 32 8 + x.pkt.f 40 8 ≤ c.length ∧ u.addRef (x.pkt.f 24 8) = (true, t)) ∧
    (∃ (v : Window) (x : CmdIn) (s : State) (w : Waiter) (u : State), s.takes opWindowClose x w u ∧ u.openWindow (x.pkt.f 16 2) = .inr v) ∧
    (∃ (v : Window) (x : CmdIn) (s : State) (w : Waiter) (u : State), s.takes opWindowRekey x w u ∧ u.openWindow (x.pkt.f 16 2) = .inr v) ∧
    (∃ (x : CmdIn) (s : State) (w : Waiter) (u : State), s.takes opRmaWrite x w u ∧ bits (x.pkt.f 16 2) 0 13 < 6144 ∧ 0 < x.pkt.f 32 4 ∧ x.pkt.f 32 4 ≤ 16777216 ∧ x.pkt.f 36 1 = 0 ∧ x.pkt.f 37 1 = 0 ∧ x.src.isMctp = false ∧ u.net.lost.has (bits (x.pkt.f 16 2) 0 13) = false) ∧
    (∃ (x : CmdIn) (s : State) (w : Waiter) (u : State), s.takes opRmaRead x w u ∧ bits (x.pkt.f 16 2) 0 13 < 6144 ∧ 0 < x.pkt.f 32 4 ∧ x.pkt.f 32 4 ≤ 16777216 ∧ x.pkt.f 36 1 = 15 ∧ x.pkt.f 37 1 = 0 ∧ x.src.isMctp = false ∧ u.net.lost.has (bits (x.pkt.f 16 2) 0 13) = false) ∧
    (∃ (x : CmdIn) (s : State) (w : Waiter) (u : State), s.takes opPortService x w u ∧ x.pkt.f 16 1 ≤ 1 ∧ x.pkt.f 17 1 ≤ 8 ∧ (u.fabPort x.pkt.unit).busy = false ∧ u.fabricOn x.pkt.unit = true) ∧
    (∃ (x : CmdIn) (s : State) (w : Waiter) (u : State), s.takes opPortService x w u ∧ x.pkt.f 16 1 = 2 ∧ x.pkt.f 17 1 ≤ 8 ∧ (u.fabPort x.pkt.unit).busy = false ∧ u.fabricOn x.pkt.unit = true) :=
  ⟨⟨2, job, ask opDestBind 0 [(16, 2, 77), (18, 1, 7), (24, 8, 64), (40, 8, 8), (48, 8, 8)], upJob, _, _, takes_of (by decide +kernel) (by decide +kernel), by decide +kernel, by decide +kernel, by decide +kernel, by decide +kernel, by decide +kernel⟩,
   ⟨2, job, ask opSlotCancel 0 [(16, 2, 77)], upJob, _, _, takes_of (by decide +kernel) (by decide +kernel), by decide +kernel, by decide +kernel⟩,
   ⟨2, { job with copies := [{ copy1 with phase := 3 }], cancelled := [(0, 0)] }, ask opSlotCancel 0 [(16, 2, 77)], withJob fun j => { j with copies := [{ copy1 with phase := 3 }], cancelled := [(0, 0)] }, _, _, takes_of (by decide +kernel) (by decide +kernel), by decide +kernel, by decide +kernel, by decide +kernel, by decide +kernel⟩,
   ⟨2, { job with copies := [copy1] }, _, ask opSlotCancel 0 [(16, 2, 77)], withJob fun j => { j with copies := [copy1] }, _, _, takes_of (by decide +kernel) (by decide +kernel), by decide +kernel, by decide +kernel, rfl, by decide +kernel, by decide +kernel⟩,
   ⟨chain1, _, ask opWindowOpen 0 [(16, 2, 61439), (18, 1, 3), (20, 2, 6143), (24, 8, 4), (40, 8, 512)], upMirror [], _, _, takes_of (by decide +kernel) (by decide +kernel), by decide +kernel, by decide +kernel, by decide +kernel, by decide +kernel, by decide +kernel, by decide +kernel, by decide +kernel, by decide +kernel, true_of (by decide +kernel)⟩,
   ⟨window1, ask opWindowClose 0 [(16, 2, 1)], upMirror [], _, _, takes_of (by decide +kernel) (by decide +kernel), by decide +kernel⟩,
   ⟨window1, ask opWindowRekey 0 [(16, 2, 1), (20, 4, 5)], upMirror [], _, _, takes_of (by decide +kernel) (by decide +kernel), by decide +kernel⟩,
   ⟨askFrom opRmaWrite 0 [(16, 2, 6143), (32, 4, 16777216)], up, _, _, takes_of (by decide +kernel) (by decide +kernel), by decide +kernel, by decide +kernel, by decide +kernel, by decide +kernel, by decide +kernel, by decide +kernel, by decide +kernel⟩,
   ⟨askFrom opRmaRead 0 [(16, 2, 6143), (32, 4, 16777216), (36, 1, 15)], up, _, _, takes_of (by decide +kernel) (by decide +kernel), by decide +kernel, by decide +kernel, by decide +kernel, by decide +kernel, by decide +kernel, by decide +kernel, by decide +kernel⟩,
   ⟨ask opPortService 15 [(16, 1, 1), (17, 1, 8)], up, _, _, takes_of (by decide +kernel) (by decide +kernel), by decide +kernel, by decide +kernel, by decide +kernel, by decide +kernel⟩,
   ⟨ask opPortService 15 [(16, 1, 2), (17, 1, 8)], up, _, _, takes_of (by decide +kernel) (by decide +kernel), by decide +kernel, by decide +kernel, by decide +kernel, by decide +kernel⟩⟩

/-- States and operands that meet the hypotheses of `RingCommandsComplete`, clause by clause. -/
theorem witness_RingCommandsComplete :
    (∃ (path : Nat) (ring : Nat) (v : Nat) (s : State), ring < 64 ∧ s.passes path (ringReg ring 0x18) = true ∧ (s.ring ring).en = true ∧ bits v 0 16 < 2 ^ (s.ring ring).depthLog2) ∧
    (∃ (path : Nat) (ring : Nat) (v : Nat) (s : State), ring < 64 ∧ s.passes path (ringReg ring 0x1C) = true ∧ (s.ring ring).en = true ∧ bits v 0 16 < 2 ^ (s.ring ring).depthLog2 ∧ (bits v 0 16 + 2 ^ (s.ring ring).depthLog2 - (s.ring ring).cqHead) % 2 ^ (s.ring ring).depthLog2 ≤ (s.ring ring).unconsumed) ∧
    (∃ (path : Nat) (ring : Nat) (v : Nat) (s : State), ring < 64 ∧ s.passes path (ringReg ring 0) = true ∧ (s.ring ring).en = false ∧ bit v 0 = true ∧ 1 ≤ bits v 1 5 ∧ bits v 1 5 ≤ 16) ∧
    (∃ (path : Nat) (ring : Nat) (v : Nat) (s : State), ring < 64 ∧ s.passes path (ringReg ring 0) = true ∧ (s.ring ring).en = true ∧ bit v 0 = false ∧ bits v 1 5 = (s.ring ring).depthLog2 ∧ bit v 6 = (s.ring ring).msix) ∧
    (∃ (ring : Nat) (entry : Bytes) (s : State), ring < 64 ∧ s.alive = true ∧ s.hostUp = true ∧ (s.ring ring).canFetch = true ∧ (opSpecOf (parsePacket entry).1).isSome = true) ∧
    (∃ (path : Nat) (j : Nat) (v : Nat) (size : Nat) (base : Nat) (job : Job) (s : State), j < 16 ∧ s.passes path (pringReg j 0) = true ∧ s.jobs.find j = some job ∧ job.pring = some (size, base) ∧ bits v 0 20 < 2 ^ size) :=
  ⟨⟨0, 63, 15, upRing, by decide +kernel, by decide +kernel, by decide +kernel, by decide +kernel⟩,
   ⟨0, 63, 1, upRing, by decide +kernel, by decide +kernel, by decide +kernel, by decide +kernel, by decide +kernel⟩,
   ⟨1, 63, 33, up, by decide +kernel, by decide +kernel, by decide +kernel, by decide +kernel, by decide +kernel, by decide +kernel⟩,
   ⟨0, 63, 8, upRing, by decide +kernel, by decide +kernel, by decide +kernel, by decide +kernel, by decide +kernel, by decide +kernel⟩,
   ⟨63, Packet.bytes 0x0101 {}, upRing, by decide +kernel, by decide +kernel, by decide +kernel, by decide +kernel, by decide +kernel⟩,
   ⟨0, 2, 63, 6, 4096, { job with pring := some (6, 4096) }, withJob fun j => { j with pring := some (6, 4096) }, by decide +kernel, by decide +kernel, by decide +kernel, by decide +kernel, by decide +kernel⟩⟩

/-- States and operands that meet the hypotheses of `WaitingAndForwardedCommandsComplete`, clause by clause. -/
theorem witness_WaitingAndForwardedCommandsComplete :
    (∃ (idx : Nat) (d : Deferred) (sp : OpSpec) (own : Waiter → CmdIn → State → Own) (s : State), s.cmd.waiting[idx]? = some d ∧ s.alive = true ∧ s.ready d.waiter = true ∧ opMeanings.find? (fun m => m.1.opcode == d.opcode) = some (sp, own)) ∧
    (∃ (seq : Nat) (f : Forwarded) (s : State), s.forwardedBy seq = some f ∧ f.held = false) ∧
    (∃ (seq : Nat) (now : Nat) (f : Forwarded) (s : State), s.forwardedBy seq = some f ∧ f.held = false ∧ f.receipt = false ∧ f.sentAt + s.cmd.timeout * 1000000 ≤ now) ∧
    (∃ (seq : Nat) (now : Nat) (f : Forwarded) (s : State), s.forwardedBy seq = some f ∧ f.receipt = true ∧ (s.advance now).noRoute5ms f.dev = true) :=
  ⟨⟨0, { opcode := 0x0206, cmd := ask opJobStart, seq := 0 }, opJobStart, ownJobStart, { up with cmd := { up.cmd with waiting := [{ opcode := 0x0206, cmd := ask opJobStart, seq := 0 }] } }, by decide +kernel, by decide +kernel, by decide +kernel, rfl⟩,
   ⟨0, forwarded false, upForwarded false, by decide +kernel, by decide +kernel⟩,
   ⟨0, 10000000, forwarded false, upForwarded false, by decide +kernel, by decide +kernel, by decide +kernel, by decide +kernel⟩,
   ⟨0, 5000000, forwarded true, upForwarded true, by decide +kernel, by decide +kernel, by decide +kernel⟩⟩

/-- States and operands that meet the hypotheses of `RegisterAccessCommandsComplete`, clause by clause. -/
theorem witness_RegisterAccessCommandsComplete :
    (∃ (path : Nat) (addr : Nat) (s : State), addr % 4 = 0 ∧ s.passes path addr = true ∧ isSnap addr = false ∧ addr < 0x100000) ∧
    (∃ (eid : Nat) (off : Nat) (s : State), s.alive = true ∧ badOffset off = false ∧ s.installerSession eid = true) ∧
    (∃ (path : Nat) (addr : Nat) (s : State), s.reaches path = true ∧ s.responds addr = true ∧ isLo addr = true ∧ isHi addr = false) ∧
    (∃ (path : Nat) (addr : Nat) (v : Nat) (s : State), s.reaches path = true ∧ s.responds addr = true ∧ isHi addr = true ∧ s.shadows.find (shadowKey path addr) = some v) ∧
    (∃ (path : Nat) (addr : Nat) (s : State), s.reaches path = true ∧ s.responds addr = true ∧ isRc addr = true ∧ isHi addr = false ∧ isLo addr = false ∧ s.copyOf addr = none) ∧
    (∃ (path : Nat) (addr : Nat) (v : Nat) (e : Nat × List (Nat × Nat)) (s : State), isSnap addr = true ∧ s.passes path addr = true ∧ bit v 0 = true ∧ snapSets.find? (fun e => e.1 == addr) = some e) ∧
    (∃ (path : Nat) (addr : Nat) (v : Nat) (s : State), isSnap addr = true ∧ s.passes path addr = true ∧ bit v 0 = false) ∧
    (∃ (path : Nat) (addr : Nat) (size : Nat) (s : State), s.reaches path = true ∧ (size ≠ 4 ∨ addr % 4 ≠ 0)) ∧
    (∃ (path : Nat) (addr : Nat) (size : Nat) (s : State), s.reaches path = true ∧ (size ≠ 4 ∨ addr % 4 ≠ 0)) ∧
    (∃ (off : Nat) (s : State), s.alive = true ∧ badOffset off = false ∧ s.responds off = true ∧ isHi off = false ∧ isLo off = false ∧ isRc off = false) :=
  ⟨⟨1, 0x000004, up, by decide +kernel, by decide +kernel, by decide +kernel, by decide +kernel⟩,
   ⟨2, 0x03FFFFFC, up, by decide +kernel, by decide +kernel, by decide +kernel⟩,
   ⟨0, 0x00800010, up, by decide +kernel, by decide +kernel, by decide +kernel, by decide +kernel⟩,
   ⟨0, 0x00800014, 7, { up with shadows := [(0x00800014, 7)] }, by decide +kernel, by decide +kernel, by decide +kernel, by decide +kernel⟩,
   ⟨0, 0x00800018, up, by decide +kernel, by decide +kernel, by decide +kernel, by decide +kernel, by decide +kernel, by decide +kernel⟩,
   ⟨0, 0x000008, 1, (0x000008, [(0x000024, 0x14)]), up, by decide +kernel, by decide +kernel, by decide +kernel, by decide +kernel⟩,
   ⟨0, 0x000008, 2, up, by decide +kernel, by decide +kernel, by decide +kernel⟩,
   ⟨0, 2, 4, up, by decide +kernel, by decide +kernel⟩,
   ⟨0, 4, 2, up, by decide +kernel, by decide +kernel⟩,
   ⟨4, up, by decide +kernel, by decide +kernel, by decide +kernel, by decide +kernel, by decide +kernel, by decide +kernel⟩⟩

/-- States and operands that meet the hypotheses of `PowerEventsComplete`, clause by clause. -/
theorem witness_PowerEventsComplete :
    (∃ (w : Nat) (s : State), s.alive = true ∧ 600 ≤ w ∧ w ≤ 1300 ∧ w % 10 = 0) ∧
    (∃ (key : Nat) (n : Nat) (rest : List (Nat × Nat)) (s : State), s.pwr.queue = (key, n) :: rest ∧ sumNat s.pwr.granted.vals + n ≤ s.pwr.grantable) ∧
    (∃ (key : Nat) (n : Nat) (rest : List (Nat × Nat)) (s : State), s.pwr.queue = (key, n) :: rest ∧ s.pwr.grantable < sumNat s.pwr.granted.vals + n ∧ s.peakOk = false) ∧
    (∃ (us : Nat) (s : State), bit (s.setting 0x45 1) 1 = true ∧ 20000 ≤ us ∧ s.pwr.clamped = false) ∧
    (∃ (s : State), s.pwr.lowestHold = none ∧ s.pwr.duty = false) ∧
    (∃ (now : Nat) (rs : List (Option Int)) (s : State) (u : State), u = { s with now := max s.now now, pwr := { s.pwr with sensors := (rs ++ List.replicate 96 none).take 96 } } ∧ u.anySensor (fun i t => decide (u.zlim (zoneOf i) < t)) = true) ∧
    (∃ (i : Nat) (temp : Int) (s : State), s.pwr.boost = true ∧ 95 ≤ temp ∧ ((s.sense i temp).noteCool.refreshWarning).pwr.boost = true) ∧
    (∃ (now : Nat) (s : State), s.pwr.cooling = true ∧ s.allSensors (fun _ t => decide (t < 92)) = false ∧ s.pwr.lowestHold = none ∧ s.pwr.lastCool + 10000000 ≤ now) ∧
    (∃ (now : Nat) (t : Nat) (s : State), s.pwr.below90 = some t ∧ bit (s.setting 0x45 1) 0 = true ∧ s.pwr.boost = false ∧ t + 60000000000 ≤ now) ∧
    (∃ (jobId : Nat) (now : Nat) (mhz : Nat) (t : Nat) (h : HeldFreq) (s : State), s.pwr.held.find jobId = some h ∧ h.next = some (mhz, t) ∧ t ≤ now) ∧
    (∃ (now : Nat) (job : Nat) (ask : Nat) (at' : Nat) (s : State), s.pwr.request = some (job, ask, at') ∧ at' + 200000000 ≤ now ∧ s.pwr.held.find job = none) :=
  ⟨⟨1300, up, by decide +kernel, by decide +kernel, by decide +kernel, by decide +kernel⟩,
   ⟨7, 5, [(8, 1)], { up with pwr := { up.pwr with queue := [(7, 5), (8, 1)], grantable := 5 } }, by decide +kernel, by decide +kernel⟩,
   ⟨7, 5, [], { up with pwr := { up.pwr with queue := [(7, 5)], grantable := 4 } }, by decide +kernel, by decide +kernel, by decide +kernel⟩,
   ⟨20000, { up with set := writeMem up.set 0x45 [2] }, by decide +kernel, by decide +kernel, by decide +kernel⟩,
   ⟨up, by decide +kernel, by decide +kernel⟩,
   ⟨5000001000, [some 101], up, _, rfl, by decide +kernel⟩,
   ⟨0, 95, { up with pwr := { up.pwr with boost := true, therm := 1300 } }, by decide +kernel, by decide +kernel, by decide +kernel⟩,
   ⟨5000001000, { up with pwr := { up.pwr with cooling := true, sensors := [some 92] } }, by decide +kernel, by decide +kernel, by decide +kernel, by decide +kernel⟩,
   ⟨60000000000, 0, { up with set := writeMem up.set 0x45 [1], pwr := { up.pwr with below90 := some 0 } }, by decide +kernel, by decide +kernel, by decide +kernel, by decide +kernel⟩,
   ⟨77, 5, 400, 5, { mhz := 0, next := some (400, 5) }, { up with pwr := { up.pwr with held := [(77, { mhz := 0, next := some (400, 5) })] } }, by decide +kernel, by decide +kernel, by decide +kernel⟩,
   ⟨200000000, 77, 400, 0, { up with pwr := { up.pwr with request := some (77, 400, 0) } }, by decide +kernel, by decide +kernel, by decide +kernel⟩⟩

/-- States and operands that meet the hypotheses of `StopsAndDomainsComplete`, clause by clause. -/
theorem witness_StopsAndDomainsComplete :
    (∃ (temp : Int) (s : State), 110 ≤ temp ∧ s.pwr.tripped = false) ∧
    (∃ (s : State), s.pwr.stopped = false ∧ s.pwr.tripped = false ∧ s.sys.ready = true) ∧
    (∃ (s : State), s.pwr.flowLow = true) ∧
    (∃ (s : State), s.pwr.stopped = true ∧ s.pwr.halted = false ∧ s.med.flush ≠ 0) ∧
    (∃ (s : State), s.med.flush = 0 ∧ s.pwr.stopped = false ∧ s.alive = true ∧ s.med.state ≠ 0) ∧
    (∃ (s : State), s.med.flush = 1) ∧
    (∃ (d : Nat) (now : Nat) (s : State), d < 24 ∧ (s.domain d).on = true ∧ s.domainBusy d = false ∧ (s.domain d).lastUse + s.setting 0x46 2 * 1000000 ≤ now) ∧
    (∃ (d : Nat) (s : State), (s.domain d).downing = true) ∧
    (∃ (d : Nat) (s : State), (s.domain d).downing = true ∧ s.tst.slices = []) ∧
    (∃ (d : Nat) (s : State), (s.domain d).waking = true ∧ s.pwr.granted.has (4096 + d) = true) :=
  ⟨⟨110, up, by decide +kernel, by decide +kernel⟩,
   ⟨up, by decide +kernel, by decide +kernel, by decide +kernel⟩,
   ⟨{ up with pwr := { up.pwr with flowLow := true } }, by decide +kernel⟩,
   ⟨{ up with pwr := { up.pwr with stopped := true }, med := { up.med with flush := 2 } }, by decide +kernel, by decide +kernel, by decide +kernel⟩,
   ⟨up, by decide +kernel, by decide +kernel, by decide +kernel, by decide +kernel⟩,
   ⟨{ up with med := { up.med with flush := 1 } }, by decide +kernel⟩,
   ⟨23, 5000000000, up, by decide +kernel, by decide +kernel, by decide +kernel, by decide +kernel⟩,
   ⟨23, { up with pwr := { up.pwr with domains := List.replicate 36 { on := true, downing := true } } }, by decide +kernel⟩,
   ⟨0, { up with pwr := { up.pwr with domains := List.replicate 36 { on := true, downing := true } } }, by decide +kernel, by decide +kernel⟩,
   ⟨3, { up with pwr := { up.pwr with domains := List.replicate 36 { waking := true }, granted := [(4099, 1)] } }, by decide +kernel, by decide +kernel⟩⟩

/-- States and operands that meet the hypotheses of `PlanMessagesComplete`, clause by clause. -/
theorem witness_PlanMessagesComplete :
    (∃ (jobId : Nat) (epoch : Nat) (rank : Nat) (slot : Nat) (j : Job) (p : EpochPlan) (s : State), s.jobNamed jobId = some (slot, j) ∧ (epoch = j.epoch ∨ epoch = j.epoch + 1) ∧ j.plan epoch = some p ∧ (p.phase = 1 ∨ p.phase = 3 ∨ p.phase = 8) ∧ p.ranks.contains rank = true ∧ p.scanned.contains rank = false) ∧
    (∃ (rank : Nat) (jobId : Nat) (epoch : Nat) (slot : Nat) (j : Job) (p : EpochPlan) (s : State), s.jobNamed jobId = some (slot, j) ∧ (epoch = j.epoch ∨ epoch = j.epoch + 1) ∧ (j.plan epoch).getD (EpochPlan.blank epoch) = p ∧ rank < j.planRanks ∧ p.phase ≠ 6 ∧ p.phase ≠ 8) ∧
    (∃ (rank : Nat) (jobId : Nat) (epoch : Nat) (slot : Nat) (j : Job) (p : EpochPlan) (s : State), s.jobNamed jobId = some (slot, j) ∧ (epoch = j.epoch ∨ epoch = j.epoch + 1) ∧ (j.plan epoch).getD (EpochPlan.blank epoch) = p ∧ rank < j.planRanks ∧ p.phase ≠ 6 ∧ p.phase ≠ 8) ∧
    (∃ (jobId : Nat) (epoch : Nat) (slot : Nat) (rec : Bytes) (j : Job) (p : EpochPlan) (s : State), s.jobNamed jobId = some (slot, j) ∧ (epoch = j.epoch ∨ epoch = j.epoch + 1) ∧ (j.plan epoch).getD (EpochPlan.blank epoch) = p ∧ s.serves j (parsePlanRec rec).ordinal = true ∧ p.phase ≠ 6) ∧
    (∃ (rank : Nat) (jobId : Nat) (epoch : Nat) (slot : Nat) (j : Job) (p : EpochPlan) (s : State), s.jobNamed jobId = some (slot, j) ∧ (epoch = j.epoch ∨ epoch = j.epoch + 1) ∧ (j.plan epoch).getD (EpochPlan.blank epoch) = p ∧ rank < j.planRanks ∧ p.phase ≠ 6) ∧
    (∃ (jobId : Nat) (epoch : Nat) (slot : Nat) (j : Job) (p : EpochPlan) (s : State), s.jobNamed jobId = some (slot, j) ∧ j.plan epoch = some p ∧ p.building = true) ∧
    (∃ (jobId : Nat) (slot : Nat) (j : Job) (r : Recovery) (s : State), s.jobNamed jobId = some (slot, j) ∧ j.recovery = some r ∧ r.status = 0 ∧ r.opcode = 0x020C) :=
  ⟨⟨77, 1, 0, 2, { job with plans := [{ plan 1 3 with ranks := [0] }] }, { plan 1 3 with ranks := [0] }, withJob fun j => { j with plans := [{ plan 1 3 with ranks := [0] }] }, by decide +kernel, by decide +kernel, by decide +kernel, by decide +kernel, by decide +kernel, by decide +kernel⟩,
   ⟨0, 77, 1, 2, job, EpochPlan.blank 1, upJob, by decide +kernel, by decide +kernel, by decide +kernel, by decide +kernel, by decide +kernel, by decide +kernel⟩,
   ⟨0, 77, 0, 2, { job with plans := [plan 0 5] }, plan 0 5, withJob fun j => { j with plans := [plan 0 5] }, by decide +kernel, by decide +kernel, by decide +kernel, by decide +kernel, by decide +kernel, by decide +kernel⟩,
   ⟨77, 0, 2, zeros 16, { job with plans := [plan 0 8] }, plan 0 8, withJob fun j => { j with plans := [plan 0 8] }, by decide +kernel, by decide +kernel, by decide +kernel, by decide +kernel, by decide +kernel⟩,
   ⟨0, 77, 0, 2, job, EpochPlan.blank 0, upJob, by decide +kernel, by decide +kernel, by decide +kernel, by decide +kernel, by decide +kernel⟩,
   ⟨77, 0, 2, { job with plans := [plan 0 5] }, plan 0 5, withJob fun j => { j with plans := [plan 0 5] }, by decide +kernel, by decide +kernel, by decide +kernel⟩,
   ⟨77, 2, { job with recovery := some { opcode := 0x020C, params := 0, status := 0, waiters := [] } }, { opcode := 0x020C, params := 0, status := 0, waiters := [] }, withJob fun j => { j with recovery := some { opcode := 0x020C, params := 0, status := 0, waiters := [] } }, by decide +kernel, by decide +kernel, by decide +kernel, by decide +kernel⟩⟩

/-- States and operands that meet the hypotheses of `PoolAndBankEventsComplete`, clause by clause. -/
theorem witness_PoolAndBankEventsComplete :
    (∃ (path : Nat) (v : Nat) (s : State), s.passes path 0x00200010 = true ∧ bit v 0 = true ∧ s.mem.audits = []) ∧
    (∃ (a : Audit) (rest : List Audit) (s : State), s.mem.audits = a :: rest) ∧
    (∃ (path : Nat) (die : Nat) (v : Nat) (s : State), die < 5 ∧ s.passes path (0x00100004 + 0x4000 * die) = true ∧ bit v 0 = true) ∧
    (∃ (path : Nat) (die : Nat) (bank : Nat) (v : Nat) (s : State), die < 5 ∧ bank < dieBanks die ∧ s.passes path (bnkReg die (0x800 + 8 * bank)) = true ∧ s.locked die = false ∧ s.handoverOk die bank (bits v 0 12) = true) ∧
    (∃ (die : Nat) (bank : Nat) (o : Nat) (s : State), (s.bank die bank).pending = some (o, false)) ∧
    (∃ (path : Nat) (die : Nat) (bank : Nat) (v : Nat) (s : State), die < 5 ∧ bank < dieBanks die ∧ s.passes path (bnkReg die (0x804 + 8 * bank)) = true ∧ bit v 10 = false ∧ s.locked die = false ∧ bits v 0 2 ≠ 3 ∧ bits v 0 2 ≠ (s.bank die bank).state ∧ s.bankMoveOk die bank (bits v 0 2) = true) ∧
    (∃ (path : Nat) (die : Nat) (bank : Nat) (v : Nat) (s : State), die < 5 ∧ bank < dieBanks die ∧ s.passes path (bnkReg die (0x804 + 8 * bank)) = true ∧ bit v 10 = true ∧ bits v 0 2 = 3) ∧
    (∃ (die : Nat) (bank : Nat) (st : Nat) (s : State), (s.bank die bank).next = some st ∧ (s.bank die bank).pending = none ∧ (s.bank die bank).test = false ∧ st ≠ 0 ∧ (s.bank die bank).state ≠ 0) ∧
    (∃ (die : Nat) (bank : Nat) (s : State), (s.bank die bank).next = some 0 ∧ (s.bank die bank).pending = none ∧ (s.bank die bank).test = false) :=
  ⟨⟨0, 1, up, by decide +kernel, by decide +kernel, by decide +kernel⟩,
   ⟨{ cmd := none, kind := 0, result := success }, [], { up with mem := { up.mem with audits := [{ cmd := none, kind := 0, result := success }] } }, by decide +kernel⟩,
   ⟨0, 4, 1, up, by decide +kernel, by decide +kernel, by decide +kernel⟩,
   ⟨1, 3, 383, 8, up, by decide +kernel, by decide +kernel, by decide +kernel, by decide +kernel, by decide +kernel⟩,
   ⟨4, 255, 8, { up with mem := { up.mem with banks := [(4 * 512 + 255, { pending := some (8, false) })] } }, by decide +kernel⟩,
   ⟨1, 4, 255, 2, up, by decide +kernel, by decide +kernel, by decide +kernel, by decide +kernel, by decide +kernel, by decide +kernel, by decide +kernel, by decide +kernel⟩,
   ⟨1, 0, 0, 1027, up, by decide +kernel, by decide +kernel, by decide +kernel, by decide +kernel, by decide +kernel⟩,
   ⟨4, 255, 1, { up with mem := { up.mem with banks := [(4 * 512 + 255, { state := 2, next := some 1 })] } }, by decide +kernel, by decide +kernel, by decide +kernel, by decide +kernel, by decide +kernel⟩,
   ⟨0, 0, { up with mem := { up.mem with banks := [(0, { state := 2, next := some 0 })] } }, by decide +kernel, by decide +kernel, by decide +kernel⟩⟩

/-- States and operands that meet the hypotheses of `SecurityAndEventRowsComplete`, clause by clause. -/
theorem witness_SecurityAndEventRowsComplete :
    (∃ (path : Nat) (v : Nat) (s : State), s.passes path 0x00050010 = true ∧ bit v 14 = true ∧ bit v 15 = false) ∧
    (∃ (path : Nat) (v : Nat) (t : Nat) (s : State), s.passes path 0x00050010 = true ∧ bit v 14 = false ∧ bit v 15 = true ∧ s.sec.nonceAt = some t ∧ s.now ≤ t + 60000000000 ∧ s.sec.creds.has (bits v 0 8) = true ∧ s.sec.bindings.contains (bits v 8 6, bits v 0 8) = false) ∧
    (∃ (path : Nat) (v : Nat) (s : State), s.passes path 0x00050010 = true ∧ bit v 14 = false ∧ bit v 15 = true) ∧
    (∃ (eid : Nat) (s : State), s.alive = true ∧ s.sec.exchanges.contains eid = true) ∧
    (∃ (slot : Nat) (now : Nat) (c : Credential) (s : State), s.sec.creds.find slot = some c ∧ s.sec.timeChecked = true ∧ c.expired = false ∧ c.notAfter < now) ∧
    (∃ (n : Nat) (s : State), s.alive = true ∧ s.sec.timeChecked = false ∧ s.sec.startNumber = some n) ∧
    (∃ (path : Nat) (v : Nat) (s : State), s.passes path 0x00040004 = true ∧ bit v 3 = true) ∧
    (∃ (now : Nat) (t : Nat) (s : State), s.evt.withheld = true ∧ s.evt.irqEn = true ∧ s.evt.lastIrq = some t ∧ t + 100000 ≤ now) :=
  ⟨⟨1, 0x4000, up, by decide +kernel, by decide +kernel, by decide +kernel⟩,
   ⟨1, 0x8001, 0, { up with sec := { up.sec with nonceAt := some 0 }, now := 60000000000 }, by decide +kernel, by decide +kernel, by decide +kernel, by decide +kernel, by decide +kernel, by decide +kernel, by decide +kernel⟩,
   ⟨1, 0x8001, up, by decide +kernel, by decide +kernel, by decide +kernel⟩,
   ⟨255, { up with sec := { up.sec with exchanges := [255] } }, by decide +kernel, by decide +kernel⟩,
   ⟨3, 10 ^ 18 + 1, credOf 3, up, by decide +kernel, by decide +kernel, by decide +kernel, by decide +kernel⟩,
   ⟨0, { up with sec := { up.sec with timeChecked := false } }, by decide +kernel, by decide +kernel, by decide +kernel⟩,
   ⟨1, 8, up, by decide +kernel, by decide +kernel⟩,
   ⟨100000, 0, { up with evt := { up.evt with withheld := true, irqEn := true, lastIrq := some 0 } }, by decide +kernel, by decide +kernel, by decide +kernel, by decide +kernel⟩⟩

/-- States and operands that meet the hypotheses of `ClocksAndTimeComplete`, clause by clause. -/
theorem witness_ClocksAndTimeComplete :
    (∃ (path : Nat) (s : State), s.passes path 0x00300040 = true) ∧
    (∃ (e : EvalJob) (v : Nat) (walks : Nat) (s : State), s.brm.running = some e ∧ e.result = some (v, walks)) ∧
    (∃ (m : Nat) (s : State), m < 7 ∧ (s.monitor m).state ≠ 1) ∧
    (∃ (m : Nat) (s : State), m < 7 ∧ ((s.monitor m).state = 1 ∨ (s.monitor m).state = 2)) ∧
    (∃ (now : Nat) (t : Nat) (s : State), s.pwr.holdover = some t ∧ t + 10000000000 ≤ now) ∧
    (∃ (f : Nat) (now : Nat) (hops : Nat) (s : State) (t : State) (b : Nat × Nat × Nat), f < 16 ∧ (s.fabPort f).carries = true ∧ s.net.isSource = false ∧ (s.advance now).updPort f (fun p => { p with timeHops := some hops, lastRx := max s.now now }) = t ∧ t.net.follows = some b ∧ b.2.2 = f) ∧
    (∃ (q : Nat) (s : State), s.net.isSource = true ∧ bits s.net.ptp 12 3 = q ∧ (s.net.eth.getD q {}).state = 2) ∧
    (∃ (s : State), s.net.holdover = false) ∧
    (∃ (q : Nat) (st : Nat) (s : State), q < 8 ∧ st ≤ 2 ∧ s.domainOn (29 + 2 * (q / 4)) = true ∧ s.dieUnclocked (q / 4) = false) ∧
    (∃ (q : Nat) (prio : Nat) (s : State), q < 8 ∧ prio < 8 ∧ bit (s.net.eth.getD q {}).pfcEn prio = true) :=
  ⟨⟨0, up, by decide +kernel⟩,
   ⟨{ inverse := false, n := 2, input := 1, keys := List.replicate 6 0 }, _, _, { up with brm := { up.brm with running := some { inverse := false, n := 2, input := 1, keys := List.replicate 6 0 } } }, by decide +kernel, pair_of (by decide +kernel)⟩,
   ⟨6, up, by decide +kernel, by decide +kernel⟩,
   ⟨6, { up with pwr := { up.pwr with monitors := List.replicate 7 { state := 2 } } }, by decide +kernel, by decide +kernel⟩,
   ⟨10000000000, 0, { up with pwr := { up.pwr with holdover := some 0 } }, by decide +kernel, by decide +kernel⟩,
   ⟨15, 5000000000, 2, { up with net := { up.net with ports := List.replicate 15 {} ++ [linkUp] } }, _, (2, 5, 15), by decide +kernel, by decide +kernel, by decide +kernel, rfl, by decide +kernel, by decide +kernel⟩,
   ⟨7, { up with net := { up.net with ptp := 0x7001, eth := List.replicate 8 { state := 2 } } }, by decide +kernel, by decide +kernel, by decide +kernel⟩,
   ⟨up, by decide +kernel⟩,
   ⟨7, 2, up, by decide +kernel, by decide +kernel, by decide +kernel, by decide +kernel⟩,
   ⟨7, 3, up, by decide +kernel, by decide +kernel, by decide +kernel⟩⟩

/-- States and operands that meet the hypotheses of `ResetsAndStartComplete`, clause by clause. -/
theorem witness_ResetsAndStartComplete :
    (∃ (cause : Nat) (s : State), s.canRun = true ∧ 2 ≤ cause ∧ cause ≤ 6) ∧
    (∃ (s : State), s.sys.rails = true) ∧
    (∃ (s : State) (t : State), s.sys.rails = false ∧ s.sys.standby = true ∧ s.deviceReset true (if s.pwr.tripped then 1 else s.sys.cause) = t) ∧
    (∃ (s : State), s.sys.standby = false ∧ s.sys.rails = false) ∧
    (∃ (s : State) (t : State), s.sys.standby = true ∧ s.clearDies true 0 = t) ∧
    (∃ (k : Nat) (now : Nat) (out : StartOut) (s : State) (t : State), (s.advance now).stepDue k = true ∧ (s.advance now).startStep k out = (t, none)) ∧
    (∃ (k : Nat) (now : Nat) (reason : Nat) (step : Nat) (out : StartOut) (s : State) (t : State), (s.advance now).stepDue k = true ∧ (s.advance now).startStep k out = (t, some (reason, step))) ∧
    (∃ (now : Nat) (s : State), s.canRun = true ∧ s.sys.readyOnce = false ∧ s.sys.pit = false ∧ s.pwr.flowLow = false ∧ s.sys.resetAt + 120000000000 + s.sys.suspended ≤ now) ∧
    (∃ (now : Nat) (s : State), s.canRun = true ∧ s.sys.readyOnce = true ∧ s.upd.activating.isSome = true ∧ s.upd.activateAt + 120000000000 ≤ now) ∧
    (∃ (w : Waiter) (s : State), s.upd.activating = some w) :=
  ⟨⟨6, up, by decide +kernel, by decide +kernel, by decide +kernel⟩,
   ⟨up, by decide +kernel⟩,
   ⟨{ up with sys := { up.sys with rails := false } }, _, by decide +kernel, by decide +kernel, rfl⟩,
   ⟨{ up with sys := { up.sys with rails := false, standby := false } }, by decide +kernel, by decide +kernel⟩,
   ⟨up, _, by decide +kernel, rfl⟩,
   ⟨1, 5, {}, State.reset, _, by decide +kernel, Prod.ext rfl rfl⟩,
   ⟨1, 5, 4, 3, { hubFail := some 3 }, State.reset, _, by decide +kernel, rfl⟩,
   ⟨120000000000, State.reset, by decide +kernel, by decide +kernel, by decide +kernel, by decide +kernel, by decide +kernel⟩,
   ⟨120000000000, { up with upd := { up.upd with activating := some (waiter 0x0803) } }, by decide +kernel, by decide +kernel, by decide +kernel, by decide +kernel⟩,
   ⟨waiter 0x0803, { up with upd := { up.upd with activating := some (waiter 0x0803) } }, by decide +kernel⟩⟩

/-- States and operands that meet the hypotheses of `HostLinkEventsComplete`, clause by clause. -/
theorem witness_HostLinkEventsComplete :
    (∃ (s : State) (t : State), s.sys.perstSeen = true ∧ State.resetPf1 (State.hostLinkDown { s with sys := { s.sys with perstLow := true } }) = t) ∧
    (∃ (s : State), s.sys.perstLow = false ∧ s.alive = true ∧ s.nvme.posts = []) ∧
    (∃ (pf : Nat) (s : State), s.hostUp = true ∧ pf < 2) ∧
    (∃ (path : Nat) (off : Nat) (s : State), off < 65536 ∧ off % 4 = 0 ∧ s.passes path (updReg (0x10000 + off)) = true) :=
  ⟨⟨up, _, by decide +kernel, rfl⟩,
   ⟨{ up with nvme := { up.nvme with linkUp := false } }, by decide +kernel, by decide +kernel, by decide +kernel⟩,
   ⟨1, up, by decide +kernel, by decide +kernel⟩,
   ⟨1, 65532, up, by decide +kernel, by decide +kernel, by decide +kernel⟩⟩

/-- States and operands that meet the hypotheses of `FabricCommandsComplete`, clause by clause. -/
theorem witness_FabricCommandsComplete :
    (∃ (path : Nat) (f : Nat) (v : Nat) (s : State), f < 16 ∧ s.passes path (fabPortReg f 0x0C) = true ∧ (s.fabPort f).busy = false ∧ bits v 0 3 = 1 ∧ bits v 4 4 ≤ 8) ∧
    (∃ (path : Nat) (f : Nat) (v : Nat) (s : State), f < 16 ∧ s.passes path (fabPortReg f 0x0C) = true ∧ (s.fabPort f).busy = false ∧ bits v 0 3 = 2 ∧ bits v 4 4 ≤ 8) ∧
    (∃ (path : Nat) (f : Nat) (v : Nat) (s : State), f < 16 ∧ s.passes path (fabPortReg f 0x0C) = true ∧ (s.fabPort f).busy = false ∧ bits v 0 3 = 4 ∧ bits v 4 4 ≤ 8) ∧
    (∃ (f : Nat) (lanes : Nat) (peer : Nat) (peerPort : Nat) (ver : Nat) (n : Nat) (s : State), f < 16 ∧ s.fabricOn f = true ∧ s.dieUnclocked (f / 8) = false ∧ (s.fabPort f).ctrl ≠ 3 ∧ (s.fabPort f).carries = false ∧ 4 ≤ goodLanes lanes ∧ miswired s.self f peer peerPort = false ∧ linkVersion s.sys.fabricN ver = some n) ∧
    (∃ (f : Nat) (lanes : Nat) (s : State), f < 16 ∧ s.fabricOn f = true ∧ s.dieUnclocked (f / 8) = false ∧ (s.fabPort f).ctrl ≠ 3 ∧ (s.fabPort f).carries = false ∧ goodLanes lanes < 4) ∧
    (∃ (f : Nat) (s : State), f < 16 ∧ (s.fabPort f).carries = true) ∧
    (∃ (f : Nat) (lane : Nat) (s : State), f < 16 ∧ lane < 8 ∧ (s.fabPort f).carries = true ∧ bit (s.fabPort f).failed lane = false ∧ (s.fabPort f).spareFree = true) ∧
    (∃ (dev : Nat) (now : Nat) (s : State), s.portsTo dev ≠ [] ∧ (s.portsTo dev).all (fun f => decide ((s.fabPort f).lastRx + 1000000 ≤ max s.now now)) = true) ∧
    (∃ (dev : Nat) (now : Nat) (t : Nat) (s : State) (u : State), s.net.lost.find dev = some (t, false) ∧ (s.advance now).noRoute5ms dev = true ∧ { s.advance now with net := { s.net with lost := s.net.lost.put dev (t, true) } } = u) ∧
    (∃ (f : Nat) (p : FabricIn) (s : State), f < 16 ∧ p.cls ≤ 15 ∧ p.vc ≤ 7 ∧ (s.fabPort f).carries = true ∧ p.crcBad = true) ∧
    (∃ (f : Nat) (vc : Nat) (s : State), f < 16 ∧ vc ≤ 7 ∧ (s.fabPort f).carries = true ∧ (s.fabPort f).unacked = []) ∧
    (∃ (f : Nat) (load : Nat) (t : Nat) (s : State), f < 16 ∧ (s.net.dies.getD (f / 8) {}).quietTarget (s.fabPort f).state load = some t ∧ (s.fabPort f).request = none ∧ (s.fabPort f).exiting = false ∧ (s.fabPort f).ctrl = 0 ∧ (s.shaper f).queue = []) ∧
    (∃ (f : Nat) (t : Nat) (s : State), (s.fabPort f).request = some t) ∧
    (∃ (f : Nat) (s : State), (s.fabPort f).exiting = true) :=
  ⟨⟨0, 15, 1, up, by decide +kernel, by decide +kernel, by decide +kernel, by decide +kernel, by decide +kernel⟩,
   ⟨0, 15, 0x82, up, by decide +kernel, by decide +kernel, by decide +kernel, by decide +kernel, by decide +kernel⟩,
   ⟨0, 0, 4, up, by decide +kernel, by decide +kernel, by decide +kernel, by decide +kernel, by decide +kernel⟩,
   ⟨15, 0x1F0, 6143, 0, 2, 0, up, by decide +kernel, by decide +kernel, by decide +kernel, by decide +kernel, by decide +kernel, by decide +kernel, by decide +kernel, by decide +kernel⟩,
   ⟨15, 0x3F, up, by decide +kernel, by decide +kernel, by decide +kernel, by decide +kernel, by decide +kernel, by decide +kernel⟩,
   ⟨15, upLinks, by decide +kernel, by decide +kernel⟩,
   ⟨15, 7, upLinks, by decide +kernel, by decide +kernel, by decide +kernel, by decide +kernel, by decide +kernel⟩,
   ⟨5, 5000000000, upLinks, by decide +kernel, by decide +kernel⟩,
   ⟨9, 5000000000, 0, upForwarded true, _, by decide +kernel, by decide +kernel, rfl⟩,
   ⟨15, { crcBad := true, src := 5, dst := 0, seq := 0, cls := 15, vc := 7, flits := 1, hops := 1, detoured := false, minimal := [], others := [] }, upLinks, by decide +kernel, by decide +kernel, by decide +kernel, by decide +kernel, by decide +kernel⟩,
   ⟨15, 7, upLinks, by decide +kernel, by decide +kernel, by decide +kernel, by decide +kernel⟩,
   ⟨15, 0, 4, upLinks, by decide +kernel, by decide +kernel, by decide +kernel, by decide +kernel, by decide +kernel, by decide +kernel⟩,
   ⟨15, 3, { up with net := { up.net with ports := List.replicate 16 { linkUp with request := some 3 } } }, by decide +kernel⟩,
   ⟨15, { up with net := { up.net with ports := List.replicate 16 { linkUp with state := 4, exiting := true } } }, by decide +kernel⟩⟩

/-- States and operands that meet the hypotheses of `ShapingCommandsComplete`, clause by clause. -/
theorem witness_ShapingCommandsComplete :
    (∃ (path : Nat) (sp : Nat) (v : Nat) (s : State), sp < 24 ∧ s.passes path (shpReg sp 4) = true ∧ bit v 16 = true) ∧
    (∃ (sp : Nat) (now : Nat) (b : Nat) (gs : List Gate) (s : State), (s.shaper sp).pending = some (b, gs) ∧ b ≤ now) ∧
    (∃ (sp : Nat) (b : Nat) (gs : List Gate) (s : State), (s.shaper sp).oper = some (b, gs)) ∧
    (∃ (now : Nat) (s : State), s.net.refilled / 1000 < max s.now now / 1000) :=
  ⟨⟨0, 23, 0x10000, up, by decide +kernel, by decide +kernel, by decide +kernel⟩,
   ⟨23, 7, 7, [], { up with net := { up.net with shapers := List.replicate 24 { pending := some (7, []) } } }, by decide +kernel, by decide +kernel⟩,
   ⟨23, 7, [], { up with net := { up.net with shapers := List.replicate 24 { oper := some (7, []) } } }, by decide +kernel⟩,
   ⟨0, up, by decide +kernel⟩⟩

/-- States and operands that meet the hypotheses of `RemoteMemoryEventsComplete`, clause by clause. -/
theorem witness_RemoteMemoryEventsComplete :
    (∃ (q : RmaIn) (v : Window) (s : State), s.rma.windows.find q.window = some v ∧ rmaCheck (some v) q = 0) ∧
    (∃ (q : RmaIn) (s : State), rmaCheck (s.rma.windows.find q.window) q ≠ 0) ∧
    (∃ (id : Nat) (status : Nat) (r : RmaRequest) (w : Waiter) (s : State), s.rma.requests.find id = some r ∧ r.cmd = some w ∧ status ≠ 0) ∧
    (∃ (id : Nat) (now : Nat) (r : RmaRequest) (s : State), s.rma.requests.find id = some r ∧ r.sentAt + 1000 * s.rma.timeoutUs ≤ now) ∧
    (∃ (window : Nat) (v : Window) (w : Waiter) (s : State), s.rma.windows.find window = some v ∧ v.closing = some (some w)) ∧
    (∃ (now : Nat) (s : State), s.rma.mirroredAt + 100000000 ≤ now) ∧
    (∃ (jobId : Nat) (slot : Nat) (id : Nat) (j : Job) (r : RmaRequest) (s : State), s.jobNamed jobId = some (slot, j) ∧ s.rma.requests.find? (fun r => r.2.mirror == some slot) = some (id, r)) ∧
    (∃ (dev : Nat) (jobId : Nat) (m : MirrorWindow) (s : State) (t : State), s.alive = true ∧ (s.closeMirror jobId dev).openMirror jobId dev = some (m, t)) ∧
    (∃ (jobId : Nat) (slot : Nat) (j : Job) (m : MirrorLink) (s : State), s.jobNamed jobId = some (slot, j) ∧ j.mirror = some m ∧ m.state ≠ 1) ∧
    (∃ (now : Nat) (p : Nat) (slot : Nat) (j : Job) (m : MirrorLink) (s : State), s.rma.partner = some p ∧ s.jobs = [(slot, j)] ∧ j.mirror = some m ∧ m.state ≠ 1 ∧ m.sentAt + 1000000000 ≤ now) ∧
    (∃ (dev : Nat) (jobId : Nat) (slot : Nat) (j : Job) (s : State), s.jobNamed jobId = some (slot, j) ∧ j.taken.contains dev = false) :=
  ⟨⟨rmaIn, window1, upMirror [], by decide +kernel, by decide +kernel⟩,
   ⟨rmaIn, up, by decide +kernel⟩,
   ⟨4, 0x0206, request1, waiter 0x0A06, { up with rma := { up.rma with requests := [(4, request1)] } }, by decide +kernel, by decide +kernel, by decide +kernel⟩,
   ⟨4, 10000000, request1, { up with rma := { up.rma with requests := [(4, request1)] } }, by decide +kernel, by decide +kernel⟩,
   ⟨1, { window1 with closing := some (some (waiter 0x0A04)) }, waiter 0x0A04, { up with rma := { up.rma with windows := [(1, { window1 with closing := some (some (waiter 0x0A04)) })] } }, by decide +kernel, by decide +kernel⟩,
   ⟨5000000000, up, by decide +kernel⟩,
   ⟨77, 2, 4, job, request1, { upJob with rma := { upJob.rma with requests := [(4, request1)] } }, by decide +kernel, by decide +kernel⟩,
   ⟨5, 77, _, upJob, _, by decide +kernel, pair_of (by decide +kernel)⟩,
   ⟨77, 2, { job with mirror := some { state := 0, window := 0, key := 0, seq := 0, missed := 0, sentAt := 0 } }, { state := 0, window := 0, key := 0, seq := 0, missed := 0, sentAt := 0 }, withJob fun j => { j with mirror := some { state := 0, window := 0, key := 0, seq := 0, missed := 0, sentAt := 0 } }, by decide +kernel, by decide +kernel, by decide +kernel⟩,
   ⟨1000000000, 5, 2, { job with mirror := some { state := 2, window := 0, key := 0, seq := 0, missed := 0, sentAt := 0 } }, { state := 2, window := 0, key := 0, seq := 0, missed := 0, sentAt := 0 }, { upJob with jobs := [(2, { job with mirror := some { state := 2, window := 0, key := 0, seq := 0, missed := 0, sentAt := 0 } })], rma := { upJob.rma with partner := some 5 } }, by decide +kernel, by decide +kernel, by decide +kernel, by decide +kernel, by decide +kernel⟩,
   ⟨5, 77, 2, job, upJob, by decide +kernel, by decide +kernel⟩⟩

/-- States and operands that meet the hypotheses of `DeliveryEventsComplete`, clause by clause. -/
theorem witness_DeliveryEventsComplete :
    (∃ (jobId : Nat) (index : Nat) (slot : Nat) (js : Nat) (j : Job) (r : ReadySlot) (rc : Recipe) (s : State), s.jobNamed jobId = some (js, j) ∧ s.readySlot j index slot = some (r, rc)) ∧
    (∃ (jobId : Nat) (index : Nat) (slot : Nat) (dest : Nat) (js : Nat) (j : Job) (c : SlotCopy) (b : Binding) (s : State), s.jobNamed jobId = some (js, j) ∧ j.copyTo index slot dest = some c ∧ j.binding c.rank c.dest = some b ∧ c.phase = 1) ∧
    (∃ (jobId : Nat) (index : Nat) (slot : Nat) (dest : Nat) (js : Nat) (j : Job) (c : SlotCopy) (b : Binding) (s : State), s.jobNamed jobId = some (js, j) ∧ j.copyTo index slot dest = some c ∧ j.binding c.rank c.dest = some b ∧ c.phase = 2) ∧
    (∃ (jobId : Nat) (rank : Nat) (dest : Nat) (js : Nat) (j : Job) (b : Binding) (s : State), s.jobNamed jobId = some (js, j) ∧ j.binding rank dest = some b ∧ b.reading = true) ∧
    (∃ (jobId : Nat) (rank : Nat) (dest : Nat) (now : Nat) (js : Nat) (t : Nat) (j : Job) (b : Binding) (k : QueuePair) (s : State), s.jobNamed jobId = some (js, j) ∧ j.binding rank dest = some b ∧ b.reading = false ∧ b.error = false ∧ s.qp b.qp = some k ∧ k.state = 1 ∧ b.lastRead = some t ∧ t + 2000 ≤ now ∧ (s.advance now).needsRead j b = true) ∧
    (∃ (qp : Nat) (k : QueuePair) (waiting : List (Nat × Binding)) (s : State), s.qp qp = some k ∧ k.state = 1 ∧ (s.bindingsOn qp).filter (fun p => match s.jobs.find p.1 with | some j => j.busyOn p.2 | none => false) = waiting ∧ waiting ≠ []) ∧
    (∃ (port : Nat), port < 8) ∧
    (∃ (qp : Nat) (port : Nat) (now : Nat) (k : QueuePair) (s : State), port < 8 ∧ s.qp qp = some k ∧ (s.ethPort port).ecnEn = true ∧ after50us k.lastCnpSent (max s.now now) = true) :=
  ⟨⟨77, 0, 0, 2, { job with ready := [ready0], copies := [{ copy1 with phase := 1 }], dests := [bind3] }, ready0, _, upDelivery 1 bind3, by decide +kernel, rfl⟩,
   ⟨77, 0, 0, 0, 2, { job with ready := [ready0], copies := [{ copy1 with phase := 1 }], dests := [bind3] }, copy1, bind3, upDelivery 1 bind3, by decide +kernel, by decide +kernel, by decide +kernel, by decide +kernel⟩,
   ⟨77, 0, 0, 0, 2, { job with ready := [ready0], copies := [{ copy1 with phase := 2 }], dests := [bind3] }, { copy1 with phase := 2 }, bind3, upDelivery 2 bind3, by decide +kernel, by decide +kernel, by decide +kernel, by decide +kernel⟩,
   ⟨77, 0, 0, 2, { job with ready := [ready0], copies := [{ copy1 with phase := 1 }], dests := [{ bind3 with reading := true }] }, { bind3 with reading := true }, upDelivery 1 { bind3 with reading := true }, by decide +kernel, by decide +kernel, by decide +kernel⟩,
   ⟨77, 0, 0, 2000, 2, 0, { job with ready := [ready0], copies := [], dests := [{ bind3 with c := none }] }, { bind3 with c := none }, pair3, { upDelivery 1 bind3 with now := 0, recipes := [(0, { held with image := roiImage })], jobs := [(2, { job with ready := [ready0], copies := [], dests := [{ bind3 with c := none }] })] }, by decide +kernel, by decide +kernel, by decide +kernel, by decide +kernel, by decide +kernel, by decide +kernel, by decide +kernel, by decide +kernel, by decide +kernel⟩,
   ⟨3, pair3, [(2, bind3)], upDelivery 1 bind3, by decide +kernel, by decide +kernel, by decide +kernel, by decide +kernel⟩,
   ⟨7, by decide +kernel⟩,
   ⟨3, 7, 5000000000, pair3, upDelivery 1 bind3, by decide +kernel, by decide +kernel, by decide +kernel, by decide +kernel⟩⟩

/-- States and operands that meet the hypotheses of `TileAndTestCommandsComplete`, clause by clause. -/
theorem witness_TileAndTestCommandsComplete :
    (∃ (path : Nat) (tile : Nat) (v : Nat) (s : State), tile < 4 ∧ s.passes path (tileReg tile 4) = true ∧ bit v 0 = true ∧ bit v 1 = false ∧ s.lastTile tile = false ∧ s.drainOk tile = true) ∧
    (∃ (path : Nat) (tile : Nat) (v : Nat) (s : State), tile < 4 ∧ s.passes path (tileReg tile 4) = true ∧ bit v 0 = false ∧ bit v 1 = true ∧ (s.tile tile).state = 3) ∧
    (∃ (tile : Nat) (s : State), (s.tile tile).state = 2 ∧ s.tileEmpty tile = true) ∧
    (∃ (path : Nat) (s : State), s.passes path 0x00E00004 = true) ∧
    (∃ (tile : Nat) (cls : Nat) (idx : Nat) (now : Nat) (s : State) (t : State), tile < 4 ∧ cls < 4 ∧ idx < classCount cls ∧ s.advance now = t ∧ t.itemOn cls = true ∧ (t.tile tile).out cls idx = false ∧ t.tileRuns tile = true ∧ t.engineIdle tile cls idx = true ∧ t.sliceRuns tile cls idx = false ∧ t.domainOn (engineDomain tile cls idx) = true) ∧
    (∃ (tile : Nat) (cls : Nat) (idx : Nat) (now : Nat) (v : Slice) (s : State) (t : State), s.advance now = t ∧ t.tst.slices.find? (fun v => v.tile == tile && v.cls == cls && v.idx == idx) = some v ∧ v.cls < 6 ∧ t.pwr.granted.has (engineId tile cls idx) = true) ∧
    (∃ (d : Nat) (now : Nat) (s : State), d < 24 ∧ s.tileRuns (d / 6) = true ∧ (s.domain d).on = false ∧ (s.domain d).waking = false ∧ (s.domain d).offSince + 14400000000000 ≤ max s.now now ∧ s.tst.woken.find d ≠ some (s.domain d).offSince) ∧
    (∃ (tile : Nat) (cls : Nat) (idx : Nat) (s : State), tile < 4 ∧ idx < classCount cls ∧ (s.tile tile).out cls idx = false) :=
  ⟨⟨0, 3, 1, up, by decide +kernel, by decide +kernel, by decide +kernel, by decide +kernel, by decide +kernel, by decide +kernel⟩,
   ⟨0, 3, 2, { up with tiles := List.replicate 4 { state := 3 } }, by decide +kernel, by decide +kernel, by decide +kernel, by decide +kernel, by decide +kernel⟩,
   ⟨3, { up with tiles := List.replicate 4 { state := 2 } }, by decide +kernel, by decide +kernel⟩,
   ⟨0, up, by decide +kernel⟩,
   ⟨3, 0, 23, 5000000000, up, _, by decide +kernel, by decide +kernel, by decide +kernel, rfl, by decide +kernel, by decide +kernel, by decide +kernel, by decide +kernel, by decide +kernel, by decide +kernel⟩,
   ⟨3, 0, 5, 5000000000, slice3, { up with tst := { up.tst with slices := [slice3] }, pwr := { up.pwr with granted := [(engineId 3 0 5, 1)] } }, _, rfl, by decide +kernel, by decide +kernel, by decide +kernel⟩,
   ⟨23, 14400000000000, { up with pwr := { up.pwr with domains := List.replicate 36 {} } }, by decide +kernel, by decide +kernel, by decide +kernel, by decide +kernel, by decide +kernel, by decide +kernel⟩,
   ⟨3, 0, 23, up, by decide +kernel, by decide +kernel, by decide +kernel⟩⟩

/-- States and operands that meet the hypotheses of `SampleCommandsComplete`, clause by clause. -/
theorem witness_SampleCommandsComplete :
    (∃ (s : State), s.alive = true) ∧
    (∃ (i : Nat) (now : Nat) (t : Nat) (x : Sample) (r : Recipe) (s : State), s.samples[i]? = some x ∧ x.held = some t ∧ (s.advance now).sampleRecipe x = some r ∧ t + r.paramTimeout * 1000000 ≤ max s.now now) ∧
    (∃ (jobId : Nat) (epoch : Nat) (idx : Nat) (tile : Nat) (slot : Nat) (j : Job) (p : EpochPlan) (rc : Recipe) (r : PlanRec) (c : CatRecord) (s : State), s.jobNamed jobId = some (slot, j) ∧ j.plan epoch = some p ∧ s.recipeFor j epoch = some rc ∧ p.records[idx]? = some r ∧ s.recordAt j r.ordinal = some c ∧ s.mediaReady = true ∧ s.tileAdmits tile = true ∧ j.wants p r = true ∧ s.grantsResv (rc.desc r.bucket).pool (s.needCells j rc r.bucket c.length) = true ∧ ((s.admitSlot slot j p r c rc tile).tile tile).state ≠ 4) ∧
    (∃ (i : Nat) (x : Sample) (b : Bytes) (s : State), s.samples[i]? = some x ∧ x.stage = 0 ∧ x.replicas = [] ∧ s.nsRead x.record.nsid x.record.offset x.record.length = some b ∧ contentOk x.record b = true) ∧
    (∃ (i : Nat) (x : Sample) (s : State), s.samples[i]? = some x ∧ x.stage = 0 ∧ x.replicas = [] ∧ s.nsRead x.record.nsid x.record.offset x.record.length = none) ∧
    (∃ (nsid : Nat) (off : Nat) (len : Nat) (b : Bytes) (s : State), s.alive = true ∧ s.mediaReady = true ∧ s.nsRead nsid off len = some b) ∧
    (∃ (i : Nat) (dev : Nat) (x : Sample) (rest : List Nat) (b : Bytes) (s : State), s.samples[i]? = some x ∧ x.stage = 0 ∧ x.replicas = dev :: rest ∧ contentOk x.record b = true) ∧
    (∃ (i : Nat) (x : Sample) (r : Recipe) (s : State), s.samples[i]? = some x ∧ s.sampleRecipe x = some r ∧ s.stageRuns x = true) ∧
    (∃ (tile : Nat) (s : State), tile < 4 ∧ s.refLimit tile ≠ 0) ∧
    (∃ (i : Nat) (k : Nat) (x : Sample) (r : Recipe) (f : Decoded) (img : Bytes) (s : State), s.samples[i]? = some x ∧ s.sampleRecipe x = some r ∧ (r.stageFrames x)[k]? = some f ∧ s.imageAt r r.transform.roiModel = some img ∧ x.stage = 4 ∧ r.transform.roi = true ∧ s.stageRuns x = true ∧ x.work.roiFrames = k ∧ augBad r (s.payloadOf x) (r.stageFrames x) = false) ∧
    (∃ (jobId : Nat) (epoch : Nat) (slot : Nat) (j : Job) (s : State), s.jobNamed jobId = some (slot, j) ∧ (epoch = j.epoch ∨ epoch = j.epoch + 1)) ∧
    (∃ (jobId : Nat) (js : Nat) (j : Job) (s : State), s.jobNamed jobId = some (js, j)) :=
  ⟨⟨upJob, by decide +kernel⟩,
   ⟨0, 5000000000, 0, { sample 2 with held := some 0 }, _, upSamples [{ sample 2 with held := some 0 }], by decide +kernel, by decide +kernel, rfl, by decide +kernel⟩,
   ⟨77, 0, 0, 3, 2, { job with plans := [{ plan 0 6 with records := [{ ordinal := 0, bucket := 0, step := 0, member := 0, reserve := false, tail := false }] }] }, { plan 0 6 with records := [{ ordinal := 0, bucket := 0, step := 0, member := 0, reserve := false, tail := false }] }, _, { ordinal := 0, bucket := 0, step := 0, member := 0, reserve := false, tail := false }, _, withJob fun j => { j with plans := [{ plan 0 6 with records := [{ ordinal := 0, bucket := 0, step := 0, member := 0, reserve := false, tail := false }] }] }, by decide +kernel, by decide +kernel, rfl, by decide +kernel, some_of (by decide +kernel), by decide +kernel, by decide +kernel, by decide +kernel, by decide +kernel, by decide +kernel⟩,
   ⟨0, sample 0, [0x66, 0x6B], upSamples [sample 0], by decide +kernel, by decide +kernel, by decide +kernel, by decide +kernel, by decide +kernel⟩,
   ⟨0, sample 0, { upSamples [sample 0] with med := { up.med with spaces := [(3, { dataset with bad := [2] })] } }, by decide +kernel, by decide +kernel, by decide +kernel, by decide +kernel⟩,
   ⟨3, 0x2000, 2, [0x66, 0x6B], upData, by decide +kernel, by decide +kernel, by decide +kernel⟩,
   ⟨0, 5, { sample 0 with replicas := [5, 6] }, [6], [0x66, 0x6B], upSamples [{ sample 0 with replicas := [5, 6] }], by decide +kernel, by decide +kernel, by decide +kernel, by decide +kernel⟩,
   ⟨0, sample 7, _, upSamples [sample 7], by decide +kernel, rfl, by decide +kernel⟩,
   ⟨3, { up with set := writeMem up.set 0x62 [1] }, by decide +kernel, by decide +kernel⟩,
   ⟨0, 0, { sample 4 with work := { Work.empty with frames := [frame0] } }, _, frame0, [7], { upSamples [{ sample 4 with work := { Work.empty with frames := [frame0] } }] with recipes := [(0, { held with image := roiImage })], models := [(0, { image := [7], digest := zeros 48, signer := 0 })] }, by decide +kernel, rfl, by decide +kernel, by decide +kernel, by decide +kernel, by decide +kernel, by decide +kernel, by decide +kernel, by decide +kernel⟩,
   ⟨77, 1, 2, job, upJob, by decide +kernel, by decide +kernel⟩,
   ⟨77, 2, job, upJob, by decide +kernel⟩⟩

/-- States and operands that meet the hypotheses of `LiveAndMediaCommandsComplete`, clause by clause. -/
theorem witness_LiveAndMediaCommandsComplete :
    (∃ (service : Nat) (data : Bytes) (v : Service) (s : State), s.net.services.find service = some v ∧ s.liveOn v = true ∧ data.take 1 = [0x47] ∧ tsOk data = true) ∧
    (∃ (service : Nat) (seq : Nat) (data : Bytes) (b : Bytes) (v : Service) (s : State), s.net.services.find service = some v ∧ s.liveOn v = true ∧ data.take 1 ≠ [0x47] ∧ rtpOf data = some (seq, b) ∧ tsOk b = true) ∧
    (∃ (service : Nat) (v : Service) (s : State), s.net.services.find service = some v ∧ v.state = 2) ∧
    (∃ (die : Nat) (o : NandOp) (s : State) (t : State), (s.die die).running = some o ∧ o.writes = true ∧ o.kind ≠ 1 ∧ o.kind ≠ 2 ∧ s.setDie die { s.die die with running := none } = t ∧ (t.die die).state ≠ 1) ∧
    (∃ (die : Nat) (s : State), (s.die die).state = 1) ∧
    (∃ (s : State), s.mediaReady = true) ∧
    (∃ (s : State), s.mediaReady = true) ∧
    (∃ (die : Nat) (s : State), s.mediaReady = true ∧ (s.die die).state = 1) ∧
    (∃ (s : State) (t : State), s.mediaReady = true ∧ s.journalEntry.journalFlush = t) ∧
    (∃ (c : Nat) (s : State), s.nvme.selftest = some c) :=
  ⟨⟨511, ts, live, upLive, by decide +kernel, by decide +kernel, by decide +kernel, by decide +kernel⟩,
   ⟨511, 0, rtp, ts, live, upLive, by decide +kernel, by decide +kernel, by decide +kernel, by decide +kernel, by decide +kernel⟩,
   ⟨511, live, upLive, by decide +kernel, by decide +kernel⟩,
   ⟨1023, { cls := 1, kind := 4 }, { up with med := { up.med with dies := [(1023, { running := some { cls := 1, kind := 4 } })] } }, _, by decide +kernel, by decide +kernel, by decide +kernel, by decide +kernel, rfl, by decide +kernel⟩,
   ⟨1023, { up with med := { up.med with dies := [(1023, { state := 1 })] } }, by decide +kernel⟩,
   ⟨up, by decide +kernel⟩,
   ⟨up, by decide +kernel⟩,
   ⟨1023, { up with med := { up.med with dies := [(1023, { state := 1 })] } }, by decide +kernel, by decide +kernel⟩,
   ⟨up, _, by decide +kernel, rfl⟩,
   ⟨2, { up with nvme := { up.nvme with selftest := some 2 } }, by decide +kernel⟩⟩

/-- States and operands that meet the hypotheses of `NvmeIoCommandsComplete`, clause by clause. -/
theorem witness_NvmeIoCommandsComplete :
    (∃ (c : NvmeIn) (s : State) (t : State), s.nvmeTakes c true t) ∧
    (∃ (c : NvmeIn) (s : State) (t : State), s.nvmeTakes c true t) ∧
    (∃ (c : NvmeIn) (s : State) (t : State), s.nvmeTakes c true t) ∧
    (∃ (c : NvmeIn) (s : State) (t : State), s.nvmeTakes c true t) ∧
    (∃ (c : NvmeIn) (s : State) (t : State), s.nvmeTakes c true t) ∧
    (∃ (c : NvmeIn) (s : State) (t : State), s.nvmeTakes c true t) :=
  ⟨⟨ncmd 1 0 0, upNvme, _, nvmeTakes_of rfl (by decide +kernel) (by decide +kernel)⟩,
   ⟨ncmd 1 1 0, upNvme, _, nvmeTakes_of rfl (by decide +kernel) (by decide +kernel)⟩,
   ⟨ncmd 1 2 0, upNvme, _, nvmeTakes_of rfl (by decide +kernel) (by decide +kernel)⟩,
   ⟨ncmd 1 8 0, upNvme, _, nvmeTakes_of rfl (by decide +kernel) (by decide +kernel)⟩,
   ⟨ncmd 1 9 0, upNvme, _, nvmeTakes_of rfl (by decide +kernel) (by decide +kernel)⟩,
   ⟨ncmd 1 12 0, upNvme, _, nvmeTakes_of rfl (by decide +kernel) (by decide +kernel)⟩⟩

/-- States and operands that meet the hypotheses of `NvmeAdminCommandsComplete`, clause by clause. -/
theorem witness_NvmeAdminCommandsComplete :
    (∃ (c : NvmeIn) (s : State) (t : State) (u : State), s.nvmeTakes c false t ∧ t.abortNamed (bits c.cdw10 0 16) (bits c.cdw10 16 16) = some u) ∧
    (∃ (c : NvmeIn) (s : State) (t : State) (n : Namespace), s.nvmeTakes c false t ∧ c.nsid ≠ 0xFFFFFFFF ∧ t.med.sanitize = none ∧ t.space c.nsid = some n ∧ n.kind ≠ 1 ∧ (bits c.cdw10 9 3 = 1 ∨ bits c.cdw10 9 3 = 2)) ∧
    (∃ (c : NvmeIn) (s : State) (t : State), s.nvmeTakes c false t ∧ bits c.cdw10 0 3 = 2 ∧ bit (t.setting 0x45 1) 2 = true ∧ t.jobs = [] ∧ t.med.sanitize = none) ∧
    (∃ (c : NvmeIn) (s : State) (t : State), s.nvmeTakes c false t ∧ t.med.sanitize = none ∧ t.nvme.selftest = none ∧ (bits c.cdw10 0 4 = 1 ∨ bits c.cdw10 0 4 = 2)) ∧
    (∃ (c : NvmeIn) (s : State) (t : State) (b : Bytes), s.nvmeTakes c false t ∧ t.identify (bits c.cdw10 0 8) c.nsid = some b) ∧
    (∃ (c : NvmeIn) (s : State) (t : State) (b : Bytes), s.nvmeTakes c false t ∧ t.logPage (bits c.cdw10 0 8) = some b) ∧
    (∃ (c : NvmeIn) (s : State) (t : State), s.nvmeTakes c false t ∧ bits c.cdw10 0 8 = 7) ∧
    (∃ (c : NvmeIn) (s : State) (t : State), s.nvmeTakes c false t ∧ bits c.cdw10 0 8 = 2 ∧ bits c.cdw11 0 5 ≤ 4) ∧
    (∃ (c : NvmeIn) (s : State) (t : State), s.nvmeTakes c false t ∧ featureOk (bits c.cdw10 0 8) = true) ∧
    (∃ (c : NvmeIn) (s : State) (t : State), s.nvmeTakes c false t) ∧
    (∃ (c : NvmeIn) (s : State) (t : State), s.nvmeTakes c false t) ∧
    (∃ (c : NvmeIn) (s : State) (t : State), s.nvmeTakes c false t) ∧
    (∃ (c : NvmeIn) (s : State) (t : State), s.nvmeTakes c false t) :=
  ⟨⟨ncmd 0 8 (0x50000), { upNvme with nvme := { upNvme.nvme with aers := [(0, 5)] } }, _, _, nvmeTakes_of rfl (by decide +kernel) (by decide +kernel), some_of (by decide +kernel)⟩,
   ⟨ncmd 0 0x80 0x400, upNvme, _, { dataset with kind := 0, sealed := false }, nvmeTakes_of rfl (by decide +kernel) (by decide +kernel), by decide +kernel, by decide +kernel, by decide +kernel, by decide +kernel, by decide +kernel⟩,
   ⟨ncmd 0 0x84 2, upNvme, _, nvmeTakes_of rfl (by decide +kernel) (by decide +kernel), by decide +kernel, by decide +kernel, by decide +kernel, by decide +kernel⟩,
   ⟨ncmd 0 0x14 2, upNvme, _, nvmeTakes_of rfl (by decide +kernel) (by decide +kernel), by decide +kernel, by decide +kernel, by decide +kernel⟩,
   ⟨ncmd 0 6 1, upNvme, _, _, nvmeTakes_of rfl (by decide +kernel) (by decide +kernel), some_of (by decide +kernel)⟩,
   ⟨ncmd 0 2 0x81, upNvme, _, _, nvmeTakes_of rfl (by decide +kernel) (by decide +kernel), some_of (by decide +kernel)⟩,
   ⟨ncmd 0 9 7, upNvme, _, nvmeTakes_of rfl (by decide +kernel) (by decide +kernel), by decide +kernel⟩,
   ⟨ncmd 0 9 2 4, upNvme, _, nvmeTakes_of rfl (by decide +kernel) (by decide +kernel), by decide +kernel, by decide +kernel⟩,
   ⟨ncmd 0 10 0xF, upNvme, _, nvmeTakes_of rfl (by decide +kernel) (by decide +kernel), by decide +kernel⟩,
   ⟨ncmd 0 12 0, upNvme, _, nvmeTakes_of rfl (by decide +kernel) (by decide +kernel)⟩,
   ⟨ncmd 0 0x18 0, upNvme, _, nvmeTakes_of rfl (by decide +kernel) (by decide +kernel)⟩,
   ⟨ncmd 0 1 0, upNvme, _, nvmeTakes_of rfl (by decide +kernel) (by decide +kernel)⟩,
   ⟨ncmd 0 0 0, upNvme, _, nvmeTakes_of rfl (by decide +kernel) (by decide +kernel)⟩⟩

/-- States and operands that meet the hypotheses of `NvmeControllerCompletes`, clause by clause. -/
theorem witness_NvmeControllerCompletes :
    (∃ (q : Nat) (v : Nat) (k : NvmeQueue) (s : State), s.alive = true ∧ s.nvme.linkUp = true ∧ s.nvme.cqs.find q = some k ∧ v < k.size) ∧
    (∃ (q : Nat) (v : Nat) (k : NvmeQueue) (s : State), s.alive = true ∧ s.nvme.linkUp = true ∧ s.nvme.sqs.find q = some k ∧ v < k.size) ∧
    (∃ (c : NvmeIn) (s : State) (t : State), s.nvmeTakes c (c.sq != 0) t ∧ nvmeSupported (c.sq == 0) c.opcode = false) ∧
    (∃ (s : State), s.alive = true ∧ s.nvme.linkUp = true) ∧
    (∃ (s : State), s.nvme.shst = 1) ∧
    (∃ (now : Nat) (p : Nat) (s : State), (s.advance now).commitTarget = some p ∧ (s.advance now).nvme.quiet = true ∧ p ≠ 4) ∧
    (∃ (s : State) (t : State), s.nvme.exiting = true ∧ s.nvme.ps = 3 ∧ { s with nvme := { s.nvme with ps := s.nvme.lastOp, exiting := false } } = t ∧ t.ioHeld = false) :=
  ⟨⟨1, 3, { queue4 with tail := 0 }, upNvme, by decide +kernel, by decide +kernel, by decide +kernel, by decide +kernel⟩,
   ⟨1, 3, { queue4 with other := 1 }, upNvme, by decide +kernel, by decide +kernel, by decide +kernel, by decide +kernel⟩,
   ⟨ncmd 1 5 0, upNvme, _, nvmeTakes_of rfl (by decide +kernel) (by decide +kernel), by decide +kernel⟩,
   ⟨up, by decide +kernel, by decide +kernel⟩,
   ⟨{ up with nvme := { up.nvme with shst := 1 } }, by decide +kernel⟩,
   ⟨5000000000, 3, { up with nvme := { up.nvme with entering := some 3 } }, by decide +kernel, by decide +kernel, by decide +kernel⟩,
   ⟨{ up with nvme := { up.nvme with exiting := true, ps := 3 } }, _, by decide +kernel, by decide +kernel, rfl, by decide +kernel⟩⟩

/-- A state and operands that meet the hypotheses of `StepRunsFrontCommand`. -/
theorem witness_StepRunsFrontCommand :
    ∃ (s : State), s.pending = [] :=
  ⟨up, by decide +kernel⟩

/-- A state and operands that meet the hypotheses of `StepKeepsWhatIsFused`. -/
theorem witness_StepKeepsWhatIsFused :
    ∃ (c : Instr) (rest : List Instr) (s : State) (t : State), s.pending = c :: rest ∧ step s = .next t :=
  ⟨.identify (ask opIdentify), [.pwrFailAssert], { up with pending := [.identify (ask opIdentify), .pwrFailAssert] }, _, by decide +kernel, rfl⟩

/-- A state and operands that meet the hypotheses of `StepKeepsMemoryForms`. -/
theorem witness_StepKeepsMemoryForms :
    ∃ (s : State) (t : State), s.memoriesWf = true ∧ step s = .next t :=
  ⟨{ upJob with pending := [.pwrFailAssert] }, _, by decide +kernel, rfl⟩

/-- A state and operands that meet the hypotheses of `DecommissionedStays`. -/
theorem witness_DecommissionedStays :
    ∃ (s : State) (t : State), s.sec.decommissioned = true ∧ step s = .next t :=
  ⟨{ up with sec := { up.sec with decommissioned := true }, pending := [.identify (ask opIdentify)] }, _, by decide +kernel, rfl⟩

/-- States and operands that meet the hypotheses of `LoadedObjectsChangeOnlyByTheirRows`, clause by clause. -/
theorem witness_LoadedObjectsChangeOnlyByTheirRows :
    (∃ (i : Instr) (s : State) (t : State), family i ≠ .restart ∧ exec i s = .next t) ∧
    (∃ (i : Instr) (s : State) (t : State), family i ≠ .restart ∧ family i ≠ .recipes ∧ exec i s = .next t) ∧
    (∃ (x : CmdIn) (s : State) (t : State), (exec (.recipeLoad x) s = .next t ∨ exec (.recipeUnload x) s = .next t ∨ exec (.recipeReplace x) s = .next t)) ∧
    (∃ (x : CmdIn) (s : State) (t : State), (exec (.imageLoad x) s = .next t ∨ exec (.imageUnload x) s = .next t ∨ exec (.recipeReplace x) s = .next t)) ∧
    (∃ (i : Instr) (s : State) (t : State), family i ≠ .restart ∧ family i ≠ .brm ∧ family i ≠ .registers ∧ exec i s = .next t) :=
  ⟨⟨.networkSet (ask opNetworkSet), up, _, by decide +kernel, rfl⟩,
   ⟨.networkSet (ask opNetworkSet), up, _, by decide +kernel, by decide +kernel, rfl⟩,
   ⟨ask opRecipeUnload, up, _, Or.inr (Or.inl rfl)⟩,
   ⟨ask opImageUnload, up, _, Or.inr (Or.inl rfl)⟩,
   ⟨.networkSet (ask opNetworkSet), up, _, by decide +kernel, by decide +kernel, by decide +kernel, rfl⟩⟩

/-- States and operands that meet the hypotheses of `RefusedPacketsHaveNoEffect`, clause by clause. -/
theorem witness_RefusedPacketsHaveNoEffect :
    (∃ (sp : OpSpec) (x : CmdIn) (s : State) (u : State) (w : Waiter) (r : Result), s.take sp.opcode x = some (w, u) ∧ u.forwards x = false ∧ x.pkt.retry = false ∧ (u.receipt x).ready w = true ∧ (u.receipt x).checks sp x = some r) ∧
    (∃ (sp : OpSpec) (x : CmdIn) (s : State) (u : State) (w : Waiter) (r : Result), s.take sp.opcode x = some (w, u) ∧ u.forwards x = false ∧ x.pkt.retry = false ∧ (u.receipt x).ready w = true ∧ (u.receipt x).checks sp x = some r) ∧
    (∃ (sp : OpSpec) (p : Packet) (r : Result), reservedCheck sp p = some r) :=
  ⟨⟨opNetworkSet, ask opNetworkSet 5, up, _, _, targetInvalid 8, pair_of (by decide +kernel), by decide +kernel, by decide +kernel, by decide +kernel, by decide +kernel⟩,
   ⟨opNetworkSet, ask opNetworkSet 5, up, _, _, targetInvalid 8, pair_of (by decide +kernel), by decide +kernel, by decide +kernel, by decide +kernel, by decide +kernel⟩,
   ⟨opIdentify, { rsv2 := 1 }, reservedFault 2, by decide +kernel⟩⟩

/-- States and operands that meet the hypotheses of `RetriesFollowTheirRecord`, clause by clause. -/
theorem witness_RetriesFollowTheirRecord :
    (∃ (sp : OpSpec) (x : CmdIn) (s : State) (u : State) (w : Waiter) (r : Result), s.take sp.opcode x = some (w, u) ∧ u.forwards x = false ∧ x.pkt.retry = true ∧ (u.receipt x).retryOf w = .answered r) ∧
    (∃ (sp : OpSpec) (x : CmdIn) (s : State) (u : State) (v : State) (w : Waiter) (k : Nat), s.take sp.opcode x = some (w, u) ∧ u.forwards x = false ∧ x.pkt.retry = true ∧ u.receipt x = v ∧ v.retryOf w = .follow k) ∧
    (∃ (sp : OpSpec) (x : CmdIn) (s : State) (u : State) (w : Waiter), s.take sp.opcode x = some (w, u) ∧ u.forwards x = false ∧ x.pkt.retry = true ∧ (u.receipt x).retryOf w = .conflict) ∧
    (∃ (s : State) (w : Waiter) (e : CmdRecord), e ∈ s.cmd.records ∧ e.src = w.src ∧ samePacket e.opcode e.pkt w.opcode w.pkt = true) :=
  ⟨⟨opIdentify, { src := .mctp 1, pkt := { retry := true } }, { up with cmd := { up.cmd with records := [{ src := .mctp 1, opcode := 0x0101, pkt := {}, result := success }] } }, _, _, success, pair_of (by decide +kernel), by decide +kernel, by decide +kernel, by decide +kernel⟩,
   ⟨opIdentify, { src := .mctp 1, pkt := { retry := true } }, { up with cmd := { up.cmd with nextSeq := 1, arrivals := [{ src := .mctp 1, seq := 0, opcode := 0x0101, pkt := {}, status := none, post := true }] } }, _, _, _, 0, pair_of (by decide +kernel), by decide +kernel, by decide +kernel, rfl, by decide +kernel⟩,
   ⟨opIdentify, { src := .mctp 1, pkt := { retry := true } }, { up with cmd := { up.cmd with records := [{ src := .mctp 1, opcode := 0x0102, pkt := {}, result := success }] } }, _, _, pair_of (by decide +kernel), by decide +kernel, by decide +kernel, by decide +kernel⟩,
   ⟨{ up with cmd := { up.cmd with records := [{ src := .mctp 1, opcode := 0x0101, pkt := { cred := 1 }, result := success }] } }, waiter 0x0101, { src := .mctp 1, opcode := 0x0101, pkt := { cred := 1 }, result := success }, by decide +kernel, by decide +kernel, by decide +kernel⟩⟩

/-- States and operands that meet the hypotheses of `StoresTouchOnlyTheirBytes`, clause by clause. -/
theorem witness_StoresTouchOnlyTheirBytes :
    (∃ (path : Nat) (off : Nat) (v : Nat) (a : Nat) (s : State) (t : State), s.upd.window.sorted = true ∧ exec (.updWindowWrite path off v) s = .next t ∧ (a < off ∨ off + 4 ≤ a)) ∧
    (∃ (q : RmaIn) (v : Window) (k : Nat) (a : Nat) (c : Chain) (s : State) (t : State), s.mem.chains.sorted = true ∧ c.bytes.sorted = true ∧ s.rma.windows.find q.window = some v ∧ rmaCheck (some v) q = 0 ∧ exec (.rmaRequestReceive q) s = .next t ∧ s.mem.chains.find k = some c ∧ ((q.isWrite = true ∧ k = cellRef v.pool v.cell → a < v.offset + q.offset ∨ v.offset + q.offset + q.length ≤ a))) ∧
    (∃ (q : RmaIn) (s : State) (t : State), rmaCheck (s.rma.windows.find q.window) q ≠ 0 ∧ exec (.rmaRequestReceive q) s = .next t) :=
  ⟨⟨1, 4, 7, 3, up, _, by decide +kernel, rfl, by decide +kernel⟩,
   ⟨rmaIn, window1, 4, 123, chain1, upMirror [], _, by decide +kernel, by decide +kernel, by decide +kernel, by decide +kernel, rfl, by decide +kernel, by decide +kernel⟩,
   ⟨{ rmaIn with offset := 125 }, upMirror [], _, by decide +kernel, rfl⟩⟩

/-- States and operands that meet the hypotheses of `RegisterAndRingRowsFrame`, clause by clause. -/
theorem witness_RegisterAndRingRowsFrame :
    (∃ (i : Instr) (s : State) (t : State), family i = .registers ∧ exec i s = .next t) ∧
    (∃ (i : Instr) (s : State) (t : State), family i = .copies ∧ exec i s = .next t) ∧
    (∃ (i : Instr) (s : State) (t : State), family i = .rings ∧ exec i s = .next t) ∧
    (∃ (i : Instr) (s : State) (t : State), family i = .security ∧ exec i s = .next t) ∧
    (∃ (i : Instr) (s : State) (t : State), family i = .brm ∧ exec i s = .next t) :=
  ⟨⟨.registerWrite 1 4 0 false, up, _, by decide +kernel, rfl⟩,
   ⟨.snapWrite 1 8 1, up, _, by decide +kernel, rfl⟩,
   ⟨.cmdSqTailWrite 1 0 0, up, _, by decide +kernel, rfl⟩,
   ⟨.secBindStart 1 0x4000, up, _, by decide +kernel, rfl⟩,
   ⟨.brmEvalGo 1 1, up, _, by decide +kernel, rfl⟩⟩

/-- States and operands that meet the hypotheses of `DeviceRecipeJobRowsFrame`, clause by clause. -/
theorem witness_DeviceRecipeJobRowsFrame :
    (∃ (i : Instr) (s : State) (t : State), family i = .device ∧ exec i s = .next t) ∧
    (∃ (i : Instr) (s : State) (t : State), family i = .recipes ∧ exec i s = .next t) ∧
    (∃ (i : Instr) (s : State) (t : State), family i = .jobs ∧ exec i s = .next t) :=
  ⟨⟨.networkSet (ask opNetworkSet), up, _, by decide +kernel, rfl⟩,
   ⟨.recipeUnload (ask opRecipeUnload), up, _, by decide +kernel, rfl⟩,
   ⟨.jobQuery (ask opJobQuery), up, _, by decide +kernel, rfl⟩⟩

/-- States and operands that meet the hypotheses of `PoolMediaRowsFrame`, clause by clause. -/
theorem witness_PoolMediaRowsFrame :
    (∃ (i : Instr) (s : State) (t : State), family i = .pools ∧ exec i s = .next t) ∧
    (∃ (i : Instr) (s : State) (t : State), family i = .banks ∧ exec i s = .next t) ∧
    (∃ (i : Instr) (s : State) (t : State), family i = .media ∧ exec i s = .next t) :=
  ⟨⟨.poolConfig (ask opPoolConfig), up, _, by decide +kernel, rfl⟩,
   ⟨.bnkLock 1 0 1, up, _, by decide +kernel, rfl⟩,
   ⟨.nsDelete (ask opNsDelete), up, _, by decide +kernel, rfl⟩⟩

/-- States and operands that meet the hypotheses of `PowerStopTestRowsFrame`, clause by clause. -/
theorem witness_PowerStopTestRowsFrame :
    (∃ (i : Instr) (s : State) (t : State), family i = .power ∧ exec i s = .next t) ∧
    (∃ (i : Instr) (s : State) (t : State), family i = .stops ∧ exec i s = .next t) ∧
    (∃ (i : Instr) (s : State) (t : State), family i = .tests ∧ exec i s = .next t) :=
  ⟨⟨.budgetSet (ask opBudgetSet), up, _, by decide +kernel, rfl⟩,
   ⟨.pwrFailAssert, up, _, by decide +kernel, rfl⟩,
   ⟨.tileDrain (ask opTileDrain), up, _, by decide +kernel, rfl⟩⟩

/-- States and operands that meet the hypotheses of `NetworkRowsFrame`, clause by clause. -/
theorem witness_NetworkRowsFrame :
    (∃ (i : Instr) (s : State) (t : State), family i = .fabric ∧ exec i s = .next t) ∧
    (∃ (i : Instr) (s : State) (t : State), family i = .links ∧ exec i s = .next t) ∧
    (∃ (i : Instr) (s : State) (t : State), family i = .shaping ∧ exec i s = .next t) ∧
    (∃ (i : Instr) (s : State) (t : State), family i = .roce ∧ exec i s = .next t) ∧
    (∃ (i : Instr) (s : State) (t : State), family i = .remote ∧ exec i s = .next t) ∧
    (∃ (i : Instr) (s : State) (t : State), family i = .live ∧ exec i s = .next t) :=
  ⟨⟨.fabPortRetrain 1 0 1, up, _, by decide +kernel, rfl⟩,
   ⟨.linkDown 0 0 5000000000 [], up, _, by decide +kernel, rfl⟩,
   ⟨.shpGclCommit 1 0 0x10000, up, _, by decide +kernel, rfl⟩,
   ⟨.cnpReceive 3 0 5, up, _, by decide +kernel, rfl⟩,
   ⟨.rmaTimeout 0 5000000000, up, _, by decide +kernel, rfl⟩,
   ⟨.liveStreamStop 0, up, _, by decide +kernel, rfl⟩⟩

/-- States and operands that meet the hypotheses of `PlanSampleHostRowsFrame`, clause by clause. -/
theorem witness_PlanSampleHostRowsFrame :
    (∃ (i : Instr) (s : State) (t : State), family i = .plans ∧ exec i s = .next t) ∧
    (∃ (i : Instr) (s : State) (t : State), family i = .samples ∧ exec i s = .next t) ∧
    (∃ (i : Instr) (s : State) (t : State), family i = .delivery ∧ exec i s = .next t) ∧
    (∃ (i : Instr) (s : State) (t : State), family i = .nvmeIo ∧ exec i s = .next t) ∧
    (∃ (i : Instr) (s : State) (t : State), family i = .nvmeAdmin ∧ exec i s = .next t) ∧
    (∃ (i : Instr) (s : State) (t : State), family i = .host ∧ exec i s = .next t) :=
  ⟨⟨.planScanComplete 77 0 0, up, _, by decide +kernel, rfl⟩,
   ⟨.fetchReadComplete 0, up, _, by decide +kernel, rfl⟩,
   ⟨.slotWriteReady 77 0 0 0, up, _, by decide +kernel, rfl⟩,
   ⟨.nvmeFlush (ncmd 1 0 0), up, _, by decide +kernel, rfl⟩,
   ⟨.nvmeKeepAlive (ncmd 0 0x18 0), up, _, by decide +kernel, rfl⟩,
   ⟨.perstAssert, up, _, by decide +kernel, rfl⟩⟩

/-- States and operands that meet the hypotheses of `PitModeAnswersFourBlocks`, clause by clause. -/
theorem witness_PitModeAnswersFourBlocks :
    (∃ (addr : Nat) (s : State), s.sys.pit = true ∧ 0x10000 ≤ addr ∧ (addr < 0x40000 ∨ 0x80000 ≤ addr)) ∧
    (∃ (addr : Nat), (addr < 0x10000 ∨ (0x40000 ≤ addr ∧ addr < 0x80000))) :=
  ⟨⟨0x80000, { up with sys := { up.sys with pit := true } }, by decide +kernel, by decide +kernel, by decide +kernel⟩,
   ⟨0x7FFFC, by decide +kernel⟩⟩

/-- States and operands that meet the hypotheses of `RingPointersOutOfRangeFault`, clause by clause. -/
theorem witness_RingPointersOutOfRangeFault :
    (∃ (path : Nat) (ring : Nat) (v : Nat) (s : State), ring < 64 ∧ s.passes path (ringReg ring 0x18) = true ∧ (s.ring ring).en = true ∧ 2 ^ (s.ring ring).depthLog2 ≤ bits v 0 16) ∧
    (∃ (path : Nat) (ring : Nat) (v : Nat) (d : Nat) (s : State), ring < 64 ∧ s.passes path (ringReg ring 0x1C) = true ∧ (s.ring ring).en = true ∧ d = 2 ^ (s.ring ring).depthLog2 ∧ (d ≤ bits v 0 16 ∨ ((s.ring ring).cqTail + d - (s.ring ring).cqHead) % d < (bits v 0 16 + d - (s.ring ring).cqHead) % d)) :=
  ⟨⟨0, 63, 16, upRing, by decide +kernel, by decide +kernel, by decide +kernel, by decide +kernel⟩,
   ⟨0, 63, 2, 16, upRing, by decide +kernel, by decide +kernel, by decide +kernel, by decide +kernel, by decide +kernel⟩⟩

/-- States and operands that meet the hypotheses of `ClearingTheFirstSlotComesLast`, clause by clause. -/
theorem witness_ClearingTheFirstSlotComesLast :
    (∃ (x : CmdIn) (s : State) (u : State) (w : Waiter), s.takes opCredClear x w u ∧ x.pkt.f 16 1 = 1 ∧ u.sec.creds.any (fun c => c.1 != 1 && c.2.role != 3) = true) ∧
    (∃ (x : CmdIn) (s : State) (u : State) (t : State) (w : Waiter), s.takes opCredClear x w u ∧ x.pkt.f 16 1 = 1 ∧ u.sec.creds.any (fun c => c.1 != 1 && c.2.role != 3) = false ∧ u.sec.creds.sorted = true ∧ { u with sec := { u.sec.unbind 1 with creds := u.sec.creds.del 1 } } = t) :=
  ⟨⟨ask opCredClear 0 [(16, 1, 1)], up, _, _, takes_of (by decide +kernel) (by decide +kernel), by decide +kernel, by decide +kernel⟩,
   ⟨{ ask opCredClear 0 [(16, 1, 1)] with pkt := { (ask opCredClear 0 [(16, 1, 1)]).pkt with cred := 1 } }, { up with sec := { up.sec with creds := [(1, credOf 2), (3, credOf 3)], sessions := [(2, [2])] } }, _, _, _, takes_of (by decide +kernel) (by decide +kernel), by decide +kernel, by decide +kernel, by decide +kernel, rfl⟩⟩

/-- States and operands that meet the hypotheses of `RepeatedPlanCommandsJoin`, clause by clause. -/
theorem witness_RepeatedPlanCommandsJoin :
    (∃ (x : CmdIn) (s : State) (u : State) (w : Waiter) (slot : Nat) (j : Job) (p : EpochPlan), s.takes opEpochPlan x w u ∧ u.jobNamed x.pkt.jobId = some (slot, j) ∧ (x.pkt.epochAt 20 = j.epoch ∨ x.pkt.epochAt 20 = j.epoch + 1) ∧ bits (x.pkt.f 20 4) 20 12 = 0 ∧ j.plan (x.pkt.epochAt 20) = some p ∧ (p.phase = 6 ∨ p.phase = 8)) ∧
    (∃ (x : CmdIn) (s : State) (u : State) (w : Waiter) (slot : Nat) (j : Job) (p : EpochPlan), s.takes opEpochPlan x w u ∧ u.jobNamed x.pkt.jobId = some (slot, j) ∧ (x.pkt.epochAt 20 = j.epoch ∨ x.pkt.epochAt 20 = j.epoch + 1) ∧ bits (x.pkt.f 20 4) 20 12 = 0 ∧ j.plan (x.pkt.epochAt 20) = some p ∧ p.phase ≠ 6 ∧ p.phase ≠ 8 ∧ p.building = true) ∧
    (∃ (slot : Nat) (epoch : Nat) (j : Job) (p : EpochPlan) (q : EpochPlan) (s : State), s.jobs.find slot = some j ∧ j.plan epoch = some p ∧ s.planMove j p = .complete q) :=
  ⟨⟨ask opEpochPlan 0 [(16, 2, 77), (20, 4, 1)], withJob fun j => { j with plans := [plan 1 8] }, _, _, 2, { job with plans := [plan 1 8] }, plan 1 8, takes_of (by decide +kernel) (by decide +kernel), by decide +kernel, by decide +kernel, by decide +kernel, by decide +kernel, by decide +kernel⟩,
   ⟨ask opEpochPlan 0 [(16, 2, 77)], withJob fun j => { j with plans := [plan 0 5] }, _, _, 2, { job with plans := [plan 0 5] }, plan 0 5, takes_of (by decide +kernel) (by decide +kernel), by decide +kernel, by decide +kernel, by decide +kernel, by decide +kernel, by decide +kernel, by decide +kernel, by decide +kernel⟩,
   ⟨2, 0, { job with plans := [{ plan 0 5 with markers := [(0, 0)] }] }, { plan 0 5 with markers := [(0, 0)] }, _, withJob fun j => { j with plans := [{ plan 0 5 with markers := [(0, 0)] }] }, by decide +kernel, by decide +kernel, rfl⟩⟩

/-- States and operands that meet the hypotheses of `TakeoverNeedsTheJobsDl`, clause by clause. -/
theorem witness_TakeoverNeedsTheJobsDl :
    (∃ (failed : Nat) (slot : Nat) (j : Job) (s : State) (t : State), takeoverStart failed slot j s = .inr t) ∧
    (∃ (x : CmdIn) (s : State) (u : State) (w : Waiter) (slot : Nat) (j : Job) (failed : Nat), s.takes opJobTakeover x w u ∧ u.jobNamed w.pkt.jobId = some (slot, j) ∧ j.gen < w.pkt.gen ∧ bits (x.pkt.f 18 2) 0 13 = failed ∧ failed < 6144 ∧ failed ≠ u.self ∧ j.devices.contains failed = true ∧ u.sys.dl ≠ j.dl) :=
  ⟨⟨5, 2, { job with shards := [(0, 0), (1, 5)] }, upMirror cursor5, _, right_of (by decide +kernel)⟩,
   ⟨ask opJobTakeover 0 [(16, 2, 77), (18, 2, 5)] 1, { upMirror cursor5 with sys := { up.sys with dl := 8 } }, _, _, 2, { job with shards := [(0, 0), (1, 5)] }, 5, takes_of (by decide +kernel) (by decide +kernel), by decide +kernel, by decide +kernel, by decide +kernel, by decide +kernel, by decide +kernel, by decide +kernel, by decide +kernel⟩⟩

/-- States and operands that meet the hypotheses of `LowSeverityEventsUseGeneralSlots`, clause by clause. -/
theorem witness_LowSeverityEventsUseGeneralSlots :
    (∃ (ev : Event) (s : State), ev.sev < 2 ∧ s.evt.early = false ∧ s.evt.general < 8128) ∧
    (∃ (ev : Event) (s : State), ev.sev < 2 ∧ s.evt.early = false ∧ 8128 ≤ s.evt.general ∧ groupOf ev.code < s.evt.drops.length) :=
  ⟨⟨event1, up, by decide +kernel, by decide +kernel, by decide +kernel⟩,
   ⟨event1, { up with evt := { up.evt with ring := List.replicate 8128 event1 } }, by decide +kernel, by decide +kernel, by decide +kernel, by decide +kernel⟩⟩

/-- States and operands that meet the hypotheses of `UncorrectableBlockReadsFail`, clause by clause. -/
theorem witness_UncorrectableBlockReadsFail :
    (∃ (c : NvmeIn) (s : State) (t : State) (n : Namespace), s.nvmeTakes c true t ∧ t.space c.nsid = some n ∧ n.kind = 0 ∧ c.len ≤ 4194304 ∧ c.off + c.len ≤ n.capacity ∧ n.readable c.off c.len = false) ∧
    (∃ (c : NvmeIn) (s : State) (t : State) (n : Namespace), s.nvmeTakes c true t ∧ t.space c.nsid = some n ∧ n.kind = 0 ∧ c.off + c.len ≤ n.capacity ∧ n.readable c.off c.len = false) :=
  ⟨⟨{ ncmd 1 2 2 with cdw12 := 0 }, { upNvme with med := { upNvme.med with spaces := [(1, { dataset with kind := 0, bad := [2] })] } }, _, { dataset with kind := 0, bad := [2] }, nvmeTakes_of rfl (by decide +kernel) (by decide +kernel), by decide +kernel, by decide +kernel, by decide +kernel, by decide +kernel, by decide +kernel⟩,
   ⟨ncmd 1 12 2, { upNvme with med := { upNvme.med with spaces := [(1, { dataset with kind := 0, bad := [2] })] } }, _, { dataset with kind := 0, bad := [2] }, nvmeTakes_of rfl (by decide +kernel) (by decide +kernel), by decide +kernel, by decide +kernel, by decide +kernel, by decide +kernel⟩⟩

/-- States and operands that meet the hypotheses of `ShapingWritesOutOfRange`, clause by clause. -/
theorem witness_ShapingWritesOutOfRange :
    (∃ (path : Nat) (sp : Nat) (c : Nat) (v : Nat) (s : State), sp < 24 ∧ c < 16 ∧ s.passes path (shpReg sp (0x100 + 0x10 * c)) = true ∧ (if sp < 16 then 1600000 else 800000) < bits v 0 21) ∧
    (∃ (path : Nat) (sp : Nat) (c : Nat) (v : Nat) (s : State), sp < 24 ∧ c < 16 ∧ s.passes path (shpReg sp (0x108 + 0x10 * c)) = true ∧ bits v 8 8 = 0) ∧
    (∃ (o : Nat), 0x800 ≤ o ∧ o < 0x1000) :=
  ⟨⟨0, 23, 15, 800001, up, by decide +kernel, by decide +kernel, by decide +kernel, by decide +kernel⟩,
   ⟨0, 23, 15, 0, up, by decide +kernel, by decide +kernel, by decide +kernel, by decide +kernel⟩,
   ⟨0x800, by decide +kernel, by decide +kernel⟩⟩

/-- States and operands that meet the hypotheses of `CoolantFlowHoldsTheStart`, clause by clause. -/
theorem witness_CoolantFlowHoldsTheStart :
    (∃ (k : Nat) (s : State), s.pwr.flowLow = true ∧ 8 ≤ k ∧ k ≤ 10) ∧
    (∃ (s : State), s.pwr.flowLow = true ∧ s.upd.activating = none) ∧
    (∃ (s : State), s.pwr.flowLow = true) :=
  ⟨⟨10, { State.reset with pwr := { State.reset.pwr with flowLow := true } }, by decide +kernel, by decide +kernel, by decide +kernel⟩,
   ⟨{ State.reset with pwr := { State.reset.pwr with flowLow := true } }, by decide +kernel, by decide +kernel⟩,
   ⟨{ State.reset with pwr := { State.reset.pwr with flowLow := true } }, by decide +kernel⟩⟩

/-- States and operands that meet the hypotheses of `DomainsLeaveBankContents`, clause by clause. -/
theorem witness_DomainsLeaveBankContents :
    (∃ (d : Nat) (now : Nat) (work : Bool) (s : State) (t : State), exec (.domainPowerDownCommit d work now) s = .next t) ∧
    (∃ (die : Nat) (bank : Nat) (s : State) (t : State), s.mem.sram.sorted = true ∧ (s.bank die bank).next = some 0 ∧ (s.bank die bank).pending = none ∧ (s.bank die bank).test = false ∧ exec (.bankTransitionComplete die bank) s = .next t) :=
  ⟨⟨0, 5000000000, false, up, _, rfl⟩,
   ⟨0, 0, { up with mem := { up.mem with sram := [(5, 1)], banks := [(0, { state := 2, next := some 0 })] } }, _, by decide +kernel, by decide +kernel, by decide +kernel, by decide +kernel, rfl⟩⟩

end Sys2Proof.Tests
end

section
/-! SUPPORT. Footprints: the parts of the state that an operation can change, and what it means that two states
agree outside a footprint. -/

namespace Sys2Proof.Machine

/-! ## Parts and footprints -/

/-- The parts of the state, one for each field of `State`. -/
inductive Part where
  | pending | emitted | fresh | now | sys | upd | set | run | sloe | cmd | evt | sec | brm | jobs
  | recipes | models | vocabs | grammars | loads | tiles | samples | mem | cxe | rma | net | med
  | nvme | pwr | tst | counters | snaps | shadows
  deriving DecidableEq

/-- The parts that an operation may change. -/
abbrev Footprint := List Part

/-- A field's value where its part lies outside the footprint; a value that says nothing of it inside. -/
def Footprint.pick {α : Type} (F : Footprint) (p : Part) (blank x : α) : α := if p ∈ F then blank else x

/-- What the state holds outside a footprint: the parts inside it are those of `State.reset`. -/
def State.outside (F : Footprint) (s : State) : State where
  pending := F.pick .pending State.reset.pending s.pending
  emitted := F.pick .emitted State.reset.emitted s.emitted
  fresh := F.pick .fresh State.reset.fresh s.fresh
  now := F.pick .now State.reset.now s.now
  sys := F.pick .sys State.reset.sys s.sys
  upd := F.pick .upd State.reset.upd s.upd
  set := F.pick .set State.reset.set s.set
  run := F.pick .run State.reset.run s.run
  sloe := F.pick .sloe State.reset.sloe s.sloe
  cmd := F.pick .cmd State.reset.cmd s.cmd
  evt := F.pick .evt State.reset.evt s.evt
  sec := F.pick .sec State.reset.sec s.sec
  brm := F.pick .brm State.reset.brm s.brm
  jobs := F.pick .jobs State.reset.jobs s.jobs
  recipes := F.pick .recipes State.reset.recipes s.recipes
  models := F.pick .models State.reset.models s.models
  vocabs := F.pick .vocabs State.reset.vocabs s.vocabs
  grammars := F.pick .grammars State.reset.grammars s.grammars
  loads := F.pick .loads State.reset.loads s.loads
  tiles := F.pick .tiles State.reset.tiles s.tiles
  samples := F.pick .samples State.reset.samples s.samples
  mem := F.pick .mem State.reset.mem s.mem
  cxe := F.pick .cxe State.reset.cxe s.cxe
  rma := F.pick .rma State.reset.rma s.rma
  net := F.pick .net State.reset.net s.net
  med := F.pick .med State.reset.med s.med
  nvme := F.pick .nvme State.reset.nvme s.nvme
  pwr := F.pick .pwr State.reset.pwr s.pwr
  tst := F.pick .tst State.reset.tst s.tst
  counters := F.pick .counters State.reset.counters s.counters
  snaps := F.pick .snaps State.reset.snaps s.snaps
  shadows := F.pick .shadows State.reset.shadows s.shadows

theorem Footprint.pick_of_mem {α : Type} {F : Footprint} {p : Part} (h : p ∈ F) (d x : α) : F.pick p d x = d := if_pos h

theorem Footprint.pick_pick {α : Type} {F G : Footprint} (h : F ⊆ G) (p : Part) (d x : α) :
    G.pick p d (F.pick p d x) = G.pick p d x := by
  by_cases hG : p ∈ G
  · simp only [Footprint.pick_of_mem hG]
  · simp only [Footprint.pick, if_neg hG, if_neg (fun hF => hG (h hF))]

/-- What lies outside a footprint lies outside every smaller one. -/
theorem State.outside_outside {F G : Footprint} (h : F ⊆ G) (s : State) : (s.outside F).outside G = s.outside G := by
  simp only [State.outside, Footprint.pick_pick h]

/-- States that agree outside a footprint agree outside every larger one. -/
theorem State.outside_mono {F G : Footprint} {s t : State} (h : F ⊆ G) (he : t.outside F = s.outside F) : t.outside G = s.outside G := by
  rw [← State.outside_outside h t, he, State.outside_outside h]

/-- A field that lies outside a footprint is equal in states that agree outside it. -/
theorem kept {α : Type} {F : Footprint} {s t : State} (h : t.outside F = s.outside F) (get : State → α)
    (hg : ∀ u : State, get (u.outside F) = get u := by exact fun _ => rfl) : get t = get s := by
  rw [← hg t, h, hg]

theorem State.foldl_outside {α : Type} {F : Footprint} {f : State → α → State} (h : ∀ s a, (f s a).outside F = s.outside F)
    (l : List α) (s : State) : (l.foldl f s).outside F = s.outside F := by
  induction l generalizing s with
  | nil => rfl
  | cons a l ih => rw [List.foldl_cons, ih, h]

/-! ## A field updated -/

section
variable {F : Footprint} (s : State)
theorem State.outside_emitted (h : .emitted ∈ F) (x : List Output) : State.outside F { s with emitted := x } = s.outside F := by
  simp only [State.outside, Footprint.pick_of_mem h]
theorem State.outside_fresh (h : .fresh ∈ F) (x : Nat) : State.outside F { s with fresh := x } = s.outside F := by
  simp only [State.outside, Footprint.pick_of_mem h]
theorem State.outside_now (h : .now ∈ F) (x : Nat) : State.outside F { s with now := x } = s.outside F := by
  simp only [State.outside, Footprint.pick_of_mem h]
theorem State.outside_sys (h : .sys ∈ F) (x : SysBlock) : State.outside F { s with sys := x } = s.outside F := by
  simp only [State.outside, Footprint.pick_of_mem h]
theorem State.outside_upd (h : .upd ∈ F) (x : UpdBlock) : State.outside F { s with upd := x } = s.outside F := by
  simp only [State.outside, Footprint.pick_of_mem h]
theorem State.outside_sloe (h : .sloe ∈ F) (x : SloeBlock) : State.outside F { s with sloe := x } = s.outside F := by
  simp only [State.outside, Footprint.pick_of_mem h]
theorem State.outside_cmd (h : .cmd ∈ F) (x : CmdBlock) : State.outside F { s with cmd := x } = s.outside F := by
  simp only [State.outside, Footprint.pick_of_mem h]
theorem State.outside_evt (h : .evt ∈ F) (x : EvtBlock) : State.outside F { s with evt := x } = s.outside F := by
  simp only [State.outside, Footprint.pick_of_mem h]
theorem State.outside_sec (h : .sec ∈ F) (x : SecBlock) : State.outside F { s with sec := x } = s.outside F := by
  simp only [State.outside, Footprint.pick_of_mem h]
theorem State.outside_brm (h : .brm ∈ F) (x : BrmBlock) : State.outside F { s with brm := x } = s.outside F := by
  simp only [State.outside, Footprint.pick_of_mem h]
theorem State.outside_jobs (h : .jobs ∈ F) (x : CMap Job) : State.outside F { s with jobs := x } = s.outside F := by
  simp only [State.outside, Footprint.pick_of_mem h]
theorem State.outside_tiles (h : .tiles ∈ F) (x : List Tile) : State.outside F { s with tiles := x } = s.outside F := by
  simp only [State.outside, Footprint.pick_of_mem h]
theorem State.outside_mem (h : .mem ∈ F) (x : MemBlock) : State.outside F { s with mem := x } = s.outside F := by
  simp only [State.outside, Footprint.pick_of_mem h]
theorem State.outside_rma (h : .rma ∈ F) (x : RmaBlock) : State.outside F { s with rma := x } = s.outside F := by
  simp only [State.outside, Footprint.pick_of_mem h]
theorem State.outside_net (h : .net ∈ F) (x : NetBlock) : State.outside F { s with net := x } = s.outside F := by
  simp only [State.outside, Footprint.pick_of_mem h]
theorem State.outside_tst (h : .tst ∈ F) (x : TstBlock) : State.outside F { s with tst := x } = s.outside F := by
  simp only [State.outside, Footprint.pick_of_mem h]
theorem State.outside_counters (h : .counters ∈ F) (x : CMap Nat) : State.outside F { s with counters := x } = s.outside F := by
  simp only [State.outside, Footprint.pick_of_mem h]
theorem State.outside_snaps (h : .snaps ∈ F) (x : CMap (CMap Nat)) : State.outside F { s with snaps := x } = s.outside F := by
  simp only [State.outside, Footprint.pick_of_mem h]
theorem State.outside_shadows (h : .shadows ∈ F) (x : CMap Nat) : State.outside F { s with shadows := x } = s.outside F := by
  simp only [State.outside, Footprint.pick_of_mem h]
end

end Sys2Proof.Machine
end

section
/-! SUPPORT. The footprints of the operations that register writes, rings, sessions and the expression unit share:
what an operation leaves outside its footprint as it was, one lemma per operation. -/

namespace Sys2Proof.Machine

variable {F : Footprint} (s : State)

/-! ## Sending, counters, events -/

/-- What an event can change: what is sent, the event ring, the fatal latches and the counters (R524 to R536). -/
def eventParts : Footprint := [.emitted, .sloe, .evt, .counters]

theorem State.emit_outside (h : .emitted ∈ F) (o : Output) : (s.emit o).outside F = s.outside F := s.outside_emitted h _
theorem State.advance_outside (h : .now ∈ F) (t : Nat) : (s.advance t).outside F = s.outside F := s.outside_now h _
theorem State.setCounter_outside (h : .counters ∈ F) (a v : Nat) : (s.setCounter a v).outside F = s.outside F := s.outside_counters h _
theorem State.bump_outside (h : .counters ∈ F) (a n : Nat) : (s.bump a n).outside F = s.outside F := s.setCounter_outside h _ _
theorem State.bump64_outside (h : .counters ∈ F) (a n : Nat) : (s.bump64 a n).outside F = s.outside F := s.setCounter_outside h _ _

/-- A record of severity 3 rewrites the event ring and the fatal latches at once (R532). -/
theorem State.outside_sloe_evt (hl : .sloe ∈ F) (he : .evt ∈ F) (x : SloeBlock) (y : EvtBlock) :
    State.outside F { s with sloe := x, evt := y } = s.outside F :=
  (State.outside_evt { s with sloe := x } he y).trans (s.outside_sloe hl x)

theorem State.sendEvent_outside (h : eventParts ⊆ F) (ev : Event) (sub : Subscriber) : (s.sendEvent ev sub).outside F = s.outside F := by
  refine State.outside_mono h ?_
  simp (disch := decide) only [State.sendEvent, apply_ite (State.outside _), State.bump_outside, State.emit_outside, ite_self]

theorem State.sendAll_outside (h : eventParts ⊆ F) (ev : Event) : (s.sendAll ev).outside F = s.outside F :=
  State.foldl_outside (fun s sub => s.sendEvent_outside h ev sub) _ s

theorem State.eventIrq_outside (h : eventParts ⊆ F) (sev : Nat) : (s.eventIrq sev).outside F = s.outside F := by
  refine State.outside_mono h ?_
  simp (disch := decide) only [State.eventIrq, apply_ite (State.outside _), State.emit_outside, State.outside_evt, ite_self]

theorem State.writeRecord_outside (h : eventParts ⊆ F) (ev : Event) (rsv : Bool) : (s.writeRecord ev rsv).2.outside F = s.outside F := by
  refine State.outside_mono h ?_
  simp (disch := decide) only [State.writeRecord, State.sendAll_outside, State.eventIrq_outside, State.outside_evt]

theorem State.coalesce_outside (h : eventParts ⊆ F) (old : Event) : (s.coalesce old).outside F = s.outside F := by
  refine State.outside_mono h ?_
  simp (disch := decide) only [State.coalesce, apply_ite (State.outside _), State.sendAll_outside, State.outside_sloe_evt,
    ite_self]

/-- Wherever the record goes (R529, R530), only the ring, the latches and what is sent change. -/
theorem State.newRecord_outside (h : eventParts ⊆ F) (ev : Event) : (s.newRecord ev).outside F = s.outside F := by
  refine State.outside_mono h ?_
  unfold State.newRecord
  cases s.evt.place ev.sev <;>
    simp (disch := decide) only [apply_ite (State.outside _), State.writeRecord_outside,
      State.outside_sloe_evt, ite_self]

theorem State.raise_outside (h : eventParts ⊆ F) (k : EvKind) (die : Nat) (d : Bytes) : (s.raise k die d).outside F = s.outside F := by
  refine State.outside_mono h ?_
  unfold State.raise
  dsimp only
  split <;> simp (disch := decide) only [State.coalesce_outside, State.newRecord_outside, State.bump64_outside]

theorem State.regInvalid_outside (h : eventParts ⊆ F) (path addr : Nat) : (s.regInvalid path addr).outside F = s.outside F :=
  s.raise_outside h _ _ _

/-- A register write that does not reach its register raises an event at most (R24 to R26). -/
theorem State.gated_outside (h : eventParts ⊆ F) {f : State → State} (hf : ∀ s, (f s).outside F = s.outside F) (path addr : Nat) :
    (s.gated path addr f).outside F = s.outside F := by
  simp only [State.gated, apply_ite (State.outside F), s.regInvalid_outside h, hf, ite_self]

theorem State.writeEvtCtrl_outside (h : eventParts ⊆ F) (v : Nat) : (s.writeEvtCtrl v).outside F = s.outside F := by
  refine State.outside_mono h ?_
  simp (disch := decide) only [State.writeEvtCtrl, apply_ite (State.outside _), State.outside_sloe_evt, ite_self]

theorem State.writeSloe_outside (h : .sloe ∈ F) (o v : Nat) : (s.writeSloe o v).outside F = s.outside F := by
  simp only [State.writeSloe, apply_ite (State.outside _), s.outside_sloe h, ite_self]

/-! ## Snapshots and counters -/

theorem State.writeSnap_outside (h : .snaps ∈ F) (a v : Nat) : (s.writeSnap a v).outside F = s.outside F := by
  unfold State.writeSnap
  split
  · split
    · exact s.outside_snaps h _
    · rfl
  · exact s.outside_snaps h _

/-- A register read moves a shadow (R538) or clears a counter (R539). -/
theorem State.readReg_outside (h : [.counters, .shadows] ⊆ F) (path a : Nat) : (s.readReg path a).2.outside F = s.outside F := by
  have hc : .counters ∈ F := h (by decide)
  have hs : .shadows ∈ F := h (by decide)
  unfold State.readReg
  split
  · rfl
  split
  · split
    · exact s.outside_shadows hs _
    · rfl
  split
  · exact s.outside_shadows hs _
  split
  · exact s.setCounter_outside hc _ _
  · rfl

theorem State.readRow_outside (h : [.emitted, .counters, .shadows] ⊆ F) (path a : Nat) : (s.readRow path a).outside F = s.outside F := by
  refine State.outside_mono h ?_
  simp (disch := decide) only [State.readRow, apply_ite (State.outside _), State.emit_outside, State.readReg_outside, ite_self]

/-! ## Command rings and completions -/

/-- What the command block changes of itself and by its events. -/
def ringParts : Footprint := .cmd :: eventParts

theorem State.setRing_outside (h : .cmd ∈ F) (i : Nat) (r : Ring) : (s.setRing i r).outside F = s.outside F := s.outside_cmd h _
theorem State.settle_outside (h : .cmd ∈ F) (seq status : Nat) : (s.settle seq status).outside F = s.outside F := s.outside_cmd h _
theorem State.arrive_outside (h : .cmd ∈ F) (src : Source) (op : Nat) (p : Packet) : (s.arrive src op p).2.outside F = s.outside F :=
  s.outside_cmd h _

theorem State.writeRingCfg_outside (h : ringParts ⊆ F) (path i v : Nat) : (s.writeRingCfg path i v).outside F = s.outside F := by
  refine State.outside_mono h ?_
  simp (disch := decide) only [State.writeRingCfg, apply_ite (State.outside _), State.regInvalid_outside, State.setRing_outside, ite_self]

theorem State.ringFault_outside (h : ringParts ⊆ F) (i path addr : Nat) : (s.ringFault i path addr).outside F = s.outside F := by
  refine State.outside_mono h ?_
  simp (disch := decide) only [State.ringFault, State.regInvalid_outside, State.setRing_outside]

theorem State.writeSqTail_outside (h : ringParts ⊆ F) (path i v : Nat) : (s.writeSqTail path i v).outside F = s.outside F := by
  refine State.outside_mono h ?_
  simp (disch := decide) only [State.writeSqTail, apply_ite (State.outside _), State.regInvalid_outside, State.ringFault_outside,
    State.setRing_outside, ite_self]

theorem State.writeCqHead_outside (h : ringParts ⊆ F) (path i v : Nat) : (s.writeCqHead path i v).outside F = s.outside F := by
  refine State.outside_mono h ?_
  simp (disch := decide) only [State.writeCqHead, apply_ite (State.outside _), State.regInvalid_outside, State.ringFault_outside,
    State.setRing_outside, ite_self]

theorem State.writePringTail_outside (h : .jobs :: eventParts ⊆ F) (path j v : Nat) : (s.writePringTail path j v).outside F = s.outside F := by
  refine State.outside_mono h ?_
  unfold State.writePringTail
  dsimp only
  split
  · split <;> simp (disch := decide) only [apply_ite (State.outside _), State.regInvalid_outside, State.outside_jobs, ite_self]
  · exact s.regInvalid_outside (by decide) _ _

theorem State.post_outside (h : ringParts ⊆ F) (w : Waiter) (r : Result) : (s.post w r).outside F = s.outside F := by
  refine State.outside_mono h ?_
  unfold State.post
  cases w.src <;>
    simp (disch := decide) only [apply_ite (State.outside _), State.emit_outside, State.setRing_outside, ite_self]

theorem State.answer_outside (h : ringParts ⊆ F) (w : Waiter) (r : Result) : (s.answer w r).outside F = s.outside F := by
  refine State.outside_mono h ?_
  simp (disch := decide) only [State.answer, apply_ite (State.outside _), State.settle_outside, State.post_outside, State.bump_outside,
    State.bump64_outside, ite_self]

theorem State.answerFollowers_outside (h : ringParts ⊆ F) (seq : Nat) (r : Result) : (s.answerFollowers seq r).outside F = s.outside F := by
  unfold State.answerFollowers
  exact (State.foldl_outside (fun s _ => s.answer_outside h _ r) _ _).trans (s.outside_cmd (h (by decide)) _)

theorem State.complete_outside (h : ringParts ⊆ F) (w : Waiter) (r : Result) : (s.complete w r).outside F = s.outside F := by
  refine State.outside_mono h ?_
  simp (disch := decide) only [State.complete, State.answerFollowers_outside, State.answer_outside, State.outside_cmd]

/-- A fetched entry waits for its turn, or is answered at once where its opcode is none of the table's (R445). -/
theorem State.fetchEntry_outside (h : ringParts ⊆ F) (i : Nat) (entry : Bytes) : (s.fetchEntry i entry).outside F = s.outside F := by
  refine State.outside_mono h ?_
  simp (disch := decide) only [State.fetchEntry, apply_ite (State.outside _), State.complete_outside, State.outside_cmd,
    State.arrive_outside, State.setRing_outside, ite_self]

theorem State.endForwarded_outside (h : ringParts ⊆ F) (f : Forwarded) (r : Result) : (s.endForwarded f r).outside F = s.outside F := by
  refine State.outside_mono h ?_
  simp (disch := decide) only [State.endForwarded, State.answer_outside, State.outside_cmd]

/-! ## Sessions and bindings -/

/-- What a binding changes: the security block, the bits drawn for its nonce, and its events (R562). -/
def bindParts : Footprint := .fresh :: .sec :: eventParts

theorem State.draw_outside (h : .fresh ∈ F) (n : Nat) : (s.draw n).2.outside F = s.outside F := s.outside_fresh h _

theorem State.newNonce_outside (h : bindParts ⊆ F) : s.newNonce.outside F = s.outside F := by
  refine State.outside_mono h ?_
  simp (disch := decide) only [State.newNonce, State.outside_sec, State.draw_outside]

theorem State.bindGo_outside (h : bindParts ⊆ F) (sigOk : Bool) : (s.bindGo sigOk).outside F = s.outside F := by
  refine State.outside_mono h ?_
  simp (disch := decide) only [State.bindGo, apply_ite (State.outside _), State.raise_outside, State.outside_sec, ite_self]

theorem State.writeBindCtrl_outside (h : bindParts ⊆ F) (v : Nat) (sigOk : Bool) : (s.writeBindCtrl v sigOk).outside F = s.outside F := by
  refine State.outside_mono h ?_
  simp (disch := decide) only [State.writeBindCtrl, apply_ite (State.outside _), State.bindGo_outside, State.newNonce_outside,
    State.outside_sec, ite_self]

theorem State.sendForward_outside (h : [.emitted, .sec] ⊆ F) (w : Waiter) (start : Nat) : (s.sendForward w start).outside F = s.outside F := by
  refine State.outside_mono h ?_
  simp (disch := decide) only [State.sendForward, State.emit_outside, State.outside_sec]

theorem State.sendHeld_outside (h : [.emitted, .cmd, .sec] ⊆ F) (n : Nat) : (s.sendHeld n).outside F = s.outside F := by
  unfold State.sendHeld
  exact (State.foldl_outside (fun s _ => s.sendForward_outside (List.Subset.trans (by decide) h) _ n) _ _).trans
    (s.outside_cmd (h (by decide)) _)

end Sys2Proof.Machine
end

section
/-! SUPPORT. The footprints of the register writes, block by block, and of a write to any register. -/

namespace Sys2Proof.Machine

variable {F : Footprint} (s : State)

/-! ## Blocks below 0x100000: SYS, SLOE, EVT, SEC, UPD, CMD -/

theorem State.writeSys_outside (h : .sys ∈ F) (o v : Nat) : (s.writeSys o v).outside F = s.outside F := by
  simp only [State.writeSys, apply_ite (State.outside _), s.outside_sys h, ite_self]

theorem State.writeSec_outside (h : bindParts ⊆ F) (o v : Nat) (sigOk : Bool) : (s.writeSec o v sigOk).outside F = s.outside F := by
  refine State.outside_mono h ?_
  simp (disch := decide) only [State.writeSec, apply_ite (State.outside _), State.writeBindCtrl_outside, State.outside_sec, ite_self]

theorem State.writeUpd_outside (h : .upd ∈ F) (o v : Nat) : (s.writeUpd o v).outside F = s.outside F := by
  simp only [State.writeUpd, apply_ite (State.outside _), s.outside_upd h, ite_self]

theorem State.writeRing_outside (h : ringParts ⊆ F) (path i o v : Nat) : (s.writeRing path i o v).outside F = s.outside F := by
  refine State.outside_mono h ?_
  unfold State.writeRing
  split <;>
    simp (disch := decide) only [apply_ite (State.outside _), State.writeRingCfg_outside, State.writeSqTail_outside,
      State.writeCqHead_outside, State.setRing_outside, ite_self]

theorem State.writeCmd_outside (h : .jobs :: ringParts ⊆ F) (path o v : Nat) : (s.writeCmd path o v).outside F = s.outside F := by
  refine State.outside_mono h ?_
  simp (disch := decide) only [State.writeCmd, apply_ite (State.outside _), State.writeRing_outside, State.writePringTail_outside,
    State.regInvalid_outside, State.outside_cmd, ite_self]

/-- What a write below 0x100000 changes. -/
def hubParts : Footprint := .sys :: .upd :: .jobs :: .cmd :: bindParts

theorem State.writeHub_outside (h : hubParts ⊆ F) (path a v : Nat) (sigOk : Bool) : (s.writeHub path a v sigOk).outside F = s.outside F := by
  refine State.outside_mono h ?_
  simp (disch := decide) only [State.writeHub, apply_ite (State.outside _), State.writeSys_outside, State.writeSloe_outside,
    State.writeEvtCtrl_outside, State.writeSec_outside, State.writeUpd_outside, State.writeCmd_outside, ite_self]

/-! ## Blocks from 0x100000: banks, pools, the expression unit, tiles -/

/-- What the bank registers change: the memories and their events. -/
def bankParts : Footprint := .mem :: eventParts

theorem State.setBank_outside (h : .mem ∈ F) (die b : Nat) (k : Bank) : (s.setBank die b k).outside F = s.outside F := s.outside_mem h _
theorem State.beginHandover_outside (h : .mem ∈ F) (die b owner : Nat) (zero : Bool) :
    (s.beginHandover die b owner zero).outside F = s.outside F := s.setBank_outside h _ _ _
theorem State.beginBankMove_outside (h : .mem ∈ F) (die b st : Nat) : (s.beginBankMove die b st).outside F = s.outside F :=
  s.setBank_outside h _ _ _

theorem State.writeBnkOwn_outside (h : bankParts ⊆ F) (path die b v : Nat) : (s.writeBnkOwn path die b v).outside F = s.outside F := by
  refine State.outside_mono h ?_
  simp (disch := decide) only [State.writeBnkOwn, apply_ite (State.outside _), State.regInvalid_outside, State.beginHandover_outside, ite_self]

theorem State.writeBnkState_outside (h : bankParts ⊆ F) (path die b v : Nat) : (s.writeBnkState path die b v).outside F = s.outside F := by
  refine State.outside_mono h ?_
  simp (disch := decide) only [State.writeBnkState, apply_ite (State.outside _), State.regInvalid_outside, State.beginBankMove_outside,
    State.setBank_outside, ite_self]

theorem State.writeBnk_outside (h : bankParts ⊆ F) (path die o v : Nat) : (s.writeBnk path die o v).outside F = s.outside F := by
  refine State.outside_mono h ?_
  simp (disch := decide) only [State.writeBnk, apply_ite (State.outside _), State.writeBnkOwn_outside, State.writeBnkState_outside,
    State.outside_mem, ite_self]

theorem State.startAudit_outside (h : .mem ∈ F) (kind : Nat) (w : Option Waiter) (r : Result) :
    (s.startAudit kind w r).outside F = s.outside F := s.outside_mem h _

theorem State.auditGo_outside (h : .mem ∈ F) (v : Nat) : (s.auditGo v).outside F = s.outside F := by
  simp only [State.auditGo, apply_ite (State.outside _), s.startAudit_outside h, ite_self]

theorem State.setBrm_outside (h : .brm ∈ F) (b : BrmBlock) : (s.setBrm b).outside F = s.outside F := s.outside_brm h _

theorem State.updTile_outside (h : .tiles ∈ F) (n : Nat) (f : Tile → Tile) : (s.updTile n f).outside F = s.outside F := s.outside_tiles h _
theorem State.beginDrain_outside (h : .tiles ∈ F) (n : Nat) : (s.beginDrain n).outside F = s.outside F := s.updTile_outside h _ _
theorem State.rejoin_outside (h : .tiles ∈ F) (n : Nat) : (s.rejoin n).outside F = s.outside F := by
  simp only [State.rejoin, apply_ite (State.outside _), s.updTile_outside h, ite_self]

theorem State.writeTschCtrl_outside (h : .tiles :: eventParts ⊆ F) (path n v : Nat) : (s.writeTschCtrl path n v).outside F = s.outside F := by
  refine State.outside_mono h ?_
  simp (disch := decide) only [State.writeTschCtrl, apply_ite (State.outside _), State.regInvalid_outside, State.rejoin_outside,
    State.beginDrain_outside, ite_self]

/-- What a write from 0x100000 to 0x7FFFFF changes. -/
def midParts : Footprint := .brm :: .tiles :: bankParts

theorem State.writeMid_outside (h : midParts ⊆ F) (path a v : Nat) : (s.writeMid path a v).outside F = s.outside F := by
  refine State.outside_mono h ?_
  simp (disch := decide) only [State.writeMid, apply_ite (State.outside _), State.writeBnk_outside, State.auditGo_outside,
    State.setBrm_outside, State.writeTschCtrl_outside, ite_self]

/-! ## Blocks from 0x800000: remote memory, the fabric, Ethernet, shaping, tests -/

/-- What the network's registers change: ports, shapers and what they send, with their counters and events. -/
def netParts : Footprint := .net :: eventParts

theorem State.writeRma_outside (h : .rma :: eventParts ⊆ F) (path o v : Nat) : (s.writeRma path o v).outside F = s.outside F := by
  refine State.outside_mono h ?_
  unfold State.writeRma
  split <;> simp (disch := decide) only [apply_ite (State.outside _), State.regInvalid_outside, State.outside_rma, ite_self]

theorem State.updPort_outside (h : .net ∈ F) (f : Nat) (g : FabPort → FabPort) : (s.updPort f g).outside F = s.outside F := s.outside_net h _
theorem State.setShaper_outside (h : .net ∈ F) (sp : Nat) (k : Shaper) : (s.setShaper sp k).outside F = s.outside F := s.outside_net h _

theorem State.sendFrame_outside (h : netParts ⊆ F) (sp : Nat) (f : Frame) : (s.sendFrame sp f).outside F = s.outside F := by
  refine State.outside_mono h ?_
  simp (disch := decide) only [State.sendFrame, apply_ite (State.outside _), State.updPort_outside, State.bump64_outside,
    State.emit_outside, ite_self]

theorem State.drain_outside (h : netParts ⊆ F) (sp fuel : Nat) : (State.drain sp fuel s).outside F = s.outside F := by
  induction fuel generalizing s with
  | zero => rfl
  | succ fuel ih =>
    unfold State.drain
    dsimp only
    split
    · rw [ih, State.sendFrame_outside _ h, s.setShaper_outside (h (by decide))]
    · rfl

theorem State.serve_outside (h : netParts ⊆ F) (sp : Nat) : (s.serve sp).outside F = s.outside F := s.drain_outside h _ _

theorem State.queueFrame_outside (h : netParts ⊆ F) (sp : Nat) (f : Frame) : (s.queueFrame sp f).outside F = s.outside F := by
  refine State.outside_mono h ?_
  simp (disch := decide) only [State.queueFrame, State.serve_outside, State.setShaper_outside]

/-- A port that stops hands its frames to the other port of its pair, where there is one. -/
theorem State.reroute_outside (h : netParts ⊆ F) (f : Nat) : (s.reroute f).outside F = s.outside F := by
  refine State.outside_mono h ?_
  unfold State.reroute
  split
  · rfl
  · refine (State.foldl_outside (fun s _ => s.queueFrame_outside (by decide) _ _) _ _).trans ?_
    simp (disch := decide) only [State.updPort_outside, State.setShaper_outside]

theorem State.portStops_outside (h : netParts ⊆ F) (f st : Nat) : (s.portStops f st).outside F = s.outside F := by
  refine State.outside_mono h ?_
  simp (disch := decide) only [State.portStops, apply_ite (State.outside _), State.raise_outside, State.updPort_outside,
    State.reroute_outside, ite_self]

theorem State.servicePort_outside (h : netParts ⊆ F) (f c : Nat) : (s.servicePort f c).outside F = s.outside F := by
  refine State.outside_mono h ?_
  simp (disch := decide) only [State.servicePort, State.updPort_outside, State.portStops_outside]

theorem State.serviceLane_outside (h : netParts ⊆ F) (f lane : Nat) : (s.serviceLane f lane).outside F = s.outside F := by
  refine State.outside_mono h ?_
  simp (disch := decide) only [State.serviceLane, apply_ite (State.outside _), State.servicePort_outside, State.updPort_outside, ite_self]

theorem State.writePortCtrl_outside (h : netParts ⊆ F) (path f v : Nat) : (s.writePortCtrl path f v).outside F = s.outside F := by
  refine State.outside_mono h ?_
  simp (disch := decide) only [State.writePortCtrl, apply_ite (State.outside _), State.regInvalid_outside, State.servicePort_outside,
    State.serviceLane_outside, State.updPort_outside, ite_self]

theorem State.writeFab_outside (h : netParts ⊆ F) (path d o v : Nat) : (s.writeFab path d o v).outside F = s.outside F := by
  refine State.outside_mono h ?_
  unfold State.writeFab
  split
  · simp (disch := decide) only [apply_ite (State.outside _), State.writePortCtrl_outside, ite_self]
  split
  · split
    · exact s.outside_net (by decide) _
    · exact s.regInvalid_outside (by decide) _ _
  · rfl

theorem State.writeEth_outside (h : .net ∈ F) (o v : Nat) : (s.writeEth o v).outside F = s.outside F := by
  simp only [State.writeEth, apply_ite (State.outside _), s.outside_net h, ite_self]

theorem State.commitGates_outside (h : netParts ⊆ F) (sp : Nat) : (s.commitGates sp).outside F = s.outside F := by
  refine State.outside_mono h ?_
  simp (disch := decide) only [State.commitGates, apply_ite (State.outside _), State.raise_outside, State.setShaper_outside, ite_self]

theorem State.writeGclCtrl_outside (h : netParts ⊆ F) (sp v : Nat) : (s.writeGclCtrl sp v).outside F = s.outside F := by
  refine State.outside_mono h ?_
  simp (disch := decide) only [State.writeGclCtrl, apply_ite (State.outside _), State.commitGates_outside, State.setShaper_outside, ite_self]

theorem State.writeShp_outside (h : netParts ⊆ F) (path sp o v : Nat) : (s.writeShp path sp o v).outside F = s.outside F := by
  refine State.outside_mono h ?_
  unfold State.writeShp
  dsimp only
  split
  · exact s.writeGclCtrl_outside (by decide) _ _
  split
  · split
    · exact s.setShaper_outside (by decide) _ _
    · exact s.regInvalid_outside (by decide) _ _
  · simp (disch := decide) only [State.serve_outside, State.setShaper_outside]

/-- What a write from 0x800000 changes. -/
def highParts : Footprint := .rma :: .tst :: netParts

theorem State.writeHigh_outside (h : highParts ⊆ F) (path a v : Nat) : (s.writeHigh path a v).outside F = s.outside F := by
  refine State.outside_mono h ?_
  simp (disch := decide) only [State.writeHigh, apply_ite (State.outside _), State.writeRma_outside, State.writeFab_outside,
    State.writeEth_outside, State.writeShp_outside, State.outside_tst, ite_self]

/-! ## A write to any register -/

/-- What a register write can change: the blocks that have registers to write, and the snapshots. -/
def writeParts : Footprint := .snaps :: hubParts ++ midParts ++ highParts

theorem State.writeReg_outside (h : writeParts ⊆ F) (path a v : Nat) (sigOk : Bool) : (s.writeReg path a v sigOk).outside F = s.outside F := by
  refine State.outside_mono h (s.gated_outside (by decide) (fun s => ?_) _ _)
  simp (disch := decide) only [apply_ite (State.outside _), State.writeSnap_outside, State.writeHub_outside, State.writeMid_outside,
    State.writeHigh_outside, ite_self]

theorem State.mctpRefused_outside (h : eventParts ⊆ F) (off v : Nat) : (s.mctpRefused off v).outside F = s.outside F :=
  (State.emit_outside _ (h (by decide)) _).trans (s.regInvalid_outside h _ _)

end Sys2Proof.Machine
end

section
/-! SUPPORT. The frames of the register, ring, security and expression rows: the footprint of each family, and what lies
outside it. -/

namespace Sys2Proof.Machine

variable {i : Instr} {s t : State}

/-! ## The footprint of each family -/

/-- What the rows of registers change: a write's parts, and the shadows that a read over MCTP moves (R9, R538). -/
def registerRowParts : Footprint := .shadows :: writeParts
/-- What the rows of snapshots and counter reads change (R538, R539). -/
def copyRowParts : Footprint := .snaps :: .shadows :: eventParts
/-- What the rows of rings and forwarded packets change; a write of a parameter ring's tail changes its job (R445). -/
def ringRowParts : Footprint := .now :: .jobs :: ringParts
/-- What the rows of sessions, bindings and event signals change; a write of the update window changes it (R562). -/
def securityRowParts : Footprint := .now :: .upd :: .cmd :: bindParts
/-- What the rows of the expression unit change (R94). -/
def brmRowParts : Footprint := .brm :: eventParts

/-- A row of the register family leaves every part outside its footprint as it was. -/
theorem exec_outside_of_registers (hi : family i = .registers) (he : exec i s = .next t) :
    t.outside registerRowParts = s.outside registerRowParts := by
  cases i
  case registerWrite path addr v sigOk =>
    obtain rfl := Host.Outcome.next.inj he
    simp (disch := decide) only [apply_ite (State.outside _), State.writeReg_outside, ite_self]
  case mctpRegisterWrite eid off v sigOk =>
    obtain rfl := Host.Outcome.next.inj he
    simp (disch := decide) only [apply_ite (State.outside _), State.writeReg_outside, State.mctpRefused_outside, State.emit_outside, ite_self]
  case mctpRegisterRead eid kind off =>
    obtain rfl := Host.Outcome.next.inj he
    simp (disch := decide) only [apply_ite (State.outside _), State.readReg_outside, State.mctpRefused_outside, State.regInvalid_outside,
      State.emit_outside, ite_self]
  all_goals exact nomatch hi

/-- A row of the copies family leaves every part outside its footprint as it was. -/
theorem exec_outside_of_copies (hi : family i = .copies) (he : exec i s = .next t) :
    t.outside copyRowParts = s.outside copyRowParts := by
  cases i
  case snapWrite path addr v =>
    obtain rfl := Host.Outcome.next.inj he
    rw [apply_ite (State.outside _), s.gated_outside (by decide) (fun s => s.writeSnap_outside (by decide) _ _), ite_self]
  case counterPairLoRead path addr =>
    obtain rfl := Host.Outcome.next.inj he
    simp (disch := decide) only [apply_ite (State.outside _), State.readRow_outside, ite_self]
  case counterPairHiRead path addr =>
    obtain rfl := Host.Outcome.next.inj he
    simp (disch := decide) only [apply_ite (State.outside _), State.readRow_outside, ite_self]
  case rcCounterRead path addr =>
    obtain rfl := Host.Outcome.next.inj he
    simp (disch := decide) only [apply_ite (State.outside _), State.readRow_outside, ite_self]
  case invalidRegisterAccess path addr size write =>
    obtain rfl := Host.Outcome.next.inj he
    simp (disch := decide) only [apply_ite (State.outside _), State.regInvalid_outside, State.emit_outside, ite_self]
  all_goals exact nomatch hi

/-- A row of the rings family leaves every part outside its footprint as it was. -/
theorem exec_outside_of_rings (hi : family i = .rings) (he : exec i s = .next t) :
    t.outside ringRowParts = s.outside ringRowParts := by
  cases i
  case cmdSqTailWrite path ring v =>
    obtain rfl := Host.Outcome.next.inj he
    rw [apply_ite (State.outside _), s.gated_outside (by decide) (fun s => s.writeSqTail_outside (by decide) _ _ _), ite_self]
  case ringEntryFetch ring entry =>
    obtain rfl := Host.Outcome.next.inj he
    rw [apply_ite (State.outside _), s.fetchEntry_outside (by decide), ite_self]
  case cmdCqHeadWrite path ring v =>
    obtain rfl := Host.Outcome.next.inj he
    rw [apply_ite (State.outside _), s.gated_outside (by decide) (fun s => s.writeCqHead_outside (by decide) _ _ _), ite_self]
  case cmdRingCfgWrite path ring v =>
    obtain rfl := Host.Outcome.next.inj he
    rw [apply_ite (State.outside _), s.gated_outside (by decide) (fun s => s.writeRingCfg_outside (by decide) _ _ _), ite_self]
  case cmdPringTailWrite path j v =>
    obtain rfl := Host.Outcome.next.inj he
    rw [apply_ite (State.outside _), s.gated_outside (by decide) (fun s => s.writePringTail_outside (by decide) _ _ _), ite_self]
  case forwardReceipt seq =>
    obtain rfl := Host.Outcome.next.inj he
    exact s.outside_cmd (by decide) _
  case forwardedCompletion seq r =>
    obtain rfl := Host.Outcome.next.inj he
    split
    · rw [apply_ite (State.outside _), s.endForwarded_outside (by decide), ite_self]
    · rfl
  case fabTimeout seq now =>
    obtain rfl := Host.Outcome.next.inj he
    split <;> simp (disch := decide) only [apply_ite (State.outside _), State.endForwarded_outside, State.advance_outside, ite_self]
  case fabUnreachable seq now =>
    obtain rfl := Host.Outcome.next.inj he
    split <;> simp (disch := decide) only [apply_ite (State.outside _), State.endForwarded_outside, State.advance_outside, ite_self]
  all_goals exact nomatch hi

/-- A row of the security family leaves every part outside its footprint as it was. -/
theorem exec_outside_of_security (hi : family i = .security) (he : exec i s = .next t) :
    t.outside securityRowParts = s.outside securityRowParts := by
  cases i
  case spdmRequest eid code arg leaf ok =>
    obtain rfl := Host.Outcome.next.inj he
    split
    · rfl
    split <;> simp (disch := decide) only [apply_ite (State.outside _), State.emit_outside, State.outside_sec, ite_self]
  case secBindStart path v =>
    obtain rfl := Host.Outcome.next.inj he
    exact s.gated_outside (by decide) (fun s => s.writeBindCtrl_outside (by decide) _ _) _ _
  case secBindGo path v sigOk =>
    obtain rfl := Host.Outcome.next.inj he
    exact s.gated_outside (by decide) (fun s => s.writeBindCtrl_outside (by decide) _ _) _ _
  case credentialExpiry slot now =>
    obtain rfl := Host.Outcome.next.inj he
    dsimp only
    split <;>
      simp (disch := decide) only [apply_ite (State.outside _), State.raise_outside, State.outside_sec, State.advance_outside, ite_self]
  case firstTimeLock now =>
    obtain rfl := Host.Outcome.next.inj he
    dsimp only
    split
    · exact s.advance_outside (by decide) _
    split <;> simp (disch := decide) only [State.sendHeld_outside, State.outside_sec, State.advance_outside]
  case evtFatalClear path v =>
    obtain rfl := Host.Outcome.next.inj he
    rw [apply_ite (State.outside _), s.gated_outside (by decide) (fun s => s.writeEvtCtrl_outside (by decide) _), ite_self]
  case eventIrqHoldoffExpiry now =>
    obtain rfl := Host.Outcome.next.inj he
    simp (disch := decide) only [apply_ite (State.outside _), State.emit_outside, State.outside_evt, State.advance_outside, ite_self]
  case updWindowWrite path off v =>
    obtain rfl := Host.Outcome.next.inj he
    rw [apply_ite (State.outside _), s.gated_outside (by decide) (fun s => s.outside_upd (by decide) _), ite_self]
  all_goals exact nomatch hi

/-- A row of the expression unit leaves every part outside its footprint as it was. -/
theorem exec_outside_of_brm (hi : family i = .brm) (he : exec i s = .next t) : t.outside brmRowParts = s.outside brmRowParts := by
  cases i
  case brmEvalGo path v =>
    obtain rfl := Host.Outcome.next.inj he
    exact s.gated_outside (by decide) (fun s => s.setBrm_outside (by decide) _) _ _
  case brmEvalDone =>
    obtain rfl := Host.Outcome.next.inj he
    split
    · rfl
    split <;> simp (disch := decide) only [State.bump64_outside, State.setBrm_outside]
  all_goals exact nomatch hi

/-- Settles O44: each family has a footprint, and the parts that its clause names lie outside it. -/
theorem registerAndRingRowsFrame : Obligations.RegisterAndRingRowsFrame := by
  unfold Obligations.RegisterAndRingRowsFrame
  refine ⟨fun i s t hi he => ?_, fun i s t hi he => ?_, fun i s t hi he => ?_, fun i s t hi he => ?_, fun i s t hi he => ?_⟩
  · have h := exec_outside_of_registers hi he
    exact ⟨kept h State.now, kept h State.set, kept h State.run, kept h State.recipes, kept h State.models,
      kept h State.vocabs, kept h State.grammars, kept h State.loads, kept h State.samples, kept h State.cxe,
      kept h State.med, kept h State.nvme, kept h State.pwr, kept h State.pending⟩
  · have h := exec_outside_of_copies hi he
    exact ⟨kept h State.fresh, kept h State.now, kept h State.sys, kept h State.upd, kept h State.set,
      kept h State.run, kept h State.cmd, kept h State.sec, kept h State.brm, kept h State.jobs,
      kept h State.recipes, kept h State.models, kept h State.vocabs, kept h State.grammars, kept h State.loads,
      kept h State.tiles, kept h State.samples, kept h State.mem, kept h State.cxe, kept h State.rma,
      kept h State.net, kept h State.med, kept h State.nvme, kept h State.pwr, kept h State.tst,
      kept h State.pending⟩
  · have h := exec_outside_of_rings hi he
    exact ⟨kept h State.fresh, kept h State.sys, kept h State.upd, kept h State.set, kept h State.run,
      kept h State.sec, kept h State.brm, kept h State.recipes, kept h State.models, kept h State.vocabs,
      kept h State.grammars, kept h State.loads, kept h State.tiles, kept h State.samples, kept h State.mem,
      kept h State.cxe, kept h State.rma, kept h State.net, kept h State.med, kept h State.nvme,
      kept h State.pwr, kept h State.tst, kept h State.snaps, kept h State.shadows, kept h State.pending⟩
  · have h := exec_outside_of_security hi he
    exact ⟨kept h State.sys, kept h State.set, kept h State.run, kept h State.brm, kept h State.jobs,
      kept h State.recipes, kept h State.models, kept h State.vocabs, kept h State.grammars, kept h State.loads,
      kept h State.tiles, kept h State.samples, kept h State.mem, kept h State.cxe, kept h State.rma,
      kept h State.net, kept h State.med, kept h State.nvme, kept h State.pwr, kept h State.tst,
      kept h State.snaps, kept h State.shadows, kept h State.pending⟩
  · have h := exec_outside_of_brm hi he
    exact ⟨kept h State.fresh, kept h State.now, kept h State.sys, kept h State.upd, kept h State.set,
      kept h State.run, kept h State.cmd, kept h State.sec, kept h State.jobs, kept h State.recipes,
      kept h State.models, kept h State.vocabs, kept h State.grammars, kept h State.loads, kept h State.tiles,
      kept h State.samples, kept h State.mem, kept h State.cxe, kept h State.rma, kept h State.net,
      kept h State.med, kept h State.nvme, kept h State.pwr, kept h State.tst, kept h State.snaps,
      kept h State.shadows, kept h State.pending⟩

end Sys2Proof.Machine
end

section
/-! SUPPORT. Pit mode at the registers (R24 to R26): which offsets are those of the four blocks that respond, and what a
write and a read of any other offset do. -/

namespace Sys2Proof.Machine

variable {s : State} {addr : Nat}

/-- The four blocks are SYS below 0x10000, and EVT, SEC and UPD from 0x40000 to 0x7FFFF. -/
theorem pitBlock_iff : pitBlock addr = true ↔ addr < 0x10000 ∨ (0x40000 ≤ addr ∧ addr < 0x80000) := by
  simp [pitBlock]

/-- An offset outside the four blocks lies from 0x10000 up and not among EVT, SEC and UPD. -/
theorem pitBlock_eq_false (hlo : 0x10000 ≤ addr) (hhi : addr < 0x40000 ∨ 0x80000 ≤ addr) : pitBlock addr = false := by
  rw [Bool.eq_false_iff, ne_eq, pitBlock_iff]
  omega

/-- The four blocks respond wherever they are powered, in Pit mode or not. -/
theorem State.responds_of_pitBlock (hb : pitBlock addr = true) : s.responds addr = s.powered addr := by
  simp [State.responds, hb]

theorem State.responds_of_pit (hp : s.sys.pit = true) (hb : pitBlock addr = false) : s.responds addr = false := by
  simp [State.responds, hp, hb]

/-- A read of an offset that does not respond answers 0 and moves no shadow and no counter (R24). -/
theorem State.readReg_of_not_responds (hr : s.responds addr = false) (path : Nat) : s.readReg path addr = (0, s) := by
  simp [State.readReg, hr]

/-- In Pit mode a write outside the four blocks is dropped before power is judged, so without an event (log 41). -/
theorem State.gated_of_pit (hp : s.sys.pit = true) (hb : pitBlock addr = false) (path : Nat) (f : State → State) :
    s.gated path addr f = s := by
  simp [State.gated, hp, hb]

theorem exec_registerWrite_of_pit (hp : s.sys.pit = true) (hb : pitBlock addr = false) (path v : Nat) (sigOk : Bool) :
    exec (.registerWrite path addr v sigOk) s = .next s := by
  have hw : s.writeReg path addr (bits v 0 32) sigOk = s := State.gated_of_pit hp hb path _
  show Host.Outcome.next (if addr % 4 = 0 then s.writeReg path addr (bits v 0 32) sigOk else s) = .next s
  rw [hw, ite_self]

/-- Settles O50: outside the four blocks neither gate lets an access through; at them Pit mode changes nothing. -/
theorem pitModeAnswersFourBlocks : Obligations.PitModeAnswersFourBlocks := by
  unfold Obligations.PitModeAnswersFourBlocks
  refine ⟨fun path addr v sigOk s hp hlo hhi => ?_, fun addr s ha => State.responds_of_pitBlock (pitBlock_iff.2 ha)⟩
  have hb := pitBlock_eq_false hlo hhi
  exact ⟨exec_registerWrite_of_pit hp hb path v sigOk, State.readReg_of_not_responds (State.responds_of_pit hp hb) path⟩

end Sys2Proof.Machine
end

section
/-! SUPPORT. The banks of SRAM when domains and banks turn off (R28): a domain's power-down keeps every byte, and, where
the table of banks is sorted, every bank's state; a bank that reaches OFF reads 0 and no other byte changes. The table has
to be sorted: of a bank that it lists twice the second entry shows when the first is removed. -/

namespace Sys2Proof.Machine

/-! ## Sorted tables -/

/-- In a sorted table, a filter by key hides the keys it rejects and leaves the others. -/
theorem CMap.find_filter_key {α : Type} {m : CMap α} (h : m.sorted = true) (g : Nat → Bool) (i : Nat) :
    CMap.find (m.filter fun p => g p.1) i = if g i then m.find i else none := by
  induction m with
  | nil => simp [CMap.find]
  | cons p m ih =>
    obtain ⟨j, w⟩ := p
    obtain ⟨ha, hs⟩ := CMap.sorted_cons.1 h
    rw [List.filter_cons]
    by_cases hij : j = i
    · subst hij
      by_cases hg : g j
      · simp [hg, CMap.find]
      · simp [hg, ih hs]
    · by_cases hl : i < j
      · have hm : CMap.find m i = none := CMap.find_of_above fun q hq => Nat.lt_trans hl (ha q hq)
        by_cases hg : g j <;> simp [hg, CMap.find, hij, hl, ih hs, hm]
      · by_cases hg : g j <;> simp [hg, CMap.find, hij, hl, ih hs]

theorem CMap.sorted_set {α : Type} [DecidableEq α] {d : α} {m : CMap α} (h : m.sorted = true) (k : Nat) (v : α) :
    (m.set d k v).sorted = true := by
  unfold CMap.set
  split
  · exact CMap.sorted_del h k
  · exact CMap.sorted_put h k v

/-! ## Banks that turn OFF -/

/-- A cleared bank reads 0; a byte of another bank reads as before. -/
theorem State.clearBank_sram_get {s : State} (h : s.mem.sram.sorted = true) (die b a : Nat) :
    (s.clearBank die b).mem.sram.get 0 a
      = if a / 2 ^ 27 = die ∧ bankOfAddr (a % 2 ^ 27) = b then 0 else s.mem.sram.get 0 a := by
  have hf : (s.clearBank die b).mem.sram.find a
      = if (a / 2 ^ 27 != die || bankOfAddr (a % 2 ^ 27) != b) then s.mem.sram.find a else none :=
    CMap.find_filter_key h (fun k => k / 2 ^ 27 != die || bankOfAddr (k % 2 ^ 27) != b) a
  rw [CMap.get, hf]
  by_cases hin : a / 2 ^ 27 = die ∧ bankOfAddr (a % 2 ^ 27) = b
  · obtain ⟨hd, hb⟩ := hin
    simp only [hd, hb, bne_self_eq_false, Bool.or_false, Bool.false_eq_true, if_false, and_self, if_true, Option.getD_none]
  · have hout : (a / 2 ^ 27 != die || bankOfAddr (a % 2 ^ 27) != b) = true := by
      rwa [Bool.or_eq_true, bne_iff_ne, bne_iff_ne, ← Decidable.not_and_iff_not_or_not]
    rw [if_pos hout, if_neg hin, CMap.get]

/-- A bank that reaches OFF loses its content, and no byte of another bank changes (R28, Table 10-2). -/
theorem bankTransitionComplete_off_sram {die b : Nat} {s t : State} (hs : s.mem.sram.sorted = true)
    (hn : (s.bank die b).next = some 0) (hp : (s.bank die b).pending = none) (ht : (s.bank die b).test = false)
    (he : exec (.bankTransitionComplete die b) s = .next t) (a : Nat) :
    t.mem.sram.get 0 a = if a / 2 ^ 27 = die ∧ bankOfAddr (a % 2 ^ 27) = b then 0 else s.mem.sram.get 0 a := by
  have hm : s.endBankMove die b = (s.clearBank die b).setBank die b { s.bank die b with state := 0, next := none } := by
    simp [State.endBankMove, hn, hp, ht]
  obtain rfl : s.endBankMove die b = t := Host.Outcome.next.inj he
  rw [hm]
  exact State.clearBank_sram_get hs die b a

/-! ## What keeps the banks -/

/-- From `s` to `t` no byte of bank memory changes, and, the table of banks being sorted, no bank's state. -/
structure KeepsBanks (s t : State) : Prop where
  sram : t.mem.sram = s.mem.sram
  sorted : s.mem.banks.sorted = true → t.mem.banks.sorted = true
  state : s.mem.banks.sorted = true → ∀ die b, (t.bank die b).state = (s.bank die b).state

theorem KeepsBanks.of_eq {s t : State} (hm : t.mem.sram = s.mem.sram) (hb : t.mem.banks = s.mem.banks) : KeepsBanks s t :=
  ⟨hm, fun h => hb ▸ h, fun _ die b => by rw [State.bank, hb, State.bank]⟩

theorem KeepsBanks.of_mem {s t : State} (h : t.mem = s.mem) : KeepsBanks s t := .of_eq (by rw [h]) (by rw [h])

theorem KeepsBanks.refl (s : State) : KeepsBanks s s := .of_mem rfl

theorem KeepsBanks.trans {s t u : State} (h : KeepsBanks s t) (k : KeepsBanks t u) : KeepsBanks s u :=
  ⟨k.sram.trans h.sram, fun hs => k.sorted (h.sorted hs), fun hs die b => (k.state (h.sorted hs) die b).trans (h.state hs die b)⟩

theorem KeepsBanks.ite {c : Prop} [Decidable c] {s t u : State} (h : KeepsBanks s t) (k : KeepsBanks s u) :
    KeepsBanks s (if c then t else u) := by
  split
  · exact h
  · exact k

theorem KeepsBanks.foldl {α : Type} {f : State → α → State} {l : List α} {s t : State} (h : KeepsBanks s t)
    (hf : ∀ u a, KeepsBanks u (f u a)) : KeepsBanks s (l.foldl f t) := by
  induction l generalizing t with
  | nil => exact h
  | cons a l ih => exact ih (h.trans (hf t a))

theorem KeepsBanks.setPool {s t : State} (h : KeepsBanks s t) (p : Nat) (q : Pool) : KeepsBanks s (t.setPool p q) :=
  h.trans (.of_eq rfl rfl)

/-- An event, raised or not, changes nothing of the memories. -/
theorem KeepsBanks.raise_if {c : Prop} [Decidable c] {s t : State} (h : KeepsBanks s t) (k : EvKind) (die : Nat) (d : Bytes) :
    KeepsBanks s (if c then t.raise k die d else t) :=
  .ite (h.trans (.of_mem (kept (t.raise_outside (List.Subset.refl eventParts) k die d) State.mem))) h

/-- Rewriting a bank without changing its power state. -/
theorem State.setBank_keepsBanks {s : State} {die b : Nat} {k : Bank} (hk : k.state = (s.bank die b).state) :
    KeepsBanks s (s.setBank die b k) where
  sram := rfl
  sorted h := CMap.sorted_set h _ k
  state h die' b' := by
    have hget : (s.setBank die b k).bank die' b' = if bankKey die' b' = bankKey die b then k else s.bank die' b' :=
      CMap.get_set h (bankKey die b) (bankKey die' b') k
    rw [hget]
    split
    next e => rw [hk, State.bank, State.bank, e]
    next => rfl

variable (s : State)

/-- Banks that leave the pool manager change their owner only. -/
theorem State.poolBanks_false_keepsBanks (die : Nat) (groups : List Nat) : KeepsBanks s (s.poolBanks die groups false) :=
  .foldl (.refl s) fun u _ => .ite (.refl u) (State.setBank_keepsBanks rfl)

theorem State.endShrink_keepsBanks (p : Nat) : KeepsBanks s (s.endShrink p) := by
  have hgive := s.poolBanks_false_keepsBanks (s.pool p).die ((s.pool p).liveGroups.drop ((s.pool p).target / 32768))
  exact .ite (.ite (.setPool (.ite hgive (.refl s)) _ _) (.setPool (.ite hgive (.refl s)) _ _)) (.refl s)

theorem State.levels_keepsBanks (p : Nat) : KeepsBanks s (s.levels p) :=
  .raise_if (.raise_if (.setPool (.refl s) p _) evPoolWarn 4 (leBytes 1 p)) evPoolCritical 4 (leBytes 1 p)

theorem State.freeChain_keepsBanks (r : Nat) : KeepsBanks s (s.freeChain r) :=
  have hdel : KeepsBanks s { s with mem := { s.mem with chains := s.mem.chains.del r } } := .of_eq rfl rfl
  hdel.trans (.trans (State.endShrink_keepsBanks _ _) (State.levels_keepsBanks _ _))

theorem State.dropRefs_keepsBanks (n : Nat) (gone : List RefFrame) : KeepsBanks s (s.dropRefs n gone) :=
  .foldl (.of_mem rfl) fun u r => .ite (u.freeChain_keepsBanks r.chain) (.refl u)

theorem State.emptyCache_keepsBanks (d : Nat) : KeepsBanks s (s.emptyCache d) := by
  have hempty : KeepsBanks s (s.emptyRefs (d / 6)) := .trans (s.dropRefs_keepsBanks _ _) (.of_mem rfl)
  exact .ite hempty (.refl s)

theorem State.noteAsleep_keepsBanks (n : Nat) : KeepsBanks s (s.noteAsleep n) := .ite (.of_mem rfl) (.refl s)

/-- A slice that is aborted gives its tokens back, or takes the test mark from its bank. -/
theorem State.abortSlices_keepsBanks (f : Slice → Bool) : KeepsBanks s (s.abortSlices f) :=
  .foldl (.of_mem rfl) fun u _ => .trans (.of_mem (u.bump_mem 0x00E00020 1))
    (.ite (.of_mem (State.returnTokens_mem _ _)) (.ite (State.setBank_keepsBanks rfl) (.refl _)))

theorem State.postWork_keepsBanks (d : Nat) : KeepsBanks s (s.postWork d) :=
  .ite (.of_mem rfl) (.ite (.refl s) (.of_mem rfl))

/-- A domain that powers down keeps the content and the states of the banks (R28). -/
theorem domainPowerDownCommit_keepsBanks {s t : State} {d now : Nat} {work : Bool}
    (he : exec (.domainPowerDownCommit d work now) s = .next t) : KeepsBanks s t := by
  obtain rfl := Host.Outcome.next.inj he
  refine .trans (.of_mem (s.advance_mem now)) (.ite (.refl _) (.ite (State.postWork_keepsBanks _ d) ?_))
  exact .trans (State.abortSlices_keepsBanks _ _) (.trans (.of_mem (State.updDomain_mem _ _ _))
    (.trans (State.emptyCache_keepsBanks _ d) (State.noteAsleep_keepsBanks _ _)))

/-! ## A table that is not sorted -/

/-- Domain 0 powers down with a frame in the reference cache of tile 0, whose chain is the last in an SRAM pool that
shrinks to nothing. The pool's first bank is listed twice: by an entry that equals an unlisted bank once its owner is
taken, and by a second one that is ON. -/
def bankListedTwice : State :=
  { State.reset with
    pwr := { domains := [{ on := true, downing := true }] }
    tiles := [{ refs := [{ key := 0, size := 0, chain := 0 }] }]
    mem := { pools := [(0, { kind := 2, groups := 1, cells := 32768 })]
             chains := [(0, { owner := 2, cells := [0], length := 128, refs := 1, time := 0, bytes := [] })]
             banks := [(0, { owner := 2 }), (0, { state := 2 })] } }

/-- Refutes O60: the frame's chain is freed, the pool's banks are given up, and bank 0 of die 0 reads as ON after it was
OFF. Only such a table refutes the statement: where the table of banks is sorted its first clause holds
(`domainPowerDownCommit_keepsBanks`), and its second clause always does (`bankTransitionComplete_off_sram`). -/
theorem not_domainsLeaveBankContents : ¬ Obligations.DomainsLeaveBankContents := by
  unfold Obligations.DomainsLeaveBankContents
  rintro ⟨hdown, -⟩
  obtain ⟨-, hstate⟩ := hdown 0 0 false bankListedTwice _ rfl
  exact absurd (hstate 0 0) (by decide)

end Sys2Proof.Machine
end

section
/-! SUPPORT. A command packet whose turn has come, a recovery command of a newer generation (R52, Table 02-3), and the
checks with which a takeover begins (R47 to R50). -/

namespace Sys2Proof.Machine

/-! ## A packet whose turn has come -/

/-- The waiter and the state of a packet whose turn has come: the packet was taken, passed every step before its own
checks, and the state is the one those steps lead to. -/
theorem State.turn_eq_some {s u : State} {sp : OpSpec} {x : CmdIn} {w : Waiter} (h : s.turn sp x = some (w, u)) :
    ∃ s₀, s.take sp.opcode x = some (w, s₀) ∧ s₀.forwards x = false ∧
      (x.pkt.retry = true → (s₀.receipt x).retryOf w = .new) ∧ (s₀.receipt x).ready w = true ∧
      (s₀.receipt x).checks sp x = none ∧ (s₀.own x).orderFailed w = false ∧ u = s₀.own x := by
  unfold State.turn at h
  split at h
  · nomatch h
  next w₀ s₀ htake =>
    simp only [Option.ite_none_left_eq_some, Option.some.injEq, Prod.mk.injEq, Bool.not_eq_true, Bool.or_eq_false_iff,
      Bool.and_eq_false_imp, Bool.not_eq_eq_eq_not, Bool.not_false, Option.isSome_eq_false_iff, Option.isNone_iff_eq_none,
      bne_eq_false_iff_eq] at h
    obtain ⟨hforward, hretry, ⟨⟨hready, hchecks⟩, horder⟩, rfl, rfl⟩ := h
    exact ⟨s₀, htake, hforward, hretry, hready, hchecks, horder, rfl⟩

/-- A command that passed the checks of R438 and the order of R448 goes on to its own checks and effect. -/
theorem State.accept_of_checks {s : State} {sp : OpSpec} {x : CmdIn} {w : Waiter} (hc : s.checks sp x = none)
    (ho : (s.noteCred x).orderFailed w = false) (own : Waiter → CmdIn → State → Own) :
    s.accept sp own w x = (s.noteCred x).runOwn sp own w x := by
  simp only [State.accept, hc, ho, Bool.false_eq_true, if_false]

/-- A packet whose turn has come runs its own checks and effect from the state that `State.turn` gives. -/
theorem runCommand_of_turn {s u : State} {sp : OpSpec} {x : CmdIn} {w : Waiter} (h : s.turn sp x = some (w, u))
    (own : Waiter → CmdIn → State → Own) : runCommand sp own x s = u.runOwn sp own w x := by
  obtain ⟨s₀, htake, hforward, hretry, hready, hchecks, horder, rfl⟩ := State.turn_eq_some h
  have hconsider : (s₀.receipt x).consider sp own w x = (s₀.own x).runOwn sp own w x :=
    (if_pos hready).trans (State.accept_of_checks hchecks horder own)
  simp only [runCommand, htake, hforward, Bool.false_eq_true, if_false]
  split
  next hr => simp only [hretry hr, hconsider]
  next => exact hconsider

/-- Where a command's own checks refuse it, it is turned down with their result. -/
theorem State.runOwn_of_refuse {s : State} {sp : OpSpec} {own : Waiter → CmdIn → State → Own} {w : Waiter} {x : CmdIn}
    {r : Result} (h : own w x s = .refuse r) : s.runOwn sp own w x = s.turnDown sp w x r := by
  simp only [State.runOwn, h]

/-! ## A recovery command -/

/-- A recovery command of a newer generation is refused with what its own checks say. -/
theorem State.recovery_refuse_of_newer {s : State} {w : Waiter} {start : Nat → Job → State → Result ⊕ State} {slot : Nat}
    {j : Job} {r : Result} (hj : s.jobNamed w.pkt.jobId = some (slot, j)) (hg : j.gen < w.pkt.gen)
    (hr : start slot j s = .inl r) : s.recovery w start = .refuse r := by
  simp only [State.recovery, hj, hr, Nat.lt_asymm hg, hg, if_false, if_true]

/-! ## The checks of a takeover -/

section
variable {failed slot : Nat} {j : Job} {s : State}

/-- A takeover for another device of the job is refused with DL_MISMATCH where the device runs at another DL (R50). -/
theorem takeoverStart_of_dl_ne (hf : failed < 6144) (hs : failed ≠ s.self) (hm : j.devices.contains failed = true)
    (hd : s.sys.dl ≠ j.dl) : takeoverStart failed slot j s = .inl { status := 0x0601 } := by
  have hid : ¬ 6144 ≤ failed := Nat.not_le.2 hf
  have hpartner : ¬ (failed = s.self || !j.devices.contains failed) = true := by simpa [hs] using hm
  have hdl : (s.sys.dl != j.dl) = true := bne_iff_ne.2 hd
  rw [takeoverStart, if_neg hid, if_neg hpartner, if_pos hdl]

/-- A takeover that starts passed the checks of its operand and of the DL. -/
theorem dl_eq_of_takeoverStart {t : State} (h : takeoverStart failed slot j s = .inr t) : s.sys.dl = j.dl := by
  refine Decidable.byContradiction fun hd => ?_
  unfold takeoverStart at h
  rw [if_pos (bne_iff_ne.2 hd)] at h
  split at h
  · nomatch h
  split at h <;> nomatch h

end

/-- Settles O55: the DL is judged before anything of a takeover begins, and a newer generation is what lets the command
reach that check. -/
theorem takeoverNeedsTheJobsDl : Obligations.TakeoverNeedsTheJobsDl := by
  unfold Obligations.TakeoverNeedsTheJobsDl
  refine ⟨fun failed slot j s t => dl_eq_of_takeoverStart, fun x s u w slot j failed ht hj hg hx hf hs hm hd => ?_⟩
  obtain ⟨hturn, -⟩ := ht
  subst hx
  have hrefuse : ownJobTakeover w x u = .refuse { status := 0x0601 } :=
    State.recovery_refuse_of_newer hj hg (takeoverStart_of_dl_ne hf hs hm hd)
  exact congrArg Host.Outcome.next ((runCommand_of_turn hturn ownJobTakeover).trans (State.runOwn_of_refuse hrefuse))

end Sys2Proof.Machine
end

section
/-! SUPPORT. Plan messages (R84 to R86, R91), the end of a recovery (R52), and repeated EPOCH_PLAN commands (R90): what
each does where its hypotheses about the plan are met. -/

namespace Sys2Proof.Machine

/-! ## A change of a plan -/

section
variable {s u : State} {jobId epoch slot : Nat} {j : Job} {p : EpochPlan}

/-- Where a job plans the epoch, a change of the plan takes effect and the plan then moves. -/
theorem State.withPlan_of_job (hj : s.jobNamed jobId = some (slot, j)) (he : epoch = j.epoch ∨ epoch = j.epoch + 1)
    (hp : (j.plan epoch).getD (EpochPlan.blank epoch) = p) {f : Nat → Job → EpochPlan → State} (hf : f slot j p = u) :
    s.withPlan jobId epoch f = State.advancePlan slot epoch 4 u := by
  have hc : (decide (epoch = j.epoch) || decide (epoch = j.epoch + 1)) = true := by simpa using he
  simp only [State.withPlan, hj, hp, hf, hc, if_true]

/-- A plan that its next move completes answers the commands that wait for it with SUCCESS. -/
theorem State.advancePlan_of_complete {q : EpochPlan} (hj : s.jobs.find slot = some j) (hp : j.plan epoch = some p)
    (hm : s.planMove j p = .complete q) (fuel : Nat) :
    State.advancePlan slot epoch (fuel + 1) s = State.finishAll (s.setJob slot (j.setPlan { q with waiters := [] })) p.waiters success := by
  simp only [State.advancePlan, hj, hp, hm]

end

/-! ## The rows of plan messages -/

section
variable {s : State} {jobId epoch rank slot : Nat} {j : Job} {p : EpochPlan}

theorem exec_planScanComplete_of_running (hj : s.jobNamed jobId = some (slot, j)) (he : epoch = j.epoch ∨ epoch = j.epoch + 1)
    (hp : j.plan epoch = some p) (hph : p.phase = 1 ∨ p.phase = 3 ∨ p.phase = 8) (hr : p.ranks.contains rank = true)
    (hs : p.scanned.contains rank = false) :
    exec (.planScanComplete jobId epoch rank) s = .next (State.advancePlan slot epoch 4 (s.scanEnds slot j p rank)) := by
  have hruns : ((p.phase == 1 || p.phase == 3 || p.phase == 8) && p.ranks.contains rank && !p.scanned.contains rank) = true := by
    rw [hr, hs]
    simpa [or_assoc] using hph
  exact congrArg Host.Outcome.next (State.withPlan_of_job hj he (by rw [hp, Option.getD_some]) (if_pos hruns))

theorem exec_countEntryReceive_of_gathering {digest : Bytes} {counts : List Nat} (hj : s.jobNamed jobId = some (slot, j))
    (he : epoch = j.epoch ∨ epoch = j.epoch + 1) (hp : (j.plan epoch).getD (EpochPlan.blank epoch) = p) (hr : rank < j.planRanks)
    (h6 : p.phase ≠ 6) (h8 : p.phase ≠ 8) :
    exec (.countEntryReceive rank jobId epoch digest counts) s = .next (State.advancePlan slot epoch 4
      (s.setJob slot (j.setPlan { p with counts := p.counts.put rank (digest, counts) }))) :=
  congrArg Host.Outcome.next (State.withPlan_of_job hj he hp (if_pos (by simp [hr, h6, h8])))

theorem exec_stepEntryReceive_of_gathering {entries : List (Nat × Nat)} (hj : s.jobNamed jobId = some (slot, j))
    (he : epoch = j.epoch ∨ epoch = j.epoch + 1) (hp : (j.plan epoch).getD (EpochPlan.blank epoch) = p) (hr : rank < j.planRanks)
    (h6 : p.phase ≠ 6) (h8 : p.phase ≠ 8) :
    exec (.stepEntryReceive rank jobId epoch entries) s = .next (State.advancePlan slot epoch 4
      (s.setJob slot (j.setPlan { p with steps := p.steps.put rank entries }))) :=
  congrArg Host.Outcome.next (State.withPlan_of_job hj he hp (if_pos (by simp [hr, h6, h8])))

theorem exec_planRecordReceive_of_served {rec : Bytes} (hj : s.jobNamed jobId = some (slot, j))
    (he : epoch = j.epoch ∨ epoch = j.epoch + 1) (hp : (j.plan epoch).getD (EpochPlan.blank epoch) = p)
    (hs : s.serves j (parsePlanRec rec).ordinal = true) (h6 : p.phase ≠ 6) :
    exec (.planRecordReceive jobId epoch rec) s = .next (State.advancePlan slot epoch 4
      (s.setJob slot (j.setPlan (p.store (parsePlanRec rec))))) :=
  congrArg Host.Outcome.next (State.withPlan_of_job hj he hp (if_pos (by simp [hs, h6])))

theorem exec_endMarkerReceive_of_open {count : Nat} (hj : s.jobNamed jobId = some (slot, j))
    (he : epoch = j.epoch ∨ epoch = j.epoch + 1) (hp : (j.plan epoch).getD (EpochPlan.blank epoch) = p) (hr : rank < j.planRanks)
    (h6 : p.phase ≠ 6) :
    exec (.endMarkerReceive rank jobId epoch count) s = .next (State.advancePlan slot epoch 4
      (s.setJob slot (j.setPlan { p with markers := p.markers.put rank count }))) :=
  congrArg Host.Outcome.next (State.withPlan_of_job hj he hp (if_pos (by simp [hr, h6])))

theorem exec_abortMessageReceive_of_building {lost : Nat} (hj : s.jobNamed jobId = some (slot, j)) (hp : j.plan epoch = some p)
    (hb : p.building = true) :
    exec (.abortMessageReceive rank jobId epoch lost) s = .next (s.abandonPlan slot p { status := 0x0605 } (some lost)) := by
  show execAbortMessageReceive rank jobId epoch lost s = _
  simp only [execAbortMessageReceive, hj, hp, hb, if_true]

/-- A recovery in progress that is neither a takeover nor a leave waits for nothing more. -/
theorem Job.recovered_of_resume {r : Recovery} (hs : r.status = 0) (ho : r.opcode = 0x020C) : j.recovered r = true := by
  simp [Job.recovered, hs, ho]

/-- The end of a JOB_RESUME moves the cursor, answers the commands of the recovery and starts a leak audit (R52, R304). -/
theorem exec_recoveryComplete_of_resume {r : Recovery} (hj : s.jobNamed jobId = some (slot, j)) (hr : j.recovery = some r)
    (hs : r.status = 0) (ho : r.opcode = 0x020C) :
    exec (.recoveryComplete jobId) s = .next (((State.advanceCursor slot 2
      (s.setJob slot { j with recovery := some { r with status := 1, waiters := [] } })).finishAll r.waiters success).startAudit 2 none success) := by
  have hstays : r.opcode ≠ 0x020D := by omega
  show execRecoveryComplete jobId s = _
  simp only [execRecoveryComplete, hj, hr, Job.recovered_of_resume hs ho, hstays, if_true, if_false]

end

/-- Settles O18: each message meets the condition of its row, and the plan then moves. -/
theorem planMessagesComplete : Obligations.PlanMessagesComplete := by
  unfold Obligations.PlanMessagesComplete
  exact ⟨fun _ _ _ _ _ _ _ => exec_planScanComplete_of_running,
    fun _ _ _ _ _ _ _ _ _ => exec_countEntryReceive_of_gathering,
    fun _ _ _ _ _ _ _ _ => exec_stepEntryReceive_of_gathering,
    fun _ _ _ _ _ _ _ => exec_planRecordReceive_of_served,
    fun _ _ _ _ _ _ _ _ => exec_endMarkerReceive_of_open,
    fun _ _ _ _ _ _ _ _ => exec_abortMessageReceive_of_building,
    fun _ _ _ _ _ => exec_recoveryComplete_of_resume⟩

/-! ## A repeated EPOCH_PLAN -/

section
variable {s : State} {w : Waiter} {x : CmdIn} {slot : Nat} {j : Job} {p : EpochPlan}

/-- An EPOCH_PLAN for an epoch that the job holds a plan of passes the checks of its operands. -/
theorem ownEpochPlan_of_plan (hj : s.jobNamed x.pkt.jobId = some (slot, j))
    (he : x.pkt.epochAt 20 = j.epoch ∨ x.pkt.epochAt 20 = j.epoch + 1) (hz : bits (x.pkt.f 20 4) 20 12 = 0)
    (hp : j.plan (x.pkt.epochAt 20) = some p) :
    ownEpochPlan w x s = if p.phase = 6 || p.phase = 8 then .done { status := 1 } s
      else if p.building then .run (s.setJob slot (j.setPlan { p with waiters := p.waiters ++ [w] }))
      else s.beginPlan w slot j (x.pkt.epochAt 20) := by
  have hlow : ¬ x.pkt.epochAt 20 < j.epoch := by omega
  have hhigh : ¬ j.epoch + 1 < x.pkt.epochAt 20 := by omega
  simp [ownEpochPlan, hj, hp, hz, hlow, hhigh]

theorem ownEpochPlan_of_complete (hj : s.jobNamed x.pkt.jobId = some (slot, j))
    (he : x.pkt.epochAt 20 = j.epoch ∨ x.pkt.epochAt 20 = j.epoch + 1) (hz : bits (x.pkt.f 20 4) 20 12 = 0)
    (hp : j.plan (x.pkt.epochAt 20) = some p) (hc : p.phase = 6 ∨ p.phase = 8) :
    ownEpochPlan w x s = .done { status := 1 } s := by
  rw [ownEpochPlan_of_plan hj he hz hp, if_pos (by simpa using hc)]

theorem ownEpochPlan_of_building (hj : s.jobNamed x.pkt.jobId = some (slot, j))
    (he : x.pkt.epochAt 20 = j.epoch ∨ x.pkt.epochAt 20 = j.epoch + 1) (hz : bits (x.pkt.f 20 4) 20 12 = 0)
    (hp : j.plan (x.pkt.epochAt 20) = some p) (h6 : p.phase ≠ 6) (h8 : p.phase ≠ 8) (hb : p.building = true) :
    ownEpochPlan w x s = .run (s.setJob slot (j.setPlan { p with waiters := p.waiters ++ [w] })) := by
  rw [ownEpochPlan_of_plan hj he hz hp, if_neg (by simp [h6, h8]), if_pos hb]

end

/-- Settles O54: the command's own checks say whether it completes or joins; completing the plan answers those that joined. -/
theorem repeatedPlanCommandsJoin : Obligations.RepeatedPlanCommandsJoin := by
  unfold Obligations.RepeatedPlanCommandsJoin
  refine ⟨fun x s u w slot j p ht hj he hz hp hc => ?_, fun x s u w slot j p ht hj he hz hp h6 h8 hb => ?_,
    fun slot epoch fuel j p q s hj hp hm => State.advancePlan_of_complete hj hp hm fuel⟩
  · exact congrArg Host.Outcome.next (runCommand_done ht (ownEpochPlan_of_complete hj he hz hp hc))
  · exact congrArg Host.Outcome.next (runCommand_run ht (ownEpochPlan_of_building hj he hz hp h6 h8 hb))

end Sys2Proof.Machine
end

section
/-! SUPPORT. A row of the delivery family that changes a part its frame names: the end of a JOB_LEAVE takes the engines from
the job's samples (R60, R456), and the background tests note from when each of those engines is idle (R542). -/

namespace Sys2Proof.Machine

/-- A sample of job slot 0 whose demux stage runs on VDE 0 of tile 0. -/
def demuxingSample : Sample :=
  { newSample 0 0 0 { ordinal := 0, bucket := 0, step := 0, member := 0, reserve := false, tail := false }
      (parseRecord (zeros 64)) 1 with stage := 1, engine := some (0, 0) }

/-- Job 0 in job slot 0, whose JOB_LEAVE is in progress with no write outstanding, and its one sample, at 5 ns. -/
def leaveInProgress : State :=
  { State.reset with
    now := 5
    jobs := [(0, { newJob {} [] 0 with recovery := some { opcode := 0x020D, params := 0, status := 0, waiters := [] } })]
    samples := [demuxingSample] }

/-- The end of the leave stamps engine 0 with its time. -/
theorem recoveryComplete_leaveInProgress_idleSince {t : State} (he : exec (.recoveryComplete 0) leaveInProgress = .next t) :
    t.tst.idleSince = [(0, 5)] := by
  obtain rfl := Host.Outcome.next.inj he
  decide +kernel

/-- Refutes O49: the clause of the delivery rows names the tests among the parts left alone, and a leave that ends takes an
engine from a sample, so that the engine's idle time changes. -/
theorem not_planSampleHostRowsFrame : ¬ Obligations.PlanSampleHostRowsFrame := by
  unfold Obligations.PlanSampleHostRowsFrame
  rintro ⟨-, -, hdelivery, -⟩
  obtain ⟨-, -, -, -, -, -, -, -, -, -, -, -, -, -, htst, -⟩ := hdelivery (.recoveryComplete 0) leaveInProgress _ rfl rfl
  have hidle : leaveInProgress.tst.idleSince = [(0, 5)] :=
    (congrArg TstBlock.idleSince htst).symm.trans (recoveryComplete_leaveInProgress_idleSince rfl)
  exact absurd hidle (by decide)

end Sys2Proof.Machine
end

section
/-! SUPPORT. The expression unit's evaluation (R94), the clock monitors (R469 to R471), Estate time (R362, R363) and the
Ethernet ports (R364, R365): what each row answers once it applies. -/

namespace Sys2Proof.Machine

/-! ## The expression unit -/

theorem exec_brmEvalGo_of_passes {path : Nat} {s : State} (hp : s.passes path 0x00300040 = true) (v : Nat) :
    exec (.brmEvalGo path v) s = .next (s.setBrm (s.brm.writeCtrl v)) :=
  congrArg Host.Outcome.next (gated_passes hp)

theorem exec_brmEvalDone_of_result {e : EvalJob} {v walks : Nat} {s : State} (hrun : s.brm.running = some e)
    (hres : e.result = some (v, walks)) :
    exec .brmEvalDone s =
      .next ((s.setBrm { s.brm with running := none, done := true, out := v, walks := min walks 255 }).bump64 0x00300010 (walks + 1)) := by
  show execBrmEvalDone s = _
  simp only [execBrmEvalDone, hrun, hres]

/-! ## Clock monitors -/

section
variable {m now : Nat} {s : State}

theorem exec_clkLoss_of_first (hm : m < 7) (hfirst : (s.monitor m).state ≠ 1) :
    exec (.clkLoss m now) s = .next (State.clockLost (State.raise (State.bump ((s.advance now).updMonitor m
      (fun k => { k with state := 1, inUse := false, last := max s.now now })) (clkReg m 4) 1) evClkLoss 4 (leBytes 1 m)) m (s.monitor m).inUse) :=
  congrArg Host.Outcome.next (if_neg (by simp [hfirst]; omega))

theorem exec_clkRestored_of_lost {ppm : Int} (hm : m < 7) (hst : (s.monitor m).state = 1 ∨ (s.monitor m).state = 2) :
    exec (.clkRestored m ppm) s = .next (State.clockBack (State.raise (s.updMonitor m
      (fun k => { k with state := 0, ppm := clampInt ppm (-32768) 32767 })) evClkRestored 4 (leBytes 1 m)) m) := by
  have hseen : (s.monitor m).state ≠ 3 := by omega
  exact congrArg Host.Outcome.next ((if_neg (by simp; omega)).trans (congrArg (State.clockBack · m) (if_neg hseen)))

theorem exec_clkHoldoverExpiry_of_due {t : Nat} (ht : s.pwr.holdover = some t) (hdue : t + 10000000000 ≤ now) :
    exec (.clkHoldoverExpiry now) s = .next ((s.advance now).raise evClkLoss 4 (leBytes 1 0)) := by
  show execClkHoldoverExpiry now s = _
  simp only [execClkHoldoverExpiry, State.advance_pwr, State.advance_now, ht, Nat.le_trans hdue (Nat.le_max_right ..), if_true]

end

/-! ## Estate time and the PTP port -/

/-- An exchange with the neighbour that the device follows corrects its time and locks it at one hop more (R362). -/
theorem exec_linkDelayExchange_of_followed {f now hops : Nat} {corr : Int} {s t : State} {b : Nat × Nat × Nat} (hf : f < 16)
    (hc : (s.fabPort f).carries = true) (hsrc : s.net.isSource = false)
    (ht : (s.advance now).updPort f (fun p => { p with timeHops := some hops, lastRx := max s.now now }) = t)
    (hb : t.net.follows = some b) (hbf : b.2.2 = f) :
    exec (.linkDelayExchange f now hops corr true) s =
      .next { t.correct corr with net := { (t.correct corr).net with locked := true, hops := min 15 (b.1 + 1), holdover := false } } := by
  have hcarries : ¬(decide (16 ≤ f) || !((s.advance now).fabPort f).carries) = true := by simp [hc, hf]
  have hfollower : ¬t.net.isSource = true := by
    rw [← ht]
    exact ne_true_of_eq_false hsrc
  show execLinkDelayExchange f now hops corr true s = _
  simp only [execLinkDelayExchange, if_neg hcarries, if_true, State.advance_now, ht, if_neg hfollower, hb, hbf]

theorem exec_ptpMessageReceive_of_source {q : Nat} {offset : Int} {s : State} (hsrc : s.net.isSource = true)
    (hq : bits s.net.ptp 12 3 = q) (hup : (s.net.eth.getD q {}).state = 2) :
    exec (.ptpMessageReceive q offset) s = .next
      { s.correct (-offset) with net := { s.net with ptpOffset := offset, ptpLocked := true, locked := true, hops := 0, holdover := false } } :=
  congrArg Host.Outcome.next (if_pos (by rw [hsrc, hq, hup]; simp))

theorem exec_timeHoldover_of_not_holdover {s : State} (h : s.net.holdover = false) :
    exec .timeHoldover s = .next (State.raise
      { s with net := { s.net with locked := false, hops := 15, ptpLocked := false, holdover := true } } evTimeHoldover 4 []) :=
  congrArg Host.Outcome.next (if_neg (ne_true_of_eq_false h))

/-! ## Ethernet ports -/

theorem exec_ethPortLinkChange_of_clocked {q st : Nat} {s : State} (hq : q < 8) (hst : st ≤ 2)
    (hon : s.domainOn (29 + 2 * (q / 4)) = true) (hclk : s.dieUnclocked (q / 4) = false) :
    exec (.ethPortLinkChange q st) s = .next (State.serve { s with net := { s.net with
      eth := updAt s.net.eth q (fun e => { e with state := st, paused := if st = 2 then e.paused else 0 }) } } (16 + q)) :=
  congrArg Host.Outcome.next (if_pos (by simp [hq, hst, hon, hclk]))

theorem exec_pfcFrameReceive_of_enabled {q prio : Nat} {pause : Bool} {s : State} (hq : q < 8) (hprio : prio < 8)
    (hen : bit (s.net.eth.getD q {}).pfcEn prio = true) :
    exec (.pfcFrameReceive q prio pause) s = .next (State.serve { s with net := { s.net with
      eth := updAt s.net.eth q (fun e => { e with paused := setBits e.paused prio 1 (b2n pause) }) } } (16 + q)) :=
  congrArg Host.Outcome.next (if_pos (by rw [hen]; simp [hq, hprio]))

/-- Settles O21: each clause's premises are what its row tests before it acts. -/
theorem clocksAndTimeComplete : Obligations.ClocksAndTimeComplete := by
  unfold Obligations.ClocksAndTimeComplete
  exact ⟨fun _ v _ hp => exec_brmEvalGo_of_passes hp v,
    fun _ _ _ _ => exec_brmEvalDone_of_result,
    fun _ _ _ => exec_clkLoss_of_first,
    fun _ _ _ => exec_clkRestored_of_lost,
    fun _ _ _ => exec_clkHoldoverExpiry_of_due,
    fun _ _ _ _ _ _ _ hf hc hsrc ht hb hbf => ⟨_, exec_linkDelayExchange_of_followed hf hc hsrc ht hb hbf, rfl⟩,
    fun _ _ _ hsrc hq hup => ⟨_, exec_ptpMessageReceive_of_source hsrc hq hup, rfl⟩,
    fun _ => exec_timeHoldover_of_not_holdover,
    fun _ _ _ => exec_ethPortLinkChange_of_clocked,
    fun _ _ _ _ => exec_pfcFrameReceive_of_enabled⟩

end Sys2Proof.Machine
end

section
/-! SUPPORT. Drains and rejoins of tiles (R125), slices of the idle-time test (R541 to R545) and engine faults (R544): what each
row answers once it applies. -/

namespace Sys2Proof.Machine

/-! ## Drain and rejoin -/

section
variable {path tile v : Nat} {s : State}

theorem State.writeTschCtrl_drain (h0 : bit v 0 = true) (h1 : bit v 1 = false) (hl : s.lastTile tile = false)
    (hok : s.drainOk tile = true) : s.writeTschCtrl path tile v = s.beginDrain tile := by
  simp [State.writeTschCtrl, h0, h1, hl, hok]

theorem State.writeTschCtrl_rejoin (h0 : bit v 0 = false) (h1 : bit v 1 = true) (h3 : (s.tile tile).state = 3) :
    s.writeTschCtrl path tile v = s.rejoin tile := by
  simp [State.writeTschCtrl, h0, h1, h3]

theorem exec_tschDrain_of_passes (ht : tile < 4) (hp : s.passes path (tileReg tile 4) = true) :
    exec (.tschDrain path tile v) s = .next (s.writeTschCtrl path tile v) :=
  congrArg Host.Outcome.next ((if_pos ht).trans (gated_passes hp))

theorem exec_tschRejoin_of_passes (ht : tile < 4) (hp : s.passes path (tileReg tile 4) = true) :
    exec (.tschRejoin path tile v) s = .next (s.writeTschCtrl path tile v) :=
  congrArg Host.Outcome.next ((if_pos ht).trans (gated_passes hp))

theorem exec_tileDrained_of_empty (h2 : (s.tile tile).state = 2) (he : s.tileEmpty tile = true) :
    exec (.tileDrained tile) s = .next (State.finishAll
      ((s.updTile tile (fun t => { t with state := 3, drainCmds := [] })).emptyRefs tile) (s.tile tile).drainCmds success) :=
  congrArg Host.Outcome.next (if_pos (by simp [h2, he]))

end

/-! ## The idle-time test -/

theorem exec_tstCtrlWrite_of_passes {path : Nat} {s : State} (hp : s.passes path 0x00E00004 = true) (v : Nat) :
    exec (.tstCtrlWrite path v) s = .next { s with tst := { s.tst with en := bits v 0 8 } } :=
  congrArg Host.Outcome.next (gated_passes hp)

section
variable {tile cls idx : Nat} {s : State}

/-- An enabled slice of an idle engine in the map starts where its domain is on, and asks for its tokens (R542). -/
theorem State.startEngineSlice_of_idle (ht : tile < 4) (hc : cls < 4) (hi : idx < classCount cls) (hen : s.itemOn cls = true)
    (hin : (s.tile tile).out cls idx = false) (hr : s.tileRuns tile = true) (hidle : s.engineIdle tile cls idx = true)
    (hnone : s.sliceRuns tile cls idx = false) (hon : s.domainOn (engineDomain tile cls idx) = true) :
    s.startEngineSlice tile cls idx = (s.addSlice tile cls idx (s.runWants (engineId tile cls idx))).requestTokens
      (engineId tile cls idx) (s.scaled (s.figure cls)) := by
  have htransform : cls ≠ 4 := by omega
  refine (if_pos (by simp [ht, hi, hen, hin, hr, hidle, hnone])).trans ((if_pos hon).trans ?_)
  rw [if_neg htransform]

theorem exec_testSliceStart_of_idle {now : Nat} {t : State} (ht : tile < 4) (hc : cls < 4) (hi : idx < classCount cls)
    (ha : s.advance now = t) (hen : t.itemOn cls = true) (hin : (t.tile tile).out cls idx = false) (hr : t.tileRuns tile = true)
    (hidle : t.engineIdle tile cls idx = true) (hnone : t.sliceRuns tile cls idx = false)
    (hon : t.domainOn (engineDomain tile cls idx) = true) :
    exec (.testSliceStart tile cls idx now) s = .next ((t.addSlice tile cls idx (t.runWants (engineId tile cls idx))).requestTokens
      (engineId tile cls idx) (t.scaled (t.figure cls))) := by
  subst ha
  exact congrArg Host.Outcome.next ((if_pos (show cls < 6 by omega)).trans
    (State.startEngineSlice_of_idle ht hc hi hen hin hr hidle hnone hon))

theorem exec_testSliceComplete_of_passed {sub col now : Nat} {v : Slice} {t : State} (ha : s.advance now = t)
    (hv : t.tst.slices.find? (fun v => v.tile == tile && v.cls == cls && v.idx == idx) = some v)
    (hg : t.pwr.granted.has (engineId tile cls idx) = true) :
    exec (.testSliceComplete tile cls idx true sub col none now) s = .next (State.countRuns (State.sliceCounts
      ((t.sliceLeaves v).slicePasses v) (sliceKey tile cls idx)) (sliceKey tile cls idx) true) := by
  have hgranted : ¬(decide (v.cls < 6) && !t.pwr.granted.has (engineId tile cls idx)) = true := by simp [hg]
  show execTestSliceComplete tile cls idx true sub col none now s = _
  simp only [execTestSliceComplete, ha, hv, if_neg hgranted, if_true, Bool.true_or]

/-- A tile domain off for 4 h is woken, and the time since which it was off is noted, so that it is woken once (R542). -/
theorem exec_testDomainWakeTimer_of_due {d now : Nat} (hd : d < 24) (hr : s.tileRuns (d / 6) = true) (hoff : (s.domain d).on = false)
    (hw : (s.domain d).waking = false) (hdue : (s.domain d).offSince + 14400000000000 ≤ max s.now now)
    (honce : s.tst.woken.find d ≠ some (s.domain d).offSince) :
    exec (.testDomainWakeTimer d now) s = .next (State.postWork
      { s.advance now with tst := { s.tst with woken := s.tst.woken.put d (s.domain d).offSince } } d) :=
  congrArg Host.Outcome.next (if_pos (by
    simp only [State.advance_at_tileRuns, State.advance_at_domain, State.advance_now, State.advance_tst, hd, hr, hoff, hw, hdue,
      bne_iff_ne.mpr honce, decide_true, Bool.not_false, Bool.and_self]))

theorem exec_engineSelfFault_of_in (ht : tile < 4) (hi : idx < classCount cls) (hin : (s.tile tile).out cls idx = false) :
    exec (.engineSelfFault tile cls idx) s = .next (s.engineFault tile cls idx) :=
  congrArg Host.Outcome.next (if_pos (by simp [ht, hi, hin]))

end

/-- Settles O28: each clause's premises are what its row tests before it acts. -/
theorem tileAndTestCommandsComplete : Obligations.TileAndTestCommandsComplete := by
  unfold Obligations.TileAndTestCommandsComplete
  exact ⟨fun _ _ _ _ ht hp h0 h1 hl hok =>
      (exec_tschDrain_of_passes ht hp).trans (congrArg Host.Outcome.next (State.writeTschCtrl_drain h0 h1 hl hok)),
    fun _ _ _ _ ht hp h0 h1 h3 =>
      (exec_tschRejoin_of_passes ht hp).trans (congrArg Host.Outcome.next (State.writeTschCtrl_rejoin h0 h1 h3)),
    fun _ _ => exec_tileDrained_of_empty,
    fun _ v _ hp => exec_tstCtrlWrite_of_passes hp v,
    fun _ _ _ _ _ _ => exec_testSliceStart_of_idle,
    fun _ _ _ _ _ _ _ _ _ ha hv _ => exec_testSliceComplete_of_passed ha hv,
    fun _ _ _ => exec_testDomainWakeTimer_of_due,
    fun _ _ _ _ => exec_engineSelfFault_of_in⟩

end Sys2Proof.Machine
end

section
/-! SUPPORT. The standing parts (Laws/Standing) through the rows of the device, of jobs, pools and media: a command packet keeps what its
command keeps, and each other row is made of operations that keep them. -/

namespace Sys2Proof.Machine

variable {i : Instr} {s t : State}

/-- A part of the standing parts that a command's own checks and effect keep, the whole packet keeps. -/
theorem runCommand_keeps {α : Type} (part : Standing → α) {sp : OpSpec} {own : Waiter → CmdIn → State → Own} {x : CmdIn}
    (h : ∀ w u, (own w x u).holds (fun t => part t.standing = part u.standing)) :
    part (runCommand sp own x s).standing = part s.standing := by
  refine runCommand_holds (P := fun u => part u.standing = part s.standing) (fun a b hab ha => ?_) sp own x s rfl (fun w u hu => ?_)
  · rw [← hab, ha]
  · rw [← hu]
    exact h w u

/-- A row whose effect keeps the standing parts keeps them. -/
theorem standing_of_next {u : State} (he : (.next u : Host.Outcome State Fault Refusal) = .next t) (h : u.standing = s.standing) :
    t.standing = s.standing := by
  obtain rfl := Host.Outcome.next.inj he
  exact h

/-- The row of a packet whose command keeps the standing parts keeps them. -/
theorem standing_of_packet {sp : OpSpec} {own : Waiter → CmdIn → State → Own} {x : CmdIn}
    (h : ∀ w u, (own w x u).holds (fun t => t.standing = u.standing))
    (he : (.next (runCommand sp own x s) : Host.Outcome State Fault Refusal) = .next t) : t.standing = s.standing :=
  standing_of_next he (runCommand_keeps id h)

/-- A row of the device family keeps the standing parts. -/
theorem exec_standing_of_device (hi : family i = .device) (he : exec i s = .next t) : t.standing = s.standing := by
  cases i
  case identify x => exact standing_of_packet (ownIdentify_holds · x ·) he
  case networkSet x => exact standing_of_packet (ownNetworkSet_holds · x ·) he
  case partnerSet x => exact standing_of_packet (ownPartnerSet_holds · x ·) he
  case liveServiceSet x => exact standing_of_packet (ownLiveServiceSet_holds · x ·) he
  case liveServiceRemove x => exact standing_of_packet (ownLiveServiceRemove_holds · x ·) he
  case evtRead x => exact standing_of_packet (ownEvtRead_holds · x ·) he
  case evtSubscribe x => exact standing_of_packet (ownEvtSubscribe_holds · x ·) he
  case telemetryGet x => exact standing_of_packet (ownTelemetryGet_holds · x ·) he
  case portService x => exact standing_of_packet (ownPortService_holds · x ·) he
  case auditRead x => exact standing_of_packet (ownAuditRead_holds · x ·) he
  case credSet x => exact standing_of_packet (ownCredSet_holds · x ·) he
  case credClear x => exact standing_of_packet (ownCredClear_holds · x ·) he
  case signkeyTrust x => exact standing_of_packet (ownSignkeyTrust_holds · x ·) he
  case signkeyRevoke x => exact standing_of_packet (ownSignkeyRevoke_holds · x ·) he
  case decommission x => exact standing_of_packet (ownDecommission_holds · x ·) he
  case updStage x => exact standing_of_packet (ownUpdStage_holds · x ·) he
  case updVerify x => exact standing_of_packet (ownUpdVerify_holds · x ·) he
  case ucodeApply x => exact standing_of_packet (ownUcodeApply_holds · x ·) he
  all_goals exact nomatch hi

/-- A row of jobs keeps the standing parts. -/
theorem exec_standing_of_jobs (hi : family i = .jobs) (he : exec i s = .next t) : t.standing = s.standing := by
  cases i
  case jobStart x => exact standing_of_packet (ownJobStart_holds · x ·) he
  case jobEnd x => exact standing_of_packet (ownJobEnd_holds · x ·) he
  case epochPlan x => exact standing_of_packet (ownEpochPlan_holds · x ·) he
  case paramTable x => exact standing_of_packet (ownParamTable_holds · x ·) he
  case paramRing x => exact standing_of_packet (ownParamRing_holds · x ·) he
  case jobTakeover x => exact standing_of_packet (ownJobTakeover_holds · x ·) he
  case jobResume x => exact standing_of_packet (ownJobResume_holds · x ·) he
  case jobLeave x => exact standing_of_packet (ownJobLeave_holds · x ·) he
  case cursorReset x => exact standing_of_packet (ownCursorReset_holds · x ·) he
  case jobQuery x => exact standing_of_packet (ownJobQuery_holds · x ·) he
  case planReissue x => exact standing_of_packet (ownPlanReissue_holds · x ·) he
  case slotCancel x => exact standing_of_packet (ownSlotCancel_holds · x ·) he
  case destBind x => exact standing_of_packet (ownDestBind_holds · x ·) he
  all_goals exact nomatch hi

/-- A row of pools keeps the standing parts. -/
theorem exec_standing_of_pools (hi : family i = .pools) (he : exec i s = .next t) : t.standing = s.standing := by
  cases i
  case poolConfig x => exact standing_of_packet (ownPoolConfig_holds · x ·) he
  case poolThreshold x => exact standing_of_packet (ownPoolThreshold_holds · x ·) he
  case poolAudit x => exact standing_of_packet (ownPoolAudit_holds · x ·) he
  case bankOwn x => exact standing_of_packet (ownBankOwn_holds · x ·) he
  case bankState x => exact standing_of_packet (ownBankState_holds · x ·) he
  case bankRetire x => exact standing_of_packet (ownBankRetire_holds · x ·) he
  case columnRepair x => exact standing_of_packet (ownColumnRepair_holds · x ·) he
  case compress x => exact standing_of_packet (ownCompress_holds · x ·) he
  case decompress x => exact standing_of_packet (ownDecompress_holds · x ·) he
  all_goals exact nomatch hi

/-- A row of media keeps the standing parts. -/
theorem exec_standing_of_media (hi : family i = .media) (he : exec i s = .next t) : t.standing = s.standing := by
  cases i
  case nsCreate x => exact standing_of_packet (ownNsCreate_holds · x ·) he
  case nsDelete x => exact standing_of_packet (ownNsDelete_holds · x ·) he
  case nsSeal x => exact standing_of_packet (ownNsSeal_holds · x ·) he
  case replicaSet x => exact standing_of_packet (ownReplicaSet_holds · x ·) he
  case dieRetire x => exact standing_of_packet (ownDieRetire_holds · x ·) he
  case sanitize x => exact standing_of_packet (ownSanitize_holds · x ·) he
  case selftest x => exact standing_of_packet (ownSelftest_holds · x ·) he
  case sanitizeComplete =>
    refine standing_of_next he ?_
    split <;> simp only [State.standing_mk, State.standing_eta, State.journalEntry_standing, State.journalFlush_standing,
      State.releaseFlushes_standing, State.controllerReady_standing]
  case selftestComplete bad seg =>
    refine standing_of_next he ?_
    repeat' split
    all_goals simp only [State.standing_mk, State.standing_eta, State.foundBad_standing]
  case nandOpComplete die ok block soft bad =>
    refine standing_of_next he ?_
    repeat' split
    all_goals simp only [apply_ite State.standing, ite_self, State.setDie_standing, State.bump_standing, State.foundBad_standing,
      State.oldestDone_standing, State.retireBlock_standing, State.program_standing, State.putDie_standing]
  case dieUnresponsive die bad =>
    refine standing_of_next he ?_
    simp only [apply_ite State.standing, ite_self, State.retireDie_standing, State.foundBad_standing]
  case journalFlushTimer now =>
    refine standing_of_next he ?_
    simp only [apply_ite State.standing, ite_self, State.advance_standing, State.journalFlush_standing]
  case checkpointTimer now =>
    refine standing_of_next he ?_
    split
    · exact foldl_standing _ _ _ (fun s g => State.program_standing { s with med := { s.med with segments := s.med.segments.del g.1 } } _)
    · rfl
  case patrolReadTimer die read soft bad =>
    refine standing_of_next he ?_
    simp only [apply_ite State.standing, ite_self, State.nandRequest_standing, State.bump64_standing, State.bump_standing,
      State.program_standing, State.foundBad_standing]
  case foldComplete fill reserve ok =>
    refine standing_of_next he ?_
    simp only [State.standing_mk, State.standing_eta, apply_ite State.standing, ite_self, State.journalEntry_standing,
      State.journalFlush_standing]
  case holdupSample v => exact standing_of_next he rfl
  case holdupEvaluation now =>
    refine standing_of_next he ?_
    simp only [State.advance_standing, State.measureHoldup_standing]
  case writePieceAdmit => exact standing_of_next he (State.admitPiece_standing ..)
  case replicaFetchRequest dev nsid off len =>
    refine standing_of_next he ?_
    repeat' split
    all_goals simp only [State.mediaRead_standing, State.emit_standing]
  all_goals exact nomatch hi

end Sys2Proof.Machine
end

section
/-! SUPPORT. The standing parts through the rows of power, of tiles and tests, and of the banks. -/

namespace Sys2Proof.Machine

variable {i : Instr} {s t : State}

/-- A row of power keeps the standing parts. -/
theorem exec_standing_of_power (hi : family i = .power) (he : exec i s = .next t) : t.standing = s.standing := by
  cases i
  case budgetSet x => exact standing_of_packet (ownBudgetSet_holds · x ·) he
  case freqAnnounce x => exact standing_of_packet (ownFreqAnnounce_holds · x ·) he
  case currantTokenRefresh now => exact standing_of_next he rfl
  case tokenGrant =>
    refine standing_of_next he ?_
    repeat' split
    all_goals rfl
  case clockStepEvaluation now avg avg10 outside =>
    refine standing_of_next he ?_
    repeat' split
    all_goals simp only [State.standing_mk, State.standing_eta, State.advance_standing, State.bump64_standing,
      State.evaluateHeld_standing, State.chooseStep_standing]
  case thermalLimitUpdate now readings =>
    refine standing_of_next he ?_
    simp only [State.standing_mk, State.standing_eta, State.advance_standing, State.noteCool_standing,
      State.refreshWarning_standing]
  case peakClamp us =>
    refine standing_of_next he ?_
    simp only [State.standing_mk, State.standing_eta, apply_ite State.standing, ite_self, State.raise_standing]
  case boostEnd idx temp =>
    refine standing_of_next he ?_
    simp only [State.standing_mk, State.standing_eta, apply_ite State.standing, ite_self, State.sense_standing,
      State.noteCool_standing, State.refreshWarning_standing, State.raise_standing]
  case boostCooldownStep now =>
    refine standing_of_next he ?_
    repeat' split
    all_goals rfl
  case boostRearm now =>
    refine standing_of_next he ?_
    repeat' split
    all_goals rfl
  case thermtrip idx temp =>
    refine standing_of_next he ?_
    simp only [State.standing_mk, State.standing_eta, apply_ite State.standing, State.sense_standing, State.latchOnly_standing, ite_self]
  case prochotChange low => exact standing_of_next he rfl
  case heldFreqTimeReached jobId now =>
    refine standing_of_next he ?_
    repeat' split
    all_goals simp only [State.advance_standing, State.setHold_standing]
  case heldModeLeft now =>
    refine standing_of_next he ?_
    repeat' split
    all_goals simp only [State.standing_mk, State.standing_eta, State.advance_standing, State.applyHold_standing,
      State.bump_standing, State.raise_standing]
  case domainIdleTimer d now =>
    refine standing_of_next he ?_
    split <;> rfl
  case domainPowerDownCommit d work now =>
    refine standing_of_next he ?_
    simp only [apply_ite State.standing, ite_self, State.advance_standing, State.postWork_standing, State.abortSlices_standing,
      State.updDomain_standing, State.emptyCache_standing, State.noteAsleep_standing]
  case domainWakeComplete d =>
    refine standing_of_next he ?_
    repeat' split
    all_goals rfl
  case clkLoss m now =>
    refine standing_of_next he ?_
    simp only [apply_ite State.standing, ite_self, State.advance_standing, State.updMonitor_standing, State.bump_standing,
      State.raise_standing, State.clockLost_standing]
  case clkRestored m ppm =>
    refine standing_of_next he ?_
    simp only [apply_ite State.standing, ite_self, State.updMonitor_standing, State.raise_standing, State.clockBack_standing]
  case clkHoldoverExpiry now =>
    refine standing_of_next he ?_
    repeat' split
    all_goals simp only [State.advance_standing, State.raise_standing]
  case pldmBudget w =>
    refine standing_of_next he ?_
    simp only [apply_ite State.standing, State.takeBudget_standing, ite_self]
  case pmbusRead rail mv ma temp => exact standing_of_next he rfl
  case currentSensorSample w => exact standing_of_next he rfl
  all_goals exact nomatch hi

/-- A row of tiles and tests keeps the standing parts. -/
theorem exec_standing_of_tests (hi : family i = .tests) (he : exec i s = .next t) : t.standing = s.standing := by
  cases i
  case testRun x => exact standing_of_packet (ownTestRun_holds · x ·) he
  case engineBypass x => exact standing_of_packet (ownEngineBypass_holds · x ·) he
  case tileDrain x => exact standing_of_packet (ownTileDrain_holds · x ·) he
  case tileRejoin x => exact standing_of_packet (ownTileRejoin_holds · x ·) he
  case tschDrain path tile v =>
    refine standing_of_next he ?_
    rw [apply_ite State.standing, s.gated_standing _ _ _ (fun s => s.writeTschCtrl_standing ..), ite_self]
  case tschRejoin path tile v =>
    refine standing_of_next he ?_
    rw [apply_ite State.standing, s.gated_standing _ _ _ (fun s => s.writeTschCtrl_standing ..), ite_self]
  case tileDrained tile =>
    refine standing_of_next he ?_
    simp only [apply_ite State.standing, ite_self, State.updTile_standing, State.emptyRefs_standing, State.finishAll_standing]
  case tstCtrlWrite path v => exact standing_of_next he (s.gated_standing _ _ _ (fun _ => rfl))
  case testSliceStart tile cls idx now =>
    refine standing_of_next he ?_
    simp only [apply_ite State.standing, ite_self, State.advance_standing, State.startEngineSlice_standing,
      State.addSlice_standing, State.startRegion_standing]
  case testSliceComplete tile cls idx ok sub col ue now =>
    refine standing_of_next he ?_
    repeat' split
    all_goals simp only [State.advance_standing, State.sliceLeaves_standing, State.slicePasses_standing, State.sliceFails_standing,
      State.poison_standing, State.sliceCounts_standing, State.countRuns_standing]
  case testDomainWakeTimer d now =>
    refine standing_of_next he ?_
    simp only [State.standing_mk, State.standing_eta, apply_ite State.standing, ite_self, State.advance_standing,
      State.postWork_standing]
  case engineSelfFault tile cls idx =>
    refine standing_of_next he ?_
    simp only [apply_ite State.standing, ite_self, State.engineFault_standing]
  all_goals exact nomatch hi

/-- A row of bank registers and audits keeps the standing parts. -/
theorem exec_standing_of_banks (hi : family i = .banks) (he : exec i s = .next t) : t.standing = s.standing := by
  cases i
  case bnkLock path die v =>
    refine standing_of_next he ?_
    rw [apply_ite State.standing, s.gated_standing _ _ _ (fun s => by split <;> rfl), ite_self]
  case bnkOwnWrite path die bank v =>
    refine standing_of_next he ?_
    rw [apply_ite State.standing, s.gated_standing _ _ _ (fun s => s.writeBnkOwn_standing ..), ite_self]
  case bankHandoverComplete die bank => exact standing_of_next he (State.endHandover_standing ..)
  case bnkStateWrite path die bank v =>
    refine standing_of_next he ?_
    rw [apply_ite State.standing, s.gated_standing _ _ _ (fun s => s.writeBnkState_standing ..), ite_self]
  case bankTransitionComplete die bank => exact standing_of_next he (State.endBankMove_standing ..)
  case poolAuditGo path v => exact standing_of_next he (s.gated_standing _ _ _ (fun s => s.auditGo_standing _))
  case leakAuditComplete =>
    refine standing_of_next he ?_
    split <;> simp only [State.standing_mk, State.standing_eta, State.auditEnds_standing]
  case compressionJobComplete idx =>
    refine standing_of_next he ?_
    split
    · rfl
    · simp only [apply_ite State.standing, State.finish_standing, State.bump_standing, State.bump64_standing, ite_self]
      split <;> simp only [State.standing_mk, State.standing_eta, State.placeJob_standing, State.cxeCount_standing, State.cxeWrite_standing]
  all_goals exact nomatch hi

end Sys2Proof.Machine
end

section
/-! SUPPORT. The standing parts through the rows of ports, links, shaping, congestion and live streams. -/

namespace Sys2Proof.Machine

variable {i : Instr} {s t : State}

/-- A row of ports, packets and time keeps the standing parts. -/
theorem exec_standing_of_fabric (hi : family i = .fabric) (he : exec i s = .next t) : t.standing = s.standing := by
  cases i
  case fabPortRetrain path f v => exact standing_of_next he (State.portCtrlRow_standing ..)
  case fabPortRecal path f v => exact standing_of_next he (State.portCtrlRow_standing ..)
  case fabLaneRecal path f v => exact standing_of_next he (State.portCtrlRow_standing ..)
  case fabricPacketReceive f p =>
    refine standing_of_next he ?_
    simp only [State.standing_mk, State.standing_eta, apply_ite State.standing, ite_self, State.bump_standing, State.emit_standing,
      State.bump64_standing, State.updPort_standing, State.wakePort_standing, State.transit_standing]
  case flowCreditReceive f vc =>
    refine standing_of_next he ?_
    repeat' split
    all_goals simp only [State.updPort_standing, State.serve_standing]
  case portIdleTimer f load now =>
    refine standing_of_next he ?_
    repeat' split
    all_goals rfl
  case quietEntryCommit f packet =>
    refine standing_of_next he ?_
    repeat' split
    all_goals rfl
  case quietExitComplete f =>
    refine standing_of_next he ?_
    simp only [apply_ite State.standing, ite_self, State.updPort_standing, State.serve_standing]
  case quietKeepalive now => exact standing_of_next he (foldl_standing _ _ _ (fun _ _ => rfl))
  case linkDelayExchange f now hops corr source =>
    refine standing_of_next he ?_
    dsimp only
    repeat' split
    all_goals simp only [State.standing_mk, State.standing_eta, State.correct_standing, State.updPort_standing, State.advance_standing]
  case ptpMessageReceive q offset =>
    refine standing_of_next he ?_
    split <;> rfl
  case timeHoldover =>
    refine standing_of_next he ?_
    simp only [State.standing_mk, State.standing_eta, apply_ite State.standing, ite_self, State.raise_standing]
  case pfcFrameReceive q prio pause =>
    refine standing_of_next he ?_
    simp only [State.standing_mk, State.standing_eta, apply_ite State.standing, ite_self, State.serve_standing]
  case ethPortLinkChange q st =>
    refine standing_of_next he ?_
    simp only [State.standing_mk, State.standing_eta, apply_ite State.standing, ite_self, State.serve_standing]
  all_goals exact nomatch hi

/-- A row of links and peers keeps the standing parts. -/
theorem exec_standing_of_links (hi : family i = .links) (he : exec i s = .next t) : t.standing = s.standing := by
  cases i
  case portTrainingComplete f lanes peer peerPort ver affected now found =>
    refine standing_of_next he ?_
    repeat' split
    all_goals simp only [State.advance_standing, State.laneDone_standing, State.portFails_standing, State.raise_standing,
      State.portUp_standing]
  case linkDown f affected now lost =>
    refine standing_of_next he ?_
    simp only [apply_ite State.standing, ite_self, State.advance_standing, State.portStops_standing, State.noteLost_standing,
      State.routeChange_standing, State.interruptRecoveries_standing]
  case laneFail f lane affected now lost =>
    refine standing_of_next he ?_
    simp only [apply_ite State.standing, ite_self, State.advance_standing, State.updPort_standing, State.raise_standing,
      State.portStops_standing, State.noteLost_standing, State.routeChange_standing, State.interruptRecoveries_standing]
  case peerLost dev affected now lost =>
    refine standing_of_next he ?_
    simp only [apply_ite State.standing, ite_self, State.advance_standing, State.raise_standing, State.noteLost_standing,
      State.routeChange_standing]
  case deviceUnreachable dev now =>
    refine standing_of_next he ?_
    split
    · split
      · exact foldl_standing _ _ _ (fun s _ => (State.loseDevice_standing ..).trans (s.raise_standing ..))
      · rfl
    · rfl
  all_goals exact nomatch hi

/-- A row of shaping keeps the standing parts. -/
theorem exec_standing_of_shaping (hi : family i = .shaping) (he : exec i s = .next t) : t.standing = s.standing := by
  cases i
  case shpGclCommit path sp v =>
    refine standing_of_next he ?_
    rw [apply_ite State.standing, s.gated_standing _ _ _ (fun s => s.writeGclCtrl_standing ..), ite_self]
  case gclBaseTimeReached sp now =>
    refine standing_of_next he ?_
    repeat' split
    all_goals simp only [State.advance_standing, State.setShaper_standing, State.serve_standing]
  case shaperRefill now =>
    refine standing_of_next he ?_
    simp only [State.standing_mk, State.standing_eta, apply_ite State.standing, ite_self, State.advance_standing,
      State.serveAll_standing]
  case gateIntervalEnd sp now =>
    refine standing_of_next he ?_
    split <;> simp only [State.advance_standing, State.setShaper_standing, State.serve_standing]
  all_goals exact nomatch hi

/-- A row of congestion keeps the standing parts. -/
theorem exec_standing_of_roce (hi : family i = .roce) (he : exec i s = .next t) : t.standing = s.standing := by
  cases i
  case cnpReceive qp port now =>
    refine standing_of_next he ?_
    repeat' split
    all_goals rfl
  case cePacketReceive qp port now =>
    refine standing_of_next he ?_
    split
    · rfl
    dsimp only
    split
    · simp only [apply_ite State.standing, State.sendRoce_standing, State.bump_standing, State.bump64_standing,
        State.updQp_standing, State.advance_standing, ite_self]
    · rfl
  case roceRateRecovery qp now => exact standing_of_next he rfl
  all_goals exact nomatch hi

/-- A row of live streams keeps the standing parts. -/
theorem exec_standing_of_live (hi : family i = .live) (he : exec i s = .next t) : t.standing = s.standing := by
  cases i
  case liveDatagramReceive service data raps =>
    refine standing_of_next he ?_
    repeat' split
    all_goals simp only [State.setService_standing, State.liveBurst_standing, State.rtpPacket_standing]
  case liveStreamStop service =>
    refine standing_of_next he ?_
    repeat' split
    all_goals rfl
  all_goals exact nomatch hi

end Sys2Proof.Machine
end

section
/-! SUPPORT. The standing parts through plan messages and the rows of samples, delivery and remote memory. -/

namespace Sys2Proof.Machine

variable {i : Instr} {s t : State}

/-- A plan message keeps the standing parts. -/
theorem exec_standing_of_plans (hi : family i = .plans) (he : exec i s = .next t) : t.standing = s.standing := by
  cases i
  case countEntryReceive rank jobId epoch digest counts =>
    exact standing_of_next he (s.withPlan_standing _ _ _ (fun _ _ _ => by split <;> rfl))
  case stepEntryReceive rank jobId epoch entries =>
    exact standing_of_next he (s.withPlan_standing _ _ _ (fun _ _ _ => by split <;> rfl))
  case planRecordReceive jobId epoch rec => exact standing_of_next he (s.withPlan_standing _ _ _ (fun _ _ _ => by split <;> rfl))
  case endMarkerReceive rank jobId epoch count =>
    exact standing_of_next he (s.withPlan_standing _ _ _ (fun _ _ _ => by split <;> rfl))
  case planScanComplete jobId epoch rank =>
    exact standing_of_next he (s.withPlan_standing _ _ _ (fun _ _ _ => by rw [apply_ite State.standing, s.scanEnds_standing, ite_self]))
  case abortMessageReceive rank jobId epoch lost =>
    refine standing_of_next he ?_
    repeat' split
    all_goals simp only [State.abandonPlan_standing, State.setJob_standing]
  all_goals exact nomatch hi

/-- A row of samples keeps the standing parts. -/
theorem exec_standing_of_samples (hi : family i = .samples) (he : exec i s = .next t) : t.standing = s.standing := by
  cases i
  case paramRecordReceive fromRing j rec =>
    refine standing_of_next he ?_
    simp only [apply_ite State.standing, ite_self, State.takeFromRing_standing, State.takeFromTable_standing]
  case paramMissing n now =>
    refine standing_of_next he ?_
    repeat' split
    all_goals simp only [State.advance_standing, State.stopSample_standing]
  case sampleAdmit jobId epoch idx tile =>
    refine standing_of_next he ?_
    repeat' split
    all_goals simp only [apply_ite State.standing, ite_self, State.admit_standing, State.postWork_standing]
  case fetchReadComplete idx =>
    refine standing_of_next he ?_
    repeat' split
    all_goals simp only [State.fetched_standing, State.askReplica_standing]
  case replicaFetchResponse idx dev data =>
    refine standing_of_next he ?_
    repeat' split
    all_goals simp only [State.repairUnits_standing, State.fetched_standing, State.askReplica_standing]
  case stageComplete idx out =>
    refine standing_of_next he ?_
    repeat' split
    all_goals simp only [State.stageEnds_standing]
  case refFrameDecoded tile key size takers ok =>
    refine standing_of_next he ?_
    simp only [apply_ite State.standing, ite_self, State.refDecoded_standing]
  case roiResult idx k =>
    refine standing_of_next he ?_
    repeat' split
    all_goals simp only [State.badParam_standing, State.bump64_standing, State.bump_standing, State.updWork_standing]
  case memberVerdictReceive jobId epoch step member keep sample =>
    refine standing_of_next he ?_
    repeat' split
    all_goals simp only [State.takeVerdict_standing]
  case reservePlacementReceive jobId epoch step member slot =>
    refine standing_of_next he ?_
    split <;> simp only [State.placeReserve_standing]
  all_goals exact nomatch hi

/-- A row of slot writes and consumed words keeps the standing parts. -/
theorem exec_standing_of_delivery (hi : family i = .delivery) (he : exec i s = .next t) : t.standing = s.standing := by
  cases i
  case slotWriteReady jobId index slot dest =>
    refine standing_of_next he ?_
    repeat' split
    all_goals simp only [State.writeSlot_standing]
  case rdmaWriteAck jobId index slot dest =>
    refine standing_of_next he ?_
    repeat' split
    all_goals simp only [State.roceHeard_standing, State.dataAcked_standing, State.setJob_standing, State.countEmpty_standing,
      State.bump64_standing, State.writesEnded_standing]
  case consumedWordResponse jobId rank dest value =>
    refine standing_of_next he ?_
    repeat' split
    all_goals simp only [State.roceHeard_standing, State.setJob_standing, State.writesEnded_standing]
  case consumedWordRead jobId rank dest now =>
    refine standing_of_next he ?_
    repeat' split
    all_goals simp only [State.advance_standing, State.setJob_standing, State.sendRead_standing]
  case roceAckTimeout qp =>
    refine standing_of_next he ?_
    split
    · dsimp only
      split
      · rfl
      split
      · exact foldl_standing _ _ _ (fun s _ => s.resend_standing ..)
      · exact s.qpError_standing _
    · rfl
  case recoveryComplete jobId =>
    refine standing_of_next he ?_
    repeat' split
    all_goals simp only [State.setJob_standing, State.leaveJob_standing, State.advanceCursor_standing, State.finishAll_standing,
      State.startAudit_standing]
  all_goals exact nomatch hi

/-- A row of remote memory and mirrors keeps the standing parts. -/
theorem exec_standing_of_remote (hi : family i = .remote) (he : exec i s = .next t) : t.standing = s.standing := by
  cases i
  case windowOpen x => exact standing_of_packet (ownWindowOpen_holds · x ·) he
  case windowClose x => exact standing_of_packet (ownWindowClose_holds · x ·) he
  case windowRekey x => exact standing_of_packet (ownWindowRekey_holds · x ·) he
  case rmaWrite x => exact standing_of_packet (ownRmaWrite_holds · x ·) he
  case rmaRead x => exact standing_of_packet (ownRmaRead_holds · x ·) he
  case rmaRequestReceive q =>
    refine standing_of_next he ?_
    split <;> simp only [State.serveRequest_standing, State.refuseRequest_standing]
  case rmaResponseReceive id status data => exact standing_of_next he (State.endRequest_standing ..)
  case rmaViolationRemote dev window off len status => exact standing_of_next he (State.raise_standing ..)
  case rmaTimeout id now =>
    refine standing_of_next he ?_
    repeat' split
    all_goals simp only [State.advance_standing, State.endRequest_standing]
  case windowCloseComplete window =>
    refine standing_of_next he ?_
    repeat' split
    all_goals simp only [State.standing_mk, State.standing_eta, State.dropRef_standing, State.finish_standing]
  case cursorMirrorTimer now =>
    refine standing_of_next he ?_
    split
    · exact foldl_standing _ _ _ (fun s _ => s.mirrorInterval_standing _)
    · rfl
  case mirrorWriteFail jobId =>
    refine standing_of_next he ?_
    repeat' split
    all_goals simp only [State.standing_mk, State.standing_eta, State.mirrorFailed_standing]
  case mirrorSetupReceive dev jobId =>
    refine standing_of_next he ?_
    split
    · rfl
    dsimp only
    split
    · next hopen => exact (State.openMirror_standing hopen).trans (s.closeMirror_standing ..)
    · exact s.closeMirror_standing ..
  case mirrorSetupReply jobId ok window key => exact standing_of_next he (State.updMirror_standing ..)
  case mirrorSetupRetry now =>
    refine standing_of_next he ?_
    split
    · refine foldl_standing _ _ _ (fun s e => ?_)
      repeat' split
      all_goals rfl
    · rfl
  case mirrorReleaseReceive dev jobId =>
    refine standing_of_next he ?_
    repeat' split
    all_goals simp only [State.closeMirror_standing]
  all_goals exact nomatch hi

end Sys2Proof.Machine
end

section
/-! SUPPORT. The standing parts through the rows of NVMe. -/

namespace Sys2Proof.Machine

variable {i : Instr} {s t : State}

/-- A row of NVMe I/O keeps the standing parts. -/
theorem exec_standing_of_nvmeIo (hi : family i = .nvmeIo) (he : exec i s = .next t) : t.standing = s.standing := by
  cases i
  case nvmeWrite c => exact standing_of_next he (ioRow_standing ..)
  case nvmeRead c => exact standing_of_next he (ioRow_standing ..)
  case nvmeFlush c => exact standing_of_next he (ioRow_standing ..)
  case nvmeWriteZeroes c => exact standing_of_next he (ioRow_standing ..)
  case nvmeDatasetManagement c => exact standing_of_next he (ioRow_standing ..)
  case nvmeVerify c => exact standing_of_next he (ioRow_standing ..)
  case nvmePowerStateExit =>
    refine standing_of_next he ?_
    simp only [State.standing_mk, State.standing_eta, apply_ite State.standing, ite_self, State.setDomain_standing,
      State.runHeld_standing]
  all_goals exact nomatch hi

/-- A row of NVMe administration keeps the standing parts. -/
theorem exec_standing_of_nvmeAdmin (hi : family i = .nvmeAdmin) (he : exec i s = .next t) : t.standing = s.standing := by
  cases i
  case nvmeDoorbellWrite isCq q v now =>
    refine standing_of_next he ?_
    repeat' split
    all_goals rfl
  case nvmeAbort c =>
    refine standing_of_next he ?_
    refine adminRow_standing _ _ _ (fun s => ?_)
    dsimp only
    split
    · next habort => exact (State.nvDone_standing ..).trans ((State.nvmePost_standing ..).trans (State.abortNamed_standing habort))
    · exact s.nvDone_standing ..
  case nvmeFormatNvm c =>
    refine standing_of_next he ?_
    refine adminRow_standing _ _ _ (fun s => ?_)
    simp only [apply_ite State.standing, State.nvDone_standing, foldl_standing _ _ _ State.formatSpace_standing, ite_self]
  case nvmeSanitize c =>
    refine standing_of_next he ?_
    refine adminRow_standing _ _ _ (fun s => ?_)
    simp only [apply_ite State.standing, State.nvDone_standing, State.startSanitize_standing, ite_self]
  case nvmeDeviceSelfTest c =>
    refine standing_of_next he ?_
    refine adminRow_standing _ _ _ (fun s => ?_)
    simp only [apply_ite State.standing, State.nvDone_standing, State.abortSelftest_standing, State.startSelftest_standing, ite_self]
  case nvmeIdentify c =>
    refine standing_of_next he ?_
    refine adminRow_standing _ _ _ (fun s => ?_)
    split <;> simp only [State.nvDone_standing, State.emit_standing]
  case nvmeGetLogPage c =>
    refine standing_of_next he ?_
    refine adminRow_standing _ _ _ (fun s => ?_)
    split <;> simp only [State.nvDone_standing, State.emit_standing]
  case nvmeSetFeatures c =>
    refine standing_of_next he ?_
    refine adminRow_standing _ _ _ (fun s => ?_)
    simp only [apply_ite State.standing, State.nvDone_standing, State.setPowerState_standing, State.storeFeature_standing,
      foldl_standing _ _ _ (fun s p => s.storeFeature_standing (0x1000 + p) (field c.data (8 * p) 4)), ite_self]
  case nvmeGetFeatures c =>
    refine standing_of_next he ?_
    refine adminRow_standing _ _ _ (fun s => ?_)
    simp only [apply_ite State.standing, State.nvDone_standing, ite_self]
  case nvmeAsyncEventRequest c => exact standing_of_next he (adminRow_standing _ _ _ (fun _ => rfl))
  case nvmeKeepAlive c => exact standing_of_next he (adminRow_standing _ _ _ (fun _ => State.nvDone_standing ..))
  case nvmeCreateQueue c => exact standing_of_next he (adminRow_standing _ _ _ (fun s => s.createQueue_standing _))
  case nvmeDeleteQueue c => exact standing_of_next he (adminRow_standing _ _ _ (fun s => s.deleteQueue_standing _))
  case nvmeUnsupportedOpcode c =>
    refine standing_of_next he ?_
    rw [apply_ite State.standing, s.nvmeRun_standing _ _ _ (fun s => s.nvDone_standing ..), ite_self]
  case nvmeCcWrite v =>
    refine standing_of_next he ?_
    simp only [apply_ite State.standing, ite_self, State.writeCc_standing]
  case nvmeShutdownComplete =>
    refine standing_of_next he ?_
    simp only [State.standing_mk, State.standing_eta, apply_ite State.standing, ite_self, State.sealMedia_standing]
  case nvmePowerStateCommit now =>
    refine standing_of_next he ?_
    repeat' split
    all_goals simp only [State.standing_mk, State.standing_eta, apply_ite State.standing, State.setDomain_standing,
      State.advance_standing, ite_self]
  all_goals exact nomatch hi

end Sys2Proof.Machine
end

section
/-! SUPPORT. The settings of the last start, the loaded recipes and images and the expression unit (R94, R105, R112, R226, R504):
each row outside the restart family keeps them but the rows that load, unload, evaluate or write registers. -/

namespace Sys2Proof.Machine

variable {i : Instr} {s t : State}

/-! ## Loaded objects -/

/-- What starts, loads and evaluations set: the settings of the last start, the recipes, the images and the expression unit;
the other standing parts are blank. -/
def Standing.loaded (h : Standing) : Standing := { h with pending := [], sys := {}, snaps := [], shadows := [] }

/-- The loaded objects but the expression unit. -/
def Standing.butBrm (h : Standing) : Standing := { h.loaded with brm := {} }

/-- The loaded objects but the recipes. -/
def Standing.butRecipes (h : Standing) : Standing := { h.loaded with recipes := [] }

/-- The loaded objects but the images. -/
def Standing.butImages (h : Standing) : Standing := { h.loaded with models := [], vocabs := [], grammars := [] }

/-! ## Rows that change the system block -/

/-- An operation that keeps the standing parts still keeps the loaded objects when the system, power and media blocks change. -/
theorem State.loaded_of_standing {u : State} (h : u.standing = s.standing) (y : SysBlock) (p : PwrBlock) (m : MedBlock) :
    (State.standing { u with sys := y, pwr := p, med := m }).loaded = s.standing.loaded := by
  have hloaded : u.standing.loaded = s.standing.loaded := congrArg Standing.loaded h
  exact hloaded

theorem ownRestartAfterStop_loaded (w : Waiter) (x : CmdIn) (s : State) :
    (ownRestartAfterStop w x s).holds (fun t => t.standing.loaded = s.standing.loaded) := by
  unfold ownRestartAfterStop
  split
  · exact rfl
  · dsimp only [Own.holds]
    exact State.loaded_of_standing (foldl_standing _ _ s (fun s d => s.updDomain_standing d _)) _ _ _

theorem State.flowBack_loaded (s : State) : s.flowBack.standing.loaded = s.standing.loaded := by
  unfold State.flowBack
  split <;> rfl

/-- The end of a live activation changes the system block, and of the standing parts nothing else. -/
theorem State.endActivation_loaded (s : State) (w : Waiter) : (s.endActivation w).standing.loaded = s.standing.loaded := by
  unfold State.endActivation
  simp only [State.finish_standing, State.measureHoldup_standing, State.endTrial_standing, State.retrainLinks_standing,
    apply_ite State.standing, State.standing_mk, ite_self]
  rfl

/-- A row of the coolant stop or of a power failure keeps the loaded objects. -/
theorem exec_loaded_of_stops (hi : family i = .stops) (he : exec i s = .next t) : t.standing.loaded = s.standing.loaded := by
  cases i
  case restartAfterStop x =>
    obtain rfl := Host.Outcome.next.inj he
    exact runCommand_keeps Standing.loaded (ownRestartAfterStop_loaded · x ·)
  case coolantStop =>
    obtain rfl := Host.Outcome.next.inj he
    simp only [apply_ite State.standing, State.flowLost_standing, State.latchStop_standing, State.stopEngines_standing,
      State.stopFlush_standing, ite_self]
  case coolantFlowReturn =>
    obtain rfl := Host.Outcome.next.inj he
    exact s.flowBack_loaded
  case coolantFlushEnd done =>
    obtain rfl := Host.Outcome.next.inj he
    split
    · refine State.loaded_of_standing ((State.domainsOff_standing ..).trans ?_) _ _ _
      split
      · rfl
      split
      · exact s.endFlush_standing
      · exact State.loseDirty_standing _
    · rfl
  case pwrFailAssert =>
    obtain rfl := Host.Outcome.next.inj he
    simp only [State.standing_mk, State.standing_eta, apply_ite State.standing, State.stopEngines_standing,
      State.beginFlush_standing, ite_self]
  case holdupFlushComplete powerBack =>
    obtain rfl := Host.Outcome.next.inj he
    split
    · dsimp only
      split <;> exact State.loaded_of_standing s.endFlush_standing _ _ _
    · rfl
  all_goals exact nomatch hi

/-- A row of the host link or of a function's reset keeps the loaded objects. -/
theorem exec_loaded_of_host (hi : family i = .host) (he : exec i s = .next t) : t.standing.loaded = s.standing.loaded := by
  cases i
  case pf0Flr =>
    obtain rfl := Host.Outcome.next.inj he
    exact congrArg Standing.loaded (s.nvmeReset_standing 0)
  case pf1Flr =>
    obtain rfl := Host.Outcome.next.inj he
    exact congrArg Standing.loaded s.resetPf1_standing
  case perstAssert =>
    obtain rfl := Host.Outcome.next.inj he
    dsimp only
    split <;> rfl
  case perstDeassert now =>
    obtain rfl := Host.Outcome.next.inj he
    rfl
  case pcieLinkDown =>
    obtain rfl := Host.Outcome.next.inj he
    rfl
  case pcieLinkUp =>
    obtain rfl := Host.Outcome.next.inj he
    split
    · rfl
    · exact congrArg Standing.loaded (foldl_standing _ _ _ (fun s _ => s.nvmeDeliver_standing ..))
  case configurationRequest pf off =>
    obtain rfl := Host.Outcome.next.inj he
    simp only [apply_ite State.standing, State.emit_standing, ite_self]
  case liveActivationReady now =>
    obtain rfl := Host.Outcome.next.inj he
    split
    · exact State.endActivation_loaded ..
    · rfl
  all_goals exact nomatch hi

/-! ## Rows that load and unload -/

theorem State.sourceFails_keeps (part : Standing → Standing) (s : State) (x : CmdIn) (a b n : Nat) (r : Result) :
    (s.sourceFails x a b n r).holds (fun t => part t.standing = part s.standing) := by
  unfold State.sourceFails
  split
  · exact congrArg part (s.lostRead_standing ..)
  · trivial

theorem State.loadRecipe_butRecipes (s : State) (x : CmdIn) (img : Bytes) :
    (s.loadRecipe x img).holds (fun t => t.standing.butRecipes = s.standing.butRecipes) := by
  unfold State.loadRecipe
  dsimp only
  split
  · exact rfl
  split
  · trivial
  split
  · split
    · exact congrArg Standing.butRecipes (s.lostRead_standing ..)
    · trivial
  split
  · trivial
  · exact rfl

theorem ownRecipeLoad_butRecipes (w : Waiter) (x : CmdIn) (s : State) :
    (ownRecipeLoad w x s).holds (fun t => t.standing.butRecipes = s.standing.butRecipes) := by
  unfold ownRecipeLoad
  dsimp only
  split
  · trivial
  split
  · trivial
  split
  · trivial
  split
  · trivial
  split
  · exact s.sourceFails_keeps Standing.butRecipes ..
  · exact s.loadRecipe_butRecipes ..

theorem ownRecipeUnload_butRecipes (w : Waiter) (x : CmdIn) (s : State) :
    (ownRecipeUnload w x s).holds (fun t => t.standing.butRecipes = s.standing.butRecipes) := by
  unfold ownRecipeUnload
  dsimp only
  split
  · trivial
  split
  · exact rfl
  split
  · trivial
  · exact rfl

theorem State.setImages_butImages (s : State) (kind : Nat) (m : CMap HeldImage) :
    (s.setImages kind m).standing.butImages = s.standing.butImages := by
  unfold State.setImages
  split <;> rfl

theorem State.loadImage_butImages (s : State) (kind : Nat) (sigOk : Bool) (img : Bytes) :
    (s.loadImage kind sigOk img).holds (fun t => t.standing.butImages = s.standing.butImages) := by
  unfold State.loadImage
  dsimp only
  split
  · exact rfl
  split
  · trivial
  split
  · trivial
  split
  · exact s.setImages_butImages ..
  · trivial

theorem ownImageLoad_butImages (w : Waiter) (x : CmdIn) (s : State) :
    (ownImageLoad w x s).holds (fun t => t.standing.butImages = s.standing.butImages) := by
  unfold ownImageLoad
  dsimp only
  split
  · trivial
  split
  · exact s.sourceFails_keeps Standing.butImages ..
  · exact s.loadImage_butImages ..

theorem ownImageUnload_butImages (w : Waiter) (x : CmdIn) (s : State) :
    (ownImageUnload w x s).holds (fun t => t.standing.butImages = s.standing.butImages) := by
  unfold ownImageUnload
  dsimp only
  split
  · trivial
  split
  · exact rfl
  split
  · trivial
  · exact s.setImages_butImages ..

/-! ## The rows of recipes and images -/

section
variable {x : CmdIn}

/-- A row that loads, unloads or replaces a recipe keeps the loaded objects but the recipes. -/
theorem exec_butRecipes
    (he : exec (.recipeLoad x) s = .next t ∨ exec (.recipeUnload x) s = .next t ∨ exec (.recipeReplace x) s = .next t) :
    t.standing.butRecipes = s.standing.butRecipes := by
  rcases he with he | he | he
  · obtain rfl := Host.Outcome.next.inj he
    exact runCommand_keeps Standing.butRecipes (ownRecipeLoad_butRecipes · x ·)
  · obtain rfl := Host.Outcome.next.inj he
    exact runCommand_keeps Standing.butRecipes (ownRecipeUnload_butRecipes · x ·)
  · exact congrArg Standing.butRecipes (standing_of_packet (ownRecipeReplace_holds · x ·) he)

/-- A row that loads or unloads an image, or replaces a recipe, keeps the loaded objects but the images. -/
theorem exec_butImages
    (he : exec (.imageLoad x) s = .next t ∨ exec (.imageUnload x) s = .next t ∨ exec (.recipeReplace x) s = .next t) :
    t.standing.butImages = s.standing.butImages := by
  rcases he with he | he | he
  · obtain rfl := Host.Outcome.next.inj he
    exact runCommand_keeps Standing.butImages (ownImageLoad_butImages · x ·)
  · obtain rfl := Host.Outcome.next.inj he
    exact runCommand_keeps Standing.butImages (ownImageUnload_butImages · x ·)
  · exact congrArg Standing.butImages (standing_of_packet (ownRecipeReplace_holds · x ·) he)

end

/-- A row of recipes and images keeps the settings of the last start and the expression unit. -/
theorem exec_run_brm_of_recipes (hi : family i = .recipes) (he : exec i s = .next t) : t.run = s.run ∧ t.brm = s.brm := by
  have recipeRow := fun h : t.standing.butRecipes = s.standing.butRecipes =>
    And.intro (congrArg Standing.run h) (congrArg Standing.brm h)
  have imageRow := fun h : t.standing.butImages = s.standing.butImages =>
    And.intro (congrArg Standing.run h) (congrArg Standing.brm h)
  cases i
  case recipeLoad x => exact recipeRow (exec_butRecipes (.inl he))
  case recipeUnload x => exact recipeRow (exec_butRecipes (.inr (.inl he)))
  case recipeReplace x => exact recipeRow (exec_butRecipes (.inr (.inr he)))
  case imageLoad x => exact imageRow (exec_butImages (.inl he))
  case imageUnload x => exact imageRow (exec_butImages (.inr (.inl he)))
  all_goals exact nomatch hi

/-! ## All rows -/

/-- The families of rows that may change a loaded object. -/
def loadingFamilies : List Family := [.restart, .recipes, .registers, .brm]

/-- A row of any other family keeps every loaded object. -/
theorem exec_loaded (hi : family i ∉ loadingFamilies) (he : exec i s = .next t) : t.standing.loaded = s.standing.loaded := by
  have ofStanding := fun h : t.standing = s.standing => congrArg Standing.loaded h
  cases hf : family i
  case restart | recipes | registers | brm => exact absurd (by rw [hf]; decide) hi
  case copies => exact kept (exec_outside_of_copies hf he) (fun u => u.standing.loaded)
  case rings => exact kept (exec_outside_of_rings hf he) (fun u => u.standing.loaded)
  case security => exact kept (exec_outside_of_security hf he) (fun u => u.standing.loaded)
  case stops => exact exec_loaded_of_stops hf he
  case host => exact exec_loaded_of_host hf he
  case device => exact ofStanding (exec_standing_of_device hf he)
  case jobs => exact ofStanding (exec_standing_of_jobs hf he)
  case pools => exact ofStanding (exec_standing_of_pools hf he)
  case media => exact ofStanding (exec_standing_of_media hf he)
  case power => exact ofStanding (exec_standing_of_power hf he)
  case tests => exact ofStanding (exec_standing_of_tests hf he)
  case banks => exact ofStanding (exec_standing_of_banks hf he)
  case fabric => exact ofStanding (exec_standing_of_fabric hf he)
  case links => exact ofStanding (exec_standing_of_links hf he)
  case shaping => exact ofStanding (exec_standing_of_shaping hf he)
  case plans => exact ofStanding (exec_standing_of_plans hf he)
  case samples => exact ofStanding (exec_standing_of_samples hf he)
  case delivery => exact ofStanding (exec_standing_of_delivery hf he)
  case roce => exact ofStanding (exec_standing_of_roce hf he)
  case remote => exact ofStanding (exec_standing_of_remote hf he)
  case live => exact ofStanding (exec_standing_of_live hf he)
  case nvmeIo => exact ofStanding (exec_standing_of_nvmeIo hf he)
  case nvmeAdmin => exact ofStanding (exec_standing_of_nvmeAdmin hf he)

/-- A row outside the restart and recipe families keeps the loaded objects but the expression unit. -/
theorem exec_butBrm (hr : family i ≠ .restart) (hl : family i ≠ .recipes) (he : exec i s = .next t) :
    t.standing.butBrm = s.standing.butBrm := by
  by_cases hreg : family i = .registers
  · exact kept (exec_outside_of_registers hreg he) (fun u => u.standing.butBrm)
  by_cases hbrm : family i = .brm
  · exact kept (exec_outside_of_brm hbrm he) (fun u => u.standing.butBrm)
  · have h := exec_loaded (by simp [loadingFamilies, hr, hl, hreg, hbrm]) he
    exact congrArg (fun h : Standing => { h with brm := {} }) h

/-- Settles O40: only the rows of recipes, of registers and of the expression unit touch a loaded object, each its own. -/
theorem loadedObjectsChangeOnlyByTheirRows : Obligations.LoadedObjectsChangeOnlyByTheirRows := by
  unfold Obligations.LoadedObjectsChangeOnlyByTheirRows
  refine ⟨fun i s t hr he => ?_, fun i s t hr hl he => ?_, fun x s t he => ?_, fun x s t he => ?_, fun i s t hr hb hg he => ?_⟩
  · by_cases hl : family i = .recipes
    · exact (exec_run_brm_of_recipes hl he).1
    · exact congrArg Standing.run (exec_butBrm hr hl he)
  · have h := exec_butBrm hr hl he
    exact ⟨congrArg Standing.recipes h, congrArg Standing.models h, congrArg Standing.vocabs h, congrArg Standing.grammars h⟩
  · have h := exec_butRecipes he
    exact ⟨congrArg Standing.models h, congrArg Standing.vocabs h, congrArg Standing.grammars h⟩
  · exact congrArg Standing.recipes (exec_butImages he)
  · by_cases hl : family i = .recipes
    · exact (exec_run_brm_of_recipes hl he).2
    · exact congrArg Standing.brm (exec_loaded (by simp [loadingFamilies, hr, hl, hb, hg]) he)

end Sys2Proof.Machine
end

section
/-! SUPPORT. The footprint of a command packet (R438 to R452): receipt, checks, audit records, waiting, forwarding and
completion change the security and the command block, and what leaves outside a footprint its command's own effect, the
whole packet leaves. -/

namespace Sys2Proof.Machine

variable {F : Footprint} (s : State)

/-! ## More fields updated -/

theorem State.outside_set (h : .set ∈ F) (x : CMap Byte) : State.outside F { s with set := x } = s.outside F := by
  simp only [State.outside, Footprint.pick_of_mem h]
theorem State.outside_cxe (h : .cxe ∈ F) (x : CxeBlock) : State.outside F { s with cxe := x } = s.outside F := by
  simp only [State.outside, Footprint.pick_of_mem h]
theorem State.outside_med (h : .med ∈ F) (x : MedBlock) : State.outside F { s with med := x } = s.outside F := by
  simp only [State.outside, Footprint.pick_of_mem h]
theorem State.outside_nvme (h : .nvme ∈ F) (x : Nvme) : State.outside F { s with nvme := x } = s.outside F := by
  simp only [State.outside, Footprint.pick_of_mem h]

/-! ## What a packet changes besides its command's effect -/

/-- What a command packet changes besides its own effect: credentials, counters of R564 and audit records in the security
block, and the command block with its events. -/
def packetParts : Footprint := .sec :: ringParts

theorem State.audit_outside (h : .sec ∈ F) (a : AuditRec) : (s.audit a).outside F = s.outside F := s.outside_sec h _

theorem State.receipt_outside (h : .emitted ∈ F) (x : CmdIn) : (s.receipt x).outside F = s.outside F := by
  unfold State.receipt
  split
  · exact s.emit_outside h _
  · exact s.emit_outside h _
  · rfl

/-- A packet that is taken leaves the fetched ones (R445) or arrives now. -/
theorem State.take_outside (h : .cmd ∈ F) {op : Nat} {x : CmdIn} {w : Waiter} {t : State} (ht : s.take op x = some (w, t)) :
    t.outside F = s.outside F := by
  unfold State.take at ht
  split at ht
  · nomatch ht
  split at ht
  · split at ht
    · cases ht
      exact s.outside_cmd h _
    · nomatch ht
  · obtain rfl := congrArg Prod.snd (Option.some.inj ht)
    exact s.arrive_outside h _ _ _

theorem State.noteCred_outside (h : packetParts ⊆ F) (x : CmdIn) : (s.noteCred x).outside F = s.outside F := by
  refine State.outside_mono h ?_
  unfold State.noteCred
  cases x.src <;>
    simp (disch := decide) only [apply_ite (State.outside _), State.raise_outside, State.outside_sec, ite_self]

theorem State.forward_outside (h : packetParts ⊆ F) (sp : OpSpec) (w : Waiter) : (s.forward sp w).outside F = s.outside F := by
  refine State.outside_mono h ?_
  unfold State.forward
  split
  · exact s.complete_outside (by decide) _ _
  split
  · exact s.complete_outside (by decide) _ _
  · dsimp only
    split <;> simp (disch := decide) only [State.sendForward_outside, State.outside_cmd]

theorem State.turnDown_outside (h : packetParts ⊆ F) (sp : OpSpec) (w : Waiter) (x : CmdIn) (r : Result) :
    (s.turnDown sp w x r).outside F = s.outside F := by
  refine State.outside_mono h ?_
  simp (disch := decide) only [State.turnDown, apply_ite (State.outside _), State.complete_outside, State.audit_outside,
    State.raise_outside, ite_self]

/-- An accepted command that ends is audited where it failed (R572), and completes. -/
theorem State.finish_outside (h : packetParts ⊆ F) (w : Waiter) (r : Result) : (s.finish w r).outside F = s.outside F := by
  refine State.outside_mono h ?_
  unfold State.finish
  split <;> simp (disch := decide) only [apply_ite (State.outside _), State.complete_outside, State.audit_outside, ite_self]

/-! ## A packet with its command's effect -/

/-- Every state that a command's own checks and effect lead to from `s` agrees with `s` outside a footprint. -/
abbrev Own.within (o : Own) (F : Footprint) (s : State) : Prop := o.holds (fun t => t.outside F = s.outside F)

section
variable {sp : OpSpec} {own : Waiter → CmdIn → State → Own} {x : CmdIn}

theorem State.runOwn_outside (h : packetParts ⊆ F) {w : Waiter} (ho : (own w x s).within F s) :
    (s.runOwn sp own w x).outside F = s.outside F := by
  have hsec : .sec ∈ F := h (by decide)
  have hring : ringParts ⊆ F := List.Subset.trans (by decide) h
  have hevent : eventParts ⊆ F := List.Subset.trans (by decide) h
  unfold State.runOwn
  cases hown : own w x s <;> rw [hown] at ho
  case refuse r => exact s.turnDown_outside h _ _ _ _
  case last r t after =>
    obtain ⟨ht, hafter⟩ := ho
    have hplain := hafter (t.complete w r) ((t.complete_outside hring w r).trans ht)
    have haudited := hafter ((t.audit (s.auditOf w r.status)).complete w r)
      ((State.complete_outside _ hring w r).trans ((t.audit_outside hsec _).trans ht))
    simp only [apply_ite (State.outside F), State.complete_outside _ hring, s.raise_outside hevent, hplain, haudited, ite_self]
  case run t =>
    have ht : t.outside F = s.outside F := ho
    simp only [apply_ite (State.outside F), State.complete_outside _ hring, State.audit_outside _ hsec, s.raise_outside hevent,
      ht, ite_self]
  case done r t | fail r t =>
    have ht : t.outside F = s.outside F := ho
    simp only [apply_ite (State.outside F), State.complete_outside _ hring, State.audit_outside _ hsec, s.raise_outside hevent,
      ht, ite_self]

theorem State.accept_outside (h : packetParts ⊆ F) (ho : ∀ w u, (own w x u).within F u) (w : Waiter) :
    (s.accept sp own w x).outside F = s.outside F := by
  unfold State.accept
  split
  · simp only [State.turnDown_outside _ h, apply_ite (State.outside F), s.noteCred_outside h, ite_self]
  · simp only [apply_ite (State.outside F), State.turnDown_outside _ h, State.runOwn_outside _ h (ho w _), s.noteCred_outside h,
      ite_self]

theorem State.consider_outside (h : packetParts ⊆ F) (ho : ∀ w u, (own w x u).within F u) (w : Waiter) :
    (s.consider sp own w x).outside F = s.outside F := by
  simp only [State.consider, apply_ite (State.outside F), s.accept_outside h ho, s.outside_cmd (h (by decide)), ite_self]

/-- What a command's own effect leaves outside a footprint, its packet leaves. -/
theorem runCommand_outside (h : packetParts ⊆ F) (ho : ∀ w u, (own w x u).within F u) :
    (runCommand sp own x s).outside F = s.outside F := by
  have hcmd : .cmd ∈ F := h (by decide)
  have hring : ringParts ⊆ F := List.Subset.trans (by decide) h
  unfold runCommand
  split
  · rfl
  next w t ht =>
    have htake := s.take_outside hcmd ht
    have hreceipt := (t.receipt_outside (h (by decide)) x).trans htake
    split
    · exact (t.forward_outside h _ _).trans htake
    dsimp only
    split
    · split
      · exact (State.answer_outside _ hring _ _).trans hreceipt
      · exact (State.outside_cmd _ hcmd _).trans hreceipt
      · exact (State.answer_outside _ hring _ _).trans hreceipt
      · exact (State.consider_outside _ h ho w).trans hreceipt
    · exact (State.consider_outside _ h ho w).trans hreceipt

end

end Sys2Proof.Machine
end

section
/-! SUPPORT. The footprints of the operations on pools, banks and compression jobs: cells, chains, reservations and banks
change the memories, a configuration the settings, a compression job its queue. -/

namespace Sys2Proof.Machine

variable {F : Footprint} (s : State)

/-! ## Banks -/

theorem State.clearBank_outside (h : .mem ∈ F) (die b : Nat) : (s.clearBank die b).outside F = s.outside F := s.outside_mem h _

theorem State.poolBanks_outside (h : .mem ∈ F) (die : Nat) (groups : List Nat) (take : Bool) :
    (s.poolBanks die groups take).outside F = s.outside F := by
  refine State.foldl_outside (fun s b => ?_) _ s
  simp only [apply_ite (State.outside F), State.setBank_outside _ h, s.clearBank_outside h, ite_self]

theorem State.endHandover_outside (h : .mem ∈ F) (die b : Nat) : (s.endHandover die b).outside F = s.outside F := by
  unfold State.endHandover
  dsimp only
  split
  · simp only [State.setBank_outside _ h, apply_ite (State.outside F), s.clearBank_outside h, ite_self]
  · rfl

theorem State.endBankMove_outside (h : .mem ∈ F) (die b : Nat) : (s.endBankMove die b).outside F = s.outside F := by
  unfold State.endBankMove
  dsimp only
  split
  · simp only [apply_ite (State.outside F), State.setBank_outside _ h, s.clearBank_outside h, ite_self]
  · rfl

/-! ## Pools and chains -/

theorem State.setPool_outside (h : .mem ∈ F) (p : Nat) (q : Pool) : (s.setPool p q).outside F = s.outside F := s.outside_mem h _

theorem State.endShrink_outside (h : .mem ∈ F) (p : Nat) : (s.endShrink p).outside F = s.outside F := by
  simp only [State.endShrink, apply_ite (State.outside F), State.setPool_outside _ h, s.poolBanks_outside h, ite_self]

theorem State.levels_outside (h : bankParts ⊆ F) (p : Nat) : (s.levels p).outside F = s.outside F := by
  refine State.outside_mono h ?_
  simp (disch := decide) only [State.levels, apply_ite (State.outside _), State.raise_outside, State.setPool_outside, ite_self]

theorem State.poolChanged_outside (h : bankParts ⊆ F) (p : Nat) : (s.poolChanged p).outside F = s.outside F :=
  (State.levels_outside _ h p).trans (s.endShrink_outside (h (by decide)) p)

theorem State.freeChain_outside (h : bankParts ⊆ F) (r : Nat) : (s.freeChain r).outside F = s.outside F :=
  (State.poolChanged_outside _ h _).trans (s.outside_mem (h (by decide)) _)

theorem State.freeOwner_outside (h : bankParts ⊆ F) (kind o : Nat) : (s.freeOwner kind o).outside F = s.outside F := by
  refine State.foldl_outside (fun s c => ?_) _ s
  exact s.freeChain_outside h c.1

theorem State.badRef_outside (h : eventParts ⊆ F) (r : Nat) : (s.badRef r).outside F = s.outside F :=
  (State.raise_outside _ h _ _ _).trans (s.bump_outside (h (by decide)) _ _)

theorem State.writeChain_outside (h : .mem ∈ F) (r off : Nat) (data : Bytes) : (s.writeChain r off data).outside F = s.outside F := by
  unfold State.writeChain
  split
  · exact s.outside_mem h _
  · rfl

/-! ## Configuration, which the settings image records -/

/-- What a command that configures memory changes: the memories with their events, and the settings image (R506). -/
def configParts : Footprint := .set :: .upd :: bankParts

/-- Changed settings are in force at once and go into the older copy in flash (R506). -/
theorem State.changeSettings_outside (h : [.set, .upd] ⊆ F) (f : CMap Byte → CMap Byte) : (s.changeSettings f).outside F = s.outside F :=
  (State.outside_upd { s with set := f s.set } (h (by decide)) _).trans (s.outside_set (h (by decide)) _)

theorem State.writeSetting_outside (h : [.set, .upd] ⊆ F) (off : Nat) (data : Bytes) : (s.writeSetting off data).outside F = s.outside F :=
  s.changeSettings_outside h _

theorem State.writePoolEntry_outside (h : [.set, .upd] ⊆ F) (p kind die first amount : Nat) :
    (s.writePoolEntry p kind die first amount).outside F = s.outside F := s.writeSetting_outside h _ _

theorem State.configPool_outside (h : bankParts ⊆ F) (p kind die first n cells : Nat) :
    (s.configPool p kind die first n cells).outside F = s.outside F := by
  refine State.outside_mono h ?_
  simp (disch := decide) only [State.configPool, State.poolChanged_outside, State.setPool_outside, apply_ite (State.outside _),
    State.poolBanks_outside, ite_self]

theorem State.loseGroup_outside (h : bankParts ⊆ F) (p die g : Nat) : (s.loseGroup p die g).outside F = s.outside F := by
  refine State.outside_mono h ?_
  simp (disch := decide) only [State.loseGroup, State.poolChanged_outside, State.poolBanks_outside, State.setPool_outside]

theorem State.retireBank_outside (h : configParts ⊆ F) (die b : Nat) : (s.retireBank die b).outside F = s.outside F := by
  refine State.outside_mono h ?_
  simp (disch := decide) only [State.retireBank, State.changeSettings_outside, State.setBank_outside, State.clearBank_outside]

/-! ## Leak audits -/

/-- An audit that ends frees the cells in breach and completes its command (R305, R306). -/
theorem State.auditEnds_outside (h : .mem :: packetParts ⊆ F) (a : Audit) : (s.auditEnds a).outside F = s.outside F := by
  refine State.outside_mono h ?_
  have hfreed : ∀ (u : State) (l : Nat × Nat), ((u.raise evPoolLeak 4 (leBytes 2 l.1 ++ leBytes 4 l.2)).freeOwner a.kind l.1).outside
      (.mem :: packetParts) = u.outside (.mem :: packetParts) := fun u l => by
    simp (disch := decide) only [State.freeOwner_outside, State.raise_outside]
  unfold State.auditEnds
  dsimp only
  split <;>
    simp (disch := decide) only [apply_ite (State.outside _), State.finish_outside, State.emit_outside,
      State.foldl_outside hfreed, State.outside_mem, ite_self]

/-! ## Compression jobs -/

theorem State.placeJob_outside (h : .cxe ∈ F) (j : CompJob) : (s.placeJob j).outside F = s.outside F := by
  unfold State.placeJob
  split <;> exact s.outside_cxe h _

theorem State.cxeWrite_outside (h : [.emitted, .mem] ⊆ F) (p : Packet) (ws : List (Nat × Bytes)) :
    (s.cxeWrite p ws).outside F = s.outside F := by
  refine State.foldl_outside (fun s w => ?_) ws s
  simp only [apply_ite (State.outside F), s.emit_outside (h (by decide)), s.writeChain_outside (h (by decide)), ite_self]

theorem State.cxeCount_outside (h : .counters ∈ F) (tile inLen outLen : Nat) (o : CxeOut) :
    (s.cxeCount tile inLen outLen o).outside F = s.outside F := by
  simp only [State.cxeCount, State.setCounter_outside _ h, State.bump64_outside _ h]

end Sys2Proof.Machine
end

section
/-! SUPPORT. The frames of the pool and bank rows: what each command's own effect changes, the footprint of each family, and
what lies outside it. -/

namespace Sys2Proof.Machine

/-! ## The effects of pool, bank and compression commands -/

section
variable {F : Footprint} (w : Waiter) (x : CmdIn) (s : State)

theorem ownPoolConfig_within (h : configParts ⊆ F) : (ownPoolConfig w x s).within F s := by
  have hset : [.set, .upd] ⊆ F := List.Subset.trans (by decide) h
  have hmem : bankParts ⊆ F := List.Subset.trans (by decide) h
  unfold ownPoolConfig
  dsimp only
  repeat' apply Own.holds_ite_refuse
  exact (State.writePoolEntry_outside _ hset _ _ _ _ _).trans (s.configPool_outside hmem _ _ _ _ _ _)

theorem ownPoolThreshold_within (h : configParts ⊆ F) : (ownPoolThreshold w x s).within F s := by
  unfold ownPoolThreshold
  dsimp only
  split
  · trivial
  · exact (State.writeSetting_outside _ (List.Subset.trans (by decide) h) _ _).trans (s.setPool_outside (h (by decide)) _ _)

theorem ownPoolAudit_within (h : .mem ∈ F) : (ownPoolAudit w x s).within F s := by
  unfold ownPoolAudit
  dsimp only
  refine Own.holds_ite_refuse ?_
  split
  · trivial
  · exact s.startAudit_outside h _ _ _

theorem ownBankOwn_within (h : .mem ∈ F) : (ownBankOwn w x s).within F s := by
  unfold ownBankOwn
  dsimp only
  repeat' apply Own.holds_ite_refuse
  exact s.beginHandover_outside h _ _ _ _

theorem ownBankState_within (h : .mem ∈ F) : (ownBankState w x s).within F s := by
  unfold ownBankState
  dsimp only
  repeat' apply Own.holds_ite_refuse
  exact s.beginBankMove_outside h _ _ _

theorem ownBankRetire_within (h : configParts ⊆ F) : (ownBankRetire w x s).within F s := by
  have hmem : bankParts ⊆ F := List.Subset.trans (by decide) h
  unfold ownBankRetire
  dsimp only
  refine Own.holds_ite_refuse ?_
  split
  · exact rfl
  split
  · repeat' apply Own.holds_ite_refuse
    exact (State.retireBank_outside _ h _ _).trans (s.loseGroup_outside hmem _ _ _)
  · exact Own.holds_ite_refuse (s.retireBank_outside h _ _)

theorem ownColumnRepair_within (h : .mem ∈ F) : (ownColumnRepair w x s).within F s := by
  unfold ownColumnRepair
  dsimp only
  repeat' apply Own.holds_ite_refuse
  exact s.setBank_outside h _ _ _

theorem ownCxe_within (h : .cxe :: eventParts ⊆ F) (decode : Bool) : (ownCxe decode w x s).within F s := by
  have hevent : eventParts ⊆ F := List.Subset.trans (by decide) h
  unfold ownCxe
  dsimp only
  refine Own.holds_ite_refuse ?_
  split
  · trivial
  refine Own.holds_ite_refuse ?_
  split
  · split
    · exact s.badRef_outside hevent _
    · trivial
  · exact s.placeJob_outside (h (by decide)) _

end

/-! ## The rows -/

section
variable {F : Footprint} {i : Instr} {s t : State}

/-- What the rows of pool, bank and compression commands change. -/
def poolRowParts : Footprint := .cxe :: .sec :: .cmd :: configParts
/-- What the rows of bank registers, audits and compression ends change. -/
def bankRowParts : Footprint := .cxe :: .mem :: packetParts

/-- The row of a packet whose command keeps what lies outside a footprint keeps it. -/
theorem outside_of_packet {sp : OpSpec} {own : Waiter → CmdIn → State → Own} {x : CmdIn}
    (ho : ∀ w u, (own w x u).within F u) (h : packetParts ⊆ F)
    (he : (.next (runCommand sp own x s) : Host.Outcome State Fault Refusal) = .next t) : t.outside F = s.outside F := by
  obtain rfl := Host.Outcome.next.inj he
  exact runCommand_outside s h ho

/-- A row of the pools family leaves every part outside its footprint as it was. -/
theorem exec_outside_of_pools (hi : family i = .pools) (he : exec i s = .next t) :
    t.outside poolRowParts = s.outside poolRowParts := by
  cases i
  case poolConfig x => exact outside_of_packet (ownPoolConfig_within · x · (by decide)) (by decide) he
  case poolThreshold x => exact outside_of_packet (ownPoolThreshold_within · x · (by decide)) (by decide) he
  case poolAudit x => exact outside_of_packet (ownPoolAudit_within · x · (by decide)) (by decide) he
  case bankOwn x => exact outside_of_packet (ownBankOwn_within · x · (by decide)) (by decide) he
  case bankState x => exact outside_of_packet (ownBankState_within · x · (by decide)) (by decide) he
  case bankRetire x => exact outside_of_packet (ownBankRetire_within · x · (by decide)) (by decide) he
  case columnRepair x => exact outside_of_packet (ownColumnRepair_within · x · (by decide)) (by decide) he
  case compress x => exact outside_of_packet (ownCxe_within · x · (by decide) false) (by decide) he
  case decompress x => exact outside_of_packet (ownCxe_within · x · (by decide) true) (by decide) he
  all_goals exact nomatch hi

/-- A row of the banks family leaves every part outside its footprint as it was. -/
theorem exec_outside_of_banks (hi : family i = .banks) (he : exec i s = .next t) :
    t.outside bankRowParts = s.outside bankRowParts := by
  cases i
  case bnkLock path die v =>
    obtain rfl := Host.Outcome.next.inj he
    have hlock : ∀ u : State, State.outside bankRowParts
        (if bit v 0 then { u with mem := { u.mem with locks := u.mem.locks ||| 2 ^ die } } else u) = u.outside bankRowParts :=
      fun u => by rw [apply_ite (State.outside _), u.outside_mem (by decide), ite_self]
    rw [apply_ite (State.outside _), s.gated_outside (by decide) hlock, ite_self]
  case bnkOwnWrite path die bank v =>
    obtain rfl := Host.Outcome.next.inj he
    rw [apply_ite (State.outside _), s.gated_outside (by decide) (fun s => s.writeBnkOwn_outside (by decide) _ _ _ _), ite_self]
  case bankHandoverComplete die bank =>
    obtain rfl := Host.Outcome.next.inj he
    exact s.endHandover_outside (by decide) _ _
  case bnkStateWrite path die bank v =>
    obtain rfl := Host.Outcome.next.inj he
    rw [apply_ite (State.outside _), s.gated_outside (by decide) (fun s => s.writeBnkState_outside (by decide) _ _ _ _), ite_self]
  case bankTransitionComplete die bank =>
    obtain rfl := Host.Outcome.next.inj he
    exact s.endBankMove_outside (by decide) _ _
  case poolAuditGo path v =>
    obtain rfl := Host.Outcome.next.inj he
    exact s.gated_outside (by decide) (fun s => s.auditGo_outside (by decide) _) _ _
  case leakAuditComplete =>
    obtain rfl := Host.Outcome.next.inj he
    split
    · rfl
    · simp (disch := decide) only [State.auditEnds_outside, State.outside_mem]
  case compressionJobComplete idx =>
    obtain rfl := Host.Outcome.next.inj he
    split
    · rfl
    · simp (disch := decide) only [apply_ite (State.outside _), State.finish_outside, State.bump_outside, State.bump64_outside,
        ite_self]
      split <;>
        simp (disch := decide) only [State.placeJob_outside, State.cxeCount_outside, State.cxeWrite_outside, State.outside_cxe]
  all_goals exact nomatch hi

end

end Sys2Proof.Machine
end

section
/-! SUPPORT. The footprints of the operations on NAND, the flash translation layer, the write cache and PF0's completions. -/

namespace Sys2Proof.Machine

variable {F : Footprint} (s : State)

/-! ## Completions of PF0 and the critical warning -/

/-- What a completion of PF0 changes: its queues, or the completions that the link holds up, and what is sent. -/
def postParts : Footprint := [.emitted, .nvme]

theorem State.nvmeDeliver_outside (h : postParts ⊆ F) (sq cid status result : Nat) :
    (s.nvmeDeliver sq cid status result).outside F = s.outside F := by
  refine State.outside_mono h ?_
  unfold State.nvmeDeliver
  split
  · rfl
  split
  · rfl
  · simp (disch := decide) only [State.emit_outside, State.outside_nvme]

theorem State.nvmePost_outside (h : postParts ⊆ F) (sq cid status result : Nat) :
    (s.nvmePost sq cid status result).outside F = s.outside F := by
  simp only [State.nvmePost, apply_ite (State.outside F), s.nvmeDeliver_outside h, s.outside_nvme (h (by decide)), ite_self]

theorem State.controllerReady_outside (h : .nvme ∈ F) : s.controllerReady.outside F = s.outside F := by
  simp only [State.controllerReady, apply_ite (State.outside F), s.outside_nvme h, ite_self]

theorem State.refreshWarning_outside (h : postParts ⊆ F) : s.refreshWarning.outside F = s.outside F := by
  refine State.outside_mono h ?_
  unfold State.refreshWarning
  dsimp only
  split
  · rfl
  split <;> simp (disch := decide) only [State.nvmePost_outside, State.outside_nvme]

/-! ## Dies -/

/-- What an operation at a die changes: the media, with the suspensions and reads counted. -/
def nandParts : Footprint := [.med, .counters]

theorem State.setDie_outside (h : .med ∈ F) (n : Nat) (d : Die) : (s.setDie n d).outside F = s.outside F := s.outside_med h _

theorem State.putDie_outside (h : nandParts ⊆ F) (n : Nat) (r : Die × Bool) : (s.putDie n r).outside F = s.outside F := by
  refine State.outside_mono h ?_
  simp (disch := decide) only [State.putDie, apply_ite (State.outside _), State.bump_outside, State.setDie_outside, ite_self]

theorem State.nandRequest_outside (h : nandParts ⊆ F) (n : Nat) (o : NandOp) : (s.nandRequest n o).outside F = s.outside F := by
  simp only [State.nandRequest, apply_ite (State.outside F), s.putDie_outside h, ite_self]

theorem State.program_outside (h : nandParts ⊆ F) (o : NandOp) : (s.program o).outside F = s.outside F := by
  unfold State.program
  split
  · exact (State.nandRequest_outside _ h _ _).trans (s.outside_med (h (by decide)) _)
  · rfl

/-! ## Journal and map -/

theorem State.mapChange_outside (h : .med ∈ F) (nsid : Nat) (units : List Nat) : (s.mapChange nsid units).outside F = s.outside F := by
  unfold State.mapChange
  split
  · exact s.outside_med h _
  · rfl

theorem State.journalEntry_outside (h : .med ∈ F) : s.journalEntry.outside F = s.outside F := s.outside_med h _

theorem State.journalFlush_outside (h : nandParts ⊆ F) : s.journalFlush.outside F = s.outside F := by
  simp only [State.journalFlush, apply_ite (State.outside F), State.program_outside _ h, s.outside_med (h (by decide)), ite_self]

/-! ## The write cache -/

/-- What an operation on the media changes: the media with its events, and what completes with it at PF0. -/
def mediaParts : Footprint := .med :: .nvme :: eventParts

/-- Commands whose pieces are programmed complete, with a journal flush where they ask it (R407, R426). -/
theorem State.releaseFlushes_outside (h : mediaParts ⊆ F) : s.releaseFlushes.outside F = s.outside F := by
  refine State.outside_mono h ((State.foldl_outside (fun s f => ?_) _ _).trans (s.outside_nvme (by decide) _))
  simp (disch := decide) only [State.nvmePost_outside, apply_ite (State.outside _), State.journalFlush_outside, ite_self]

theorem State.pieceDone_outside (h : mediaParts ⊆ F) (p : DirtyPiece) : (s.pieceDone p).outside F = s.outside F := by
  refine State.outside_mono h ?_
  unfold State.pieceDone
  rw [State.releaseFlushes_outside _ (List.Subset.refl mediaParts)]
  split <;> simp (disch := decide) only [State.mapChange_outside, State.bump64_outside, State.outside_med]

theorem State.oldestDone_outside (h : mediaParts ⊆ F) : s.oldestDone.outside F = s.outside F := by
  unfold State.oldestDone
  split
  · exact s.pieceDone_outside h _
  · rfl

theorem State.nsWrite_outside (h : .med ∈ F) (nsid off : Nat) (data : Bytes) : (s.nsWrite nsid off data).outside F = s.outside F := by
  unfold State.nsWrite
  split
  · exact s.outside_med h _
  · rfl

theorem State.endWrite_outside (h : mediaParts ⊆ F) (c : WriteCmd) : (s.endWrite c).outside F = s.outside F := by
  refine State.outside_mono h ?_
  simp (disch := decide) only [State.endWrite, apply_ite (State.outside _), State.releaseFlushes_outside, State.nvmePost_outside,
    State.outside_nvme, ite_self]

/-- A piece that enters the cache is written and its program asked for; the last one ends its write (R406, R407, R422). -/
theorem State.admitPiece_outside (h : mediaParts ⊆ F) : s.admitPiece.outside F = s.outside F := by
  refine State.outside_mono h ?_
  unfold State.admitPiece
  split
  · rfl
  split
  · rfl
  split
  · simp (disch := decide) only [State.nvmePost_outside, State.outside_nvme]
  · simp (disch := decide) only [apply_ite (State.outside _), State.endWrite_outside, State.outside_nvme, State.program_outside,
      State.outside_med, State.nsWrite_outside, ite_self]

/-! ## Codewords, blocks and dies -/

theorem State.readCodeword_outside (h : nandParts ⊆ F) (nsid c : Nat) (o : NandOp) : (s.readCodeword nsid c o).outside F = s.outside F := by
  refine State.outside_mono h ?_
  simp (disch := decide) only [State.readCodeword, State.nandRequest_outside, State.bump64_outside]

theorem State.raiseUncorrectable_outside (h : eventParts ⊆ F) (nsid c : Nat) : (s.raiseUncorrectable nsid c).outside F = s.outside F := by
  refine State.outside_mono h ?_
  simp (disch := decide) only [State.raiseUncorrectable, State.raise_outside, State.bump_outside]

theorem State.lostRead_outside (h : eventParts ⊆ F) (nsid off len : Nat) : (s.lostRead nsid off len).outside F = s.outside F := by
  unfold State.lostRead
  split
  · exact State.foldl_outside (fun s c => s.raiseUncorrectable_outside h nsid c) _ s
  · rfl

theorem State.mediaRead_outside (h : mediaParts ⊆ F) (nsid off len kind : Nat) : (s.mediaRead nsid off len kind).outside F = s.outside F := by
  refine State.outside_mono h ((State.lostRead_outside _ (by decide) _ _ _).trans (State.foldl_outside (fun s c => ?_) _ s))
  exact s.readCodeword_outside (by decide) _ _ _

theorem State.markBad_outside (h : .med ∈ F) (nsid c : Nat) : (s.markBad nsid c).outside F = s.outside F := s.outside_med h _

theorem State.repairCodeword_outside (h : nandParts ⊆ F) (nsid c : Nat) : (s.repairCodeword nsid c).outside F = s.outside F := by
  refine State.outside_mono h ?_
  unfold State.repairCodeword
  split
  · simp (disch := decide) only [State.program_outside, State.mapChange_outside, State.outside_med]
  · rfl

/-- Each codeword found uncorrectable is raised, then repaired or lost (R398, R400). -/
theorem State.foundBad_outside (h : mediaParts ⊆ F) (bad : List (Nat × Nat × Bool)) : (s.foundBad bad).outside F = s.outside F := by
  refine State.outside_mono h (State.foldl_outside (fun s b => ?_) bad s)
  simp (disch := decide) only [apply_ite (State.outside _), State.raise_outside, State.bump_outside, State.repairCodeword_outside,
    State.markBad_outside, State.raiseUncorrectable_outside, ite_self]

/-- A die that is retired hands its programs on (R403). -/
theorem State.retireDie_outside (h : mediaParts ⊆ F) (n : Nat) : (s.retireDie n).outside F = s.outside F := by
  have hprogram : ∀ (u : State) (o : NandOp), (u.program o).outside mediaParts = u.outside mediaParts :=
    fun u o => u.program_outside (by decide) o
  refine State.outside_mono h ?_
  simp (disch := decide) only [State.retireDie, apply_ite (State.outside _), State.refreshWarning_outside, State.raise_outside,
    State.outside_med, State.journalEntry_outside, State.foldl_outside hprogram, State.setDie_outside, ite_self]

theorem State.retireBlock_outside (h : mediaParts ⊆ F) (n block : Nat) : (s.retireBlock n block).outside F = s.outside F := by
  refine State.outside_mono h ?_
  simp (disch := decide) only [State.retireBlock, apply_ite (State.outside _), State.retireDie_outside, State.journalEntry_outside,
    State.setDie_outside, ite_self]

/-! ## Hold-up, sanitize and self-test -/

theorem State.measureHoldup_outside (h : mediaParts ⊆ F) : s.measureHoldup.outside F = s.outside F := by
  refine State.outside_mono h ?_
  simp (disch := decide) only [State.measureHoldup, State.refreshWarning_outside, apply_ite (State.outside _), State.raise_outside,
    State.outside_med, ite_self]

/-- A sanitize that starts completes the I/O that waits (R433). -/
theorem State.startSanitize_outside (h : mediaParts ⊆ F) (action : Nat) : (s.startSanitize action).outside F = s.outside F := by
  refine State.outside_mono h ((State.foldl_outside (fun s c => ?_) _ _).trans ?_)
  · exact s.nvmePost_outside (by decide) _ _ _ _
  · exact (State.outside_nvme { s with med := { s.med with sanitize := some action } } (by decide) _).trans (s.outside_med (by decide) _)

theorem State.startSelftest_outside (h : .nvme ∈ F) (code : Nat) : (s.startSelftest code).outside F = s.outside F := s.outside_nvme h _

theorem State.abortSelftest_outside (h : .nvme ∈ F) (outcome : Nat) : (s.abortSelftest outcome).outside F = s.outside F := by
  unfold State.abortSelftest
  split
  · exact s.outside_nvme h _
  · rfl

end Sys2Proof.Machine
end

section
/-! SUPPORT. The frame of the media rows: what each command's own effect changes, the footprint of the family, and what lies
outside it; with it the frames of the pool, bank and media families. -/

namespace Sys2Proof.Machine

/-! ## The effects of media commands -/

section
variable {F : Footprint} (w : Waiter) (x : CmdIn) (s : State)

theorem ownNsCreate_within (h : .med ∈ F) : (ownNsCreate w x s).within F s := by
  unfold ownNsCreate
  dsimp only
  repeat' apply Own.holds_ite_refuse
  split
  · trivial
  · exact (State.journalEntry_outside _ h).trans (s.outside_med h _)

theorem ownNsDelete_within (h : mediaParts ⊆ F) : (ownNsDelete w x s).within F s := by
  have hmed : .med ∈ F := h (by decide)
  unfold ownNsDelete
  dsimp only
  repeat' apply Own.holds_ite_refuse
  exact (State.releaseFlushes_outside _ h).trans ((State.journalEntry_outside _ hmed).trans (s.outside_med hmed _))

theorem ownNsSeal_within (h : nandParts ⊆ F) : (ownNsSeal w x s).within F s := by
  have hmed : .med ∈ F := h (by decide)
  unfold ownNsSeal
  dsimp only
  split
  · trivial
  refine Own.holds_ite_refuse ?_
  split
  · exact rfl
  · exact (State.journalFlush_outside _ h).trans ((State.journalEntry_outside _ hmed).trans (s.outside_med hmed _))

theorem ownReplicaSet_within (h : .med ∈ F) : (ownReplicaSet w x s).within F s := by
  unfold ownReplicaSet
  dsimp only
  split
  · trivial
  repeat' apply Own.holds_ite_refuse
  split
  · trivial
  · exact (State.journalEntry_outside _ h).trans (s.outside_med h _)

theorem ownDieRetire_within (h : mediaParts ⊆ F) : (ownDieRetire w x s).within F s := by
  unfold ownDieRetire
  split
  · exact s.retireDie_outside h _
  · exact rfl
  · trivial

theorem ownSanitize_within (h : mediaParts ⊆ F) : (ownSanitize w x s).within F s := by
  unfold ownSanitize
  dsimp only
  repeat' apply Own.holds_ite_refuse
  exact s.startSanitize_outside h _

theorem ownSelftest_within (h : .nvme ∈ F) : (ownSelftest w x s).within F s := by
  unfold ownSelftest
  dsimp only
  split
  · exact s.abortSelftest_outside h _
  repeat' apply Own.holds_ite_refuse
  exact s.startSelftest_outside h _

end

/-! ## The rows -/

section
variable {i : Instr} {s t : State}

/-- What the rows of namespaces, NAND and media timers change. -/
def mediaRowParts : Footprint := .now :: .sec :: .cmd :: mediaParts

/-- A row of the media family leaves every part outside its footprint as it was. -/
theorem exec_outside_of_media (hi : family i = .media) (he : exec i s = .next t) :
    t.outside mediaRowParts = s.outside mediaRowParts := by
  cases i
  case nsCreate x => exact outside_of_packet (ownNsCreate_within · x · (by decide)) (by decide) he
  case nsDelete x => exact outside_of_packet (ownNsDelete_within · x · (by decide)) (by decide) he
  case nsSeal x => exact outside_of_packet (ownNsSeal_within · x · (by decide)) (by decide) he
  case replicaSet x => exact outside_of_packet (ownReplicaSet_within · x · (by decide)) (by decide) he
  case dieRetire x => exact outside_of_packet (ownDieRetire_within · x · (by decide)) (by decide) he
  case sanitize x => exact outside_of_packet (ownSanitize_within · x · (by decide)) (by decide) he
  case selftest x => exact outside_of_packet (ownSelftest_within · x · (by decide)) (by decide) he
  case sanitizeComplete =>
    obtain rfl := Host.Outcome.next.inj he
    split
    · simp (disch := decide) only [State.controllerReady_outside, State.releaseFlushes_outside, State.journalFlush_outside,
        State.journalEntry_outside, State.outside_med]
    · rfl
  case selftestComplete bad seg =>
    obtain rfl := Host.Outcome.next.inj he
    split
    · simp (disch := decide) only [State.outside_nvme, State.foundBad_outside]
    · rfl
  case nandOpComplete die ok block soft bad =>
    obtain rfl := Host.Outcome.next.inj he
    split
    · rfl
    · simp (disch := decide) only [apply_ite (State.outside _), State.putDie_outside, State.foundBad_outside, State.bump_outside,
        State.oldestDone_outside, State.retireBlock_outside, State.program_outside, State.setDie_outside, ite_self]
  case dieUnresponsive die bad =>
    obtain rfl := Host.Outcome.next.inj he
    simp (disch := decide) only [apply_ite (State.outside _), State.foundBad_outside, State.retireDie_outside, ite_self]
  case journalFlushTimer now =>
    obtain rfl := Host.Outcome.next.inj he
    simp (disch := decide) only [apply_ite (State.outside _), State.journalFlush_outside, State.advance_outside, ite_self]
  case checkpointTimer now =>
    obtain rfl := Host.Outcome.next.inj he
    split
    · refine (State.foldl_outside (fun s g => ?_) _ _).trans (s.advance_outside (by decide) now)
      simp (disch := decide) only [State.program_outside, State.outside_med]
    · exact s.advance_outside (by decide) now
  case patrolReadTimer die read soft bad =>
    obtain rfl := Host.Outcome.next.inj he
    simp (disch := decide) only [apply_ite (State.outside _), State.foundBad_outside, State.program_outside, State.bump_outside,
      State.bump64_outside, State.nandRequest_outside, ite_self]
  case foldComplete fill reserve ok =>
    obtain rfl := Host.Outcome.next.inj he
    simp (disch := decide) only [apply_ite (State.outside _), State.outside_med, State.journalFlush_outside, State.journalEntry_outside,
      ite_self]
  case holdupSample v =>
    obtain rfl := Host.Outcome.next.inj he
    exact s.outside_med (by decide) _
  case holdupEvaluation now =>
    obtain rfl := Host.Outcome.next.inj he
    simp (disch := decide) only [State.measureHoldup_outside, State.advance_outside]
  case writePieceAdmit =>
    obtain rfl := Host.Outcome.next.inj he
    exact s.admitPiece_outside (by decide)
  case replicaFetchRequest dev nsid off len =>
    obtain rfl := Host.Outcome.next.inj he
    split
    · rfl
    split <;> simp (disch := decide) only [State.emit_outside, State.mediaRead_outside]
  all_goals exact nomatch hi

end

/-- Settles O46: each family has a footprint, and the parts that its clause names lie outside it. -/
theorem poolMediaRowsFrame : Obligations.PoolMediaRowsFrame := by
  unfold Obligations.PoolMediaRowsFrame
  refine ⟨fun i s t hi he => ?_, fun i s t hi he => ?_, fun i s t hi he => ?_⟩
  · have h := exec_outside_of_pools hi he
    exact ⟨kept h State.fresh, kept h State.now, kept h State.sys, kept h State.run, kept h State.brm, kept h State.jobs,
      kept h State.recipes, kept h State.models, kept h State.vocabs, kept h State.grammars, kept h State.loads,
      kept h State.tiles, kept h State.samples, kept h State.rma, kept h State.net, kept h State.med, kept h State.nvme,
      kept h State.pwr, kept h State.tst, kept h State.snaps, kept h State.shadows, kept h State.pending⟩
  · have h := exec_outside_of_banks hi he
    exact ⟨kept h State.fresh, kept h State.now, kept h State.sys, kept h State.upd, kept h State.set, kept h State.run,
      kept h State.brm, kept h State.jobs, kept h State.recipes, kept h State.models, kept h State.vocabs,
      kept h State.grammars, kept h State.loads, kept h State.tiles, kept h State.samples, kept h State.rma,
      kept h State.net, kept h State.med, kept h State.nvme, kept h State.pwr, kept h State.tst, kept h State.snaps,
      kept h State.shadows, kept h State.pending⟩
  · have h := exec_outside_of_media hi he
    exact ⟨kept h State.fresh, kept h State.sys, kept h State.upd, kept h State.set, kept h State.run, kept h State.brm,
      kept h State.jobs, kept h State.recipes, kept h State.models, kept h State.vocabs, kept h State.grammars,
      kept h State.loads, kept h State.tiles, kept h State.samples, kept h State.mem, kept h State.cxe, kept h State.rma,
      kept h State.net, kept h State.pwr, kept h State.tst, kept h State.snaps, kept h State.shadows,
      kept h State.pending⟩

end Sys2Proof.Machine
end

section
/-! SUPPORT. What the pool and bank commands (R282 to R305) do where their own checks pass. -/

namespace Sys2Proof.Machine

variable {w : Waiter} {x : CmdIn} {s : State}

/-! ## Pools -/

/-- An HBM pool whose new size fits is configured, with its entry of the settings image (R296, R108). -/
theorem ownPoolConfig_of_hbm (hk : x.pkt.f 16 1 = 1) (hn : 64 ≤ x.pkt.f 20 4)
    (hheld : ((s.usedCells x.pkt.unit).isEmpty = true ∧ (s.pool x.pkt.unit).resv = 0) ∨ (s.pool x.pkt.unit).kind = 1)
    (hbreaks : s.breaks x.pkt.unit 1 (2048 * x.pkt.f 20 4) = false)
    (harea : s.areaUsed x.pkt.unit + hbmTake (x.pkt.f 20 4) ≤ poolArea) :
    ownPoolConfig w x s = .done success
      ((s.configPool x.pkt.unit 1 0 0 (x.pkt.f 20 4) (2048 * x.pkt.f 20 4)).writePoolEntry x.pkt.unit 1 0 0 (x.pkt.f 20 4)) := by
  have hsize : ¬ x.pkt.f 20 4 < 64 := Nat.not_lt.2 hn
  have hfits : ¬ poolArea < s.areaUsed x.pkt.unit + hbmTake (x.pkt.f 20 4) := Nat.not_lt.2 harea
  rcases hheld with ⟨hcells, hresv⟩ | hkind
  · simp [ownPoolConfig, hk, hsize, hfits, hbreaks, List.isEmpty_iff.1 hcells, hresv]
  · simp [ownPoolConfig, hk, hsize, hfits, hbreaks, hkind]

theorem thresholdFault_of_falling {a b c : Nat} (ha : a ≤ 1000) (hb : b < a) (hc : c < b) : thresholdFault a b c = none := by
  simp only [thresholdFault]
  repeat' rw [if_neg (by omega)]

section
variable (ha : x.pkt.f 16 2 ≤ 1000) (hb : x.pkt.f 18 2 < x.pkt.f 16 2) (hc : x.pkt.f 20 2 < x.pkt.f 18 2)
include ha hb hc

/-- Thresholds in falling order wait for the next allocation or free of a configured pool (R302). -/
theorem ownPoolThreshold_of_configured (hk : (s.pool x.pkt.unit).kind ≠ 0) :
    ownPoolThreshold w x s = .done success
      ((s.setPool x.pkt.unit { s.pool x.pkt.unit with nextThr := some (x.pkt.f 16 2, x.pkt.f 18 2, x.pkt.f 20 2) }).writeSetting
        (0x200 + 16 * x.pkt.unit + 8) (leBytes 2 (x.pkt.f 16 2) ++ leBytes 2 (x.pkt.f 18 2) ++ leBytes 2 (x.pkt.f 20 2))) := by
  simp only [ownPoolThreshold, thresholdFault_of_falling ha hb hc, if_neg hk]

/-- Thresholds in falling order are in force at once in a pool that is not configured (R302). -/
theorem ownPoolThreshold_of_unconfigured (hk : (s.pool x.pkt.unit).kind = 0) :
    ownPoolThreshold w x s = .done success
      ((s.setPool x.pkt.unit { s.pool x.pkt.unit with
          warn := x.pkt.f 16 2, bp := x.pkt.f 18 2, crit := x.pkt.f 20 2, nextThr := none }).writeSetting
        (0x200 + 16 * x.pkt.unit + 8) (leBytes 2 (x.pkt.f 16 2) ++ leBytes 2 (x.pkt.f 18 2) ++ leBytes 2 (x.pkt.f 20 2))) := by
  simp only [ownPoolThreshold, thresholdFault_of_falling ha hb hc, if_pos hk]

end

/-- An audit whose record list has a place in host memory is asked for (R304). -/
theorem ownPoolAudit_of_host (hpos : 0 < x.pkt.f 24 4) (hmax : x.pkt.f 24 4 ≤ 65536) (hsrc : x.src.isMctp = false) :
    ownPoolAudit w x s = .run (s.startAudit 0 (some w) success) := by
  have hcount : ¬ (x.pkt.f 24 4 = 0 || 65536 < x.pkt.f 24 4) = true := by simp; omega
  simp only [ownPoolAudit, if_neg hcount, hostAddress, hsrc, Bool.false_eq_true, if_false]

/-! ## Banks -/

section
variable (hbank : x.pkt.f 16 2 < dieBanks x.pkt.unit)
include hbank

theorem ownBankOwn_of_allowed (howner : ownerOk (bits (x.pkt.f 18 2) 0 12) = true)
    (hok : s.handoverOk x.pkt.unit (x.pkt.f 16 2) (bits (x.pkt.f 18 2) 0 12) = true) :
    ownBankOwn w x s = .done success
      (s.beginHandover x.pkt.unit (x.pkt.f 16 2) (bits (x.pkt.f 18 2) 0 12) (bit (x.pkt.f 18 2) 12)) := by
  simp [ownBankOwn, Nat.not_le.2 hbank, howner, hok]

theorem ownBankState_of_allowed (hst : x.pkt.f 18 1 ≤ 2) (hok : s.bankMoveOk x.pkt.unit (x.pkt.f 16 2) (x.pkt.f 18 1) = true) :
    ownBankState w x s = .done success (s.beginBankMove x.pkt.unit (x.pkt.f 16 2) (x.pkt.f 18 1)) := by
  simp [ownBankState, Nat.not_le.2 hbank, Nat.not_lt.2 hst, hok]

/-- A bank outside every pool, whose data can be moved, is retired (R294). -/
theorem ownBankRetire_of_outside (hin : (s.bank x.pkt.unit (x.pkt.f 16 2)).retired = false)
    (hpool : s.bankPool x.pkt.unit (x.pkt.f 16 2) = none) (hphys : x.physOk = true) :
    ownBankRetire w x s = .done success (s.retireBank x.pkt.unit (x.pkt.f 16 2)) := by
  simp [ownBankRetire, Nat.not_le.2 hbank, hin, hpool, hphys]

/-- A column is replaced where its sub-bank has a spare left and the fuse reads back (R292, R293). -/
theorem ownColumnRepair_of_spare (hsub : x.pkt.f 18 1 ≤ 15) (hcol : x.pkt.f 19 1 ≤ 63)
    (hspare : ((s.bank x.pkt.unit (x.pkt.f 16 2)).spares.filter (fun c => c.1 == x.pkt.f 18 1)).length < 4) (hphys : x.physOk = true) :
    ownColumnRepair w x s = .done success (s.setBank x.pkt.unit (x.pkt.f 16 2) { s.bank x.pkt.unit (x.pkt.f 16 2) with
      spares := (s.bank x.pkt.unit (x.pkt.f 16 2)).spares ++ [(x.pkt.f 18 1, x.pkt.f 19 1)] }) := by
  simp only [ownColumnRepair, if_neg (Nat.not_le.2 hbank), if_neg (Nat.not_lt.2 hsub), if_neg (Nat.not_lt.2 hcol),
    if_neg (Nat.not_le.2 hspare), hphys, Bool.not_true, Bool.false_eq_true, if_false]

end

/-- Settles O5: each clause's premises are what the command's own checks ask, and a packet that passes them completes. -/
theorem poolAndBankCommandsComplete : Obligations.PoolAndBankCommandsComplete := by
  unfold Obligations.PoolAndBankCommandsComplete
  exact ⟨fun _ _ _ _ ht hk hn hheld hbreaks harea =>
      congrArg Host.Outcome.next (runCommand_done ht (ownPoolConfig_of_hbm hk hn hheld hbreaks harea)),
    fun _ _ _ _ ht ha hb hc hk => congrArg Host.Outcome.next (runCommand_done ht (ownPoolThreshold_of_configured ha hb hc hk)),
    fun _ _ _ _ ht ha hb hc hk => congrArg Host.Outcome.next (runCommand_done ht (ownPoolThreshold_of_unconfigured ha hb hc hk)),
    fun _ _ _ _ ht hpos hmax hsrc => congrArg Host.Outcome.next (runCommand_run ht (ownPoolAudit_of_host hpos hmax hsrc)),
    fun _ _ _ _ ht hbank howner hok => congrArg Host.Outcome.next (runCommand_done ht (ownBankOwn_of_allowed hbank howner hok)),
    fun _ _ _ _ ht hbank hst hok => congrArg Host.Outcome.next (runCommand_done ht (ownBankState_of_allowed hbank hst hok)),
    fun _ _ _ _ ht hbank hin hpool hphys =>
      congrArg Host.Outcome.next (runCommand_done ht (ownBankRetire_of_outside hbank hin hpool hphys)),
    fun _ _ _ _ ht hbank hsub hcol hspare hphys =>
      congrArg Host.Outcome.next (runCommand_done ht (ownColumnRepair_of_spare hbank hsub hcol hspare hphys))⟩

end Sys2Proof.Machine
end

section
/-! SUPPORT. What the rows of bank registers, leak audits, handovers and transitions (R282 to R290, R304 to R307) answer once
they apply. -/

namespace Sys2Proof.Machine

/-! ## Leak audits -/

section
variable {s : State}

theorem exec_poolAuditGo_of_idle {path v : Nat} (hp : s.passes path 0x00200010 = true) (hgo : bit v 0 = true)
    (hidle : s.mem.audits = []) : exec (.poolAuditGo path v) s = .next (s.startAudit 0 none success) :=
  congrArg Host.Outcome.next ((gated_passes hp).trans (if_pos (by simp [hgo, hidle])))

/-- The oldest audit in progress ends. -/
theorem exec_leakAuditComplete_of_running {a : Audit} {rest : List Audit} (h : s.mem.audits = a :: rest) :
    exec .leakAuditComplete s = .next (State.auditEnds { s with mem := { s.mem with audits := rest } } a) := by
  show execLeakAuditComplete s = _
  simp only [execLeakAuditComplete, h]

end

/-! ## Writes of bank registers -/

section
variable {path die bank v : Nat} {s : State}

theorem exec_bnkLock_of_passes (hd : die < 5) (hp : s.passes path (0x00100004 + 0x4000 * die) = true) (hlock : bit v 0 = true) :
    exec (.bnkLock path die v) s = .next { s with mem := { s.mem with locks := s.mem.locks ||| 2 ^ die } } := by
  have haddr : bnkReg die 4 = 0x00100004 + 0x4000 * die := by simp only [bnkReg]; omega
  exact congrArg Host.Outcome.next ((if_pos hd).trans ((gated_passes (haddr ▸ hp)).trans (if_pos hlock)))

/-- A write of a bank's owner register that passes is judged by what it asks. -/
theorem exec_bnkOwnWrite_of_passes (hd : die < 5) (hb : bank < dieBanks die) (hp : s.passes path (bnkReg die (0x800 + 8 * bank)) = true) :
    exec (.bnkOwnWrite path die bank v) s = .next (s.writeBnkOwn path die bank v) :=
  congrArg Host.Outcome.next ((if_pos (by simp [hd, hb])).trans (gated_passes hp))

theorem State.writeBnkOwn_of_allowed (hl : s.locked die = false) (hok : s.handoverOk die bank (bits v 0 12) = true) :
    s.writeBnkOwn path die bank v = s.beginHandover die bank (bits v 0 12) (bit v 12) :=
  if_neg (by simp [hl, hok])

/-- A write of a bank's state register that passes is judged by what it asks. -/
theorem exec_bnkStateWrite_of_passes (hd : die < 5) (hb : bank < dieBanks die)
    (hp : s.passes path (bnkReg die (0x804 + 8 * bank)) = true) :
    exec (.bnkStateWrite path die bank v) s = .next (s.writeBnkState path die bank v) :=
  congrArg Host.Outcome.next ((if_pos (by simp [hd, hb])).trans (gated_passes hp))

theorem State.writeBnkState_of_allowed (hf : bit v 10 = false) (hl : s.locked die = false) (h3 : bits v 0 2 ≠ 3)
    (hne : bits v 0 2 ≠ (s.bank die bank).state) (hok : s.bankMoveOk die bank (bits v 0 2) = true) :
    s.writeBnkState path die bank v = s.beginBankMove die bank (bits v 0 2) := by
  simp [State.writeBnkState, hf, hl, h3, hne, hok]

/-- FAULT is cleared by a 1, and STATE 3 asks for no transition (R290). -/
theorem State.writeBnkState_of_clear (hf : bit v 10 = true) (h3 : bits v 0 2 = 3) :
    s.writeBnkState path die bank v = s.setBank die bank { s.bank die bank with fault := false } := by
  simp [State.writeBnkState, hf, h3]

end

/-! ## Handovers and transitions that end -/

section
variable {die bank : Nat} {s : State}

/-- A handover that leaves the content ends with the new owner (R282 steps 3 and 4). -/
theorem State.endHandover_of_pending {o : Nat} (hp : (s.bank die bank).pending = some (o, false)) :
    s.endHandover die bank = s.setBank die bank { s.bank die bank with owner := o, pending := none, prev := 0 } := by
  simp only [State.endHandover, hp, Bool.false_eq_true, if_false]

section
variable (hpend : (s.bank die bank).pending = none) (htest : (s.bank die bank).test = false)
include hpend htest

/-- A transition neither to nor from OFF keeps the content (Table 10-2). -/
theorem State.endBankMove_of_powered {st : Nat} (hn : (s.bank die bank).next = some st) (hst : st ≠ 0)
    (hon : (s.bank die bank).state ≠ 0) :
    s.endBankMove die bank = s.setBank die bank { s.bank die bank with state := st, next := none } := by
  simp [State.endBankMove, hn, hpend, htest, hst, hon]

/-- A bank that turns OFF loses its content (Table 10-2). -/
theorem State.endBankMove_of_off (hn : (s.bank die bank).next = some 0) :
    s.endBankMove die bank = (s.clearBank die bank).setBank die bank { s.bank die bank with state := 0, next := none } := by
  simp [State.endBankMove, hn, hpend, htest]

end
end

/-- Settles O19: each clause's premises are what its row tests before it acts. -/
theorem poolAndBankEventsComplete : Obligations.PoolAndBankEventsComplete := by
  unfold Obligations.PoolAndBankEventsComplete
  exact ⟨fun _ _ _ => exec_poolAuditGo_of_idle,
    fun _ _ _ => exec_leakAuditComplete_of_running,
    fun _ _ _ _ => exec_bnkLock_of_passes,
    fun _ _ _ _ _ hd hb hp hl hok =>
      (exec_bnkOwnWrite_of_passes hd hb hp).trans (congrArg Host.Outcome.next (State.writeBnkOwn_of_allowed hl hok)),
    fun _ _ _ _ hp => congrArg Host.Outcome.next (State.endHandover_of_pending hp),
    fun _ _ _ _ _ hd hb hp hf hl h3 hne hok =>
      (exec_bnkStateWrite_of_passes hd hb hp).trans (congrArg Host.Outcome.next (State.writeBnkState_of_allowed hf hl h3 hne hok)),
    fun _ _ _ _ _ hd hb hp hf h3 =>
      (exec_bnkStateWrite_of_passes hd hb hp).trans (congrArg Host.Outcome.next (State.writeBnkState_of_clear hf h3)),
    fun _ _ _ _ hn hpend htest hst hon => congrArg Host.Outcome.next (State.endBankMove_of_powered hpend htest hn hst hon),
    fun _ _ _ hn hpend htest => congrArg Host.Outcome.next (State.endBankMove_of_off hpend htest hn)⟩

end Sys2Proof.Machine
end

section
/-! SUPPORT. Slot writes to their destinations, the consumed word and acknowledgement timeouts (R314 to R322), and the rates of
queue pairs under congestion (R366): what each row answers once it applies. -/

namespace Sys2Proof.Machine

/-! ## Slot writes and the consumed word -/

section
variable {jobId index slot rank dest value now js t : Nat} {j : Job} {r : ReadySlot} {rc : Recipe} {c : SlotCopy} {b : Binding}
  {k : QueuePair} {s : State} (hj : s.jobNamed jobId = some (js, j))
include hj

theorem exec_slotWriteReady_of_ready (hr : s.readySlot j index slot = some (r, rc)) :
    exec (.slotWriteReady jobId index slot dest) s = .next (s.writeSlot js j rc r dest) := by
  show execSlotWriteReady jobId index slot dest s = _
  simp only [execSlotWriteReady, hj, hr]

section
variable (hc : j.copyTo index slot dest = some c) (hb : j.binding c.rank c.dest = some b)
include hc hb

/-- The slot's bytes are acknowledged before its completion word is written (R318 step 2). -/
theorem exec_rdmaWriteAck_of_data (hp : c.phase = 1) :
    exec (.rdmaWriteAck jobId index slot dest) s = .next ((s.roceHeard b.qp).dataAcked js j c) := by
  show execRdmaWriteAck jobId index slot dest s = _
  simp only [execRdmaWriteAck, hj, hc, hb, if_pos hp]

/-- The completion word is written last (R318 step 3); its acknowledgement ends the copy. -/
theorem exec_rdmaWriteAck_of_word (hp : c.phase = 2) :
    exec (.rdmaWriteAck jobId index slot dest) s = .next (State.writesEnded ((((s.roceHeard b.qp).setJob js
      (j.setCopy { c with phase := 3 })).countEmpty js c.index c.slot).bump64 0x00A00038 1) js) := by
  have hdata : c.phase ≠ 1 := by omega
  show execRdmaWriteAck jobId index slot dest s = _
  simp only [execRdmaWriteAck, hj, hc, hb, if_neg hdata, if_pos hp]

end

section
variable (hb : j.binding rank dest = some b)
include hb

theorem exec_consumedWordResponse_of_reading (hread : b.reading = true) :
    exec (.consumedWordResponse jobId rank dest value) s = .next (State.writesEnded ((s.roceHeard b.qp).setJob js
      (j.setBinding { b with reading := false, c := some (max (b.c.getD 0) (bits value 0 44)) })) js) := by
  show execConsumedWordResponse jobId rank dest value s = _
  simp only [execConsumedWordResponse, hj, hb, if_pos hread]

/-- The word is read again once 2 µs have passed, where a write waits for it (R314). -/
theorem exec_consumedWordRead_of_due (hidle : b.reading = false) (hgood : b.error = false) (hk : s.qp b.qp = some k)
    (hk1 : k.state = 1) (hlast : b.lastRead = some t) (hdue : t + 2000 ≤ now)
    (hneeds : (s.advance now).needsRead j b = true) :
    exec (.consumedWordRead jobId rank dest now) s = .next (State.sendRead ((s.advance now).setJob js
      (j.setBinding { b with reading := true, lastRead := some (max s.now now) })) b) := by
  have hpassed : t + 2000 ≤ max s.now now := Nat.le_trans hdue (Nat.le_max_right s.now now)
  show execConsumedWordRead jobId rank dest now s = _
  simp only [execConsumedWordRead, State.advance_at_jobNamed, hj, hb]
  exact congrArg Host.Outcome.next (if_pos (by
    simp only [State.advance_at_qp, State.advance_now, hidle, hgood, hk, hk1, hlast, hpassed, hneeds, Bool.not_false, beq_self_eq_true,
      decide_true, Bool.and_self]))

end
end

/-! ## Retries and rates -/

section
variable {qp port now : Nat} {k : QueuePair} {s : State}

/-- An acknowledgement is missing: one retry of what is outstanding, or, after the last, the error (R322). -/
theorem exec_roceAckTimeout_of_waiting {waiting : List (Nat × Binding)} (hk : s.qp qp = some k) (hk1 : k.state = 1)
    (hw : (s.bindingsOn qp).filter (fun p => match s.jobs.find p.1 with | some j => j.busyOn p.2 | none => false) = waiting)
    (hne : waiting ≠ []) :
    exec (.roceAckTimeout qp) s = .next (if k.retries < bits k.cfg 5 3 then
      waiting.foldl (fun s p => s.resend p.1 p.2) (s.updQp qp (fun k => { k with retries := k.retries + 1 })) else s.qpError qp) := by
  have hgo : ¬(k.state != 1 || waiting.isEmpty) = true := by
    simp only [hk1, bne_self_eq_false, Bool.false_or, List.isEmpty_iff, hne, not_false_eq_true]
  subst hw
  show execRoceAckTimeout qp s = _
  simp only [execRoceAckTimeout, hk]
  exact congrArg Host.Outcome.next (if_neg hgo)

theorem exec_cnpReceive_of_port (hport : port < 8) :
    exec (.cnpReceive qp port now) s = .next ((State.bump (State.bump64 (s.advance now) (ethPortReg port 0x10) 1)
      (ethPortReg port 0x1C) 1).updQp qp (fun k =>
        if after50us k.lastCut (max s.now now) then
          { k with rate := max 100 (k.rate - k.rate / 8), lastCut := some (max s.now now), lastCnp := max s.now now }
        else { k with lastCnp := max s.now now })) :=
  congrArg Host.Outcome.next (if_neg (Nat.not_le.2 hport))

/-- A marked packet is answered where the port answers marks and 50 µs have passed since the last answer (R366). -/
theorem exec_cePacketReceive_of_due (hport : port < 8) (hk : s.qp qp = some k) (hen : (s.ethPort port).ecnEn = true)
    (hdue : after50us k.lastCnpSent (max s.now now) = true) :
    exec (.cePacketReceive qp port now) s = .next (State.sendRoce (State.bump (State.updQp
      (State.bump64 (s.advance now) (ethPortReg port 0x10) 1) qp (fun k => { k with lastCnpSent := some (max s.now now) }))
      (ethPortReg port 0x20) 1) qp 64 (.ethernet port "cnp" [qp])) := by
  have hqp : (State.bump64 (s.advance now) (ethPortReg port 0x10) 1).qp qp = some k := hk
  have hanswers : ((State.bump64 (s.advance now) (ethPortReg port 0x10) 1).ethPort port).ecnEn = true := hen
  show execCePacketReceive qp port now s = _
  simp only [execCePacketReceive, if_neg (Nat.not_le.2 hport), hqp, hanswers, State.bump64_now, State.advance_now, hdue, Bool.and_self,
    if_true]

end

/-- Settles O27: each clause's premises are what its row tests before it acts. -/
theorem deliveryEventsComplete : Obligations.DeliveryEventsComplete := by
  unfold Obligations.DeliveryEventsComplete
  exact ⟨fun _ _ _ _ _ _ _ _ _ => exec_slotWriteReady_of_ready,
    fun _ _ _ _ _ _ _ _ _ => exec_rdmaWriteAck_of_data,
    fun _ _ _ _ _ _ _ _ _ => exec_rdmaWriteAck_of_word,
    fun _ _ _ _ _ _ _ _ => exec_consumedWordResponse_of_reading,
    fun _ _ _ _ _ _ _ _ _ _ => exec_consumedWordRead_of_due,
    fun _ _ _ _ => exec_roceAckTimeout_of_waiting,
    fun _ _ _ _ => exec_cnpReceive_of_port,
    fun _ _ _ _ _ => exec_cePacketReceive_of_due,
    fun _ _ _ => rfl⟩

end Sys2Proof.Machine
end

section
/-! SUPPORT. The footprints of the operations on the fabric, queue pairs, routes, plans in progress, remote memory, mirrors and
live streams. -/

namespace Sys2Proof.Machine

variable {F : Footprint} (s : State)

/-! ## Frames that leave without an event -/

/-- What a frame that leaves a port changes: queues and credits, what is sent, and the counts of it (R345, R367). -/
def sendParts : Footprint := [.emitted, .net, .counters]

theorem State.sendFrame_outside_of_sendParts (h : sendParts ⊆ F) (sp : Nat) (f : Frame) : (s.sendFrame sp f).outside F = s.outside F := by
  refine State.outside_mono h ?_
  simp (disch := decide) only [State.sendFrame, apply_ite (State.outside _), State.updPort_outside, State.bump64_outside,
    State.emit_outside, ite_self]

theorem State.drain_outside_of_sendParts (h : sendParts ⊆ F) (sp fuel : Nat) : (State.drain sp fuel s).outside F = s.outside F := by
  induction fuel generalizing s with
  | zero => rfl
  | succ fuel ih =>
    unfold State.drain
    dsimp only
    split
    · rw [ih, State.sendFrame_outside_of_sendParts _ h, s.setShaper_outside (h (by decide))]
    · rfl

theorem State.queueFrame_outside_of_sendParts (h : sendParts ⊆ F) (sp : Nat) (f : Frame) :
    (s.queueFrame sp f).outside F = s.outside F :=
  (State.drain_outside_of_sendParts _ h _ _).trans (s.setShaper_outside (h (by decide)) _ _)

theorem State.updQp_outside (h : .rma ∈ F) (q : Nat) (f : QueuePair → QueuePair) : (s.updQp q f).outside F = s.outside F :=
  s.outside_rma h _

theorem State.sendRoce_outside (h : sendParts ⊆ F) (q len : Nat) (out : Output) : (s.sendRoce q len out).outside F = s.outside F := by
  unfold State.sendRoce
  split
  · exact s.queueFrame_outside_of_sendParts h _ _
  · rfl

/-! ## Ports, packets and time -/

theorem State.serveAll_outside (h : netParts ⊆ F) : s.serveAll.outside F = s.outside F := by
  refine State.foldl_outside (fun s sp => ?_) _ s
  rw [apply_ite (State.outside F), s.serve_outside h, ite_self]

theorem State.portCtrlRow_outside (h : netParts ⊆ F) (path f v : Nat) : (s.portCtrlRow path f v).outside F = s.outside F := by
  have hevent : eventParts ⊆ F := List.Subset.trans (by decide) h
  rw [State.portCtrlRow, apply_ite (State.outside F),
    s.gated_outside hevent (fun s => s.writePortCtrl_outside h _ _ _), ite_self]

theorem State.wakePort_outside (h : .net ∈ F) (f : Nat) : (s.wakePort f).outside F = s.outside F := s.updPort_outside h _ _

theorem State.transit_outside (h : netParts ⊆ F) (f : Nat) (p : FabricIn) : (s.transit f p).outside F = s.outside F := by
  refine State.outside_mono h ?_
  unfold State.transit
  split
  · simp (disch := decide) only [apply_ite (State.outside _), State.queueFrame_outside, State.wakePort_outside, State.bump_outside,
      State.bump64_outside, ite_self]
  · rfl

theorem State.correct_outside (h : .now ∈ F) (d : Int) : (s.correct d).outside F = s.outside F := s.outside_now h _

theorem State.routeChange_outside (h : eventParts ⊆ F) (affected : Nat) : (s.routeChange affected).outside F = s.outside F := by
  simp only [State.routeChange, apply_ite (State.outside F), s.raise_outside h, ite_self]

/-! ## Ports with the command that serves them -/

/-- What the work of a port changes: the ports with their events, and the command that waits for it (R352). -/
def portWorkParts : Footprint := .net :: packetParts

theorem State.portDone_outside (h : portWorkParts ⊆ F) (f : Nat) : (s.portDone f).outside F = s.outside F := by
  refine State.outside_mono h ?_
  unfold State.portDone
  split <;> simp (disch := decide) only [State.finish_outside, State.updPort_outside]

theorem State.laneDone_outside (h : portWorkParts ⊆ F) (f failed : Nat) : (s.laneDone f failed).outside F = s.outside F :=
  (State.portDone_outside _ h f).trans (s.updPort_outside (h (by decide)) f _)

theorem State.portFails_outside (h : portWorkParts ⊆ F) (f : Nat) : (s.portFails f).outside F = s.outside F :=
  (State.portDone_outside _ h f).trans (s.updPort_outside (h (by decide)) f _)

theorem State.portUp_outside (h : portWorkParts ⊆ F) (f failed peer peerPort ver affected : Nat) (found : List Nat) :
    (s.portUp f failed peer peerPort ver affected found).outside F = s.outside F := by
  refine State.outside_mono h ?_
  unfold State.portUp
  dsimp only
  split <;>
    simp (disch := decide) only [apply_ite (State.outside _), State.finish_outside, State.serve_outside, State.routeChange_outside,
      State.outside_net, State.raise_outside, State.updPort_outside, ite_self]

/-! ## Jobs: recoveries interrupted, plans abandoned -/

theorem State.setJob_outside (h : .jobs ∈ F) (j : Nat) (v : Job) : (s.setJob j v).outside F = s.outside F := s.outside_jobs h _

theorem State.finishAll_outside (h : packetParts ⊆ F) (ws : List Waiter) (r : Result) : (s.finishAll ws r).outside F = s.outside F :=
  State.foldl_outside (fun s w => s.finish_outside h w r) ws s

theorem State.toRanks_outside (h : .emitted ∈ F) (j : Job) (kind : String) (words : List Nat) (data : Bytes) :
    (s.toRanks j kind words data).outside F = s.outside F := s.outside_emitted h _

/-- What a fault at jobs changes: the jobs, the memory that their plans hold, and the commands that end (R53, R91). -/
def jobFaultParts : Footprint := .jobs :: .mem :: packetParts

theorem State.abandonRecovery_outside (h : jobFaultParts ⊆ F) (slot : Nat) : (s.abandonRecovery slot).outside F = s.outside F := by
  refine State.outside_mono h ?_
  unfold State.abandonRecovery
  split
  · split
    · simp (disch := decide) only [apply_ite (State.outside _), State.finishAll_outside, State.raise_outside, State.setJob_outside,
        ite_self]
    · rfl
  · rfl

theorem State.interruptRecoveries_outside (h : jobFaultParts ⊆ F) : s.interruptRecoveries.outside F = s.outside F :=
  State.foldl_outside (fun s slot => s.abandonRecovery_outside h slot) _ s

theorem State.releasePlan_outside (h : bankParts ⊆ F) (p : EpochPlan) : (s.releasePlan p).outside F = s.outside F := by
  unfold State.releasePlan
  split
  · rw [apply_ite (State.outside F), s.freeChain_outside h, ite_self]
  · rfl

theorem State.abandonPlan_outside (h : jobFaultParts ⊆ F) (slot : Nat) (p : EpochPlan) (r : Result) (lost : Option Nat) :
    (s.abandonPlan slot p r lost).outside F = s.outside F := by
  refine State.outside_mono h ?_
  unfold State.abandonPlan
  split
  · cases lost <;>
      simp (disch := decide) only [State.finishAll_outside, State.raise_outside, State.setJob_outside, State.releasePlan_outside]
  · rfl

theorem State.loseDevice_outside (h : jobFaultParts ⊆ F) (slot lost : Nat) (tell : Bool) :
    (s.loseDevice slot lost tell).outside F = s.outside F := by
  refine State.outside_mono h ?_
  unfold State.loseDevice
  split
  · refine State.foldl_outside (fun s p => ?_) _ s
    simp (disch := decide) only [State.abandonPlan_outside, apply_ite (State.outside _), State.toRanks_outside, ite_self]
  · rfl

/-! ## Remote requests and mirror intervals -/

theorem State.mirrorFailed_outside (h : .jobs :: eventParts ⊆ F) (slot : Nat) : (s.mirrorFailed slot).outside F = s.outside F := by
  refine State.outside_mono h ?_
  unfold State.mirrorFailed
  split
  · split
    · simp (disch := decide) only [apply_ite (State.outside _), State.raise_outside, State.bump_outside, State.setJob_outside, ite_self]
    · rfl
  · rfl

theorem State.mirrorDone_outside (h : .jobs ∈ F) (slot : Nat) : (s.mirrorDone slot).outside F = s.outside F := by
  unfold State.mirrorDone
  split
  · exact s.setJob_outside h _ _
  · rfl

theorem State.sendRequest_outside (h : [.emitted, .rma] ⊆ F) (r : RmaRequest) (key : Nat) (data : Bytes) :
    (s.sendRequest r key data).outside F = s.outside F :=
  (State.emit_outside _ (h (by decide)) _).trans (s.outside_rma (h (by decide)) _)

theorem State.storeRead_outside (h : [.emitted, .mem] ⊆ F) (r : RmaRequest) (data : Bytes) :
    (s.storeRead r data).outside F = s.outside F := by
  simp only [State.storeRead, apply_ite (State.outside F), s.writeChain_outside (h (by decide)), s.emit_outside (h (by decide)),
    ite_self]

/-- What the end of a remote request changes: the requests, the memory that a read fills, its mirror link and its command. -/
def requestParts : Footprint := .rma :: jobFaultParts

theorem State.endRequest_outside (h : requestParts ⊆ F) (id status : Nat) (data : Bytes) :
    (s.endRequest id status data).outside F = s.outside F := by
  refine State.outside_mono h ?_
  unfold State.endRequest
  split
  · dsimp only
    split <;>
      simp (disch := decide) only [apply_ite (State.outside _), State.finish_outside, State.mirrorDone_outside,
        State.mirrorFailed_outside, State.storeRead_outside, State.outside_rma, ite_self]
  · rfl

theorem State.loseRequests_outside (h : requestParts ⊆ F) (devs : List Nat) : (s.loseRequests devs).outside F = s.outside F :=
  State.foldl_outside (fun s id => s.endRequest_outside h id _ _) _ s

theorem State.noteLost_outside (h : .net :: requestParts ⊆ F) (devs : List Nat) : (s.noteLost devs).outside F = s.outside F :=
  (State.loseRequests_outside _ (List.Subset.trans (by decide) h) devs).trans (s.outside_net (h (by decide)) _)

theorem State.mirrorInterval_outside (h : .rma :: .jobs :: eventParts ⊆ F) (slot : Nat) :
    (s.mirrorInterval slot).outside F = s.outside F := by
  refine State.outside_mono h ?_
  unfold State.mirrorInterval
  split
  · split
    · simp (disch := decide) only [State.mirrorCursor, apply_ite (State.outside _), State.sendRequest_outside, State.setJob_outside,
        State.mirrorFailed_outside, ite_self]
    · rfl
  · rfl

/-! ## Windows -/

theorem State.addRef_outside (h : bankParts ⊆ F) (r : Nat) : (s.addRef r).2.outside F = s.outside F := by
  refine State.outside_mono h ?_
  unfold State.addRef
  split
  · split
    · exact s.bump_outside (by decide) _ _
    · exact s.outside_mem (by decide) _
  · exact (State.raise_outside _ (by decide) _ _ _).trans (s.bump_outside (by decide) _ _)

theorem State.dropRef_outside (h : bankParts ⊆ F) (r : Nat) : (s.dropRef r).outside F = s.outside F := by
  unfold State.dropRef
  split
  · split
    · exact s.freeChain_outside h r
    · exact s.outside_mem (h (by decide)) _
  · exact s.raise_outside (List.Subset.trans (by decide) h) _ _ _

theorem State.closeWindow_outside (h : .rma ∈ F) (n : Nat) (cmd : Option Waiter) : (s.closeWindow n cmd).outside F = s.outside F :=
  s.outside_rma h _

theorem State.closeMirror_outside (h : .rma ∈ F) (jobId dev : Nat) : (s.closeMirror jobId dev).outside F = s.outside F := by
  unfold State.closeMirror
  split
  · exact (State.closeWindow_outside _ h _ _).trans (s.outside_rma h _)
  · rfl

theorem State.allocate_outside (h : bankParts ⊆ F) {p owner len ref : Nat} {reserved : Bool} {t : State}
    (ht : s.allocate p owner len reserved = some (ref, t)) : t.outside F = s.outside F := by
  refine State.outside_mono h ?_
  unfold State.allocate at ht
  dsimp only at ht
  obtain ⟨-, ht⟩ := Option.ite_none_left_eq_some.1 ht
  split at ht
  · nomatch ht
  · obtain rfl := congrArg Prod.snd (Option.some.inj ht)
    simp (disch := decide) only [State.poolChanged_outside, State.bump64_outside, apply_ite (State.outside _), State.setPool_outside,
      State.outside_mem, ite_self]

/-- A mirror window takes a chain, an index and fresh key bits (R334 step 2). -/
theorem State.openMirror_outside (h : .fresh :: .rma :: bankParts ⊆ F) {jobId dev : Nat} {m : MirrorWindow} {t : State}
    (ht : s.openMirror jobId dev = some (m, t)) : t.outside F = s.outside F := by
  unfold State.openMirror at ht
  split at ht
  next n ref u hn ha =>
    obtain rfl := congrArg Prod.snd (Option.some.inj ht)
    exact (State.outside_rma _ (h (by decide)) _).trans
      ((u.draw_outside (h (by decide)) 32).trans (s.allocate_outside (List.Subset.trans (by decide) h) ha))
  · nomatch ht

theorem State.updMirror_outside (h : .jobs ∈ F) (jobId : Nat) (f : MirrorLink → MirrorLink) :
    (s.updMirror jobId f).outside F = s.outside F := by
  unfold State.updMirror
  split
  · exact s.setJob_outside h _ _
  · rfl

/-! ## Requests received -/

theorem State.refuseRequest_outside (h : eventParts ⊆ F) (q : RmaIn) (status : Nat) :
    (s.refuseRequest q status).outside F = s.outside F := by
  refine State.outside_mono h ?_
  simp (disch := decide) only [State.refuseRequest, apply_ite (State.outside _), State.bump_outside, State.raise_outside,
    State.emit_outside, ite_self]

theorem State.serveRequest_outside (h : [.emitted, .mem, .counters] ⊆ F) (q : RmaIn) (v : Window) :
    (s.serveRequest q v).outside F = s.outside F := by
  refine State.outside_mono h ?_
  simp (disch := decide) only [State.serveRequest, apply_ite (State.outside _), State.emit_outside, State.bump64_outside,
    State.writeChain_outside, ite_self]

/-! ## Live streams -/

theorem State.setService_outside (h : .net ∈ F) (n : Nat) (v : Service) : (s.setService n v).outside F = s.outside F := s.outside_net h _

theorem State.liveLoss_outside (h : eventParts ⊆ F) (n lost : Nat) : (s.liveLoss n lost).outside F = s.outside F := by
  refine State.outside_mono h ?_
  simp (disch := decide) only [State.liveLoss, apply_ite (State.outside _), State.raise_outside, State.bump_outside, ite_self]

theorem State.liveRap_outside (h : netParts ⊆ F) (n pts : Nat) : (s.liveRap n pts).outside F = s.outside F := by
  refine State.outside_mono h ?_
  unfold State.liveRap
  split
  · rfl
  split
  · exact s.setService_outside (by decide) _ _
  · simp (disch := decide) only [apply_ite (State.outside _), State.bump64_outside, State.setService_outside, ite_self]

theorem State.livePacket_outside (h : netParts ⊆ F) (n : Nat) (rap : Option Nat) (p : Bytes) :
    (s.livePacket n rap p).outside F = s.outside F := by
  refine State.outside_mono h ?_
  unfold State.livePacket
  cases rap
  case none =>
    dsimp only
    split <;> simp (disch := decide) only [State.liveLoss_outside, State.bump64_outside, State.setService_outside]
  case some pts =>
    dsimp only
    split <;> simp (disch := decide) only [State.liveLoss_outside, State.bump64_outside, State.setService_outside, State.liveRap_outside]

theorem State.liveBurst_outside (h : netParts ⊆ F) (n : Nat) (b : Bytes) (raps : List (Nat × Nat)) :
    (s.liveBurst n b raps).outside F = s.outside F := by
  unfold State.liveBurst
  refine State.foldl_outside (fun u p => ?_) _ s
  exact u.livePacket_outside h n _ p.1

theorem State.drainWindow_outside (h : netParts ⊆ F) (n fuel : Nat) : (State.drainWindow n fuel s).outside F = s.outside F := by
  induction fuel generalizing s with
  | zero => rfl
  | succ fuel ih =>
    unfold State.drainWindow
    split
    · rfl
    split
    · rfl
    split
    · rfl
    · rw [ih, State.liveBurst_outside _ h, s.setService_outside (h (by decide))]

theorem State.slideWindow_outside (h : netParts ⊆ F) (n seq fuel : Nat) : (State.slideWindow n seq fuel s).outside F = s.outside F := by
  induction fuel generalizing s with
  | zero => rfl
  | succ fuel ih =>
    have hnet : .net ∈ F := h (by decide)
    have hevent : eventParts ⊆ F := List.Subset.trans (by decide) h
    unfold State.slideWindow
    split
    · rfl
    split
    · rfl
    split
    · rfl
    · rw [ih]
      split
      · rw [State.liveBurst_outside _ h, s.setService_outside hnet]
      · rw [State.raise_outside _ hevent, s.setService_outside hnet]

theorem State.rtpPacket_outside (h : netParts ⊆ F) (n seq : Nat) (b : Bytes) (raps : List (Nat × Nat)) :
    (s.rtpPacket n seq b raps).outside F = s.outside F := by
  refine State.outside_mono h ?_
  unfold State.rtpPacket
  split
  · rfl
  · dsimp only
    split
    · rfl
    split <;>
      simp (disch := decide) only [apply_ite (State.outside _), State.drainWindow_outside, State.slideWindow_outside,
        State.raise_outside, State.setService_outside, ite_self]

end Sys2Proof.Machine
end

section
/-! SUPPORT. The frames of the network rows: what each command's own effect changes, the footprint of each family, and what
lies outside it. -/

namespace Sys2Proof.Machine

/-! ## The effects of remote memory commands -/

section
variable {F : Footprint} (w : Waiter) (x : CmdIn) (s : State)

theorem ownRma_within (h : .rma :: eventParts ⊆ F) (isWrite : Bool) : (ownRma isWrite w x s).within F s := by
  unfold ownRma
  dsimp only
  repeat' apply Own.holds_ite_refuse
  split
  · split
    · exact s.badRef_outside (List.Subset.trans (by decide) h) _
    · trivial
  split
  · exact rfl
  · exact s.sendRequest_outside (List.Subset.trans (by decide) h) _ _ _

theorem ownWindowOpen_within (h : .rma :: bankParts ⊆ F) : (ownWindowOpen w x s).within F s := by
  have hbank : bankParts ⊆ F := List.Subset.trans (by decide) h
  have hevent : eventParts ⊆ F := List.Subset.trans (by decide) h
  have href := s.addRef_outside hbank (x.pkt.f 24 8)
  unfold ownWindowOpen
  dsimp only
  repeat' apply Own.holds_ite_refuse
  split
  · exact s.badRef_outside hevent _
  refine Own.holds_ite_refuse ?_
  split
  · trivial
  repeat' apply Own.holds_ite_refuse
  split
  next u hu =>
    rw [hu] at href
    exact href
  next u hu =>
    rw [hu] at href
    exact (u.outside_rma (h (by decide)) _).trans href

theorem ownWindowClose_within (h : .rma ∈ F) : (ownWindowClose w x s).within F s := by
  unfold ownWindowClose
  split
  · trivial
  · exact s.closeWindow_outside h _ _

theorem ownWindowRekey_within (h : .rma ∈ F) : (ownWindowRekey w x s).within F s := by
  unfold ownWindowRekey
  split
  · trivial
  · exact s.outside_rma h _

end

/-! ## The rows -/

section
variable {i : Instr} {s t : State}

/-- What the rows of ports, packets, time and shaping change: the network and its events (R353, R368). -/
def portRowParts : Footprint := .now :: netParts
/-- What the rows of links and peers change: routes, and the requests, plans and recoveries that lose theirs (R349). -/
def linkRowParts : Footprint := .now :: .net :: requestParts
/-- What the rows of congestion change: rates of queue pairs, and what they send; they raise no event (R366). -/
def roceRowParts : Footprint := .now :: .rma :: sendParts
/-- What the rows of remote memory change; a mirror window takes fresh bits for its key (R326, R334). -/
def remoteRowParts : Footprint := .fresh :: .now :: requestParts

/-- A row of the fabric family leaves every part outside its footprint as it was. -/
theorem exec_outside_of_fabric (hi : family i = .fabric) (he : exec i s = .next t) :
    t.outside portRowParts = s.outside portRowParts := by
  cases i
  case fabPortRetrain path f v | fabPortRecal path f v | fabLaneRecal path f v =>
    obtain rfl := Host.Outcome.next.inj he
    exact s.portCtrlRow_outside (by decide) _ _ _
  case fabricPacketReceive f p =>
    obtain rfl := Host.Outcome.next.inj he
    simp (disch := decide) only [apply_ite (State.outside _), State.transit_outside, State.outside_net, State.emit_outside,
      State.wakePort_outside, State.updPort_outside, State.bump_outside, State.bump64_outside, ite_self]
  case flowCreditReceive f vc =>
    obtain rfl := Host.Outcome.next.inj he
    simp (disch := decide) only [apply_ite (State.outside _), State.serve_outside, State.updPort_outside, ite_self]
  case portIdleTimer f load now =>
    obtain rfl := Host.Outcome.next.inj he
    split <;>
      simp (disch := decide) only [apply_ite (State.outside _), State.emit_outside, State.updPort_outside, State.advance_outside, ite_self]
  case quietEntryCommit f packet =>
    obtain rfl := Host.Outcome.next.inj he
    split
    · split <;> exact s.updPort_outside (by decide) _ _
    · rfl
  case quietExitComplete f =>
    obtain rfl := Host.Outcome.next.inj he
    simp (disch := decide) only [apply_ite (State.outside _), State.serve_outside, State.updPort_outside, ite_self]
  case quietKeepalive now =>
    obtain rfl := Host.Outcome.next.inj he
    refine (State.foldl_outside (fun s f => ?_) _ _).trans (s.advance_outside (by decide) now)
    simp (disch := decide) only [State.emit_outside, State.bump64_outside]
  case linkDelayExchange f now hops corr source =>
    obtain rfl := Host.Outcome.next.inj he
    split
    · exact s.advance_outside (by decide) now
    extract_lets u
    have hu : u.outside portRowParts = s.outside portRowParts := by
      simp (disch := decide) only [u, State.updPort_outside, State.advance_outside]
    split
    · exact hu
    split
    · refine Eq.trans ?_ hu
      simp (disch := decide) only [apply_ite (State.outside _), State.outside_net, State.correct_outside, ite_self]
    · exact (u.outside_net (by decide) _).trans hu
  case ptpMessageReceive q offset =>
    obtain rfl := Host.Outcome.next.inj he
    simp (disch := decide) only [apply_ite (State.outside _), State.outside_net, State.correct_outside, ite_self]
  case timeHoldover =>
    obtain rfl := Host.Outcome.next.inj he
    simp (disch := decide) only [apply_ite (State.outside _), State.raise_outside, State.outside_net, ite_self]
  case pfcFrameReceive q prio pause =>
    obtain rfl := Host.Outcome.next.inj he
    simp (disch := decide) only [apply_ite (State.outside _), State.serve_outside, State.outside_net, ite_self]
  case ethPortLinkChange q st =>
    obtain rfl := Host.Outcome.next.inj he
    simp (disch := decide) only [apply_ite (State.outside _), State.serve_outside, State.outside_net, ite_self]
  all_goals exact nomatch hi

/-- A row of the links family leaves every part outside its footprint as it was. -/
theorem exec_outside_of_links (hi : family i = .links) (he : exec i s = .next t) :
    t.outside linkRowParts = s.outside linkRowParts := by
  cases i
  case portTrainingComplete f lanes peer peerPort ver affected now found =>
    obtain rfl := Host.Outcome.next.inj he
    cases linkVersion (s.advance now).sys.fabricN ver <;>
      simp (disch := decide) only [apply_ite (State.outside _), State.laneDone_outside, State.portFails_outside, State.raise_outside,
        State.portUp_outside, State.advance_outside, ite_self]
  case linkDown f affected now lost =>
    obtain rfl := Host.Outcome.next.inj he
    simp (disch := decide) only [apply_ite (State.outside _), State.interruptRecoveries_outside, State.routeChange_outside,
      State.noteLost_outside, State.portStops_outside, State.advance_outside, ite_self]
  case laneFail f lane affected now lost =>
    obtain rfl := Host.Outcome.next.inj he
    simp (disch := decide) only [apply_ite (State.outside _), State.interruptRecoveries_outside, State.routeChange_outside,
      State.noteLost_outside, State.portStops_outside, State.raise_outside, State.updPort_outside, State.advance_outside, ite_self]
  case peerLost dev affected now lost =>
    obtain rfl := Host.Outcome.next.inj he
    simp (disch := decide) only [apply_ite (State.outside _), State.routeChange_outside, State.noteLost_outside, State.raise_outside,
      State.advance_outside, ite_self]
  case deviceUnreachable dev now =>
    obtain rfl := Host.Outcome.next.inj he
    have htold : ∀ (u : State) (j : Nat × Job), ((u.raise evDeviceUnreachable 4 (leBytes 2 dev ++ leBytes 2 j.2.id)).loseDevice
        j.1 dev true).outside linkRowParts = u.outside linkRowParts := fun u j => by
      simp (disch := decide) only [State.loseDevice_outside, State.raise_outside]
    dsimp only
    split
    · simp (disch := decide) only [apply_ite (State.outside _), State.foldl_outside htold, State.outside_net, State.advance_outside,
        ite_self]
    · exact s.advance_outside (by decide) now
  all_goals exact nomatch hi

/-- A row of the shaping family leaves every part outside its footprint as it was. -/
theorem exec_outside_of_shaping (hi : family i = .shaping) (he : exec i s = .next t) :
    t.outside portRowParts = s.outside portRowParts := by
  cases i
  case shpGclCommit path sp v =>
    obtain rfl := Host.Outcome.next.inj he
    rw [apply_ite (State.outside _), s.gated_outside (by decide) (fun s => s.writeGclCtrl_outside (by decide) _ _), ite_self]
  case gclBaseTimeReached sp now =>
    obtain rfl := Host.Outcome.next.inj he
    split <;>
      simp (disch := decide) only [apply_ite (State.outside _), State.serve_outside, State.setShaper_outside, State.advance_outside,
        ite_self]
  case shaperRefill now =>
    obtain rfl := Host.Outcome.next.inj he
    simp (disch := decide) only [apply_ite (State.outside _), State.serveAll_outside, State.outside_net, State.advance_outside, ite_self]
  case gateIntervalEnd sp now =>
    obtain rfl := Host.Outcome.next.inj he
    split <;> simp (disch := decide) only [State.serve_outside, State.setShaper_outside, State.advance_outside]
  all_goals exact nomatch hi

/-- A row of the congestion family leaves every part outside its footprint as it was. -/
theorem exec_outside_of_roce (hi : family i = .roce) (he : exec i s = .next t) :
    t.outside roceRowParts = s.outside roceRowParts := by
  cases i
  case cnpReceive qp port now =>
    obtain rfl := Host.Outcome.next.inj he
    simp (disch := decide) only [apply_ite (State.outside _), State.updQp_outside, State.bump_outside, State.bump64_outside,
      State.advance_outside, ite_self]
  case cePacketReceive qp port now =>
    obtain rfl := Host.Outcome.next.inj he
    dsimp only
    split
    · exact s.advance_outside (by decide) now
    split <;>
      simp (disch := decide) only [apply_ite (State.outside _), State.sendRoce_outside, State.updQp_outside, State.bump_outside,
        State.bump64_outside, State.advance_outside, ite_self]
  case roceRateRecovery qp now =>
    obtain rfl := Host.Outcome.next.inj he
    simp (disch := decide) only [State.updQp_outside, State.advance_outside]
  all_goals exact nomatch hi

/-- A row of the remote memory family leaves every part outside its footprint as it was. -/
theorem exec_outside_of_remote (hi : family i = .remote) (he : exec i s = .next t) :
    t.outside remoteRowParts = s.outside remoteRowParts := by
  cases i
  case windowOpen x => exact outside_of_packet (ownWindowOpen_within · x · (by decide)) (by decide) he
  case windowClose x => exact outside_of_packet (ownWindowClose_within · x · (by decide)) (by decide) he
  case windowRekey x => exact outside_of_packet (ownWindowRekey_within · x · (by decide)) (by decide) he
  case rmaWrite x => exact outside_of_packet (ownRma_within · x · (by decide) true) (by decide) he
  case rmaRead x => exact outside_of_packet (ownRma_within · x · (by decide) false) (by decide) he
  case rmaRequestReceive q =>
    obtain rfl := Host.Outcome.next.inj he
    split
    · exact s.serveRequest_outside (by decide) _ _
    · exact s.refuseRequest_outside (by decide) _ _
  case rmaResponseReceive id status data =>
    obtain rfl := Host.Outcome.next.inj he
    exact s.endRequest_outside (by decide) _ _ _
  case rmaViolationRemote dev window off len status =>
    obtain rfl := Host.Outcome.next.inj he
    exact s.raise_outside (by decide) _ _ _
  case rmaTimeout id now =>
    obtain rfl := Host.Outcome.next.inj he
    split <;> simp (disch := decide) only [apply_ite (State.outside _), State.endRequest_outside, State.advance_outside, ite_self]
  case windowCloseComplete window =>
    obtain rfl := Host.Outcome.next.inj he
    split
    · split
      · dsimp only
        split <;> simp (disch := decide) only [State.finish_outside, State.dropRef_outside, State.outside_rma]
      · rfl
    · rfl
  case cursorMirrorTimer now =>
    obtain rfl := Host.Outcome.next.inj he
    have hinterval : ∀ (u : State) (slot : Nat), (u.mirrorInterval slot).outside remoteRowParts = u.outside remoteRowParts :=
      fun u slot => u.mirrorInterval_outside (by decide) slot
    simp (disch := decide) only [apply_ite (State.outside _), State.foldl_outside hinterval, State.outside_rma, State.advance_outside,
      ite_self]
  case mirrorWriteFail jobId =>
    obtain rfl := Host.Outcome.next.inj he
    split
    · split
      · simp (disch := decide) only [State.mirrorFailed_outside, State.outside_rma]
      · rfl
    · rfl
  case mirrorSetupReceive dev jobId =>
    obtain rfl := Host.Outcome.next.inj he
    have hclose : (s.closeMirror jobId dev).outside remoteRowParts = s.outside remoteRowParts :=
      s.closeMirror_outside (by decide) _ _
    split
    · rfl
    dsimp only
    split
    next m u hopen => exact (u.emit_outside (by decide) _).trans ((State.openMirror_outside _ (by decide) hopen).trans hclose)
    next => exact (State.emit_outside _ (by decide) _).trans hclose
  case mirrorSetupReply jobId ok window key =>
    obtain rfl := Host.Outcome.next.inj he
    exact s.updMirror_outside (by decide) _ _
  case mirrorSetupRetry now =>
    obtain rfl := Host.Outcome.next.inj he
    dsimp only
    split
    · refine (State.foldl_outside (fun s e => ?_) _ _).trans (s.advance_outside (by decide) now)
      split <;> simp (disch := decide) only [apply_ite (State.outside _), State.emit_outside, State.setJob_outside, ite_self]
    · exact s.advance_outside (by decide) now
  case mirrorReleaseReceive dev jobId =>
    obtain rfl := Host.Outcome.next.inj he
    rw [apply_ite (State.outside _), s.closeMirror_outside (by decide), ite_self]
  all_goals exact nomatch hi

/-- A row of the live family leaves every part outside its footprint as it was; a datagram does not move time (R164). -/
theorem exec_outside_of_live (hi : family i = .live) (he : exec i s = .next t) : t.outside netParts = s.outside netParts := by
  cases i
  case liveDatagramReceive service data raps =>
    obtain rfl := Host.Outcome.next.inj he
    split
    · rfl
    split
    · rfl
    split
    · simp (disch := decide) only [apply_ite (State.outside _), State.liveBurst_outside, State.setService_outside, ite_self]
    split <;> simp (disch := decide) only [apply_ite (State.outside _), State.rtpPacket_outside, State.setService_outside, ite_self]
  case liveStreamStop service =>
    obtain rfl := Host.Outcome.next.inj he
    split <;> simp (disch := decide) only [apply_ite (State.outside _), State.setService_outside, ite_self]
  all_goals exact nomatch hi

end

/-- Settles O48: each family has a footprint, and the parts that its clause names lie outside it. -/
theorem networkRowsFrame : Obligations.NetworkRowsFrame := by
  unfold Obligations.NetworkRowsFrame
  refine ⟨fun i s t hi he => ?_, fun i s t hi he => ?_, fun i s t hi he => ?_, fun i s t hi he => ?_, fun i s t hi he => ?_,
    fun i s t hi he => ?_⟩
  · have h := exec_outside_of_fabric hi he
    exact ⟨kept h State.fresh, kept h State.sys, kept h State.upd, kept h State.set, kept h State.run,
      kept h State.cmd, kept h State.sec, kept h State.brm, kept h State.jobs, kept h State.recipes,
      kept h State.models, kept h State.vocabs, kept h State.grammars, kept h State.loads, kept h State.tiles,
      kept h State.samples, kept h State.mem, kept h State.cxe, kept h State.rma, kept h State.med,
      kept h State.nvme, kept h State.pwr, kept h State.tst, kept h State.snaps, kept h State.shadows,
      kept h State.pending⟩
  · have h := exec_outside_of_links hi he
    exact ⟨kept h State.fresh, kept h State.sys, kept h State.upd, kept h State.set, kept h State.run,
      kept h State.brm, kept h State.recipes, kept h State.models, kept h State.vocabs, kept h State.grammars,
      kept h State.loads, kept h State.tiles, kept h State.samples, kept h State.cxe, kept h State.med,
      kept h State.nvme, kept h State.pwr, kept h State.tst, kept h State.snaps, kept h State.shadows,
      kept h State.pending⟩
  · have h := exec_outside_of_shaping hi he
    exact ⟨kept h State.fresh, kept h State.sys, kept h State.upd, kept h State.set, kept h State.run,
      kept h State.cmd, kept h State.sec, kept h State.brm, kept h State.jobs, kept h State.recipes,
      kept h State.models, kept h State.vocabs, kept h State.grammars, kept h State.loads, kept h State.tiles,
      kept h State.samples, kept h State.mem, kept h State.cxe, kept h State.rma, kept h State.med,
      kept h State.nvme, kept h State.pwr, kept h State.tst, kept h State.snaps, kept h State.shadows,
      kept h State.pending⟩
  · have h := exec_outside_of_roce hi he
    exact ⟨kept h State.fresh, kept h State.sys, kept h State.upd, kept h State.set, kept h State.run,
      kept h State.sloe, kept h State.cmd, kept h State.evt, kept h State.sec, kept h State.brm, kept h State.jobs,
      kept h State.recipes, kept h State.models, kept h State.vocabs, kept h State.grammars, kept h State.loads,
      kept h State.tiles, kept h State.samples, kept h State.mem, kept h State.cxe, kept h State.med,
      kept h State.nvme, kept h State.pwr, kept h State.tst, kept h State.snaps, kept h State.shadows,
      kept h State.pending⟩
  · have h := exec_outside_of_remote hi he
    exact ⟨kept h State.sys, kept h State.upd, kept h State.set, kept h State.run, kept h State.brm,
      kept h State.recipes, kept h State.models, kept h State.vocabs, kept h State.grammars, kept h State.loads,
      kept h State.tiles, kept h State.samples, kept h State.cxe, kept h State.net, kept h State.med,
      kept h State.nvme, kept h State.pwr, kept h State.tst, kept h State.snaps, kept h State.shadows,
      kept h State.pending⟩
  · have h := exec_outside_of_live hi he
    exact ⟨kept h State.fresh, kept h State.now, kept h State.sys, kept h State.upd, kept h State.set,
      kept h State.run, kept h State.cmd, kept h State.sec, kept h State.brm, kept h State.jobs,
      kept h State.recipes, kept h State.models, kept h State.vocabs, kept h State.grammars, kept h State.loads,
      kept h State.tiles, kept h State.samples, kept h State.mem, kept h State.cxe, kept h State.rma,
      kept h State.med, kept h State.nvme, kept h State.pwr, kept h State.tst, kept h State.snaps,
      kept h State.shadows, kept h State.pending⟩

end Sys2Proof.Machine
end

section
/-! SUPPORT. Gate lists and refills (R368 to R372): what each row of the shapers answers once it applies. -/

namespace Sys2Proof.Machine

section
variable {path sp v now b : Nat} {gs : List Gate} {s : State}

/-- A write that reaches SHP_GCL_CTRL with COMMIT set takes ADMIN_LEN first, then commits the list (R372). -/
theorem exec_shpGclCommit_of_commit (hsp : sp < 24) (hp : s.passes path (shpReg sp 4) = true) (hc : bit v 16 = true) :
    exec (.shpGclCommit path sp v) s = .next (State.commitGates (s.setShaper sp
      { s.shaper sp with adminLen := bits v 0 9, err := (s.shaper sp).err && !bit v 18 }) sp) :=
  congrArg Host.Outcome.next ((if_pos hsp).trans ((gated_passes hp).trans (if_pos hc)))

/-- The pending list becomes operational at its base time (R372). -/
theorem exec_gclBaseTimeReached_of_due (hpend : (s.shaper sp).pending = some (b, gs)) (hdue : b ≤ now) :
    exec (.gclBaseTimeReached sp now) s = .next (((s.advance now).setShaper sp
      { s.shaper sp with oper := some (b, gs), pending := none, entry := 0 }).serve sp) := by
  have hreached : b ≤ max s.now now := Nat.le_trans hdue (Nat.le_max_right s.now now)
  show execGclBaseTimeReached sp now s = _
  simp only [execGclBaseTimeReached, State.advance_at_shaper, State.advance_now, hpend]
  exact congrArg Host.Outcome.next (if_pos hreached)

/-- The entry in force is that of the present position in the cycle of the operational list (R371). -/
theorem exec_gateIntervalEnd_of_oper (hoper : (s.shaper sp).oper = some (b, gs)) :
    exec (.gateIntervalEnd sp now) s = .next (((s.advance now).setShaper sp
      { s.shaper sp with entry := (gateAt gs ((max s.now now - b) % gateCycle gs) 0).1 }).serve sp) := by
  show execGateIntervalEnd sp now s = _
  simp only [execGateIntervalEnd, State.advance_at_shaper, State.advance_now, hoper]

/-- A microsecond of Estate time that no refill has served yet brings one to every bucket (R368). -/
theorem exec_shaperRefill_of_due (hdue : s.net.refilled / 1000 < max s.now now / 1000) :
    exec (.shaperRefill now) s = .next (State.serveAll { s.advance now with net := { s.net with
      refilled := max s.now now, shapers := s.net.shapers.map Shaper.refill } }) :=
  congrArg Host.Outcome.next (if_pos hdue)

end

/-- Settles O25: each clause's premises are what its row tests before it acts. -/
theorem shapingCommandsComplete : Obligations.ShapingCommandsComplete := by
  unfold Obligations.ShapingCommandsComplete
  exact ⟨fun _ _ _ _ => exec_shpGclCommit_of_commit,
    fun _ _ _ _ _ => exec_gclBaseTimeReached_of_due,
    fun _ _ _ _ _ => exec_gateIntervalEnd_of_oper,
    fun _ _ => exec_shaperRefill_of_due⟩

end Sys2Proof.Machine
end

section
/-! SUPPORT. What the media commands (R383, R384, R399, R403, R432, R433) do where their own checks pass. -/

namespace Sys2Proof.Machine

variable {w : Waiter} {x : CmdIn} {s : State} {n : Namespace}

/-! ## Namespaces -/

/-- A namespace within the limits of R383 is created, empty, under a key of its own. -/
theorem ownNsCreate_of_allowed (hpos : 0 < x.pkt.f 16 2) (hmax : x.pkt.f 16 2 ≤ 256) (hnew : s.space (x.pkt.f 16 2) = none)
    (hkind : x.pkt.f 18 1 ≤ 1) (hcap : 0 < x.pkt.f 24 8)
    (hwhole : x.pkt.f 24 8 % (if x.pkt.f 18 1 = 0 then 4096 else 65536) = 0)
    (hok : s.createRefusal (x.pkt.f 18 1) (x.pkt.f 24 8) = none) :
    ownNsCreate w x s = .done success (State.journalEntry { s with med := { s.med with
      spaces := s.med.spaces.put (x.pkt.f 16 2)
        { kind := x.pkt.f 18 1, capacity := x.pkt.f 24 8, sealed := false, replicas := [], key := s.med.nextKey,
          bytes := [], units := [], bad := [] },
      nextKey := s.med.nextKey + 1 } }) := by
  simp only [ownNsCreate, hnew, hwhole, hok, Option.isSome_none, Nat.pos_iff_ne_zero.1 hpos, Nat.pos_iff_ne_zero.1 hcap,
    Nat.not_lt.2 hmax, Nat.not_lt.2 hkind, decide_false, Bool.or_self, bne_self_eq_false, Bool.false_eq_true, if_false]

/-- A namespace that no job's catalog names is deleted with its dirty pieces. -/
theorem ownNsDelete_of_unnamed (hn : s.space (x.pkt.f 16 2) ≠ none)
    (hjobs : s.jobs.any (fun j => s.catalogNames j.2 (· == x.pkt.f 16 2)) = false) :
    ownNsDelete w x s = .done success (State.journalEntry { s with med := { s.med with
      spaces := s.med.spaces.del (x.pkt.f 16 2),
      dirty := s.med.dirty.filter (fun d => d.nsid != x.pkt.f 16 2) } }).releaseFlushes := by
  have hheld : ¬ (s.space (x.pkt.f 16 2)).isNone = true := by rwa [Option.isNone_iff_eq_none]
  simp only [ownNsDelete, if_neg hheld, hjobs, Bool.false_eq_true, if_false]

section
variable (hn : s.space (x.pkt.f 16 2) = some n) (hk : n.kind ≠ 0)
include hn hk

theorem ownNsSeal_of_unsealed (hs : n.sealed = false) :
    ownNsSeal w x s = .done success (State.journalEntry { s with med := { s.med with
      spaces := s.med.spaces.put (x.pkt.f 16 2) { n with sealed := true } } }).journalFlush := by
  simp only [ownNsSeal, hn, if_neg hk, hs, Bool.false_eq_true, if_false]

theorem ownNsSeal_of_sealed (hs : n.sealed = true) : ownNsSeal w x s = .done success s := by
  simp only [ownNsSeal, hn, if_neg hk, hs, if_true]

/-- Two replica devices of the Estate replace the list of a dataset namespace, in the order of the packet. -/
theorem ownReplicaSet_of_two (hcount : x.pkt.f 18 1 = 2) (h0 : x.pkt.f 20 2 < 6144) (h1 : x.pkt.f 22 2 < 6144) :
    ownReplicaSet w x s = .done success (State.journalEntry { s with med := { s.med with
      spaces := s.med.spaces.put (x.pkt.f 16 2) { n with replicas := [x.pkt.f 20 2, x.pkt.f 22 2] } } }) := by
  have hdevs : tabulate 2 (fun i => x.pkt.f (20 + 2 * i) 2) = [x.pkt.f 20 2, x.pkt.f 22 2] := rfl
  have hall : (List.range 2).find? (fun i => decide (6144 ≤ [x.pkt.f 20 2, x.pkt.f 22 2].getD i 0)) = none := by
    simp [List.range_succ, h0, h1]
  have hmost : ¬ 3 < x.pkt.f 18 1 := by omega
  simp only [ownReplicaSet, hn, if_neg hk, if_neg hmost]
  simp only [hcount, hdevs, hall]

end

/-! ## Dies -/

theorem ownDieRetire_of_in (hin : (s.die x.pkt.unit).state = 1) :
    ownDieRetire w x s = .done success (s.retireDie x.pkt.unit) := by
  simp only [ownDieRetire, hin]

/-! ## Sanitize -/

/-- Where no PF0 I/O waits, the start of a sanitize only keeps its action (R433). -/
theorem State.startSanitize_of_none_waiting {action : Nat} (hw : s.nvme.writes = []) (hh : s.nvme.held = []) :
    s.startSanitize action = { s with med := { s.med with sanitize := some action }, nvme := { s.nvme with writes := [], held := [] } } := by
  simp only [State.startSanitize, hw, hh, List.map_nil, List.append_nil, List.foldl_nil]

/-- A sanitize starts where no job runs and none is in progress (R433). -/
theorem ownSanitize_of_allowed (ha : x.pkt.f 16 1 = 1 ∨ x.pkt.f 16 1 = 2) (hjobs : s.jobs = []) (hnone : s.med.sanitize = none) :
    ownSanitize w x s = .done success (s.startSanitize (x.pkt.f 16 1)) := by
  rcases ha with ha | ha <;> simp [ownSanitize, ha, hjobs, hnone]

theorem exec_sanitizeComplete_of_running {action : Nat} (h : s.med.sanitize = some action) :
    exec .sanitizeComplete s = .next (((State.journalEntry { s with
      med := { s.med.rekeyAll with sanitize := none } }).journalFlush).releaseFlushes.controllerReady) := by
  show execSanitizeComplete s = _
  simp only [execSanitizeComplete, h]

/-- Settles O7: each clause's premises are what the command's own checks ask, and a packet that passes them completes. -/
theorem mediaCommandsComplete : Obligations.MediaCommandsComplete := by
  unfold Obligations.MediaCommandsComplete
  exact ⟨fun _ _ _ _ ht hpos hmax hnew hkind hcap hwhole hok =>
      congrArg Host.Outcome.next (runCommand_done ht (ownNsCreate_of_allowed hpos hmax hnew hkind hcap hwhole hok)),
    fun _ _ _ _ ht hn hjobs => congrArg Host.Outcome.next (runCommand_done ht (ownNsDelete_of_unnamed hn hjobs)),
    fun _ _ _ _ _ ht hn hk hs => congrArg Host.Outcome.next (runCommand_done ht (ownNsSeal_of_unsealed hn hk hs)),
    fun _ _ _ _ _ ht hn hk hs => congrArg Host.Outcome.next (runCommand_done ht (ownNsSeal_of_sealed hn hk hs)),
    fun _ _ _ _ _ ht hn hk hcount h0 h1 =>
      congrArg Host.Outcome.next (runCommand_done ht (ownReplicaSet_of_two hn hk hcount h0 h1)),
    fun _ _ _ _ ht hin => congrArg Host.Outcome.next (runCommand_done ht (ownDieRetire_of_in hin)),
    fun _ _ _ _ ht ha hjobs hnone hw hh => congrArg Host.Outcome.next (runCommand_done ht
      ((ownSanitize_of_allowed ha hjobs hnone).trans (congrArg (Own.done success) (State.startSanitize_of_none_waiting hw hh)))),
    fun _ _ => exec_sanitizeComplete_of_running⟩

end Sys2Proof.Machine
end

section
/-! SUPPORT. NVMe Read and Verify of a range that does not read (R401). -/

namespace Sys2Proof.Machine

section
variable {c : NvmeIn} {s t : State} {n : Namespace}

/-- An I/O command that only reads has no fault where its range lies in its namespace and, if it moves data, within MDTS. -/
theorem State.ioFault_none_of_read {data : Bool} (hn : s.space c.nsid = some n) (hlen : data = true → c.len ≤ 4194304)
    (hrange : c.off + c.len ≤ n.capacity) : s.ioFault c data false = none := by
  have hdata : ¬ (data && decide (4194304 < c.len)) = true := by simpa using hlen
  simp only [State.ioFault, hn, if_neg hdata, if_neg (Nat.not_lt.2 hrange), Bool.false_and, Bool.false_eq_true, if_false]

theorem State.ioReadable_eq (hn : s.space c.nsid = some n) : s.ioReadable c = n.readable c.off c.len := by
  simp only [State.ioReadable, hn]

theorem State.nvmeRead_of_unreadable (hf : s.ioFault c true false = none) (hr : s.ioReadable c = false) :
    s.nvmeRead c = (s.mediaRead c.nsid c.off c.len 0).nvDone c nvUnrecovered 0 := by
  simp only [State.nvmeRead, hf, hr, Bool.false_eq_true, if_false]

theorem State.nvmeVerify_of_unreadable (hf : s.ioFault c false false = none) (hr : s.ioReadable c = false) :
    s.nvmeVerify c = (s.mediaRead c.nsid c.off c.len 0).nvDone c nvUnrecovered 0 := by
  simp only [State.nvmeVerify, hf, hr, Bool.false_eq_true, if_false]

theorem exec_nvmeRead_of_takes (ht : s.nvmeTakes c true t) : exec (.nvmeRead c) s = .next (t.nvmeRead { c with opcode := 2 }) :=
  congrArg Host.Outcome.next (nvmeTakes_run (c := { c with opcode := 2 }) (fun u => u.nvmeIo { c with opcode := 2 }) ht)

theorem exec_nvmeVerify_of_takes (ht : s.nvmeTakes c true t) :
    exec (.nvmeVerify c) s = .next (t.nvmeVerify { c with opcode := 12 }) :=
  congrArg Host.Outcome.next (nvmeTakes_run (c := { c with opcode := 12 }) (fun u => u.nvmeIo { c with opcode := 12 }) ht)

end

/-- Settles O57: the range passes every check of the command, and its codewords then decide the status. -/
theorem uncorrectableBlockReadsFail : Obligations.UncorrectableBlockReadsFail := by
  unfold Obligations.UncorrectableBlockReadsFail
  constructor
  · intro c s t n ht hn _ hlen hrange hbad
    have hfault : t.ioFault { c with opcode := 2 } true false = none := State.ioFault_none_of_read hn (fun _ => hlen) hrange
    have hunread : t.ioReadable { c with opcode := 2 } = false := (State.ioReadable_eq hn).trans hbad
    exact (exec_nvmeRead_of_takes ht).trans (congrArg Host.Outcome.next (State.nvmeRead_of_unreadable hfault hunread))
  · intro c s t n ht hn _ hrange hbad
    have hfault : t.ioFault { c with opcode := 12 } false false = none := State.ioFault_none_of_read hn nofun hrange
    have hunread : t.ioReadable { c with opcode := 12 } = false := (State.ioReadable_eq hn).trans hbad
    exact (exec_nvmeVerify_of_takes ht).trans (congrArg Host.Outcome.next (State.nvmeVerify_of_unreadable hfault hunread))

end Sys2Proof.Machine
end

section
/-! SUPPORT. The function level resets (R412): their footprints, and with them what one function's reset leaves of the other
and of the jobs. -/

namespace Sys2Proof.Machine

section
variable {F : Footprint} (s : State)

theorem State.outside_pwr (h : .pwr ∈ F) (x : PwrBlock) : State.outside F { s with pwr := x } = s.outside F := by
  simp only [State.outside, Footprint.pick_of_mem h]

theorem State.setDomain_outside (h : .pwr ∈ F) (d : Nat) (on : Bool) : (s.setDomain d on).outside F = s.outside F :=
  s.outside_pwr h _

/-- What a controller reset changes: PF0's controller, and the power domain of the media path that it may wake (R428). -/
def controllerParts : Footprint := [.nvme, .pwr]

theorem State.nvmeReset_outside (h : controllerParts ⊆ F) (cc : Nat) : (s.nvmeReset cc).outside F = s.outside F := by
  refine State.outside_mono h ?_
  simp (disch := decide) only [State.nvmeReset, State.outside_nvme, apply_ite (State.outside _), State.setDomain_outside,
    State.abortSelftest_outside, ite_self]

/-- What a reset of PF1 changes: the rings with what they fetched, and the ring bindings (R447, R562). -/
def ringResetParts : Footprint := [.cmd, .sec]

theorem State.resetPf1_outside (h : ringResetParts ⊆ F) : s.resetPf1.outside F = s.outside F :=
  (State.outside_sec { s with cmd := s.resetPf1.cmd } (h (by decide)) s.resetPf1.sec).trans (s.outside_cmd (h (by decide)) _)

end

/-- Settles O51: each function's reset has a footprint, and what the clause names lies outside it. -/
theorem functionResetsStayApart : Obligations.FunctionResetsStayApart := by
  unfold Obligations.FunctionResetsStayApart
  refine ⟨fun s => ⟨s.nvmeReset 0, rfl, ?_⟩, fun s => ⟨s.resetPf1, rfl, ?_⟩⟩
  · have h := s.nvmeReset_outside (List.Subset.refl controllerParts) 0
    exact ⟨kept h State.cmd, kept h State.sec, kept h State.jobs, kept h State.samples, kept h State.loads,
      kept h State.recipes, kept h State.mem, kept h State.rma, kept h State.net⟩
  · have h := s.resetPf1_outside (List.Subset.refl ringResetParts)
    exact ⟨kept h State.nvme, kept h State.med, kept h State.pwr, kept h State.jobs, kept h State.samples⟩

end Sys2Proof.Machine
end

section
/-! SUPPORT. The host link's pins, its return, configuration requests and the update window (R412, R413, R494, R497, R522):
what each row answers once it applies. -/

namespace Sys2Proof.Machine

section
variable {pf path off v : Nat} {s : State}

/-- Before its first deassertion since the cold reset PERST_N resets nothing; after it, the link goes down and PF1 is reset
(R413, R494). -/
theorem exec_perstAssert_of_seen {t : State} (hseen : s.sys.perstSeen = true)
    (ht : State.resetPf1 (State.hostLinkDown { s with sys := { s.sys with perstLow := true } }) = t) :
    exec .perstAssert s = .next { t with sys := { t.sys with perst := true } } := by
  subst ht
  exact congrArg Host.Outcome.next (if_pos hseen)

/-- A link that returns with no completion kept only comes up (R413). -/
theorem exec_pcieLinkUp_of_no_posts (hperst : s.sys.perstLow = false) (halive : s.alive = true) (hposts : s.nvme.posts = []) :
    exec .pcieLinkUp s = .next { s with nvme := { s.nvme with linkUp := true } } := by
  have hrow : exec .pcieLinkUp s = .next { s with nvme := { s.nvme with linkUp := true, posts := [] } } := by
    show execPcieLinkUp s = _
    simp only [execPcieLinkUp, hperst, halive, hposts, Bool.not_true, Bool.or_self, Bool.false_eq_true, if_false, List.foldl_nil]
  rw [hrow, ← hposts]

/-- A configuration request over a link that is up is answered, from start step 6 on with the word and before it with a retry
status (R497). -/
theorem exec_configurationRequest_of_up (hup : s.hostUp = true) (hpf : pf < 2) :
    exec (.configurationRequest pf off) s =
      .next (if s.stepDone 6 then s.emit (.config pf off (s.pciDword pf off) false) else s.emit (.config pf off 0 true)) :=
  congrArg Host.Outcome.next (if_pos (by simp only [hup, hpf, decide_true, Bool.and_self]))

/-- A word of the update window that reaches it is kept (R522). -/
theorem exec_updWindowWrite_of_passes (hoff : off < 65536) (hword : off % 4 = 0)
    (hp : s.passes path (updReg (0x10000 + off)) = true) :
    exec (.updWindowWrite path off v) s =
      .next { s with upd := { s.upd with window := writeMem s.upd.window off (leBytes 4 v) } } :=
  congrArg Host.Outcome.next ((if_pos (by simp only [hoff, hword, decide_true, Bool.and_self])).trans (gated_passes hp))

end

/-- Settles O23: the resets and the pins that nothing holds back act as their rows are written, and each other clause's premises
are what its row tests. -/
theorem hostLinkEventsComplete : Obligations.HostLinkEventsComplete := by
  unfold Obligations.HostLinkEventsComplete
  exact ⟨fun _ => rfl, fun _ => rfl,
    fun _ _ => exec_perstAssert_of_seen,
    fun _ _ => rfl, fun _ => rfl,
    fun _ => exec_pcieLinkUp_of_no_posts,
    fun _ _ _ => exec_configurationRequest_of_up,
    fun _ _ _ _ => exec_updWindowWrite_of_passes⟩

end Sys2Proof.Machine
end

section
/-! SUPPORT. The NVMe admin commands (R415, R417, R422, R430, R432): a command that is taken has its own effect, and where its
checks pass that effect is the one named. -/

namespace Sys2Proof.Machine

/-- An admin command that is taken answers what its own effect makes of the state with its place in the queue freed. -/
theorem adminRow_next_of_takes {c : NvmeIn} {s t u : State} {f : State → State} (ht : s.nvmeTakes c false t) (hf : f t = u) :
    (.next (adminRow c s f) : Host.Outcome State Fault Refusal) = .next u :=
  congrArg Host.Outcome.next ((nvmeTakes_run f ht).trans hf)

section
variable {c : NvmeIn} {s t u : State} {n : Namespace} {b : Bytes} (ht : s.nvmeTakes c false t)
include ht

/-- A command that is still in hand is aborted: it completes as aborted, then the Abort with success (R422). -/
theorem exec_nvmeAbort_of_named (hu : t.abortNamed (bits c.cdw10 0 16) (bits c.cdw10 16 16) = some u) :
    exec (.nvmeAbort c) s =
      .next ((u.nvmePost (bits c.cdw10 0 16) (bits c.cdw10 16 16) nvAborted 0).nvDone c nvSuccess 0) :=
  adminRow_next_of_takes ht (by simp only [hu])

/-- One block namespace is formatted under a Secure Erase Setting of R417. -/
theorem exec_nvmeFormatNvm_of_block (hone : c.nsid ≠ 0xFFFFFFFF) (hfree : t.med.sanitize = none)
    (hn : t.space c.nsid = some n) (hkind : n.kind ≠ 1) (hses : bits c.cdw10 9 3 = 1 ∨ bits c.cdw10 9 3 = 2) :
    exec (.nvmeFormatNvm c) s = .next ((State.formatSpace t c.nsid).nvDone c nvSuccess 0) := by
  have hdataset : (n.kind == 1) = false := beq_false_of_ne hkind
  have herase : (bits c.cdw10 9 3 != 1 && bits c.cdw10 9 3 != 2) = false := by
    rcases hses with hses | hses <;> rw [hses] <;> rfl
  exact adminRow_next_of_takes ht (by
    simp only [hfree, if_neg hone, List.any_cons, List.any_nil, hn, hdataset, herase, Option.isSome_none, Option.isNone_some,
      Bool.or_self, Bool.false_eq_true, if_false, List.foldl_cons, List.foldl_nil])

/-- Block Erase starts where the settings allow it, no job runs and no sanitize is in progress (R432). -/
theorem exec_nvmeSanitize_of_allowed (ha : bits c.cdw10 0 3 = 2) (hset : bit (t.setting 0x45 1) 2 = true)
    (hjobs : t.jobs = []) (hfree : t.med.sanitize = none) :
    exec (.nvmeSanitize c) s = .next ((t.startSanitize 2).nvDone c nvSuccess 0) := by
  have haction : (bits c.cdw10 0 3 != 1 && bits c.cdw10 0 3 != 2 && bits c.cdw10 0 3 != 4) = false := by rw [ha]; rfl
  have hnotExit : ¬ bits c.cdw10 0 3 = 1 := by omega
  have hnotCrypto : ¬ bits c.cdw10 0 3 = 4 := by omega
  exact adminRow_next_of_takes ht (by
    simp only [haction, hset, hjobs, hfree, if_neg hnotExit, if_neg hnotCrypto, List.isEmpty_nil, Option.isSome_none,
      Bool.not_true, Bool.or_self, Bool.false_eq_true, if_false])

/-- A short or extended self-test starts where neither a sanitize nor a self-test runs (R430). -/
theorem exec_nvmeDeviceSelfTest_of_idle (hfree : t.med.sanitize = none) (hidle : t.nvme.selftest = none)
    (hcode : bits c.cdw10 0 4 = 1 ∨ bits c.cdw10 0 4 = 2) :
    exec (.nvmeDeviceSelfTest c) s = .next ((t.startSelftest (bits c.cdw10 0 4)).nvDone c nvSuccess 0) := by
  have hstarts : (bits c.cdw10 0 4 != 1 && bits c.cdw10 0 4 != 2) = false := by
    rcases hcode with hcode | hcode <;> rw [hcode] <;> rfl
  have hnotAbort : ¬ bits c.cdw10 0 4 = 0xF := by omega
  exact adminRow_next_of_takes ht (by
    simp only [hfree, hidle, hstarts, if_neg hnotAbort, Option.isSome_none, Bool.false_eq_true, if_false])

theorem exec_nvmeIdentify_of_page (hb : t.identify (bits c.cdw10 0 8) c.nsid = some b) :
    exec (.nvmeIdentify c) s = .next ((t.emit (.nvmeData c.sq c.cid b)).nvDone c nvSuccess 0) :=
  adminRow_next_of_takes ht (by simp only [hb])

theorem exec_nvmeGetLogPage_of_page (hb : t.logPage (bits c.cdw10 0 8) = some b) :
    exec (.nvmeGetLogPage c) s =
      .next ((t.emit (.nvmeData c.sq c.cid (b.take (4 * (bits c.cdw10 16 16 + 1))))).nvDone c nvSuccess 0) :=
  adminRow_next_of_takes ht (by simp only [hb])

/-- Number of Queues answers, and keeps, the queues that are granted (R414). -/
theorem exec_nvmeSetFeatures_of_queues (hfid : bits c.cdw10 0 8 = 7) :
    exec (.nvmeSetFeatures c) s =
      .next ((t.storeFeature 7 (grantedQueues c.cdw11)).nvDone c nvSuccess (grantedQueues c.cdw11)) := by
  have hok : featureOk (bits c.cdw10 0 8) = true := by rw [hfid]; rfl
  have hnotPower : ¬ bits c.cdw10 0 8 = 2 := by omega
  exact adminRow_next_of_takes ht (by
    simp only [hok, if_neg hnotPower, if_pos hfid, Bool.not_true, Bool.false_eq_true, if_false])

/-- Power Management asks for one of the five states of Table 14-4 (R427). -/
theorem exec_nvmeSetFeatures_of_power (hfid : bits c.cdw10 0 8 = 2) (hps : bits c.cdw11 0 5 ≤ 4) :
    exec (.nvmeSetFeatures c) s = .next ((t.setPowerState (bits c.cdw11 0 5)).nvDone c nvSuccess 0) := by
  have hok : featureOk (bits c.cdw10 0 8) = true := by rw [hfid]; rfl
  exact adminRow_next_of_takes ht (by
    simp only [hok, if_pos hfid, if_neg (Nat.not_lt.2 hps), Bool.not_true, Bool.false_eq_true, if_false])

theorem exec_nvmeGetFeatures_of_ok (hok : featureOk (bits c.cdw10 0 8) = true) :
    exec (.nvmeGetFeatures c) s = .next (t.nvDone c nvSuccess
      (if bits c.cdw10 0 8 = 2 then t.nvme.ps else t.nvme.feature (bits c.cdw10 0 8))) :=
  adminRow_next_of_takes ht (by simp only [hok, Bool.not_true, Bool.false_eq_true, if_false])

end

/-- Settles O32: a command whose turn has come passes the checks that its clause's premises meet. -/
theorem nvmeAdminCommandsComplete : Obligations.NvmeAdminCommandsComplete := by
  unfold Obligations.NvmeAdminCommandsComplete
  exact ⟨fun _ _ _ ht _ => exec_nvmeAbort_of_named ht,
    fun _ _ _ ht _ => exec_nvmeFormatNvm_of_block ht,
    fun _ _ _ ht => exec_nvmeSanitize_of_allowed ht,
    fun _ _ _ ht => exec_nvmeDeviceSelfTest_of_idle ht,
    fun _ _ _ ht _ => exec_nvmeIdentify_of_page ht,
    fun _ _ _ ht _ => exec_nvmeGetLogPage_of_page ht,
    fun _ _ _ ht => exec_nvmeSetFeatures_of_queues ht,
    fun _ _ _ ht => exec_nvmeSetFeatures_of_power ht,
    fun _ _ _ ht => exec_nvmeGetFeatures_of_ok ht,
    fun _ _ _ ht => adminRow_next_of_takes ht rfl,
    fun _ _ _ ht => adminRow_next_of_takes ht rfl,
    fun _ _ _ ht => adminRow_next_of_takes ht rfl,
    fun _ _ _ ht => adminRow_next_of_takes ht rfl⟩

end Sys2Proof.Machine
end

section
/-! SUPPORT. The controller of PF0 (R415, R418, R419, R429): what its doorbells, CC, a shutdown and the changes of its power
state answer once they apply. -/

namespace Sys2Proof.Machine

section
variable {q v now p : Nat} {k : NvmeQueue} {c : NvmeIn} {s t : State}

/-! ## Registers of PF0's BAR -/

section
variable (halive : s.alive = true) (hlink : s.nvme.linkUp = true)
include halive hlink

/-- PF0's registers are reached at every later time. -/
theorem State.advance_pf0_reached : ¬ (!(s.advance now).alive || !(s.advance now).nvme.linkUp) = true := by
  simp only [State.advance_at_alive, State.advance_nvme, halive, hlink, Bool.not_true, Bool.or_self, Bool.false_eq_true,
    not_false_eq_true]

/-- A completion queue's head moves within the queue. -/
theorem exec_nvmeDoorbellWrite_of_cq (hk : s.nvme.cqs.find q = some k) (hv : v < k.size) :
    exec (.nvmeDoorbellWrite true q v now) s =
      .next { s.advance now with nvme := { s.nvme with cqs := s.nvme.cqs.put q { k with head := v } } } := by
  have hk' : (s.advance now).nvme.cqs.find q = some k := hk
  show execNvmeDoorbellWrite true q v now s = _
  simp only [execNvmeDoorbellWrite, if_neg (State.advance_pf0_reached halive hlink), hk', if_pos hv, if_true]
  rfl

/-- A submission queue's tail moves within the queue; an entry in progress ends, and a non-operational state is left (R429). -/
theorem exec_nvmeDoorbellWrite_of_sq (hk : s.nvme.sqs.find q = some k) (hv : v < k.size) :
    exec (.nvmeDoorbellWrite false q v now) s =
      .next { s.advance now with nvme := { s.nvme with sqs := s.nvme.sqs.put q { k with tail := v }, lastDoorbell := max s.now now,
                                                       entering := none, exiting := s.nvme.exiting || decide (3 ≤ s.nvme.ps) } } := by
  have hk' : (s.advance now).nvme.sqs.find q = some k := hk
  show execNvmeDoorbellWrite false q v now s = _
  simp only [execNvmeDoorbellWrite, if_neg (State.advance_pf0_reached halive hlink), hk', if_pos hv, Bool.false_eq_true,
    if_false]
  rfl

theorem exec_nvmeCcWrite_of_up : exec (.nvmeCcWrite v) s = .next (s.writeCc v) :=
  congrArg Host.Outcome.next (if_pos (by simp only [halive, hlink, Bool.and_self]))

end

/-! ## Opcodes and shutdown -/

/-- An opcode outside R415 that is taken completes with Invalid Command Opcode. -/
theorem exec_nvmeUnsupportedOpcode_of_takes (ht : s.nvmeTakes c (c.sq != 0) t) (hop : nvmeSupported (c.sq == 0) c.opcode = false) :
    exec (.nvmeUnsupportedOpcode c) s = .next (t.nvDone c nvInvalidOpcode 0) :=
  congrArg Host.Outcome.next ((if_neg (Bool.eq_false_iff.1 hop)).trans
    (nvmeTakes_run (fun u => u.nvDone c nvInvalidOpcode 0) ht))

/-- A shutdown in progress seals the media, and then reads complete (R418). -/
theorem exec_nvmeShutdownComplete_of_begun (h : s.nvme.shst = 1) :
    exec .nvmeShutdownComplete s = .next { s.sealMedia with nvme := { s.sealMedia.nvme with shst := 2 } } :=
  congrArg Host.Outcome.next (if_pos h)

/-! ## Power states -/

/-- A state below PS4 that is due is entered over quiet queues and leaves the power domains alone (R428, R429). -/
theorem exec_nvmePowerStateCommit_of_due (hp : (s.advance now).commitTarget = some p)
    (hquiet : (s.advance now).nvme.quiet = true) (h4 : p ≠ 4) :
    exec (.nvmePowerStateCommit now) s = .next { s.advance now with nvme := { s.nvme with ps := p, entering := none } } := by
  show execNvmePowerStateCommit now s = _
  simp only [execNvmePowerStateCommit, hp, if_pos hquiet, h4, decide_false, Bool.false_and, Bool.false_eq_true, if_false]
  rfl

/-- The exit from PS3 ends in the last operational state, and where I/O is served there, the commands held run (R429). -/
theorem exec_nvmePowerStateExit_of_ps3 (hexit : s.nvme.exiting = true) (h3 : s.nvme.ps = 3)
    (ht : { s with nvme := { s.nvme with ps := s.nvme.lastOp, exiting := false } } = t) (hio : t.ioHeld = false) :
    exec .nvmePowerStateExit s = .next t.runHeld := by
  have h4 : ¬ s.nvme.ps = 4 := by omega
  subst ht
  show execNvmePowerStateExit s = _
  simp only [execNvmePowerStateExit, if_pos hexit, if_neg h4, hio, Bool.false_eq_true, if_false]

end

/-- Settles O33: each clause's premises are what its row tests before it acts. -/
theorem nvmeControllerCompletes : Obligations.NvmeControllerCompletes := by
  unfold Obligations.NvmeControllerCompletes
  exact ⟨fun _ _ _ _ _ => exec_nvmeDoorbellWrite_of_cq,
    fun _ _ _ _ _ => exec_nvmeDoorbellWrite_of_sq,
    fun _ _ _ => exec_nvmeUnsupportedOpcode_of_takes,
    fun _ _ => exec_nvmeCcWrite_of_up,
    fun _ => exec_nvmeShutdownComplete_of_begun,
    fun _ _ _ => exec_nvmePowerStateCommit_of_due,
    fun _ _ => exec_nvmePowerStateExit_of_ps3⟩

end Sys2Proof.Machine
end

section
/-! SUPPORT. A step (log 6): the front command runs on the queue's rest, and an empty queue idles. -/

namespace Sys2Proof.Machine

variable {s : State}

theorem step_of_cons (c : Instr) (rest : List Instr) (s : State) :
    step { s with pending := c :: rest } = exec c { s with pending := rest } := rfl

theorem step_of_nil (h : s.pending = []) : step s = .next { s with now := s.now + 1 } := by
  simp only [step, h, State.idle]

/-- Settles O34: its clauses are the two cases of the queue. -/
theorem stepRunsFrontCommand : Obligations.StepRunsFrontCommand := by
  unfold Obligations.StepRunsFrontCommand
  exact ⟨step_of_cons, fun _ => step_of_nil⟩

end Sys2Proof.Machine
end

section
/-! SUPPORT. A row of the job family that changes a part its frame names: a JOB_END with no write outstanding halts the job
(R456), and a sample that loses its engine leaves a note of the time at the background tests (R542). -/

namespace Sys2Proof.Machine

/-- JOB_END of job 0 by endpoint 0, under the operator credential in slot 1. -/
def jobEndPacket : CmdIn := { src := .mctp 0, pkt := { cred := 1 } }

/-- The job and the sample of `leaveInProgress` with no recovery, in a device with its domains on and a session of endpoint 0
under an operator credential. -/
def quietJobWithSample : State :=
  { leaveInProgress with
    jobs := [(0, newJob {} [] 0)]
    pwr := { leaveInProgress.pwr with domains := List.replicate 36 { on := true } }
    sec := { leaveInProgress.sec with
      creds := [(1, { role := 1, chain := [], leaf := [1], notBefore := 0, notAfter := 0, expired := false })]
      sessions := [(0, [1])] } }

/-- The end of the job stamps engine 0 with its time. -/
theorem jobEnd_quietJobWithSample_idleSince {t : State} (he : exec (.jobEnd jobEndPacket) quietJobWithSample = .next t) :
    t.tst.idleSince = [(0, 5)] := by
  obtain rfl := Host.Outcome.next.inj he
  decide +kernel

/-- Refutes O45: the clause of the job rows names the tests among the parts left alone, and a JOB_END takes an engine from a
sample, so that the engine's idle time changes. -/
theorem not_deviceRecipeJobRowsFrame : ¬ Obligations.DeviceRecipeJobRowsFrame := by
  unfold Obligations.DeviceRecipeJobRowsFrame
  rintro ⟨-, -, hjobs⟩
  obtain ⟨-, -, -, -, -, -, -, -, -, -, -, -, -, -, -, -, htst, -⟩ := hjobs (.jobEnd jobEndPacket) quietJobWithSample _ rfl rfl
  have hidle : quietJobWithSample.tst.idleSince = [(0, 5)] :=
    (congrArg TstBlock.idleSince htst).symm.trans (jobEnd_quietJobWithSample_idleSince rfl)
  exact absurd hidle (by decide)

end Sys2Proof.Machine
end

section
/-! SUPPORT. A packet that a check of R438 fails: the state in which it is turned down, what that leaves as it was, and the
status of a reserved bit (R12). -/

namespace Sys2Proof.Machine

/-! ## The state in which a packet is turned down -/

/-- What the events and counters of the credential check change (R560, R564): the command block is not among them. -/
def credCheckParts : Footprint := .sec :: eventParts

theorem State.noteCred_outside_of_credCheckParts {F : Footprint} (h : credCheckParts ⊆ F) (s : State) (x : CmdIn) :
    (s.noteCred x).outside F = s.outside F := by
  refine State.outside_mono h ?_
  unfold State.noteCred
  cases x.src <;>
    simp (disch := decide) only [apply_ite (State.outside _), State.raise_outside, State.outside_sec, ite_self]

/-- The state in which a packet that the checks of R438 refuse is turned down: a credential that fails is noted first (R452). -/
def State.refusing (s : State) (x : CmdIn) (r : Result) : State :=
  if r = credentialInvalid || r = roleDenied then s.noteCred x else s

theorem State.refusing_outside {F : Footprint} (h : credCheckParts ⊆ F) (s : State) (x : CmdIn) (r : Result) :
    (s.refusing x r).outside F = s.outside F := by
  simp only [State.refusing, apply_ite (State.outside F), s.noteCred_outside_of_credCheckParts h, ite_self]

theorem State.refusing_cmd (s : State) (x : CmdIn) (r : Result) : (s.refusing x r).cmd = s.cmd :=
  kept (s.refusing_outside (List.Subset.refl credCheckParts) x r) State.cmd

section
variable {sp : OpSpec} {x : CmdIn} {s u : State} {w : Waiter} {r : Result}

theorem State.accept_of_refused (hc : s.checks sp x = some r) (own : Waiter → CmdIn → State → Own) :
    s.accept sp own w x = (s.refusing x r).turnDown sp w x r := by
  simp only [State.accept, hc, State.refusing]

/-- A new packet of this device whose turn has come and that a check fails is turned down with the check's result. -/
theorem runCommand_of_refused (ht : s.take sp.opcode x = some (w, u)) (hf : u.forwards x = false) (hr : x.pkt.retry = false)
    (hready : (u.receipt x).ready w = true) (hc : (u.receipt x).checks sp x = some r) (own : Waiter → CmdIn → State → Own) :
    runCommand sp own x s = ((u.receipt x).refusing x r).turnDown sp w x r := by
  simp only [runCommand, ht, hf, hr, Bool.false_eq_true, if_false, State.consider, if_pos hready, State.accept_of_refused hc]

/-- A packet that is turned down leaves every part outside those of a packet as it was: nothing of its own effect takes place. -/
theorem runCommand_outside_of_refused (ht : s.take sp.opcode x = some (w, u)) (hf : u.forwards x = false)
    (hr : x.pkt.retry = false) (hready : (u.receipt x).ready w = true) (hc : (u.receipt x).checks sp x = some r)
    (own : Waiter → CmdIn → State → Own) : (runCommand sp own x s).outside packetParts = s.outside packetParts := by
  rw [runCommand_of_refused ht hf hr hready hc own, State.turnDown_outside _ (List.Subset.refl _),
    State.refusing_outside (by decide), State.receipt_outside _ (by decide), State.take_outside _ (by decide) ht]

end

/-! ## Reserved bits -/

theorem status_of_map_reservedFault {o : Option Nat} {r : Result} (h : o.map reservedFault = some r) : r.status = 0x0102 := by
  obtain ⟨b, -, rfl⟩ := Option.map_eq_some_iff.1 h
  rfl

/-- Step 2 of R438 answers RESERVED_NONZERO, or PARAM_INVALID for a selector that Table 15-3 does not give. -/
theorem reservedCheck_status {sp : OpSpec} {p : Packet} {r : Result} (h : reservedCheck sp p = some r) :
    r.status = 0x0102 ∨ r.status = 0x0104 := by
  unfold reservedCheck at h
  split at h
  · exact .inl (Option.some.inj h ▸ rfl)
  split at h
  · exact .inl (Option.some.inj h ▸ rfl)
  split at h
  · exact .inl (status_of_map_reservedFault h)
  split at h
  · exact .inl (Option.some.inj h ▸ rfl)
  split at h
  · exact .inr (Option.some.inj h ▸ rfl)
  · exact .inl (status_of_map_reservedFault h)

/-- Settles O41: a packet that a check fails is turned down, what the clause names lies outside the parts that this changes,
and both results of step 2 have class 0x01. -/
theorem refusedPacketsHaveNoEffect : Obligations.RefusedPacketsHaveNoEffect := by
  unfold Obligations.RefusedPacketsHaveNoEffect
  refine ⟨fun sp own x s u w r ht hf hr hready hc => ?_, fun sp own x s u w r ht hf hr hready hc => ?_, fun sp p r h => ?_⟩
  · exact ⟨(u.receipt x).refusing x r, runCommand_of_refused ht hf hr hready hc own, State.refusing_cmd ..⟩
  · have h := runCommand_outside_of_refused ht hf hr hready hc own
    exact ⟨kept h State.jobs, kept h State.recipes, kept h State.samples, kept h State.mem, kept h State.med, kept h State.net,
      kept h State.pwr, kept h State.set, kept h State.upd, kept h State.tiles, kept h State.rma, kept h State.nvme,
      kept h State.sys⟩
  · rcases reservedCheck_status h with h | h <;> rw [h]

end Sys2Proof.Machine
end

section
/-! SUPPORT. The registers of a command ring (R445 to R447, R460): what a write of each does once it reaches the register,
and the fetch of an entry. -/

namespace Sys2Proof.Machine

section
variable {path ring v : Nat} {s : State}

/-! ## The registers -/

theorem exec_cmdSqTailWrite_of_passes (hring : ring < 64) (hp : s.passes path (ringReg ring 0x18) = true) :
    exec (.cmdSqTailWrite path ring v) s = .next (s.writeSqTail path ring v) :=
  congrArg Host.Outcome.next ((if_pos hring).trans (gated_passes hp))

theorem exec_cmdCqHeadWrite_of_passes (hring : ring < 64) (hp : s.passes path (ringReg ring 0x1C) = true) :
    exec (.cmdCqHeadWrite path ring v) s = .next (s.writeCqHead path ring v) :=
  congrArg Host.Outcome.next ((if_pos hring).trans (gated_passes hp))

theorem exec_cmdRingCfgWrite_of_passes (hring : ring < 64) (hp : s.passes path (ringReg ring 0) = true) :
    exec (.cmdRingCfgWrite path ring v) s = .next (s.writeRingCfg path ring v) :=
  congrArg Host.Outcome.next ((if_pos hring).trans (gated_passes hp))

theorem exec_cmdPringTailWrite_of_passes {j : Nat} (hj : j < 16) (hp : s.passes path (pringReg j 0) = true) :
    exec (.cmdPringTailWrite path j v) s = .next (s.writePringTail path j v) :=
  congrArg Host.Outcome.next ((if_pos hj).trans (gated_passes hp))

/-- A pointer out of range sets FAULT and raises the register access event, and moves no pointer (R446). -/
theorem State.ringFault_eq (s : State) (i path addr : Nat) :
    s.ringFault i path addr = State.raise (s.setRing i { s.ring i with fault := true }) evRegAccess 4 (leBytes 4 addr ++ leBytes 1 path) :=
  rfl

/-! ## The tail and the head -/

section
variable (hen : (s.ring ring).en = true)
include hen

theorem State.writeSqTail_of_in (ht : bits v 0 16 < 2 ^ (s.ring ring).depthLog2) :
    s.writeSqTail path ring v = s.setRing ring { s.ring ring with sqTail := bits v 0 16 } := by
  simp only [State.writeSqTail, hen, Bool.not_true, Bool.false_eq_true, if_false, if_neg (Nat.not_le.2 ht)]

theorem State.writeSqTail_of_out (ht : 2 ^ (s.ring ring).depthLog2 ≤ bits v 0 16) :
    s.writeSqTail path ring v = s.ringFault ring path (ringReg ring 0x18) := by
  simp only [State.writeSqTail, hen, Bool.not_true, Bool.false_eq_true, if_false, if_pos ht]

/-- A head that consumes no more entries than are unconsumed is taken. -/
theorem State.writeCqHead_of_in (hh : bits v 0 16 < 2 ^ (s.ring ring).depthLog2)
    (hc : (bits v 0 16 + 2 ^ (s.ring ring).depthLog2 - (s.ring ring).cqHead) % 2 ^ (s.ring ring).depthLog2 ≤ (s.ring ring).unconsumed) :
    s.writeCqHead path ring v = s.setRing ring { s.ring ring with cqHead := bits v 0 16 } := by
  unfold Ring.unconsumed at hc
  simp only [State.writeCqHead, hen, Bool.not_true, Bool.false_and, Bool.false_eq_true, if_false, decide_eq_false (Nat.not_le.2 hh),
    decide_eq_false (Nat.not_lt.2 hc), Bool.or_self]

/-- A head at or above the depth, or past the device's completion tail, faults. -/
theorem State.writeCqHead_of_out {d : Nat} (hd : d = 2 ^ (s.ring ring).depthLog2)
    (hout : d ≤ bits v 0 16 ∨ ((s.ring ring).cqTail + d - (s.ring ring).cqHead) % d < (bits v 0 16 + d - (s.ring ring).cqHead) % d) :
    s.writeCqHead path ring v = s.ringFault ring path (ringReg ring 0x1C) := by
  subst hd
  simp only [State.writeCqHead, hen, Bool.not_true, Bool.false_and, Bool.false_eq_true, if_false, Bool.or_eq_true, decide_eq_true_eq,
    if_pos hout]

end

/-! ## The configuration -/

/-- A disabled ring starts afresh: both queues empty, phase 1, its commands counted from now (R447, R448). -/
theorem State.writeRingCfg_enable (hen : (s.ring ring).en = false) (hv : bit v 0 = true) (hlo : 1 ≤ bits v 1 5) (hhi : bits v 1 5 ≤ 16) :
    s.writeRingCfg path ring v = s.setRing ring
      { s.ring ring with en := true, draining := false, depthLog2 := bits v 1 5, msix := bit v 6, sqHead := 0, sqTail := 0,
                         cqHead := 0, cqTail := 0, phase := 1, since := s.cmd.nextSeq } := by
  simp only [State.writeRingCfg, hen, hv, Bool.false_eq_true, if_false, if_true, decide_eq_false (Nat.pos_iff_ne_zero.1 hlo),
    decide_eq_false (Nat.not_lt.2 hhi), Bool.or_self]

/-- An enabled ring drains while commands are in flight (R447). -/
theorem State.writeRingCfg_disable (hen : (s.ring ring).en = true) (hv : bit v 0 = false) (hdepth : bits v 1 5 = (s.ring ring).depthLog2)
    (hmsix : bit v 6 = (s.ring ring).msix) :
    s.writeRingCfg path ring v = s.setRing ring { s.ring ring with en := false, draining := (s.ring ring).inflight != 0 } := by
  simp only [State.writeRingCfg, hen, hv, hdepth, hmsix, decide_true, Bool.and_self, if_true, Bool.false_eq_true, if_false]

/-! ## Parameter doorbells -/

theorem State.writePringTail_of_in {j size base : Nat} {job : Job} (hj : s.jobs.find j = some job) (hring : job.pring = some (size, base))
    (hv : bits v 0 20 < 2 ^ size) :
    s.writePringTail path j v = { s with jobs := s.jobs.put j { job with pringTail := bits v 0 20 } } := by
  simp only [State.writePringTail, hj, hring, if_neg (Nat.not_le.2 hv)]

/-! ## The fetch of an entry -/

/-- A packet of a listed opcode waits for its row as the ring's next arrival (R445). -/
theorem State.fetchEntry_of_listed {entry : Bytes} (hop : (opSpecOf (parsePacket entry).1).isSome = true) :
    s.fetchEntry ring entry = { s with cmd := { s.cmd with
      rings := s.cmd.rings.set ring { s.ring ring with sqHead := ((s.ring ring).sqHead + 1) % 2 ^ (s.ring ring).depthLog2,
                                                       inflight := (s.ring ring).inflight + 1 }
      nextSeq := s.cmd.nextSeq + 1
      arrivals := { src := .ring ring, seq := s.cmd.nextSeq, opcode := (parsePacket entry).1, pkt := (parsePacket entry).2,
                    status := none, post := true } :: s.cmd.arrivals
      fetched := s.cmd.fetched ++ [{ src := .ring ring, seq := s.cmd.nextSeq, opcode := (parsePacket entry).1,
                                     pkt := (parsePacket entry).2 }] } } := by
  simp only [State.fetchEntry, if_pos hop]
  rfl

theorem exec_ringEntryFetch_of_canFetch {entry : Bytes} (hring : ring < 64) (halive : s.alive = true) (hup : s.hostUp = true)
    (hcan : (s.ring ring).canFetch = true) : exec (.ringEntryFetch ring entry) s = .next (s.fetchEntry ring entry) :=
  congrArg Host.Outcome.next (if_pos (by simp only [hring, halive, hup, hcan, decide_true, Bool.and_self]))

end

/-- Settles O52: both writes reach their register, where a pointer out of range only faults the ring. -/
theorem ringPointersOutOfRangeFault : Obligations.RingPointersOutOfRangeFault := by
  unfold Obligations.RingPointersOutOfRangeFault
  refine ⟨fun path ring v s hring hp hen ht => ?_, fun path ring v d s hring hp hen hd hout => ?_⟩
  · rw [exec_cmdSqTailWrite_of_passes hring hp, State.writeSqTail_of_out hen ht, State.ringFault_eq]
  · rw [exec_cmdCqHeadWrite_of_passes hring hp, State.writeCqHead_of_out hen hd hout, State.ringFault_eq]

/-- Settles O13: each write reaches its register, and each clause's premises are what the register's write asks. -/
theorem ringCommandsComplete : Obligations.RingCommandsComplete := by
  unfold Obligations.RingCommandsComplete
  refine ⟨fun path ring v s hring hp hen ht => ?_, fun path ring v s hring hp hen hh hc => ?_,
    fun path ring v s hring hp hen hv hlo hhi => ?_, fun path ring v s hring hp hen hv hdepth hmsix => ?_,
    fun ring entry s hring halive hup hcan hop => ?_, fun path j v size base job s hj hp hjob hbound hv => ?_⟩
  · rw [exec_cmdSqTailWrite_of_passes hring hp, State.writeSqTail_of_in hen ht]
  · rw [exec_cmdCqHeadWrite_of_passes hring hp, State.writeCqHead_of_in hen hh hc]
  · rw [exec_cmdRingCfgWrite_of_passes hring hp, State.writeRingCfg_enable hen hv hlo hhi]
  · rw [exec_cmdRingCfgWrite_of_passes hring hp, State.writeRingCfg_disable hen hv hdepth hmsix]
  · rw [exec_ringEntryFetch_of_canFetch hring halive hup hcan, State.fetchEntry_of_listed hop]
    exact ⟨_, rfl, rfl, rfl, rfl, rfl⟩
  · rw [exec_cmdPringTailWrite_of_passes hj hp, State.writePringTail_of_in hjob hbound hv]

end Sys2Proof.Machine
end

section
/-! SUPPORT. Commands that wait and commands that were forwarded (R441, R448 to R450): what accepts a waiting one, and what
ends a forwarded one. -/

namespace Sys2Proof.Machine

section
variable {idx seq now : Nat} {d : Deferred} {f : Forwarded} {r : Result} {s : State}

/-- A waiting command whose turn has come leaves its place and is accepted with the meaning of its opcode. -/
theorem exec_deferredCommandAccept_of_ready {sp : OpSpec} {own : Waiter → CmdIn → State → Own} (hd : s.cmd.waiting[idx]? = some d)
    (halive : s.alive = true) (hready : s.ready d.waiter = true)
    (hop : opMeanings.find? (fun m => m.1.opcode == d.opcode) = some (sp, own)) :
    exec (.deferredCommandAccept idx) s =
      .next (State.accept { s with cmd := { s.cmd with waiting := s.cmd.waiting.eraseIdx idx } } sp own d.waiter d.cmd) := by
  show execDeferredCommandAccept idx s = _
  simp only [execDeferredCommandAccept, hd, halive, hready, Bool.and_self, if_true, State.acceptDeferred, hop]

section
variable (hf : s.forwardedBy seq = some f)
include hf

/-- A completion that comes back answers the forwarded command and ends its record (R441). -/
theorem exec_forwardedCompletion_of_sent (hh : f.held = false) :
    exec (.forwardedCompletion seq r) s =
      .next (State.answer { s with cmd := { s.cmd with forwarded := s.cmd.forwarded.erase f } } f.cmd r) := by
  show execForwardedCompletion seq r s = _
  simp only [execForwardedCompletion, hf, hh, Bool.false_eq_true, if_false]
  rfl

/-- Without a receipt in CMD_FWD_TIMEOUT milliseconds the command ends with FAB_TIMEOUT (R441). -/
theorem exec_fabTimeout_of_due (hh : f.held = false) (hr : f.receipt = false) (hdue : f.sentAt + s.cmd.timeout * 1000000 ≤ now) :
    exec (.fabTimeout seq now) s = .next ((s.advance now).endForwarded f { status := 0x0803 }) := by
  have hf' : (s.advance now).forwardedBy seq = some f := hf
  have hpassed : f.sentAt + (s.advance now).cmd.timeout * 1000000 ≤ (s.advance now).now :=
    Nat.le_trans hdue (Nat.le_max_right s.now now)
  show execFabTimeout seq now s = _
  simp only [execFabTimeout, hf', hh, hr, decide_eq_true hpassed, Bool.not_false, Bool.and_self, if_true]

/-- With the receipt and no route for 5 ms the command ends with FAB_UNREACHABLE (R441). -/
theorem exec_fabUnreachable_of_no_route (hr : f.receipt = true) (hroute : (s.advance now).noRoute5ms f.dev = true) :
    exec (.fabUnreachable seq now) s = .next ((s.advance now).endForwarded f { status := 0x0804 }) := by
  have hf' : (s.advance now).forwardedBy seq = some f := hf
  show execFabUnreachable seq now s = _
  simp only [execFabUnreachable, hf', hr, hroute, Bool.and_self, if_true]

end

end

/-- Settles O14: each clause's premises are what its row tests before it acts; a receipt is noted in any state. -/
theorem waitingAndForwardedCommandsComplete : Obligations.WaitingAndForwardedCommandsComplete := by
  unfold Obligations.WaitingAndForwardedCommandsComplete
  exact ⟨fun _ _ _ _ _ => exec_deferredCommandAccept_of_ready,
    fun _ _ => rfl,
    fun _ _ _ _ => exec_forwardedCompletion_of_sent,
    fun _ _ _ _ => exec_fabTimeout_of_due,
    fun _ _ _ _ => exec_fabUnreachable_of_no_route⟩

end Sys2Proof.Machine
end

section
/-! SUPPORT. The own checks and effects of the device commands (R461, R334, R163, R167): what each answers for parameters in
range. -/

namespace Sys2Proof.Machine

section
variable {w : Waiter} {x : CmdIn} {s : State}

/-! ## NETWORK_SET -/

theorem ipVersionOk_of_version {v : Nat} (hv : v = 4 ∨ v = 6) : ipVersionOk v = true := by
  rcases hv with rfl | rfl <;> rfl

section
variable (hport : x.pkt.f 17 1 ≤ 7)
include hport

/-- Kind 0 sets the address of an Ethernet port. -/
theorem ownNetworkSet_of_address (hk : x.pkt.f 16 1 = 0) (hv : x.pkt.f 18 1 = 4 ∨ x.pkt.f 18 1 = 6) :
    ownNetworkSet w x s = .done success ((s.updEth (x.pkt.f 17 1) (fun e =>
      { e with ipVersion := x.pkt.f 18 1, prefixLen := x.pkt.f 19 1, vlan := x.pkt.f 20 2, addr := x.pkt.f 24 16 })).networkImage x.pkt) := by
  simp only [ownNetworkSet, State.networkSet, hk, if_neg (Nat.not_lt.2 hport), ipVersionOk_of_version hv, Bool.not_true, Bool.and_false,
    Nat.reduceBEq, Bool.false_and, Bool.false_eq_true, if_false]

/-- Kind 1 sets PTP, which is no longer locked. -/
theorem ownNetworkSet_of_ptp (hk : x.pkt.f 16 1 = 1) (hr : bits (x.pkt.f 18 2) 2 2 ≠ 3) :
    ownNetworkSet w x s = .done success
      (State.networkImage { s with net := { s.net with ptp := x.pkt.f 18 2, ptpLocked := false } } x.pkt) := by
  simp only [ownNetworkSet, State.networkSet, hk, if_neg (Nat.not_lt.2 hport), beq_eq_false_iff_ne.2 hr, Nat.reduceBEq, Bool.or_self,
    Bool.and_false, Bool.false_and, Bool.false_eq_true, if_false]

/-- Kind 2 sets the multicast address of an Ethernet port. -/
theorem ownNetworkSet_of_multicast (hk : x.pkt.f 16 1 = 2) (hv : x.pkt.f 18 1 = 4 ∨ x.pkt.f 18 1 = 6) :
    ownNetworkSet w x s = .done success ((s.updEth (x.pkt.f 17 1) (fun e =>
      { e with mcVersion := x.pkt.f 18 1, mcAddr := x.pkt.f 24 16 })).networkImage x.pkt) := by
  simp only [ownNetworkSet, State.networkSet, hk, if_neg (Nat.not_lt.2 hport), ipVersionOk_of_version hv, Bool.not_true, Bool.and_false,
    Nat.reduceBEq, Bool.false_and, Bool.false_eq_true, if_false]

/-- Kind 3 connects a new queue pair with the RoCE settings of the reset, and no settings image keeps it. -/
theorem ownNetworkSet_of_new_pair (hk : x.pkt.f 16 1 = 3) (hv : x.pkt.f 20 1 = 4 ∨ x.pkt.f 20 1 = 6)
    (hnew : s.rma.qps.find (x.pkt.f 18 2) = none) :
    ownNetworkSet w x s = .done success
      { s with rma := { s.rma with qps := s.rma.qps.put (x.pkt.f 18 2) (newQueuePair x.pkt 0x2FEA) } } := by
  simp only [ownNetworkSet, State.networkSet, State.networkImage, hk, hnew, if_neg (Nat.not_lt.2 hport), ipVersionOk_of_version hv,
    Nat.reduceBEq, Bool.or_self, Bool.not_true, Bool.and_false, Bool.false_and, Bool.false_eq_true, if_false, if_true]

end

/-! ## PARTNER_SET -/

/-- With no partner in force and none named, only the settings image is written. -/
theorem ownPartnerSet_of_none (hv : bit (x.pkt.f 16 2) 15 = false) (hp : s.rma.partner = none) :
    ownPartnerSet w x s = .done success (s.writeSetting 0x58 (leBytes 2 (x.pkt.f 16 2))) := by
  simp only [ownPartnerSet, hv, State.changePartner, hp, Bool.not_false, if_true]

theorem ownPartnerSet_of_device (hv : bit (x.pkt.f 16 2) 15 = true) (hd : bits (x.pkt.f 16 2) 0 13 < 6144)
    (hs : bits (x.pkt.f 16 2) 0 13 ≠ s.self) :
    ownPartnerSet w x s = .done success
      ((s.changePartner (some (bits (x.pkt.f 16 2) 0 13))).writeSetting 0x58 (leBytes 2 (x.pkt.f 16 2))) := by
  simp only [ownPartnerSet, hv, Bool.not_true, Bool.false_eq_true, if_false, if_neg (Nat.not_le.2 hd), if_neg hs]

/-! ## Live services -/

theorem State.leaveService_of_none {n : Nat} (h : s.net.services.find n = none) : s.leaveService n = s := by
  simp only [State.leaveService, h]

/-- A service that leaves its group reports so (R163). -/
theorem State.leaveService_of_held {n : Nat} {v : Service} (h : s.net.services.find n = some v) :
    s.leaveService n = State.emit { s with net := { s.net with services := s.net.services.del n } } (v.report false) := by
  simp only [State.leaveService, h]

section
variable (hn : x.pkt.f 16 2 ≤ 511)
include hn

/-- A free entry of the service table takes the service, which joins its group. -/
theorem ownLiveServiceSet_of_free (hport : x.pkt.f 18 1 ≤ 7) (hfree : s.net.services.find (x.pkt.f 16 2) = none) :
    ownLiveServiceSet w x s = .done success
      ((State.emit { s with net := { s.net with services := s.net.services.put (x.pkt.f 16 2) (newService x.pkt) } }
        ((newService x.pkt).report true)).writeSetting (0x11000 + 32 * x.pkt.f 16 2) (tabulate 32 (Config.serviceImage x.pkt.params.toNat))) := by
  simp only [ownLiveServiceSet, if_neg (Nat.not_lt.2 hn), if_neg (Nat.not_lt.2 hport), State.leaveService_of_none hfree]

/-- A held service that no running job reads leaves, and its entry of the settings image is emptied (R167). -/
theorem ownLiveServiceRemove_of_held {v : Service} (hv : s.net.services.find (x.pkt.f 16 2) = some v)
    (hidle : s.serviceInUse (x.pkt.f 16 2) = false) :
    ownLiveServiceRemove w x s = .done success
      ((State.emit { s with net := { s.net with services := s.net.services.del (x.pkt.f 16 2) } } (v.report false)).writeSetting
        (0x11000 + 32 * x.pkt.f 16 2) (zeros 32)) := by
  have hhas : s.net.services.has (x.pkt.f 16 2) = true := by simp only [CMap.has, hv, Option.isSome_some]
  simp only [ownLiveServiceRemove, decide_eq_false (Nat.not_lt.2 hn), hhas, hidle, Bool.not_true, Bool.or_self, Bool.false_eq_true,
    if_false, State.leaveService_of_held hv]

end

end

/-- Settles O1: each clause's premises are what the command's own checks ask, and a packet that passes them completes. -/
theorem deviceCommandsComplete : Obligations.DeviceCommandsComplete := by
  unfold Obligations.DeviceCommandsComplete
  exact ⟨fun _ _ _ _ ht => congrArg Host.Outcome.next (runCommand_done ht rfl),
    fun _ _ _ _ ht hk hport hv => congrArg Host.Outcome.next (runCommand_done ht (ownNetworkSet_of_address hport hk hv)),
    fun _ _ _ _ ht hk hport hr => congrArg Host.Outcome.next (runCommand_done ht (ownNetworkSet_of_ptp hport hk hr)),
    fun _ _ _ _ ht hk hport hv => congrArg Host.Outcome.next (runCommand_done ht (ownNetworkSet_of_multicast hport hk hv)),
    fun _ _ _ _ ht hk hport hv hnew => congrArg Host.Outcome.next (runCommand_done ht (ownNetworkSet_of_new_pair hport hk hv hnew)),
    fun _ _ _ _ ht hv hp => congrArg Host.Outcome.next (runCommand_done ht (ownPartnerSet_of_none hv hp)),
    fun _ _ _ _ ht hv hd hs => congrArg Host.Outcome.next (runCommand_done ht (ownPartnerSet_of_device hv hd hs)),
    fun _ _ _ _ ht hn hport hfree =>
      congrArg Host.Outcome.next (runCommand_done ht (ownLiveServiceSet_of_free hn hport hfree)),
    fun _ _ _ _ _ ht hn hv hidle =>
      congrArg Host.Outcome.next (runCommand_done ht (ownLiveServiceRemove_of_held hn hv hidle))⟩

end Sys2Proof.Machine
end

section
-- One proof at a time, here and in the sections below: elaborated together they need more memory than the check has.
set_option Elab.async false
/-! SUPPORT. The queue and what is fused (R523, R2, R364): a command's own effect keeps them, and so does every row, the resets
included. -/

namespace Sys2Proof.Machine

variable {i : Instr} {s t : State}

/-- A command's own effect keeps the standing parts, or of them the queue and what is fused. -/
def KeepsCore (own : Waiter → CmdIn → State → Own) : Prop :=
  (∀ w x s, (own w x s).holds (fun t => t.standing = s.standing)) ∨ (∀ w x s, (own w x s).holds (fun t => t.core = s.core))

/-- The queue and what is fused, for a property that the standing parts decide. -/
theorem core_eq_of_standing (a b : State) (h : a.standing = b.standing) (ha : a.core = s.core) : b.core = s.core :=
  (State.core_of_standing h).symm.trans ha

theorem KeepsCore.runCommand {own : Waiter → CmdIn → State → Own} (h : KeepsCore own) (sp : OpSpec) (x : CmdIn) (s : State) :
    (runCommand sp own x s).core = s.core := by
  rcases h with h | h
  · exact State.core_of_standing (runCommand_keeps id (h · x ·))
  · exact runCommand_holds core_eq_of_standing sp own x s rfl (fun w u hu => hu ▸ h w x u)

theorem KeepsCore.accept {own : Waiter → CmdIn → State → Own} (h : KeepsCore own) (s : State) (sp : OpSpec) (w : Waiter) (x : CmdIn) :
    (s.accept sp own w x).core = s.core := by
  rcases h with h | h
  · exact State.core_of_standing (State.accept_holds (P := fun u => u.standing = s.standing) (fun _ _ hab ha => hab.symm.trans ha)
      s sp own w x rfl (fun u hu => hu ▸ h w x u))
  · exact State.accept_holds core_eq_of_standing s sp own w x rfl (fun u hu => hu ▸ h w x u)

theorem opMeanings_keepCore : ∀ m ∈ opMeanings, KeepsCore m.2 := by
  simp only [opMeanings, List.forall_mem_cons, List.not_mem_nil, false_imp_iff, implies_true, and_true]
  exact ⟨.inl ownIdentify_holds, .inl ownNetworkSet_holds, .inl ownPartnerSet_holds, .inl ownLiveServiceSet_holds,
    .inl ownLiveServiceRemove_holds, .inr ownRecipeLoad_holds, .inl ownRecipeReplace_holds,
    .inr ownRecipeUnload_holds, .inr ownImageLoad_holds, .inr ownImageUnload_holds, .inl ownJobStart_holds,
    .inl ownJobEnd_holds, .inl ownEpochPlan_holds, .inl ownParamTable_holds, .inl ownParamRing_holds,
    .inl ownJobTakeover_holds, .inl ownJobResume_holds, .inl ownJobLeave_holds, .inl ownCursorReset_holds,
    .inl ownJobQuery_holds, .inl ownPlanReissue_holds, .inl ownPoolConfig_holds, .inl ownPoolThreshold_holds,
    .inl ownPoolAudit_holds, .inl ownBankOwn_holds, .inl ownBankState_holds, .inl ownBankRetire_holds,
    .inl ownCompress_holds, .inl ownDecompress_holds, .inl ownNsCreate_holds, .inl ownNsDelete_holds,
    .inl ownNsSeal_holds, .inl ownReplicaSet_holds, .inl ownDieRetire_holds, .inl ownSanitize_holds,
    .inl ownBudgetSet_holds, .inl ownFreqAnnounce_holds, .inr ownRestartAfterStop_holds, .inl ownSelftest_holds,
    .inl ownTestRun_holds, .inl ownEngineBypass_holds, .inl ownTileDrain_holds, .inl ownTileRejoin_holds,
    .inl ownColumnRepair_holds, .inr ownPitClear_holds, .inl ownCredSet_holds, .inl ownCredClear_holds,
    .inl ownSignkeyTrust_holds, .inl ownSignkeyRevoke_holds, .inl ownAuditRead_holds, .inr ownDebugUnlock_holds,
    .inl ownDecommission_holds, .inl ownUpdStage_holds, .inl ownUpdVerify_holds, .inr ownUpdActivate_holds,
    .inl ownUcodeApply_holds, .inl ownEvtRead_holds, .inl ownEvtSubscribe_holds, .inl ownTelemetryGet_holds,
    .inl ownDestBind_holds, .inl ownSlotCancel_holds, .inl ownWindowOpen_holds, .inl ownWindowClose_holds,
    .inl ownWindowRekey_holds, .inl ownRmaWrite_holds, .inl ownRmaRead_holds, .inl ownPortService_holds⟩

theorem State.acceptDeferred_core (s : State) (d : Deferred) : (s.acceptDeferred d).core = s.core := by
  unfold State.acceptDeferred
  split
  next m hm => exact (opMeanings_keepCore m (List.mem_of_find?_eq_some hm)).accept ..
  next => exact State.core_of_standing (s.complete_standing ..)

/-- The row of a packet keeps the queue and what is fused when its command does. -/
theorem core_of_packet {sp : OpSpec} {own : Waiter → CmdIn → State → Own} {x : CmdIn} (h : KeepsCore own)
    (he : (.next (runCommand sp own x s) : Host.Outcome State Fault Refusal) = .next t) : t.core = s.core := by
  obtain rfl := Host.Outcome.next.inj he
  exact h.runCommand sp x s

/-- A row of the restart family keeps the queue and what is fused: a reset keeps both. -/
theorem exec_core_of_restart (hi : family i = .restart) (he : exec i s = .next t) : t.core = s.core := by
  cases i
  case pitClear x => exact core_of_packet (.inr ownPitClear_holds) he
  case debugUnlock x => exact core_of_packet (.inr ownDebugUnlock_holds) he
  case updActivate x => exact core_of_packet (.inr ownUpdActivate_holds) he
  case deferredCommandAccept idx =>
    obtain rfl := Host.Outcome.next.inj he
    split
    · split
      · exact State.acceptDeferred_core ..
      · rfl
    · rfl
  case hubUnitFault unit =>
    obtain rfl := Host.Outcome.next.inj he
    rw [State.fatalStart_core, State.core_of_standing (State.leaveJobs_standing _), State.core_of_standing (State.raise_standing ..)]
  case mainRailLoss =>
    obtain rfl := Host.Outcome.next.inj he
    split
    · simp only [State.core_mk, SysBlock.fused_mk, SysBlock.fused_eta, State.core_eta, State.clearDies_core]
    · rfl
  case mainRailsValid =>
    obtain rfl := Host.Outcome.next.inj he
    split
    · rfl
    · simp only [State.core_mk, SysBlock.fused_mk, SysBlock.fused_eta, State.core_eta, State.deviceReset_core]
  case standbyRailsApply strap =>
    obtain rfl := Host.Outcome.next.inj he
    split
    · rfl
    · simp only [State.core_mk, SysBlock.fused_mk, SysBlock.fused_eta, State.core_eta, apply_ite State.core, State.deviceReset_core,
        ite_self]
  case standbyRailsRemove =>
    obtain rfl := Host.Outcome.next.inj he
    split
    · simp only [State.core_mk, SysBlock.fused_mk, SysBlock.fused_eta, State.core_eta, State.clearDies_core]
    · rfl
  case warmReset cause =>
    obtain rfl := Host.Outcome.next.inj he
    split
    · exact s.deviceReset_core ..
    · rfl
  case startStepComplete k now out =>
    obtain rfl := Host.Outcome.next.inj he
    have hstep := (s.advance now).startStep_core k out
    split
    · rfl
    · split
      next u hu => exact (u.markStep_core k).trans (by rw [hu] at hstep; exact hstep)
      next u f hu => exact (u.failStart_core ..).trans (by rw [hu] at hstep; exact hstep)
  case bootWatchdogExpiry now =>
    obtain rfl := Host.Outcome.next.inj he
    split
    · exact State.failStart_core ..
    split
    · exact State.revertActivation_core _
    · rfl
  all_goals exact nomatch hi

/-- A register write or read keeps the queue and what is fused. -/
theorem exec_core_of_registers (hi : family i = .registers) (he : exec i s = .next t) : t.core = s.core := by
  cases i
  case registerWrite path addr v sigOk =>
    obtain rfl := Host.Outcome.next.inj he
    simp only [apply_ite State.core, State.writeReg_core, ite_self]
  case mctpRegisterWrite eid off v sigOk =>
    obtain rfl := Host.Outcome.next.inj he
    simp only [apply_ite State.core, State.writeReg_core, State.core_of_standing (State.mctpRefused_standing ..),
      State.core_of_standing (State.emit_standing ..), ite_self]
  case mctpRegisterRead eid kind off =>
    obtain rfl := Host.Outcome.next.inj he
    simp only [apply_ite State.core, State.readReg_core, State.core_of_standing (State.mctpRefused_standing ..),
      State.core_of_standing (State.regInvalid_standing ..), State.core_of_standing (State.emit_standing ..), ite_self]
  all_goals exact nomatch hi

theorem exec_core_of_recipes (hi : family i = .recipes) (he : exec i s = .next t) : t.core = s.core := by
  cases i
  case recipeLoad x => exact core_of_packet (.inr ownRecipeLoad_holds) he
  case recipeReplace x => exact core_of_packet (.inl ownRecipeReplace_holds) he
  case recipeUnload x => exact core_of_packet (.inr ownRecipeUnload_holds) he
  case imageLoad x => exact core_of_packet (.inr ownImageLoad_holds) he
  case imageUnload x => exact core_of_packet (.inr ownImageUnload_holds) he
  all_goals exact nomatch hi

theorem exec_core_of_stops (hi : family i = .stops) (he : exec i s = .next t) : t.core = s.core := by
  cases i
  case restartAfterStop x => exact core_of_packet (.inr ownRestartAfterStop_holds) he
  case coolantStop =>
    obtain rfl := Host.Outcome.next.inj he
    refine State.core_of_standing ?_
    simp only [apply_ite State.standing, State.flowLost_standing, State.latchStop_standing, State.stopEngines_standing,
      State.stopFlush_standing, ite_self]
  case coolantFlowReturn =>
    obtain rfl := Host.Outcome.next.inj he
    exact s.flowBack_core
  case coolantFlushEnd done =>
    obtain rfl := Host.Outcome.next.inj he
    simp only [apply_ite State.core, State.core_mk, SysBlock.fused_mk, SysBlock.fused_eta, State.core_eta, ite_self,
      State.core_of_standing (State.domainsOff_standing ..), State.core_of_standing (State.loseDirty_standing ..),
      State.core_of_standing (State.endFlush_standing ..)]
  case pwrFailAssert =>
    obtain rfl := Host.Outcome.next.inj he
    refine State.core_of_standing ?_
    simp only [State.standing_mk, State.standing_eta, apply_ite State.standing, State.stopEngines_standing,
      State.beginFlush_standing, ite_self]
  case holdupFlushComplete powerBack =>
    obtain rfl := Host.Outcome.next.inj he
    simp only [apply_ite State.core, State.core_mk, SysBlock.fused_mk, SysBlock.fused_eta, State.core_eta, ite_self,
      State.core_of_standing (State.endFlush_standing ..)]
  all_goals exact nomatch hi

theorem exec_core_of_host (hi : family i = .host) (he : exec i s = .next t) : t.core = s.core := by
  cases i
  case pf0Flr =>
    obtain rfl := Host.Outcome.next.inj he
    exact State.core_of_standing (s.nvmeReset_standing 0)
  case pf1Flr =>
    obtain rfl := Host.Outcome.next.inj he
    exact State.core_of_standing s.resetPf1_standing
  case perstAssert =>
    obtain rfl := Host.Outcome.next.inj he
    dsimp only
    split <;> rfl
  case perstDeassert now =>
    obtain rfl := Host.Outcome.next.inj he
    rfl
  case pcieLinkDown =>
    obtain rfl := Host.Outcome.next.inj he
    rfl
  case pcieLinkUp =>
    obtain rfl := Host.Outcome.next.inj he
    split
    · rfl
    · exact State.core_of_standing (foldl_standing _ _ _ (fun s _ => s.nvmeDeliver_standing ..))
  case configurationRequest pf off =>
    obtain rfl := Host.Outcome.next.inj he
    simp only [apply_ite State.core, State.core_of_standing (State.emit_standing ..), ite_self]
  case liveActivationReady now =>
    obtain rfl := Host.Outcome.next.inj he
    split
    · exact State.endActivation_core ..
    · rfl
  all_goals exact nomatch hi

/-- Every row keeps the queue and what is fused. -/
theorem exec_core (he : exec i s = .next t) : t.core = s.core := by
  have ofStanding (h : t.standing = s.standing) : t.core = s.core := State.core_of_standing h
  cases hf : family i
  case restart => exact exec_core_of_restart hf he
  case registers => exact exec_core_of_registers hf he
  case recipes => exact exec_core_of_recipes hf he
  case stops => exact exec_core_of_stops hf he
  case host => exact exec_core_of_host hf he
  case copies => exact kept (exec_outside_of_copies hf he) State.core
  case rings => exact kept (exec_outside_of_rings hf he) State.core
  case security => exact kept (exec_outside_of_security hf he) State.core
  case brm => exact kept (exec_outside_of_brm hf he) State.core
  case device => exact ofStanding (exec_standing_of_device hf he)
  case jobs => exact ofStanding (exec_standing_of_jobs hf he)
  case pools => exact ofStanding (exec_standing_of_pools hf he)
  case media => exact ofStanding (exec_standing_of_media hf he)
  case power => exact ofStanding (exec_standing_of_power hf he)
  case tests => exact ofStanding (exec_standing_of_tests hf he)
  case banks => exact ofStanding (exec_standing_of_banks hf he)
  case fabric => exact ofStanding (exec_standing_of_fabric hf he)
  case links => exact ofStanding (exec_standing_of_links hf he)
  case shaping => exact ofStanding (exec_standing_of_shaping hf he)
  case plans => exact ofStanding (exec_standing_of_plans hf he)
  case samples => exact ofStanding (exec_standing_of_samples hf he)
  case delivery => exact ofStanding (exec_standing_of_delivery hf he)
  case roce => exact ofStanding (exec_standing_of_roce hf he)
  case remote => exact ofStanding (exec_standing_of_remote hf he)
  case live => exact ofStanding (exec_standing_of_live hf he)
  case nvmeIo => exact ofStanding (exec_standing_of_nvmeIo hf he)
  case nvmeAdmin => exact ofStanding (exec_standing_of_nvmeAdmin hf he)

/-- Settles O37: every row keeps the core, and the row runs with the queue's rest. -/
theorem stepKeepsWhatIsFused : Obligations.StepKeepsWhatIsFused := by
  unfold Obligations.StepKeepsWhatIsFused
  intro c rest s t hq he
  have hs : s = { s with pending := c :: rest } := by rw [← hq]
  rw [hs, step_of_cons] at he
  have h : (t.pending, t.sys.fused) = (rest, s.sys.fused) := exec_core he
  simpa only [SysBlock.fused, Prod.mk.injEq] using h

end Sys2Proof.Machine
end

section
set_option Elab.async false
/-! SUPPORT. The start while the coolant flow is lost (R499), CRED_CLEAR of slot 1 (R565), the slots of the event ring (R529) and
the state at reset (R504). -/

namespace Sys2Proof.Machine

variable {s : State}

/-! ## The start and the coolant flow -/

/-- Steps 8 to 10 are not free while COOLANT_FLOW_N is low. -/
theorem State.stepDue_of_flowLow {k : Nat} (hl : s.pwr.flowLow = true) (h8 : 8 ≤ k) (h10 : k ≤ 10) : s.stepDue k = false := by
  have hk : k = 8 ∨ k = 9 ∨ k = 10 := by omega
  have hfree : s.stepFree k = false := by
    rcases hk with rfl | rfl | rfl <;> simp only [State.stepFree, hl, Bool.not_true]
  simp only [State.stepDue, hfree, Bool.and_false]

theorem exec_startStepComplete_of_not_due {k now : Nat} {out : StartOut} (h : (s.advance now).stepDue k = false) :
    exec (.startStepComplete k now out) s = .next (s.advance now) :=
  congrArg Host.Outcome.next (if_pos (by simp only [h, Bool.not_false]))

theorem exec_bootWatchdogExpiry_of_flowLow {now : Nat} (hl : s.pwr.flowLow = true) (ha : s.upd.activating = none) :
    exec (.bootWatchdogExpiry now) s = .next (s.advance now) := by
  show execBootWatchdogExpiry now s = _
  simp only [execBootWatchdogExpiry, State.advance_pwr, State.advance_upd, hl, ha, Bool.not_true, Bool.and_false, Bool.false_and,
    Option.isSome_none, Bool.false_eq_true, if_false]

/-- Settles O59: a held start step is not free, the watchdog asks for the flow, and its return suspends the time it was lost. -/
theorem coolantFlowHoldsTheStart : Obligations.CoolantFlowHoldsTheStart := by
  unfold Obligations.CoolantFlowHoldsTheStart
  exact ⟨fun _ _ _ _ hl h8 h10 => exec_startStepComplete_of_not_due (State.stepDue_of_flowLow hl h8 h10),
    fun _ _ hl ha => exec_bootWatchdogExpiry_of_flowLow hl ha,
    fun _ hl => congrArg Host.Outcome.next (if_pos hl)⟩

/-! ## CRED_CLEAR of slot 1 -/

section
variable {w : Waiter} {x : CmdIn}

theorem ownCredClear_first_of_others (hk : x.pkt.f 16 1 = 1) (ho : s.sec.creds.any (fun c => c.1 != 1 && c.2.role != 3) = true) :
    ownCredClear w x s = .refuse (paramInvalid 16) := by
  simp only [ownCredClear, hk, ho, Nat.reduceEqDiff, decide_false, decide_true, Bool.or_self, Bool.and_self, Bool.false_eq_true,
    if_false, if_true]

theorem ownCredClear_first_of_alone (hk : x.pkt.f 16 1 = 1) (ho : s.sec.creds.any (fun c => c.1 != 1 && c.2.role != 3) = false) :
    ownCredClear w x s = .done success { s with sec := { s.sec.unbind 1 with creds := s.sec.creds.del 1 } } := by
  simp only [ownCredClear, hk, ho, Nat.reduceEqDiff, decide_false, decide_true, Bool.or_self, Bool.and_false, Bool.false_eq_true,
    if_false]

end

/-- Settles O53: the command's own check of slot 1 refuses while an operator or installer is left, and else deletes it. -/
theorem clearingTheFirstSlotComesLast : Obligations.ClearingTheFirstSlotComesLast := by
  unfold Obligations.ClearingTheFirstSlotComesLast
  refine ⟨fun x s u w ht hk ho => ⟨congrArg Host.Outcome.next (runCommand_refuse ht.1 (ownCredClear_first_of_others hk ho)), rfl⟩,
    fun x s u t w ht hk ho hs he => ?_⟩
  subst he
  refine ⟨congrArg Host.Outcome.next (runCommand_done ht (ownCredClear_first_of_alone hk ho)), ?_⟩
  exact (CMap.find_del hs 1 1).trans (if_pos rfl)

/-! ## The slots of the event ring -/

theorem State.sendEvent_evt (s : State) (ev : Event) (sub : Subscriber) : (s.sendEvent ev sub).evt = s.evt := by
  simp only [State.sendEvent, apply_ite State.evt, State.bump_evt, State.emit_evt, ite_self]

theorem State.sendAll_evt (s : State) (ev : Event) : (s.sendAll ev).evt = s.evt := by
  have hfold : ∀ (l : List Subscriber) (u : State), (l.foldl (fun v sub => v.sendEvent ev sub) u).evt = u.evt := by
    intro l
    induction l with
    | nil => exact fun _ => rfl
    | cons sub l ih => exact fun u => (ih _).trans (u.sendEvent_evt ev sub)
  exact hfold s.evt.subs s

theorem State.eventIrq_ring (s : State) (sev : Nat) : (s.eventIrq sev).evt.ring = s.evt.ring := by
  unfold State.eventIrq
  simp only [apply_ite State.evt, apply_ite EvtBlock.ring, State.emit_evt, ite_self]

theorem State.writeRecord_ring (s : State) (ev : Event) (rsv : Bool) :
    (s.writeRecord ev rsv).2.evt.ring = s.evt.ring ++ [{ ev with seq := s.evt.nextSeq, rsvSlot := rsv }] := by
  simp only [State.writeRecord, State.sendAll_evt, State.eventIrq_ring]

section
variable {ev : Event} (hsev : ev.sev < 2) (hearly : s.evt.early = false)
include hearly

theorem EvtBlock.place_of_room (hroom : s.evt.general < 8128) : s.evt.place ev.sev = .general := by
  simp only [EvtBlock.place, EvtBlock.generalCap, hearly, Bool.false_eq_true, if_false, hroom, if_true]

include hsev

theorem EvtBlock.place_of_full (hfull : 8128 ≤ s.evt.general) : s.evt.place ev.sev = .nowhere := by
  simp only [EvtBlock.place, EvtBlock.generalCap, hearly, Bool.false_eq_true, if_false, if_neg (Nat.not_lt.2 hfull), if_pos hsev]

theorem State.newRecord_of_room (hroom : s.evt.general < 8128) : s.newRecord ev = (s.writeRecord ev false).2 := by
  have h3 : ev.sev ≠ 3 := by omega
  simp only [State.newRecord, EvtBlock.place_of_room hearly hroom, h3, if_false]

theorem State.newRecord_of_full (hfull : 8128 ≤ s.evt.general) :
    s.newRecord ev = { s with evt := s.evt.drop ev.code ev.sev 1 s.now } := by
  have h3 : ev.sev ≠ 3 := by omega
  simp only [State.newRecord, EvtBlock.place_of_full hsev hearly hfull, h3, if_false]

end

/-- Settles O56: with a general slot free the event is written there, and with none its group counts it. -/
theorem lowSeverityEventsUseGeneralSlots : Obligations.LowSeverityEventsUseGeneralSlots := by
  unfold Obligations.LowSeverityEventsUseGeneralSlots
  refine ⟨fun ev s hsev hearly hroom => ?_, fun ev s hsev hearly hfull hgroup => ?_⟩
  · rw [State.newRecord_of_room hsev hearly hroom, State.writeRecord_ring]
  · rw [State.newRecord_of_full hsev hearly hfull]
    refine ⟨rfl, ?_⟩
    simp [EvtBlock.drop, updAt, hgroup]

/-! ## Reset -/

theorem State.reset_set : State.reset.set = defaultSettings := by simp only [State.reset]

theorem State.reset_run : State.reset.run = defaultSettings := by simp only [State.reset]

/-- Settles O35: the reset is written out, and the thresholds of pool 0 are read back from the default settings. -/
theorem resetLeavesTheDefaults : Obligations.ResetLeavesTheDefaults := by
  unfold Obligations.ResetLeavesTheDefaults
  have hpool : (State.reset.runSetting 0x208 2, State.reset.runSetting 0x20A 2, State.reset.runSetting 0x20C 2) = (250, 125, 30) := by
    decide +kernel
  simp only [Prod.mk.injEq] at hpool
  exact ⟨⟨rfl, rfl, rfl, rfl, rfl, rfl, rfl⟩, ⟨by decide, rfl, rfl, rfl, rfl, rfl⟩, State.reset_set, State.reset_run, hpool⟩

theorem foldl_writeMem_wf {α : Type} (at' : α → Nat) (bs : α → Bytes) (l : List α) {m : CMap Byte} (h : m.wf 0 = true) :
    (l.foldl (fun m a => writeMem m (at' a) (bs a)) m).wf 0 = true := by
  induction l generalizing m with
  | nil => exact h
  | cons a l ih => exact ih (writeMem_wf h _ _)

/-- The default settings are written byte by byte into an empty memory. -/
theorem defaultSettings_wf : defaultSettings.wf 0 = true :=
  foldl_writeMem_wf _ _ _ (writeMem_wf (writeMem_wf (writeMem_wf (CMap.wf_nil 0) _ _) _ _) _ _)

/-- Settles O36: the settings are the defaults, and every other byte memory is empty. -/
theorem resetMeetsTheForms : Obligations.ResetMeetsTheForms := by
  unfold Obligations.ResetMeetsTheForms State.memoriesWf
  rw [State.reset_set, State.reset_run, defaultSettings_wf]
  rfl

end Sys2Proof.Machine
end

section
set_option Elab.async false
/-! SUPPORT. The own effects of the event, telemetry, power and test commands, and of the rows of bindings, sessions, resets and the
start: what each answers when its checks pass. -/

namespace Sys2Proof.Machine

section
variable {w : Waiter} {x : CmdIn} {s : State}

/-! ## EVT_READ, EVT_SUBSCRIBE, TELEMETRY_GET -/

section
variable (haddr : x.pkt.f 16 8 = 0) (hpos : 0 < x.pkt.f 24 4) (hmax : x.pkt.f 24 4 ≤ 32)
include haddr hpos hmax

/-- EVT_READ into the window, for the records `evs` that it takes. -/
theorem ownEvtRead_of_window {evs : List Event} (hevs : s.evt.ring.take (x.pkt.f 24 4) = evs) :
    ownEvtRead w x s =
      .done { status := 0, r0 := evs.length, r1 := (evs.head?.map Event.seq).getD 0 }
        (if bit (x.pkt.f 28 1) 0 then (s.deliverEvents 0 ((evs.map Event.bytes).flatten)).consumeEvents evs
         else s.deliverEvents 0 ((evs.map Event.bytes).flatten)) := by
  have h0 : x.pkt.f 24 4 ≠ 0 := Nat.ne_of_gt hpos
  have h8192 : ¬ 8192 < x.pkt.f 24 4 := by omega
  simp only [ownEvtRead, haddr, h0, h8192, Nat.not_lt.2 hmax, hevs, decide_false, Bool.or_self, Bool.and_false, Bool.false_eq_true,
    if_false, if_true]
  cases evs <;> rfl

theorem ownEvtRead_of_records {e : Event} {es : List Event} (hkeep : bit (x.pkt.f 28 1) 0 = false)
    (hevs : s.evt.ring.take (x.pkt.f 24 4) = e :: es) :
    ownEvtRead w x s = .done { status := 0, r0 := es.length + 1, r1 := e.seq } (s.deliverEvents 0 (((e :: es).map Event.bytes).flatten)) := by
  rw [ownEvtRead_of_window haddr hpos hmax hevs, hkeep]
  rfl

theorem ownEvtRead_of_empty (hkeep : bit (x.pkt.f 28 1) 0 = false) (hring : s.evt.ring = []) :
    ownEvtRead w x s = .done { status := 0, r0 := 0, r1 := 0 } (s.deliverEvents 0 []) := by
  rw [ownEvtRead_of_window haddr hpos hmax (by rw [hring, List.take_nil]), hkeep]
  rfl

theorem ownEvtRead_of_consumed {e : Event} {es : List Event} (hconsume : bit (x.pkt.f 28 1) 0 = true)
    (hevs : s.evt.ring.take (x.pkt.f 24 4) = e :: es) :
    ownEvtRead w x s = .done { status := 0, r0 := es.length + 1, r1 := e.seq }
      ((s.deliverEvents 0 (((e :: es).map Event.bytes).flatten)).consumeEvents (e :: es)) := by
  rw [ownEvtRead_of_window haddr hpos hmax hevs, hconsume]
  rfl

end

section
variable (hslot : x.pkt.f 16 1 ≤ 7) (hsev : x.pkt.f 20 1 ≤ 3)
include hslot hsev

theorem ownEvtSubscribe_of_kind_zero (hk : x.pkt.f 17 1 = 0) :
    ownEvtSubscribe w x s = .done success { s with evt := { s.evt with subs := s.evt.subs.set (x.pkt.f 16 1) {} } } := by
  simp only [ownEvtSubscribe, if_neg (Nat.not_lt.2 hslot), hk, if_neg (Nat.not_lt.2 hsev), Nat.not_lt_zero, Nat.reduceBEq,
    Bool.false_and, Bool.false_eq_true, if_false, if_true]

theorem ownEvtSubscribe_of_target (hk : (x.pkt.f 17 1 = 1 ∧ x.pkt.f 18 2 < 6144) ∨ x.pkt.f 17 1 = 2) :
    ownEvtSubscribe w x s = .done success { s with evt := { s.evt with subs := s.evt.subs.set (x.pkt.f 16 1) { kind := x.pkt.f 17 1, target := x.pkt.f 18 2, minSev := x.pkt.f 20 1, mask := x.pkt.f 24 2 } } } := by
  rcases hk with ⟨hk, ht⟩ | hk
  · simp only [ownEvtSubscribe, if_neg (Nat.not_lt.2 hslot), hk, if_neg (Nat.not_lt.2 hsev), decide_eq_false (Nat.not_le.2 ht),
      Nat.reduceLT, Bool.and_false, Bool.false_eq_true, if_false, Nat.reduceEqDiff]
  · simp only [ownEvtSubscribe, if_neg (Nat.not_lt.2 hslot), hk, if_neg (Nat.not_lt.2 hsev), Nat.reduceLT, Nat.reduceBEq,
      Bool.false_and, Bool.false_eq_true, if_false, Nat.reduceEqDiff]

end

/-- TELEMETRY_GET writes the set's words to host memory, cut at the length (R461). -/
theorem ownTelemetryGet_of_host {b : Bytes} (hset : x.pkt.f 16 1 ≤ 5) (hsrc : x.src.isMctp = false)
    (hb : b = ((telemetrySet (x.pkt.f 16 1)).map (fun a => leBytes 4 (s.telemetryWord a))).flatten) :
    ownTelemetryGet w x s = .done { status := 0, r0 := (b.take (x.pkt.f 32 4)).length, r1 := b.length }
      (s.emit (.hostWrite (x.pkt.f 24 8) (b.take (x.pkt.f 32 4)))) := by
  simp only [ownTelemetryGet, if_neg (Nat.not_lt.2 hset), hostAddress, hsrc, Bool.false_eq_true, if_false, hb]

/-! ## Budget, frequency and the restart after a stop -/

theorem ownBudgetSet_of_range (h60 : 60 ≤ x.pkt.f 16 2) (h130 : x.pkt.f 16 2 ≤ 130) :
    ownBudgetSet w x s = .done success (s.takeBudget (10 * x.pkt.f 16 2)) := by
  simp only [ownBudgetSet, decide_eq_false (Nat.not_lt.2 h60), decide_eq_false (Nat.not_lt.2 h130), Bool.or_self, Bool.false_eq_true,
    if_false]

/-- FREQ_ANNOUNCE for a job that holds no frequency keeps the announced one with its time (R482). -/
theorem ownFreqAnnounce_of_first {slot : Nat} {j : Job} (hj : s.jobNamed (x.pkt.f 16 2) = some (slot, j))
    (hmhz : x.pkt.f 18 2 = 0 ∨ 400 ≤ x.pkt.f 18 2) (htime : x.pkt.f 24 8 ≤ s.now + 50000000)
    (hheld : s.pwr.held.find (x.pkt.f 16 2) = none) :
    ownFreqAnnounce w x s = .done success
      { s with pwr := { s.pwr with held := s.pwr.held.put (x.pkt.f 16 2) { mhz := 0, next := some (x.pkt.f 18 2, x.pkt.f 24 8) } } } := by
  have hok : (x.pkt.f 18 2 != 0 && decide (x.pkt.f 18 2 < 400)) = false := by
    rcases hmhz with h | h
    · simp only [h, bne_self_eq_false, Bool.false_and]
    · simp only [decide_eq_false (Nat.not_lt.2 h), Bool.and_false]
  have hj' : s.jobNamed x.pkt.jobId = some (slot, j) := hj
  have hheld' : s.pwr.held.find x.pkt.jobId = none := hheld
  simp only [ownFreqAnnounce, hj', hok, if_neg (Nat.not_lt.2 htime), hheld', Option.getD_none, Bool.false_eq_true, if_false]
  rfl

theorem ownRestartAfterStop_of_no_change (h : s.pwr.stopped = false ∨ s.pwr.flowLow = true) :
    ownRestartAfterStop w x s = .done { status := 1 } s := by
  rcases h with h | h
  · simp only [ownRestartAfterStop, h, Bool.not_false, Bool.true_or, if_true]
  · simp only [ownRestartAfterStop, h, Bool.or_true, if_true]

/-- The state after RESTART_AFTER_STOP of a device that stopped (R488): the domains of the media path are on, and the start runs again
from the HBM steps. -/
def State.restarted (s : State) : State :=
  let u := [24, 25, 26, 32, 33, 34, 35].foldl (fun s d => s.updDomain d (fun k => { k with on := true })) s
  { u with pwr := { u.pwr with stopped := false, halted := false }, sys := { u.sys with steps := stepsToHbm, ready := false },
           med := { u.med with state := if u.med.flush = 0 then 0 else u.med.state } }

/-- The restart touches the power, system and media blocks only. -/
theorem State.restarted_outside (s : State) : s.restarted.outside [.pwr, .sys, .med] = s.outside [.pwr, .sys, .med] :=
  State.foldl_outside (f := fun s d => s.updDomain d (fun k => { k with on := true })) (fun _ _ => rfl) [24, 25, 26, 32, 33, 34, 35] s

theorem State.restarted_starts (s : State) : s.restarted.pwr.stopped = false ∧ s.restarted.pwr.halted = false ∧
    s.restarted.sys.steps = stepsToHbm ∧ s.restarted.sys.ready = false :=
  ⟨rfl, rfl, rfl, rfl⟩

theorem ownRestartAfterStop_of_flow (hs : s.pwr.stopped = true) (hf : s.pwr.flowLow = false) :
    ownRestartAfterStop w x s = .done success s.restarted := by
  simp only [ownRestartAfterStop, hs, hf, Bool.not_true, Bool.or_self, Bool.false_eq_true, if_false]
  rfl

/-! ## SELFTEST, TEST_RUN, ENGINE_BYPASS and the tiles -/

theorem ownSelftest_of_idle (hk : x.pkt.f 16 1 = 1 ∨ x.pkt.f 16 1 = 2) (hidle : s.nvme.selftest = none) :
    ownSelftest w x s = .done success (s.startSelftest (x.pkt.f 16 1)) := by
  rcases hk with hk | hk <;>
    simp only [ownSelftest, hk, hidle, Nat.reduceEqDiff, if_false, bne_self_eq_false, Bool.false_and, Bool.and_false,
      Bool.false_eq_true, Option.isSome_none]

theorem ownSelftest_of_abort (hk : x.pkt.f 16 1 = 0xF) : ownSelftest w x s = .done success (s.abortSelftest 1) := by
  simp only [ownSelftest, hk, if_true]

theorem ownEngineBypass_of_return (hk : x.pkt.f 16 1 = 0) :
    ownEngineBypass w x s = .run (s.beginRun w [(x.pkt.unit, sliceCount (engineClass x.pkt.unit))]) := by
  simp only [ownEngineBypass, hk]

theorem ownEngineBypass_of_out (hk : x.pkt.f 16 1 = 1)
    (hleft : s.bypassLeavesNone (engineTile x.pkt.unit) (engineClass x.pkt.unit) (engineIndex x.pkt.unit) = false) :
    ownEngineBypass w x s = .done success (s.markOut (engineTile x.pkt.unit) (engineClass x.pkt.unit) (engineIndex x.pkt.unit)) := by
  simp only [ownEngineBypass, hk, hleft, Bool.false_eq_true, if_false]

theorem ownTestRun_of_engine (hk : x.pkt.f 16 1 = 0) (he : engineOk x.pkt.unit = true) :
    ownTestRun w x s = .run (s.beginRun w [(x.pkt.unit, sliceCount (engineClass x.pkt.unit))]) := by
  simp only [ownTestRun, hk, he, if_true]

theorem ownTestRun_of_tile (hk : x.pkt.f 16 1 = 1) (hu : x.pkt.unit < 4) (hd : (s.tile x.pkt.unit).state = 3) :
    ownTestRun w x s = .run (s.beginRun w (tileSlices x.pkt.unit)) := by
  simp only [ownTestRun, hk, decide_eq_true hu, hd, beq_self_eq_true, Bool.and_self, if_true]

theorem ownTestRun_of_lane (hk : x.pkt.f 16 1 = 2) (hu : x.pkt.unit < 16) (hfree : (s.fabPort x.pkt.unit).spareFree = true) :
    ownTestRun w x s = .run (s.beginRun w [(2048 + x.pkt.unit, 1)]) := by
  simp only [ownTestRun, hk, decide_eq_true hu, hfree, Bool.and_self, if_true]

theorem ownTileDrain_of_begin (h2 : (s.tile x.pkt.unit).state ≠ 2) (h3 : (s.tile x.pkt.unit).state ≠ 3) (hok : s.drainOk x.pkt.unit = true) :
    ownTileDrain w x s =
      .run ((s.beginDrain x.pkt.unit).updTile x.pkt.unit (fun t => { t with drainCmds := t.drainCmds ++ [w] })) := by
  simp only [ownTileDrain, if_neg h3, if_neg h2, hok, if_true]

theorem ownTileDrain_of_drained (h3 : (s.tile x.pkt.unit).state = 3) : ownTileDrain w x s = .done success s := if_pos h3

theorem ownTileRejoin_of_drained (h3 : (s.tile x.pkt.unit).state = 3) : ownTileRejoin w x s = .done success (s.rejoin x.pkt.unit) :=
  if_pos h3

end

/-- Settles O11: the premises are what the commands' own checks ask. -/
theorem eventAndTelemetryCommandsComplete : Obligations.EventAndTelemetryCommandsComplete := by
  unfold Obligations.EventAndTelemetryCommandsComplete
  exact ⟨fun _ _ _ _ _ _ ht ha hp hm hk hr => congrArg Host.Outcome.next (runCommand_done ht (ownEvtRead_of_records ha hp hm hk hr)),
    fun _ _ _ _ ht ha hp hm hk hr => congrArg Host.Outcome.next (runCommand_done ht (ownEvtRead_of_empty ha hp hm hk hr)),
    fun _ _ _ _ _ _ ht ha hp hm hk hr => congrArg Host.Outcome.next (runCommand_done ht (ownEvtRead_of_consumed ha hp hm hk hr)),
    fun _ _ _ _ ht hs hk hv => congrArg Host.Outcome.next (runCommand_done ht (ownEvtSubscribe_of_kind_zero hs hv hk)),
    fun _ _ _ _ ht hs hk hv => congrArg Host.Outcome.next (runCommand_done ht (ownEvtSubscribe_of_target hs hv hk)),
    fun _ _ _ _ _ ht hs hm hb => congrArg Host.Outcome.next (runCommand_done ht (ownTelemetryGet_of_host hs hm hb))⟩

/-- Settles O8: the premises are what the commands' own checks ask. -/
theorem powerAndTestCommandsComplete : Obligations.PowerAndTestCommandsComplete := by
  unfold Obligations.PowerAndTestCommandsComplete
  exact ⟨fun _ _ _ _ ht h60 h130 => congrArg Host.Outcome.next (runCommand_done ht (ownBudgetSet_of_range h60 h130)),
    fun _ _ _ _ _ _ ht hj hm htime hh => congrArg Host.Outcome.next (runCommand_done ht (ownFreqAnnounce_of_first hj hm htime hh)),
    fun _ _ _ _ ht h => congrArg Host.Outcome.next (runCommand_done ht (ownRestartAfterStop_of_no_change h)),
    fun x s w u ht hs hf => by
      obtain ⟨hstop, hhalt, hsteps, hready⟩ := u.restarted_starts
      have hkept := u.restarted_outside
      exact ⟨u.restarted, congrArg Host.Outcome.next (runCommand_done ht (ownRestartAfterStop_of_flow hs hf)),
        hstop, hhalt, hsteps, hready, kept hkept State.jobs, kept hkept State.mem, kept hkept State.cmd, kept hkept State.sec⟩,
    fun _ _ _ _ ht hk hi => congrArg Host.Outcome.next (runCommand_done ht (ownSelftest_of_idle hk hi)),
    fun _ _ _ _ ht hk => congrArg Host.Outcome.next (runCommand_done ht (ownSelftest_of_abort hk)),
    fun _ _ _ _ ht hk => congrArg Host.Outcome.next (runCommand_run ht (ownEngineBypass_of_return hk)),
    fun _ _ _ _ ht hk hl => congrArg Host.Outcome.next (runCommand_done ht (ownEngineBypass_of_out hk hl)),
    fun _ _ _ _ ht hk he => congrArg Host.Outcome.next (runCommand_run ht (ownTestRun_of_engine hk he)),
    fun _ _ _ _ ht hk hu hd => congrArg Host.Outcome.next (runCommand_run ht (ownTestRun_of_tile hk hu hd)),
    fun _ _ _ _ ht hk hu hfree => congrArg Host.Outcome.next (runCommand_run ht (ownTestRun_of_lane hk hu hfree)),
    fun _ _ _ _ ht h2 h3 hok => congrArg Host.Outcome.next (runCommand_run ht (ownTileDrain_of_begin h2 h3 hok)),
    fun _ _ _ _ ht h3 => congrArg Host.Outcome.next (runCommand_done ht (ownTileDrain_of_drained h3)),
    fun _ _ _ _ ht h3 => congrArg Host.Outcome.next (runCommand_done ht (ownTileRejoin_of_drained h3))⟩

section
variable {s : State}

/-! ## Bindings, sessions, credentials and event signals -/

/-- START places a fresh nonce with its time (R562). -/
theorem exec_secBindStart_of_passes {path v : Nat} (hp : s.passes path 0x00050010 = true) (h14 : bit v 14 = true) (h15 : bit v 15 = false) :
    exec (.secBindStart path v) s = .next { s with fresh := s.fresh + 1, sec := { s.sec with bindSlot := bits v 0 8, bindRing := bits v 8 6, nonce := tabulate 12 (fun i => bits (Config.random s.fresh % 2 ^ 384) (32 * i) 32), nonceAt := some s.now } } := by
  refine congrArg Host.Outcome.next ((gated_passes hp).trans ?_)
  simp only [State.writeBindCtrl, h14, h15, Bool.false_eq_true, if_false, if_true]
  rfl

theorem exec_secBindGo_of_passes {path v : Nat} {sigOk : Bool} (hp : s.passes path 0x00050010 = true) (h14 : bit v 14 = false)
    (h15 : bit v 15 = true) :
    exec (.secBindGo path v sigOk) s
      = .next (State.bindGo { s with sec := { s.sec with bindSlot := bits v 0 8, bindRing := bits v 8 6 } } sigOk) := by
  refine congrArg Host.Outcome.next ((gated_passes hp).trans ?_)
  simp only [State.writeBindCtrl, h14, h15, Bool.false_eq_true, if_false, if_true]

/-- A good signature within 60 s of the nonce, for a slot that holds a credential, binds the ring to the slot (R562). -/
theorem State.bindGo_of_good {t : Nat} (hn : s.sec.nonceAt = some t) (hdue : s.now ≤ t + 60000000000)
    (hcred : s.sec.creds.has s.sec.bindSlot = true) (hnew : s.sec.bindings.contains (s.sec.bindRing, s.sec.bindSlot) = false) :
    s.bindGo true = { s with sec := { s.sec with bindOk := true, bindings := s.sec.bindings ++ [(s.sec.bindRing, s.sec.bindSlot)] } } := by
  simp only [State.bindGo, State.nonceGood, hn, decide_eq_true hdue, hcred, hnew, Bool.and_self, Bool.false_eq_true, if_false, if_true]

theorem State.bindGo_of_bad_signature :
    s.bindGo false = { s with sec := { s.sec with bindOk := false } }.raise evBindFail 4 [] := by
  simp only [State.bindGo, Bool.false_and, Bool.false_eq_true, if_false]

/-- A FINISH that fits its key exchange makes the session (R570). -/
theorem exec_spdmRequest_of_finish {eid arg : Nat} {leaf : Bytes} (halive : s.alive = true) (hx : s.sec.exchanges.contains eid = true) :
    exec (.spdmRequest eid 0xE5 arg leaf true) s = .next (State.emit { s with sec := { s.sec with exchanges := s.sec.exchanges.filter (· != eid), sessions := s.sec.sessions.put eid leaf } } (.mctp eid "FINISH_RSP" [0xE5, arg] (s.spdmData 0xE5 arg))) := by
  have hname : spdmResponse 0xE5 = some "FINISH_RSP" := by decide
  have hfits : s.sec.spdmFits eid 0xE5 arg = true := by simp only [SecBlock.spdmFits, hx, if_true]
  have hstep : s.sec.spdmStep eid 0xE5 leaf
      = { s.sec with exchanges := s.sec.exchanges.filter (· != eid), sessions := s.sec.sessions.put eid leaf } := by
    simp only [SecBlock.spdmStep, Nat.reduceEqDiff, if_false, if_true]
  show execSpdmRequest eid 0xE5 arg leaf true s = _
  simp only [execSpdmRequest, halive, hname, hfits, hstep, Bool.not_true, Bool.and_self, Bool.false_eq_true, if_false, if_true]

theorem exec_credentialExpiry_of_expired {slot now : Nat} {c : Credential} (hc : s.sec.creds.find slot = some c)
    (htime : s.sec.timeChecked = true) (hfresh : c.expired = false) (hpast : c.notAfter < now) :
    exec (.credentialExpiry slot now) s = .next (State.raise { s with now := max s.now now, sec := { s.sec with creds := s.sec.creds.put slot { c with expired := true } } }
      evCredExpired 4 (leBytes 1 slot)) := by
  have hpast' : c.notAfter < max s.now now := Nat.lt_of_lt_of_le hpast (Nat.le_max_right ..)
  show execCredentialExpiry slot now s = _
  simp only [execCredentialExpiry, State.advance_sec, State.advance_now, hc, htime, hfresh, hpast', decide_true,
    Bool.not_false, Bool.and_self, if_true]
  rfl

theorem exec_firstTimeLock_of_started {now n : Nat} (halive : s.alive = true) (hfirst : s.sec.timeChecked = false)
    (hn : s.sec.startNumber = some n) :
    exec (.firstTimeLock now) s = .next { s with now := max s.now now, sec := { s.sec with timeChecked := true } } := by
  have halive' : (s.advance now).alive = true := halive
  show execFirstTimeLock now s = _
  simp only [execFirstTimeLock, halive', State.advance_sec, hfirst, hn, Bool.not_true, Bool.or_self, Bool.false_eq_true, if_false]
  rfl

theorem exec_evtFatalClear_of_passes {path v : Nat} (hp : s.passes path 0x00040004 = true) (h3 : bit v 3 = true) :
    exec (.evtFatalClear path v) s = .next { s with evt := { s.evt with irqEn := bit v 0, irqSev := bits v 1 2, withheld := s.evt.withheld && bit v 0 }, sloe := { s.sloe with latches := List.replicate 6 none } } := by
  refine congrArg Host.Outcome.next ((if_pos h3).trans ((gated_passes hp).trans ?_))
  simp only [State.writeEvtCtrl, h3, if_true]

theorem exec_eventIrqHoldoffExpiry_of_due {now t : Nat} (hw : s.evt.withheld = true) (hen : s.evt.irqEn = true)
    (hlast : s.evt.lastIrq = some t) (hdue : t + 100000 ≤ now) :
    exec (.eventIrqHoldoffExpiry now) s = .next (State.emit { s with now := max s.now now, evt := { s.evt with withheld := false, lastIrq := some (max s.now now) } }
      (.msix 1 64)) := by
  have hdue' : t + 100000 ≤ max s.now now := Nat.le_trans hdue (Nat.le_max_right ..)
  show execEventIrqHoldoffExpiry now s = _
  simp only [execEventIrqHoldoffExpiry, State.advance_evt, State.advance_now, hw, hen, hlast, hdue', decide_true, Bool.and_self, if_true]
  rfl

/-! ## Rails, resets and the start -/

theorem exec_warmReset_of_agreed {cause : Nat} (hrun : s.canRun = true) (h2 : 2 ≤ cause) (h6 : cause ≤ 6) :
    exec (.warmReset cause) s = .next (s.deviceReset false cause) :=
  congrArg Host.Outcome.next (if_pos (by simp only [hrun, decide_eq_true h2, decide_eq_true h6, Bool.and_self]))

theorem exec_mainRailsValid_of_standby {t : State} (hrails : s.sys.rails = false) (hstandby : s.sys.standby = true)
    (ht : s.deviceReset true (if s.pwr.tripped then 1 else s.sys.cause) = t) :
    exec .mainRailsValid s = .next { t with sys := { t.sys with rails := true }, pwr := { t.pwr with tripped := s.pwr.tripped && !s.allSensors (fun _ t => decide (t < 100)) } } := by
  subst ht
  exact congrArg Host.Outcome.next (if_neg (by simp only [hrails, hstandby, Bool.not_true, Bool.or_self, Bool.false_eq_true, not_false_eq_true]))

theorem exec_standbyRailsApply_of_dark {strap : Nat} (hstandby : s.sys.standby = false) (hrails : s.sys.rails = false) :
    exec (.standbyRailsApply strap) s = .next { s with sys := { s.sys with standby := true, strap := bits strap 0 4, cause := 0 }, sloe := { ticksAt := s.now, onRc := true }, upd := { s.upd with sloePending := false, restart := false } } := by
  show execStandbyRailsApply strap s = _
  simp only [execStandbyRailsApply, hstandby, hrails, Bool.false_eq_true, if_false]

theorem exec_standbyRailsRemove_of_standby {t : State} (hstandby : s.sys.standby = true) (ht : s.clearDies true 0 = t) :
    exec .standbyRailsRemove s = .next { t with sys := { t.sys with standby := false, strap := 0 }, sloe := {}, pwr := { t.pwr with tripped := false } } := by
  subst ht
  exact congrArg Host.Outcome.next (if_pos hstandby)

section
variable {k now : Nat} {out : StartOut} {t : State} (hdue : (s.advance now).stepDue k = true)
include hdue

theorem exec_startStepComplete_of_good (ht : (s.advance now).startStep k out = (t, none)) :
    exec (.startStepComplete k now out) s = .next (t.markStep k) := by
  show execStartStepComplete k now out s = _
  simp only [execStartStepComplete, hdue, ht, Bool.not_true, Bool.false_eq_true, if_false]

theorem exec_startStepComplete_of_failed {reason step : Nat} (ht : (s.advance now).startStep k out = (t, some (reason, step))) :
    exec (.startStepComplete k now out) s = .next (t.failStart reason step) := by
  show execStartStepComplete k now out s = _
  simp only [execStartStepComplete, hdue, ht, Bool.not_true, Bool.false_eq_true, if_false]

end

section
variable {now : Nat} (hrun : s.canRun = true)
include hrun

/-- A start that is not ready after 120 s of its own time fails (R508). -/
theorem exec_bootWatchdogExpiry_of_late (hready : s.sys.readyOnce = false) (hpit : s.sys.pit = false) (hflow : s.pwr.flowLow = false)
    (hdue : s.sys.resetAt + 120000000000 + s.sys.suspended ≤ now) :
    exec (.bootWatchdogExpiry now) s = .next ((s.advance now).failStart 8 s.lastStep) := by
  have hrun' : (s.advance now).canRun = true := hrun
  have hdue' : s.sys.resetAt + 120000000000 + s.sys.suspended ≤ max s.now now := Nat.le_trans hdue (Nat.le_max_right ..)
  show execBootWatchdogExpiry now s = _
  simp only [execBootWatchdogExpiry, State.advance_sys, State.advance_pwr, State.advance_now, hrun', hready, hpit, hflow,
    hdue', decide_true, Bool.not_false, Bool.and_self, if_true]
  rfl

/-- A live activation that has not ended after 120 s is taken back (R517). -/
theorem exec_bootWatchdogExpiry_of_activation (hready : s.sys.readyOnce = true) (hact : s.upd.activating.isSome = true)
    (hdue : s.upd.activateAt + 120000000000 ≤ now) :
    exec (.bootWatchdogExpiry now) s = .next (s.advance now).revertActivation := by
  have hrun' : (s.advance now).canRun = true := hrun
  have hdue' : s.upd.activateAt + 120000000000 ≤ max s.now now := Nat.le_trans hdue (Nat.le_max_right ..)
  show execBootWatchdogExpiry now s = _
  simp only [execBootWatchdogExpiry, State.advance_sys, State.advance_upd, State.advance_now, hrun', hready, hact,
    hdue', decide_true, Bool.not_true, Bool.and_false, Bool.false_and, Bool.and_self, Bool.false_eq_true, if_false, if_true]

end

theorem exec_liveActivationReady_of_activating {now : Nat} {w : Waiter} (hw : s.upd.activating = some w) :
    exec (.liveActivationReady now) s = .next ((s.advance now).endActivation w) := by
  show execLiveActivationReady now s = _
  simp only [execLiveActivationReady, State.advance_upd, hw]

end

/-- Settles O20: each clause's premises are what its row tests before it acts. -/
theorem securityAndEventRowsComplete : Obligations.SecurityAndEventRowsComplete := by
  unfold Obligations.SecurityAndEventRowsComplete
  exact ⟨fun _ _ _ hp h14 h15 => exec_secBindStart_of_passes hp h14 h15,
    fun _ _ _ _ hp h14 h15 hn hdue hcred hnew =>
      (exec_secBindGo_of_passes hp h14 h15).trans (congrArg Host.Outcome.next (State.bindGo_of_good hn hdue hcred hnew)),
    fun _ _ _ hp h14 h15 => (exec_secBindGo_of_passes hp h14 h15).trans (congrArg Host.Outcome.next State.bindGo_of_bad_signature),
    fun _ _ _ _ ha hx => exec_spdmRequest_of_finish ha hx,
    fun _ _ _ _ hc ht hf hp => exec_credentialExpiry_of_expired hc ht hf hp,
    fun _ _ _ ha hf hn => exec_firstTimeLock_of_started ha hf hn,
    fun _ _ _ hp h3 => exec_evtFatalClear_of_passes hp h3,
    fun _ _ _ hw he hl hd => exec_eventIrqHoldoffExpiry_of_due hw he hl hd⟩

/-- Settles O22: each clause's premises are what its row tests before it acts; a failed hub unit is taken in any state. -/
theorem resetsAndStartComplete : Obligations.ResetsAndStartComplete := by
  unfold Obligations.ResetsAndStartComplete
  exact ⟨fun _ _ hr h2 h6 => exec_warmReset_of_agreed hr h2 h6,
    fun _ hr => congrArg Host.Outcome.next (if_pos hr),
    fun _ _ hr hs ht => exec_mainRailsValid_of_standby hr hs ht,
    fun _ _ hs hr => exec_standbyRailsApply_of_dark hs hr,
    fun _ _ hs ht => exec_standbyRailsRemove_of_standby hs ht,
    fun _ _ _ _ _ hd ht => exec_startStepComplete_of_good hd ht,
    fun _ _ _ _ _ _ _ hd ht => exec_startStepComplete_of_failed hd ht,
    fun _ _ hr hro hp hf hd => exec_bootWatchdogExpiry_of_late hr hro hp hf hd,
    fun _ _ hr hro ha hd => exec_bootWatchdogExpiry_of_activation hr hro ha hd,
    fun _ _ _ hw => exec_liveActivationReady_of_activating hw,
    fun _ _ => rfl⟩

end Sys2Proof.Machine
end

section
set_option Elab.async false
/-! SUPPORT. Stores to byte memories (R326, R333, R522): a store reads as before outside its bytes, in any memory whose keys rise. -/

namespace Sys2Proof.Machine

variable {s t : State}

/-- A byte outside the stored ones reads as before, also where bytes that read 0 are listed. -/
theorem writeMem_get_of_sorted {m : CMap Byte} (h : m.sorted = true) (a : Nat) (bs : Bytes) (i : Nat) (ho : i < a ∨ a + bs.length ≤ i) :
    (writeMem m a bs).get 0 i = m.get 0 i := by
  induction bs generalizing m a with
  | nil => rfl
  | cons b bs ih =>
    rw [List.length_cons] at ho
    have hne : i ≠ a := by omega
    rw [writeMem, ih (CMap.sorted_set h a b) (a + 1) (by omega), CMap.get_set h, if_neg hne]

/-! ## The update window -/

theorem State.gated_upd_window (path addr : Nat) (f : State → State) :
    (s.gated path addr f).upd = s.upd ∨ (s.gated path addr f).upd = (f s).upd := by
  unfold State.gated
  split
  · exact .inl rfl
  split
  · exact .inl (kept (s.regInvalid_outside (F := eventParts) (List.Subset.refl _) path addr) State.upd)
  · exact .inr rfl

/-- A write of the window leaves it, or stores its four bytes. -/
theorem exec_updWindowWrite_window {path off v : Nat} (he : exec (.updWindowWrite path off v) s = .next t) :
    t.upd.window = s.upd.window ∨ t.upd.window = writeMem s.upd.window off (leBytes 4 v) := by
  obtain rfl := Host.Outcome.next.inj he
  split
  · rcases State.gated_upd_window (s := s) path (updReg (0x10000 + off))
      (fun s => { s with upd := { s.upd with window := writeMem s.upd.window off (leBytes 4 v) } }) with h | h
    · exact .inl (congrArg UpdBlock.window h)
    · exact .inr (congrArg UpdBlock.window h)
  · exact .inl rfl

/-! ## Remote memory requests -/

theorem exec_rmaRequestReceive_of_passes {q : RmaIn} {v : Window} (hv : s.rma.windows.find q.window = some v)
    (hok : rmaCheck (some v) q = 0) : exec (.rmaRequestReceive q) s = .next (s.serveRequest q v) := by
  show execRmaRequestReceive q s = _
  simp only [execRmaRequestReceive, hv, hok]

theorem exec_rmaRequestReceive_of_refused {q : RmaIn} (hbad : rmaCheck (s.rma.windows.find q.window) q ≠ 0) :
    exec (.rmaRequestReceive q) s = .next (s.refuseRequest q (rmaCheck (s.rma.windows.find q.window) q)) := by
  refine congrArg Host.Outcome.next ?_
  split
  next h => exact absurd h hbad
  next => rfl

theorem State.serveRequest_mem_of_write {q : RmaIn} {v : Window} (hw : q.isWrite = true) :
    (s.serveRequest q v).mem
      = (s.writeChain (cellRef v.pool v.cell) (v.offset + q.offset) ((q.data ++ zeros (q.length - q.data.length)).take q.length)).mem := by
  simp only [State.serveRequest, hw, if_true, State.emit_mem, State.bump64_mem]

theorem State.serveRequest_mem_of_read {q : RmaIn} {v : Window} (hr : q.isWrite = false) : (s.serveRequest q v).mem = s.mem := by
  simp only [State.serveRequest, hr, Bool.false_eq_true, if_false, State.emit_mem, State.bump64_mem]

/-- A refused request changes no memory. -/
theorem State.refuseRequest_mem (q : RmaIn) (status : Nat) : (s.refuseRequest q status).mem = s.mem :=
  kept (s.refuseRequest_outside (F := eventParts) (List.Subset.refl _) q status) State.mem

/-- A store to one chain leaves every byte of every chain outside the stored ones as it reads. -/
theorem State.writeChain_get {r off k a : Nat} {data : Bytes} {c : Chain} (hsorted : c.bytes.sorted = true)
    (hc : s.mem.chains.find k = some c) (ho : k = r → a < off ∨ off + data.length ≤ a) :
    ∃ d, (s.writeChain r off data).mem.chains.find k = some d ∧ d.bytes.get 0 a = c.bytes.get 0 a := by
  unfold State.writeChain
  split
  next e he =>
    rw [show s.chain r = s.mem.chains.find r from rfl] at he
    by_cases hk : k = r
    · subst hk
      obtain rfl : c = e := Option.some.inj (hc.symm.trans he)
      exact ⟨_, (CMap.find_put ..).trans (if_pos rfl), writeMem_get_of_sorted hsorted off data a (ho rfl)⟩
    · exact ⟨c, ((CMap.find_put ..).trans (if_neg hk)).trans hc, rfl⟩
  next => exact ⟨c, hc, rfl⟩

/-- Settles O43: a store reads as before outside its bytes, and a request that is read or refused stores nothing. -/
theorem storesTouchOnlyTheirBytes : Obligations.StoresTouchOnlyTheirBytes := by
  unfold Obligations.StoresTouchOnlyTheirBytes
  refine ⟨fun path off v a s t hs he ho => ?_, fun q v k a c s t _ hb hv hok he hc ho => ?_, fun q s t hbad he => ?_⟩
  · rcases exec_updWindowWrite_window he with h | h
    · rw [h]
    · rw [h]
      exact writeMem_get_of_sorted hs off (leBytes 4 v) a ho
  · obtain rfl := Host.Outcome.next.inj ((exec_rmaRequestReceive_of_passes hv hok).symm.trans he)
    cases hw : q.isWrite with
    | false =>
      rw [State.serveRequest_mem_of_read hw]
      exact ⟨c, hc, rfl⟩
    | true =>
      rw [State.serveRequest_mem_of_write hw]
      refine State.writeChain_get hb hc (fun hk => ?_)
      have hlength : ((q.data ++ zeros (q.length - q.data.length)).take q.length).length = q.length := by
        simp only [zeros, List.length_take, List.length_append, List.length_replicate]
        omega
      rw [hlength]
      exact ho ⟨hw, hk⟩
  · obtain rfl := Host.Outcome.next.inj ((exec_rmaRequestReceive_of_refused hbad).symm.trans he)
    exact State.refuseRequest_mem q _

end Sys2Proof.Machine
end

section
set_option Elab.async false
/-! SUPPORT. The footprints of the power, clock, stop and test operations (R125, R476, R486, R541, R549): what each leaves outside its
footprint as it was. -/

namespace Sys2Proof.Machine

variable {F : Footprint} (s : State)

theorem State.outside_samples (h : .samples ∈ F) (x : List Sample) : State.outside F { s with samples := x } = s.outside F := by
  simp only [State.outside, Footprint.pick_of_mem h]

/-! ## Power, tokens and test slices -/

section
variable (h : .pwr ∈ F)
include h
theorem State.takeBudget_outside (w : Nat) : (s.takeBudget w).outside F = s.outside F := s.outside_pwr h _
theorem State.updDomain_outside (d : Nat) (f : Domain → Domain) : (s.updDomain d f).outside F = s.outside F := s.outside_pwr h _
theorem State.updMonitor_outside (m : Nat) (f : ClockMon → ClockMon) : (s.updMonitor m f).outside F = s.outside F := s.outside_pwr h _
theorem State.sense_outside (i : Nat) (t : Int) : (s.sense i t).outside F = s.outside F := s.outside_pwr h _
theorem State.requestTokens_outside (key n : Nat) : (s.requestTokens key n).outside F = s.outside F := s.outside_pwr h _
theorem State.returnTokens_outside (key : Nat) : (s.returnTokens key).outside F = s.outside F := s.outside_pwr h _
theorem State.domainsOff_outside (f : Nat → Bool) : (s.domainsOff f).outside F = s.outside F := s.outside_pwr h _
theorem State.chooseStep_outside : s.chooseStep.outside F = s.outside F := by
  simp only [State.chooseStep, apply_ite (State.outside F), s.outside_pwr h, ite_self]
theorem State.noteCool_outside : s.noteCool.outside F = s.outside F := by
  simp only [State.noteCool, apply_ite (State.outside F), s.outside_pwr h, ite_self]
theorem State.flowLost_outside : s.flowLost.outside F = s.outside F := by
  simp only [State.flowLost, apply_ite (State.outside F), s.outside_pwr h, ite_self]
theorem State.applyHold_outside : s.applyHold.outside F = s.outside F := by
  unfold State.applyHold
  split
  · exact s.outside_pwr h _
  · rfl
theorem State.postWork_outside (d : Nat) : (s.postWork d).outside F = s.outside F := by
  simp only [State.postWork, apply_ite (State.outside F), State.requestTokens_outside _ h, s.updDomain_outside h, ite_self]
end

section
variable (h : .tst ∈ F)
include h
theorem State.addSlice_outside (n cls idx : Nat) (forRun : Bool) : (s.addSlice n cls idx forRun).outside F = s.outside F := s.outside_tst h _
theorem State.beginRun_outside (w : Waiter) (left : CMap Nat) : (s.beginRun w left).outside F = s.outside F := s.outside_tst h _
theorem State.slicePasses_outside (v : Slice) : (s.slicePasses v).outside F = s.outside F := by
  simp only [State.slicePasses, apply_ite (State.outside F), s.outside_tst h, ite_self]
end

/-- What a test slice that starts or is taken off its engine can change (R549). -/
def sliceParts : Footprint := [.mem, .pwr, .tst, .counters]

theorem State.abortSlices_outside (h : sliceParts ⊆ F) (f : Slice → Bool) : (s.abortSlices f).outside F = s.outside F := by
  refine State.outside_mono h ?_
  refine (State.foldl_outside (fun s v => ?_) _ _).trans (s.outside_tst (by decide) _)
  simp (disch := decide) only [apply_ite (State.outside _), State.returnTokens_outside, State.setBank_outside, State.bump_outside, ite_self]

theorem State.startEngineSlice_outside (h : sliceParts ⊆ F) (n cls idx : Nat) : (s.startEngineSlice n cls idx).outside F = s.outside F := by
  refine State.outside_mono h ?_
  simp (disch := decide) only [State.startEngineSlice, apply_ite (State.outside _), State.requestTokens_outside, State.addSlice_outside,
    State.postWork_outside, ite_self]

theorem State.startRegion_outside (h : sliceParts ⊆ F) (die b : Nat) : (s.startRegion die b).outside F = s.outside F :=
  (State.setBank_outside _ (h (by decide)) _ _ _).trans (s.addSlice_outside (h (by decide)) _ _ _ _)

theorem State.sliceLeaves_outside (h : sliceParts ⊆ F) (v : Slice) : (s.sliceLeaves v).outside F = s.outside F := by
  refine State.outside_mono h ?_
  simp (disch := decide) only [State.sliceLeaves, apply_ite (State.outside _), State.returnTokens_outside, State.setBank_outside,
    State.outside_tst, ite_self]

theorem State.sliceCounts_outside (h : sliceParts ⊆ F) (key : Nat) : (s.sliceCounts key).outside F = s.outside F := by
  refine State.outside_mono h ?_
  simp (disch := decide) only [State.sliceCounts, apply_ite (State.outside _), State.bump64_outside, State.outside_tst, ite_self]

/-- What the work of an engine can change when it starts, ends or is taken off (R131). -/
def workParts : Footprint := .samples :: .cxe :: sliceParts

theorem State.release_outside (h : workParts ⊆ F) (i : Nat) : (s.release i).outside F = s.outside F := by
  refine State.outside_mono h ?_
  unfold State.release
  split
  · rfl
  split
  · rfl
  · refine (State.outside_tst _ (by decide) _).trans ((State.updDomain_outside _ (by decide) _ _).trans ?_)
    split
    · rfl
    · exact State.returnTokens_outside { s with samples := _ } (by decide) _

theorem State.abandonStages_outside (h : workParts ⊆ F) (n cls idx : Nat) : (s.abandonStages n cls idx).outside F = s.outside F := by
  unfold State.abandonStages
  simp only [apply_ite (State.outside F), State.outside_cxe _ (h (by decide)), ite_self]
  refine State.foldl_outside (fun s i => ?_) _ s
  split
  · simp only [apply_ite (State.outside F), State.release_outside s h, ite_self]
  · rfl

theorem State.assign_outside (h : workParts ⊆ F) (i cls idx : Nat) : (s.assign i cls idx).outside F = s.outside F := by
  refine State.outside_mono h ?_
  unfold State.assign
  split
  · rfl
  · refine (State.postWork_outside _ (by decide) _).trans ?_
    split
    · exact (State.requestTokens_outside _ (by decide) _ _).trans (s.abortSlices_outside (by decide) _)
    · exact s.abortSlices_outside (by decide) _

theorem State.schedule_outside (h : workParts ⊆ F) (n : Nat) : (s.schedule n).outside F = s.outside F := by
  unfold State.schedule
  split
  · rfl
  refine State.foldl_outside (fun s i => ?_) _ s
  split
  · split
    · split
      · split
        · exact s.assign_outside h _ _ _
        · rfl
      · rfl
    · rfl
  · rfl

/-! ## Clocks, held frequencies and sleeping tiles -/

/-- What a change of the clocks and of the held frequency can change (R476, R365). -/
def clockParts : Footprint := .net :: .nvme :: .pwr :: eventParts

theorem State.evaluateHeld_outside (h : clockParts ⊆ F) (k : Nat × Nat) : (s.evaluateHeld k).outside F = s.outside F := by
  refine State.outside_mono h ?_
  simp (disch := decide) only [State.evaluateHeld, apply_ite (State.outside _), State.raise_outside, State.bump_outside, State.outside_pwr,
    ite_self]

theorem State.latchOnly_outside (h : clockParts ⊆ F) (k : EvKind) (die : Nat) (detail : Bytes) :
    (s.latchOnly k die detail).outside F = s.outside F :=
  (State.outside_sloe _ (h (by decide)) _).trans (s.bump64_outside (h (by decide)) _ _)

theorem State.setHold_outside (h : clockParts ⊆ F) (jobId mhz : Nat) : (s.setHold jobId mhz).outside F = s.outside F := by
  refine State.outside_mono h ?_
  simp (disch := decide) only [State.setHold, apply_ite (State.outside _), State.raise_outside, State.applyHold_outside, State.outside_pwr,
    ite_self]

theorem State.hostLinkDown_outside (h : .nvme ∈ F) : s.hostLinkDown.outside F = s.outside F := s.outside_nvme h _

theorem State.sloeClock_outside (h : .sloe ∈ F) (rc : Bool) : (s.sloeClock rc).outside F = s.outside F := s.outside_sloe h _

theorem State.ethDie_outside (h : .net ∈ F) (d st : Nat) : (s.ethDie d st).outside F = s.outside F := s.outside_net h _

theorem State.dieStops_outside (h : clockParts ⊆ F) (d st : Nat) : (s.dieStops d st).outside F = s.outside F := by
  refine State.outside_mono h ?_
  simp (disch := decide) only [State.dieStops, apply_ite (State.outside _), State.ethDie_outside,
    State.foldl_outside (fun s f => State.portStops_outside s (F := clockParts) (by decide) f st), ite_self]

theorem State.serdesLost_outside (h : clockParts ⊆ F) (m : Nat) (used : Bool) : (s.serdesLost m used).outside F = s.outside F := by
  refine State.outside_mono h ?_
  simp (disch := decide) only [State.serdesLost, apply_ite (State.outside _), State.dieStops_outside, State.outside_pwr,
    State.updMonitor_outside, ite_self]

theorem State.clockLost_outside (h : clockParts ⊆ F) (m : Nat) (used : Bool) : (s.clockLost m used).outside F = s.outside F := by
  unfold State.clockLost
  split
  · exact s.outside_pwr (h (by decide)) _
  · exact s.hostLinkDown_outside (h (by decide))
  · exact s.sloeClock_outside (h (by decide)) true
  · exact s.serdesLost_outside h m used

theorem State.serdesBack_outside (h : clockParts ⊆ F) (m : Nat) : (s.serdesBack m).outside F = s.outside F := by
  refine State.outside_mono h ?_
  simp (disch := decide) only [State.serdesBack, apply_ite (State.outside _), State.ethDie_outside,
    State.foldl_outside (fun s f => State.updPort_outside s (F := clockParts) (by decide) f _), State.outside_pwr,
    State.updMonitor_outside, ite_self]

theorem State.clockBack_outside (h : clockParts ⊆ F) (m : Nat) : (s.clockBack m).outside F = s.outside F := by
  have hp : .pwr ∈ F := h (by decide)
  unfold State.clockBack
  split
  · exact (State.outside_pwr _ hp _).trans (s.updMonitor_outside hp _ _)
  · exact s.updMonitor_outside hp _ _
  · exact (State.sloeClock_outside _ (h (by decide)) _).trans (s.updMonitor_outside hp _ _)
  · exact s.serdesBack_outside h m

theorem State.noteAsleep_outside (h : .tiles ∈ F) (n : Nat) : (s.noteAsleep n).outside F = s.outside F := by
  simp only [State.noteAsleep, apply_ite (State.outside F), s.outside_tiles h, ite_self]

/-- What emptying a tile's reference frames can change (R125). -/
def frameParts : Footprint := .tiles :: bankParts

theorem State.dropRefs_outside (h : frameParts ⊆ F) (n : Nat) (gone : List RefFrame) : (s.dropRefs n gone).outside F = s.outside F := by
  refine State.outside_mono h ?_
  refine (State.foldl_outside (fun s r => ?_) gone _).trans (s.outside_tiles (by decide) _)
  simp (disch := decide) only [apply_ite (State.outside _), State.freeChain_outside, ite_self]

theorem State.emptyRefs_outside (h : frameParts ⊆ F) (n : Nat) : (s.emptyRefs n).outside F = s.outside F :=
  (State.outside_tiles _ (h (by decide)) _).trans (s.dropRefs_outside h n _)

theorem State.emptyCache_outside (h : frameParts ⊆ F) (d : Nat) : (s.emptyCache d).outside F = s.outside F := by
  simp only [State.emptyCache, apply_ite (State.outside F), State.emptyRefs_outside _ h, ite_self]

/-! ## Jobs and media at a stop -/

/-- What dropping the jobs of a device that stops can change (R456, R486). -/
def haltParts : Footprint := .jobs :: .loads :: .samples :: .cxe :: .pwr :: .tst :: .mem :: packetParts

theorem State.returnResv_outside (h : bankParts ⊆ F) (p n : Nat) : (s.returnResv p n).outside F = s.outside F :=
  (State.poolChanged_outside _ h p).trans (s.setPool_outside (h (by decide)) p _)

theorem State.endSamples_outside (h : haltParts ⊆ F) (slot : Nat) : (s.endSamples slot).outside F = s.outside F := by
  refine State.outside_mono h ?_
  refine (State.foldl_outside (fun s x => ?_) _ _).trans ((State.outside_samples _ (by decide) _).trans (State.foldl_outside (fun s i => ?_) _ s))
  · split
    · exact s.returnResv_outside (by decide) _ _
    · rfl
  · split
    · simp (disch := decide) only [apply_ite (State.outside _), State.release_outside, ite_self]
    · rfl

theorem State.markLeft_outside (h : .mem ∈ F) (slot : Nat) : (s.markLeft slot).outside F = s.outside F := s.outside_mem h _

theorem State.dropJob_outside (h : haltParts ⊆ F) (slot : Nat) : (s.dropJob slot).outside F = s.outside F := by
  refine State.outside_mono h ?_
  unfold State.dropJob
  split
  · refine (State.markLeft_outside _ (by decide) slot).trans ?_
    exact (State.foldl_outside (fun s p => s.releasePlan_outside (by decide) p) _ _).trans (s.endSamples_outside (by decide) slot)
  · rfl

theorem State.releaseWaiters_outside (h : packetParts ⊆ F) (slot : Nat) : (s.releaseWaiters slot).outside F = s.outside F := by
  unfold State.releaseWaiters
  split
  · refine (State.finishAll_outside _ h _ _).trans ((State.finishAll_outside _ h _ _).trans ?_)
    split
    · simp only [apply_ite (State.outside F), State.finishAll_outside _ h, ite_self]
    · exact State.finishAll_outside _ h _ _
  · rfl

theorem State.leaveJobs_outside (h : haltParts ⊆ F) : s.leaveJobs.outside F = s.outside F :=
  State.foldl_outside (fun s k => (State.dropJob_outside _ h k).trans (s.releaseWaiters_outside (List.Subset.trans (by decide) h) k)) _ s

/-- What a stop of the engines can change (R486, R549). -/
def stopParts : Footprint := .net :: .tiles :: haltParts

theorem State.outside_engines (h : [.tiles, .cxe, .net, .pwr] ⊆ F) (a : List Tile) (b : CxeBlock) (c : NetBlock) (d : PwrBlock) :
    State.outside F { s with tiles := a, cxe := b, net := c, pwr := d } = s.outside F :=
  State.outside_mono h rfl

theorem State.stopEngines_outside (h : stopParts ⊆ F) : s.stopEngines.outside F = s.outside F := by
  refine State.outside_mono h ?_
  simp (disch := decide) only [State.stopEngines, State.outside_engines,
    State.foldl_outside (f := State.emptyRefs) (fun s n => s.emptyRefs_outside (F := stopParts) (by decide) n), State.domainsOff_outside,
    State.finishAll_outside, State.abortSlices_outside, State.leaveJobs_outside]

theorem State.latchStop_outside (h : clockParts ⊆ F) : s.latchStop.outside F = s.outside F := by
  refine State.outside_mono h ?_
  exact (State.outside_pwr { s.latchOnly evCoolantStop 7 [] with sloe := _ } (by decide) _).trans
    ((State.outside_sloe _ (by decide) _).trans (s.latchOnly_outside (by decide) _ _ _))

theorem State.beginFlush_outside (h : .med ∈ F) (kind : Nat) : (s.beginFlush kind).outside F = s.outside F := s.outside_med h _

theorem State.stopFlush_outside (h : .med ∈ F) : s.stopFlush.outside F = s.outside F := by
  simp only [State.stopFlush, apply_ite (State.outside F), s.beginFlush_outside h, ite_self]

theorem State.endFlush_outside (h : mediaParts ⊆ F) : s.endFlush.outside F = s.outside F := by
  refine State.outside_mono h ?_
  refine (State.raise_outside _ (by decide) _ _ _).trans ((State.outside_med _ (by decide) _).trans ((State.outside_med _ (by decide) _).trans ?_))
  exact (State.journalFlush_outside _ (by decide)).trans (State.foldl_outside (fun s p => s.pieceDone_outside (by decide) p) _ s)

theorem State.loseDirty_outside (h : .med ∈ F) : s.loseDirty.outside F = s.outside F :=
  State.foldl_outside (f := State.losePiece) (fun s _ => s.outside_med h _) _ s

/-! ## Engines marked out and test runs -/

theorem State.writeBypass_outside (h : [.set, .upd] ⊆ F) (n cls : Nat) : (s.writeBypass n cls).outside F = s.outside F := by
  simp only [State.writeBypass, apply_ite (State.outside F), s.writeSetting_outside h, ite_self]

/-- What a fault of an engine and the end of a test run can change (R127, R546). -/
def engineParts : Footprint := .net :: .tiles :: .set :: .upd :: workParts ++ packetParts

theorem State.markOut_outside (h : engineParts ⊆ F) (n cls idx : Nat) : (s.markOut n cls idx).outside F = s.outside F := by
  refine State.outside_mono h ?_
  simp (disch := decide) only [State.markOut, State.schedule_outside, State.abandonStages_outside, State.abortSlices_outside,
    State.writeBypass_outside, State.updTile_outside]

theorem State.engineFault_outside (h : engineParts ⊆ F) (n cls idx : Nat) : (s.engineFault n cls idx).outside F = s.outside F := by
  refine State.outside_mono h ?_
  simp (disch := decide) only [State.engineFault, apply_ite (State.outside _), State.raise_outside, State.markOut_outside, ite_self]

theorem State.endRun_outside (h : engineParts ⊆ F) (r : TestRun) : (s.endRun r).outside F = s.outside F := by
  refine State.outside_mono h ?_
  simp (disch := decide) only [State.endRun, apply_ite (State.outside _), State.startAudit_outside, State.finish_outside,
    State.schedule_outside, State.writeBypass_outside, State.updTile_outside, State.raise_outside, ite_self]

theorem State.countRuns_outside (h : engineParts ⊆ F) (key : Nat) (ok : Bool) : (s.countRuns key ok).outside F = s.outside F :=
  (State.foldl_outside (fun s r => s.endRun_outside h r) _ _).trans (s.outside_tst (h (by decide)) _)

theorem State.poison_outside (h : engineParts ⊆ F) (die b row : Nat) : (s.poison die b row).outside F = s.outside F :=
  (State.raise_outside _ (List.Subset.trans (by decide) h) _ _ _).trans (s.outside_mem (h (by decide)) _)

theorem State.sliceFails_outside (h : engineParts ⊆ F) (v : Slice) (sub col : Nat) : (s.sliceFails v sub col).outside F = s.outside F := by
  refine State.outside_mono h ?_
  simp (disch := decide) only [State.sliceFails, apply_ite (State.outside _), State.engineFault_outside, State.outside_tst,
    State.raise_outside, State.updPort_outside, State.setBank_outside, State.bump_outside, ite_self]

end Sys2Proof.Machine
end

section
set_option Elab.async false
/-! SUPPORT. The frames of the power, stop and test rows (R125, R476, R486, R541, R549): what each command's own effect changes, the
footprint of each family, and what lies outside it. -/

namespace Sys2Proof.Machine

/-! ## The effects of the power and test commands -/

section
variable {F : Footprint} (w : Waiter) (x : CmdIn) (s : State)

theorem ownBudgetSet_within (h : .pwr ∈ F) : (ownBudgetSet w x s).within F s :=
  Own.holds_ite_refuse (P := fun t => t.outside F = s.outside F) (s.takeBudget_outside h _)

theorem ownFreqAnnounce_within (h : .pwr ∈ F) : (ownFreqAnnounce w x s).within F s := by
  unfold ownFreqAnnounce
  dsimp only
  split
  · trivial
  · repeat' apply Own.holds_ite_refuse
    exact s.outside_pwr h _

theorem ownRestartAfterStop_within (h : [.pwr, .sys, .med] ⊆ F) : (ownRestartAfterStop w x s).within F s := by
  unfold ownRestartAfterStop
  split
  · exact rfl
  · exact State.outside_mono h
      (State.foldl_outside (f := fun s d => s.updDomain d (fun k => { k with on := true })) (fun _ _ => rfl) [24, 25, 26, 32, 33, 34, 35] s)

theorem ownTestRun_within (h : .tst ∈ F) : (ownTestRun w x s).within F s := by
  have hrun : ∀ {c : Prop} [Decidable c] (l : CMap Nat), (if c then Own.run (s.beginRun w l) else .refuse (targetInvalid 8)).within F s :=
    fun l => by
      split
      · exact s.beginRun_outside h _ _
      · trivial
  unfold ownTestRun
  dsimp only
  split
  · exact hrun _
  · exact hrun _
  · exact hrun _
  · trivial

theorem ownEngineBypass_within (h : engineParts ⊆ F) : (ownEngineBypass w x s).within F s := by
  unfold ownEngineBypass
  dsimp only
  split
  · exact s.beginRun_outside (h (by decide)) _ _
  · exact Own.holds_ite_refuse (P := fun t => t.outside F = s.outside F) (s.markOut_outside h _ _ _)
  · trivial

theorem ownTileDrain_within (h : .tiles ∈ F) : (ownTileDrain w x s).within F s := by
  unfold ownTileDrain
  dsimp only
  split
  · exact rfl
  split
  · exact s.updTile_outside h _ _
  split
  · exact (State.updTile_outside _ h _ _).trans (s.beginDrain_outside h _)
  · trivial

theorem ownTileRejoin_within (h : .tiles ∈ F) : (ownTileRejoin w x s).within F s := by
  unfold ownTileRejoin
  split
  · exact s.rejoin_outside h _
  · trivial

end

/-! ## The rows -/

section
variable {F : Footprint} (s : State)
theorem State.outside_sys_pwr (h : [.sys, .pwr] ⊆ F) (x : SysBlock) (y : PwrBlock) :
    State.outside F { s with sys := x, pwr := y } = s.outside F := State.outside_mono h rfl
theorem State.outside_sys_med_pwr (h : [.sys, .med, .pwr] ⊆ F) (x : SysBlock) (y : MedBlock) (z : PwrBlock) :
    State.outside F { s with sys := x, med := y, pwr := z } = s.outside F := State.outside_mono h rfl
theorem State.outside_sloe_med (h : [.sloe, .med] ⊆ F) (x : SloeBlock) (y : MedBlock) :
    State.outside F { s with sloe := x, med := y } = s.outside F := State.outside_mono h rfl
end

/-- What the power and clock rows can change. -/
def powerRowParts : Footprint := .now :: .sec :: .cmd :: .tiles :: clockParts ++ sliceParts

/-- What the rows of stops and power failures can change. -/
def stopRowParts : Footprint := .sys :: .med :: .nvme :: stopParts

/-- What the tile and test rows can change. -/
def testRowParts : Footprint := .now :: engineParts

variable {i : Instr} {s t : State}

/-- A row of the power family leaves every part outside its footprint as it was. -/
theorem exec_outside_of_power (hi : family i = .power) (he : exec i s = .next t) : t.outside powerRowParts = s.outside powerRowParts := by
  cases i
  case budgetSet x => exact outside_of_packet (ownBudgetSet_within · x · (by decide)) (by decide) he
  case freqAnnounce x => exact outside_of_packet (ownFreqAnnounce_within · x · (by decide)) (by decide) he
  case currantTokenRefresh now =>
    obtain rfl := Host.Outcome.next.inj he
    rfl
  case tokenGrant =>
    obtain rfl := Host.Outcome.next.inj he
    split
    · rfl
    · simp (disch := decide) only [apply_ite (State.outside _), State.outside_pwr, ite_self]
  case clockStepEvaluation now avg avg10 out =>
    obtain rfl := Host.Outcome.next.inj he
    dsimp only
    split <;>
      simp (disch := decide) only [apply_ite (State.outside _), State.evaluateHeld_outside, State.chooseStep_outside, State.bump64_outside,
        State.outside_pwr, State.advance_outside, ite_self]
  case thermalLimitUpdate now readings =>
    obtain rfl := Host.Outcome.next.inj he
    simp (disch := decide) only [State.refreshWarning_outside, State.noteCool_outside, State.outside_pwr, State.advance_outside]
  case peakClamp us =>
    obtain rfl := Host.Outcome.next.inj he
    simp (disch := decide) only [apply_ite (State.outside _), State.raise_outside, State.outside_pwr, ite_self]
  case boostEnd idx temp =>
    obtain rfl := Host.Outcome.next.inj he
    simp (disch := decide) only [apply_ite (State.outside _), State.raise_outside, State.outside_pwr, State.refreshWarning_outside,
      State.noteCool_outside, State.sense_outside, ite_self]
  case boostCooldownStep now =>
    obtain rfl := Host.Outcome.next.inj he
    simp (disch := decide) only [apply_ite (State.outside _), State.outside_pwr, State.advance_outside, ite_self]
  case boostRearm now =>
    obtain rfl := Host.Outcome.next.inj he
    split <;> simp (disch := decide) only [apply_ite (State.outside _), State.outside_pwr, State.advance_outside, ite_self]
  case thermtrip idx temp =>
    obtain rfl := Host.Outcome.next.inj he
    split
    · have hlatch := (State.latchOnly_outside (s.sense idx temp) (F := powerRowParts) (by decide) evThermtrip (sensorDie idx) (leBytes 1 idx)).trans
        (s.sense_outside (by decide) idx temp)
      exact (State.outside_pwr { State.latchOnly _ _ _ _ with sloe := _ } (by decide) _).trans ((State.outside_sloe _ (by decide) _).trans hlatch)
    · rfl
  case prochotChange low =>
    obtain rfl := Host.Outcome.next.inj he
    rfl
  case heldFreqTimeReached jobId now =>
    obtain rfl := Host.Outcome.next.inj he
    split
    · split <;> simp (disch := decide) only [apply_ite (State.outside _), State.setHold_outside, State.advance_outside, ite_self]
    · exact s.advance_outside (by decide) _
  case heldModeLeft now =>
    obtain rfl := Host.Outcome.next.inj he
    dsimp only
    split <;>
      simp (disch := decide) only [apply_ite (State.outside _), State.raise_outside, State.bump_outside, State.applyHold_outside,
        State.outside_pwr, State.advance_outside, ite_self]
  case domainIdleTimer d now =>
    obtain rfl := Host.Outcome.next.inj he
    simp (disch := decide) only [apply_ite (State.outside _), State.updDomain_outside, State.advance_outside, ite_self]
  case domainPowerDownCommit d work now =>
    obtain rfl := Host.Outcome.next.inj he
    simp (disch := decide) only [apply_ite (State.outside _), State.noteAsleep_outside, State.emptyCache_outside, State.updDomain_outside,
      State.abortSlices_outside, State.postWork_outside, State.advance_outside, ite_self]
  case domainWakeComplete d =>
    obtain rfl := Host.Outcome.next.inj he
    simp (disch := decide) only [apply_ite (State.outside _), State.outside_tiles, State.returnTokens_outside, State.updDomain_outside,
      ite_self]
  case clkLoss m now =>
    obtain rfl := Host.Outcome.next.inj he
    simp (disch := decide) only [apply_ite (State.outside _), State.clockLost_outside, State.raise_outside, State.bump_outside,
      State.updMonitor_outside, State.advance_outside, ite_self]
  case clkRestored m ppm =>
    obtain rfl := Host.Outcome.next.inj he
    simp (disch := decide) only [apply_ite (State.outside _), State.clockBack_outside, State.raise_outside, State.updMonitor_outside,
      ite_self]
  case clkHoldoverExpiry now =>
    obtain rfl := Host.Outcome.next.inj he
    split <;> simp (disch := decide) only [apply_ite (State.outside _), State.raise_outside, State.advance_outside, ite_self]
  case pldmBudget w =>
    obtain rfl := Host.Outcome.next.inj he
    simp (disch := decide) only [apply_ite (State.outside _), State.takeBudget_outside, ite_self]
  case pmbusRead rail mv ma temp =>
    obtain rfl := Host.Outcome.next.inj he
    rfl
  case currentSensorSample w =>
    obtain rfl := Host.Outcome.next.inj he
    rfl
  all_goals exact nomatch hi

/-- A row of the stops family leaves every part outside its footprint as it was. -/
theorem exec_outside_of_stops (hi : family i = .stops) (he : exec i s = .next t) : t.outside stopRowParts = s.outside stopRowParts := by
  cases i
  case restartAfterStop x => exact outside_of_packet (ownRestartAfterStop_within · x · (by decide)) (by decide) he
  case coolantStop =>
    obtain rfl := Host.Outcome.next.inj he
    simp (disch := decide) only [apply_ite (State.outside _), State.flowLost_outside, State.stopFlush_outside, State.stopEngines_outside,
      State.latchStop_outside, ite_self]
  case coolantFlowReturn =>
    obtain rfl := Host.Outcome.next.inj he
    unfold State.flowBack
    split <;> rfl
  case coolantFlushEnd done =>
    obtain rfl := Host.Outcome.next.inj he
    simp (disch := decide) only [apply_ite (State.outside _), State.outside_sys_pwr, State.domainsOff_outside, State.endFlush_outside,
      State.loseDirty_outside, State.outside_sloe_med, ite_self]
  case pwrFailAssert =>
    obtain rfl := Host.Outcome.next.inj he
    simp (disch := decide) only [apply_ite (State.outside _), State.beginFlush_outside, State.stopEngines_outside, State.outside_pwr,
      ite_self]
  case holdupFlushComplete powerBack =>
    obtain rfl := Host.Outcome.next.inj he
    simp (disch := decide) only [apply_ite (State.outside _), State.outside_sys_med_pwr, State.endFlush_outside, ite_self]
  all_goals exact nomatch hi

/-- A row of the tests family leaves every part outside its footprint as it was. -/
theorem exec_outside_of_tests (hi : family i = .tests) (he : exec i s = .next t) : t.outside testRowParts = s.outside testRowParts := by
  cases i
  case testRun x => exact outside_of_packet (ownTestRun_within · x · (by decide)) (by decide) he
  case engineBypass x => exact outside_of_packet (ownEngineBypass_within · x · (by decide)) (by decide) he
  case tileDrain x => exact outside_of_packet (ownTileDrain_within · x · (by decide)) (by decide) he
  case tileRejoin x => exact outside_of_packet (ownTileRejoin_within · x · (by decide)) (by decide) he
  case tschDrain path tile v =>
    obtain rfl := Host.Outcome.next.inj he
    rw [apply_ite (State.outside _), s.gated_outside (by decide) (fun s => s.writeTschCtrl_outside (by decide) _ _ _), ite_self]
  case tschRejoin path tile v =>
    obtain rfl := Host.Outcome.next.inj he
    rw [apply_ite (State.outside _), s.gated_outside (by decide) (fun s => s.writeTschCtrl_outside (by decide) _ _ _), ite_self]
  case tileDrained tile =>
    obtain rfl := Host.Outcome.next.inj he
    simp (disch := decide) only [apply_ite (State.outside _), State.finishAll_outside, State.emptyRefs_outside, State.updTile_outside,
      ite_self]
  case tstCtrlWrite path v =>
    obtain rfl := Host.Outcome.next.inj he
    exact s.gated_outside (by decide) (fun s => s.outside_tst (by decide) _) _ _
  case testSliceStart tile cls idx now =>
    obtain rfl := Host.Outcome.next.inj he
    simp (disch := decide) only [apply_ite (State.outside _), State.startEngineSlice_outside, State.addSlice_outside,
      State.startRegion_outside, State.advance_outside, ite_self]
  case testSliceComplete tile cls idx ok sub col ue now =>
    obtain rfl := Host.Outcome.next.inj he
    dsimp only
    split
    · exact s.advance_outside (by decide) _
    split
    · exact s.advance_outside (by decide) _
    · cases ue <;>
        simp (disch := decide) only [apply_ite (State.outside _), State.countRuns_outside, State.sliceCounts_outside, State.poison_outside,
          State.slicePasses_outside, State.sliceFails_outside, State.sliceLeaves_outside, State.advance_outside, ite_self]
  case testDomainWakeTimer d now =>
    obtain rfl := Host.Outcome.next.inj he
    simp (disch := decide) only [apply_ite (State.outside _), State.postWork_outside, State.outside_tst, State.advance_outside, ite_self]
  case engineSelfFault tile cls idx =>
    obtain rfl := Host.Outcome.next.inj he
    simp (disch := decide) only [apply_ite (State.outside _), State.engineFault_outside, ite_self]
  all_goals exact nomatch hi

/-- Settles O47: the parts named lie outside each family's footprint. -/
theorem powerStopTestRowsFrame : Obligations.PowerStopTestRowsFrame := by
  unfold Obligations.PowerStopTestRowsFrame
  refine ⟨fun i s t hi he => ?_, fun i s t hi he => ?_, fun i s t hi he => ?_⟩
  · have h := exec_outside_of_power hi he
    exact ⟨kept h State.fresh, kept h State.sys, kept h State.upd, kept h State.set, kept h State.run, kept h State.brm,
      kept h State.jobs, kept h State.recipes, kept h State.models, kept h State.vocabs, kept h State.grammars, kept h State.loads,
      kept h State.samples, kept h State.cxe, kept h State.rma, kept h State.med, kept h State.snaps, kept h State.shadows,
      kept h State.pending⟩
  · have h := exec_outside_of_stops hi he
    exact ⟨kept h State.fresh, kept h State.now, kept h State.upd, kept h State.set, kept h State.run, kept h State.brm,
      kept h State.recipes, kept h State.models, kept h State.vocabs, kept h State.grammars, kept h State.rma, kept h State.snaps,
      kept h State.shadows, kept h State.pending⟩
  · have h := exec_outside_of_tests hi he
    exact ⟨kept h State.fresh, kept h State.sys, kept h State.run, kept h State.brm, kept h State.jobs, kept h State.recipes,
      kept h State.models, kept h State.vocabs, kept h State.grammars, kept h State.loads, kept h State.rma, kept h State.med,
      kept h State.nvme, kept h State.snaps, kept h State.shadows, kept h State.pending⟩

end Sys2Proof.Machine
end

section
set_option Elab.async false
/-! SUPPORT. What every step keeps (R277, R297, R385, R504, R522, R578): a decommissioned device stays so, and the byte memories keep
their canonical form. Here: the parts of the state that say so, and their updates. The equations about them are proved by `(rfl)`, not
`rfl`: simp then rewrites with them where it discharges the hypothesis of a lemma that says an operation keeps these parts. -/

namespace Sys2Proof.Machine

/-- The parts of the state that DECOMMISSION and the byte memories are: whether the device is decommissioned, the settings images, the
update window, the bank memory, the chains and the namespaces. -/
structure Vital where
  decommissioned : Bool
  set    : CMap Byte
  run    : CMap Byte
  bodyA  : CMap Byte
  bodyB  : CMap Byte
  window : CMap Byte
  sram   : CMap Byte
  chains : CMap Chain
  spaces : CMap Namespace

/-- The vital parts of a state. -/
def State.vital (s : State) : Vital :=
  ⟨s.sec.decommissioned, s.set, s.run, s.upd.setA.body, s.upd.setB.body, s.upd.window, s.mem.sram, s.mem.chains, s.med.spaces⟩

theorem State.vital_eta (s : State) :
    Vital.mk s.sec.decommissioned s.set s.run s.upd.setA.body s.upd.setB.body s.upd.window s.mem.sram s.mem.chains s.med.spaces = s.vital :=
  (rfl)

theorem State.vital_mk (p e f n sy u st ru sl c ev se b j r m v g l ti sa me cx rm ne md nv pw ts co sn sh) :
    (State.mk p e f n sy u st ru sl c ev se b j r m v g l ti sa me cx rm ne md nv pw ts co sn sh).vital
      = ⟨se.decommissioned, st, ru, u.setA.body, u.setB.body, u.window, me.sram, me.chains, md.spaces⟩ := (rfl)

theorem foldl_vital {α : Type} {f : State → α → State} (h : ∀ s a, (f s a).vital = s.vital) (l : List α) (s : State) :
    (l.foldl f s).vital = s.vital := by
  induction l generalizing s with
  | nil => rfl
  | cons a l ih => rw [List.foldl_cons, ih, h]

/-- Every chain of a map lists its bytes in canonical form. -/
def chainsWf (m : CMap Chain) : Prop := ∀ c ∈ m, c.2.bytes.wf 0 = true

/-- Every namespace of a map lists its bytes in canonical form. -/
def spacesWf (m : CMap Namespace) : Prop := ∀ n ∈ m, n.2.bytes.wf 0 = true

/-- The byte memories list their bytes at rising addresses and list no byte that reads 0. -/
structure Vital.Wf (v : Vital) : Prop where
  set    : v.set.wf 0 = true
  run    : v.run.wf 0 = true
  bodyA  : v.bodyA.wf 0 = true
  bodyB  : v.bodyB.wf 0 = true
  window : v.window.wf 0 = true
  sram   : v.sram.wf 0 = true
  chains : chainsWf v.chains
  spaces : spacesWf v.spaces

theorem State.vital_wf_iff (s : State) : s.vital.Wf ↔ s.memoriesWf = true := by
  simp only [State.memoriesWf, Bool.and_eq_true, List.all_eq_true]
  constructor
  · rintro ⟨h1, h2, h3, h4, h5, h6, h7, h8⟩
    exact ⟨⟨⟨⟨⟨⟨⟨h1, h2⟩, h3⟩, h4⟩, h5⟩, h6⟩, h7⟩, h8⟩
  · rintro ⟨⟨⟨⟨⟨⟨⟨h1, h2⟩, h3⟩, h4⟩, h5⟩, h6⟩, h7⟩, h8⟩
    exact ⟨h1, h2, h3, h4, h5, h6, h7, h8⟩

/-- From `u` to `v` a decommissioned device stays so, and canonical memories stay canonical. -/
def Vital.Keeps (u v : Vital) : Prop := (u.decommissioned = true → v.decommissioned = true) ∧ (u.Wf → v.Wf)

theorem Vital.Keeps.refl (u : Vital) : u.Keeps u := ⟨id, id⟩

theorem foldl_keeps {u : Vital} {α : Type} {f : State → α → State} (h : ∀ s a, u.Keeps s.vital → u.Keeps (f s a).vital) (l : List α)
    {s : State} (hs : u.Keeps s.vital) : u.Keeps (l.foldl f s).vital := by
  induction l generalizing s with
  | nil => exact hs
  | cons a l ih => exact ih (h s a hs)

end Sys2Proof.Machine
end

section
set_option Elab.async false
/-! SUPPORT. Operations that leave the vital parts as they are: none of them writes a settings image, the update window, the bank
memory, a chain, a namespace or the mark of DECOMMISSION. -/

namespace Sys2Proof.Machine

variable (s : State)

theorem SecBlock.addAudit_decommissioned (c : SecBlock) (a : AuditRec) : (c.addAudit a).decommissioned = c.decommissioned := (rfl)
theorem SecBlock.audited_decommissioned (c : SecBlock) (a : AuditRec) : (c.audited a).decommissioned = c.decommissioned := by
  unfold SecBlock.audited
  split
  · split
    · rfl
    · rfl
  · rfl
theorem UpdBlock.writeRecord_setA (b : UpdBlock) (slot : Nat) (trial : Bool) : (b.writeRecord slot trial).setA = b.setA := (rfl)
theorem UpdBlock.writeRecord_setB (b : UpdBlock) (slot : Nat) (trial : Bool) : (b.writeRecord slot trial).setB = b.setB := (rfl)
theorem UpdBlock.writeRecord_window (b : UpdBlock) (slot : Nat) (trial : Bool) : (b.writeRecord slot trial).window = b.window := (rfl)

theorem State.abortSelftest_vital (outcome : Nat) : (s.abortSelftest outcome).vital = s.vital :=
  kept (s.abortSelftest_outside (F := [.nvme]) (by decide) outcome) State.vital
theorem State.writeCount_vital (count reason : Nat) : (s.writeCount count reason).vital = s.vital := (rfl)
theorem State.answer_vital (w : Waiter) (r : Result) : (s.answer w r).vital = s.vital :=
  kept (s.answer_outside (F := ringParts) (by decide) w r) State.vital
theorem State.raise_vital (k : EvKind) (die : Nat) (detail : Bytes) : (s.raise k die detail).vital = s.vital :=
  kept (s.raise_outside (F := eventParts) (by decide) k die detail) State.vital
theorem State.noteCred_vital (x : CmdIn) : (s.noteCred x).vital = s.vital := by
  unfold State.noteCred
  dsimp only
  repeat' split
  all_goals simp only [State.vital_mk, State.vital_eta, State.raise_vital]
theorem State.audit_vital (a : AuditRec) : (s.audit a).vital = s.vital := by
  simp only [State.audit, State.vital_mk, SecBlock.audited_decommissioned, State.vital_eta]
theorem State.complete_vital (w : Waiter) (r : Result) : (s.complete w r).vital = s.vital :=
  kept (s.complete_outside (F := ringParts) (by decide) w r) State.vital
theorem State.turnDown_vital (sp : OpSpec) (w : Waiter) (x : CmdIn) (r : Result) : (s.turnDown sp w x r).vital = s.vital := by
  simp only [State.turnDown, apply_ite State.vital, State.audit_vital, State.complete_vital, State.raise_vital, ite_self]
theorem State.emit_vital (o : Output) : (s.emit o).vital = s.vital := (rfl)
theorem State.sendForward_vital (w : Waiter) (start : Nat) : (s.sendForward w start).vital = s.vital := (rfl)
theorem State.forward_vital (sp : OpSpec) (w : Waiter) : (s.forward sp w).vital = s.vital := by
  unfold State.forward
  dsimp only
  repeat' split
  all_goals simp only [State.vital_mk, State.vital_eta, State.complete_vital, State.sendForward_vital]
theorem State.receipt_vital (x : CmdIn) : (s.receipt x).vital = s.vital :=
  kept (s.receipt_outside (F := [.emitted]) (by decide) x) State.vital
theorem State.bump64_vital (a n : Nat) : (s.bump64 a n).vital = s.vital := (rfl)
theorem State.mapChange_vital (nsid : Nat) (units : List Nat) : (s.mapChange nsid units).vital = s.vital := by
  unfold State.mapChange
  dsimp only
  repeat' split
  all_goals simp only [State.vital_mk, State.vital_eta]
theorem State.bump_vital (a n : Nat) : (s.bump a n).vital = s.vital := (rfl)
theorem State.setDie_vital (n : Nat) (d : Die) : (s.setDie n d).vital = s.vital := (rfl)
theorem State.putDie_vital (n : Nat) (r : Die × Bool) : (s.putDie n r).vital = s.vital := by
  simp only [State.putDie, apply_ite State.vital, State.bump_vital, State.setDie_vital, ite_self]
theorem State.nandRequest_vital (n : Nat) (o : NandOp) : (s.nandRequest n o).vital = s.vital := by
  simp only [State.nandRequest, apply_ite State.vital, State.putDie_vital, ite_self]
theorem State.program_vital (o : NandOp) : (s.program o).vital = s.vital := by
  unfold State.program
  dsimp only
  repeat' split
  all_goals simp only [State.vital_mk, State.vital_eta, State.nandRequest_vital]
theorem State.journalFlush_vital : s.journalFlush.vital = s.vital := by
  simp only [State.journalFlush, State.vital_mk, State.vital_eta, apply_ite State.vital, State.program_vital, ite_self]
theorem State.nvmePost_vital (sq cid status result : Nat) : (s.nvmePost sq cid status result).vital = s.vital :=
  kept (s.nvmePost_outside (F := postParts) (by decide) sq cid status result) State.vital
theorem State.releaseFlushes_vital : s.releaseFlushes.vital = s.vital := by
  refine (foldl_vital (fun s f => ?_) _ _).trans rfl
  simp only [apply_ite State.vital, State.nvmePost_vital, State.journalFlush_vital, ite_self]
theorem State.pieceDone_vital (p : DirtyPiece) : (s.pieceDone p).vital = s.vital := by
  unfold State.pieceDone
  dsimp only
  repeat' split
  all_goals simp only [State.vital_mk, State.vital_eta, State.bump64_vital, State.mapChange_vital, State.releaseFlushes_vital]
theorem State.allDone_vital : s.allDone.vital = s.vital := foldl_vital (fun s p => s.pieceDone_vital p) _ s
theorem State.sealMedia_vital : s.sealMedia.vital = s.vital := by
  simp only [State.sealMedia, State.vital_mk, State.vital_eta, State.allDone_vital, State.journalFlush_vital]
theorem State.endFlush_vital : s.endFlush.vital = s.vital := by
  simp only [State.endFlush, State.vital_mk, State.vital_eta, State.raise_vital, State.sealMedia_vital]
theorem State.releaseMirror_vital (j : Job) : (s.releaseMirror j).vital = s.vital := by
  unfold State.releaseMirror
  repeat' split
  all_goals simp only [State.emit_vital]
theorem State.setJob_vital (j : Nat) (v : Job) : (s.setJob j v).vital = s.vital := (rfl)
theorem State.setupMirror_vital (slot partner : Nat) : (s.setupMirror slot partner).vital = s.vital := by
  unfold State.setupMirror
  repeat' split
  all_goals simp only [State.emit_vital, State.setJob_vital]
theorem State.changePartner_vital (p : Option Nat) : (s.changePartner p).vital = s.vital := by
  unfold State.changePartner
  split
  · rfl
  · have hrelease : (s.jobs.foldl (fun s j => s.releaseMirror j.2) s).vital = s.vital :=
      foldl_vital (fun s (j : Nat × Job) => s.releaseMirror_vital j.2) _ s
    split
    · exact (foldl_vital (fun s k => s.setupMirror_vital k _) _ _).trans hrelease
    · exact hrelease
theorem State.loadBypass_vital : s.loadBypass.vital = s.vital := (rfl)
theorem State.loadNetwork_vital : s.loadNetwork.vital = s.vital := (rfl)
theorem State.setBank_vital (die b : Nat) (v : Bank) : (s.setBank die b v).vital = s.vital := (rfl)
theorem State.loadRetired_vital : s.loadRetired.vital = s.vital := by
  refine foldl_vital (fun s i => ?_) (List.range 1664) s
  simp only [apply_ite State.vital, State.setBank_vital, ite_self]
theorem State.setPool_vital (p : Nat) (v : Pool) : (s.setPool p v).vital = s.vital := (rfl)
theorem State.levels_vital (p : Nat) : (s.levels p).vital = s.vital := by
  simp only [State.levels, apply_ite State.vital, State.raise_vital, State.setPool_vital, ite_self]
theorem State.revokeKey_vital (i : Nat) : (s.revokeKey i).vital = s.vital := by
  simp only [State.revokeKey, State.vital_mk, State.vital_eta, State.raise_vital]
theorem State.takeKeys_vital : s.takeKeys.vital = s.vital := by
  have hfold (l : List (Nat × Bytes)) (u : State) : (l.foldl (fun s k => s.revokeKey k.1) u).vital = u.vital := by
    refine foldl_vital (fun s k => ?_) l u
    exact s.revokeKey_vital k.1
  simp only [State.takeKeys, State.vital_mk, State.vital_eta, hfold]
theorem State.applyHold_vital : s.applyHold.vital = s.vital := by
  unfold State.applyHold
  dsimp only
  repeat' split
  all_goals simp only [State.vital_mk, State.vital_eta]
theorem State.takePower_vital : s.takePower.vital = s.vital := by
  simp only [State.takePower, State.vital_mk, State.vital_eta, State.applyHold_vital]
theorem State.leaveService_vital (n : Nat) : (s.leaveService n).vital = s.vital := by
  unfold State.leaveService
  dsimp only
  repeat' split
  all_goals simp only [State.vital_mk, State.vital_eta, State.emit_vital]
theorem State.takeServices_vital : s.takeServices.vital = s.vital := by
  refine (foldl_vital (fun s e => ?_) _ _).trans (foldl_vital (f := State.leaveService) (fun s n => s.leaveService_vital n) _ s)
  exact State.emit_vital _ _
theorem State.returnTokens_vital (key : Nat) : (s.returnTokens key).vital = s.vital := (rfl)
theorem State.updDomain_vital (d : Nat) (f : Domain → Domain) : (s.updDomain d f).vital = s.vital := (rfl)
theorem State.release_vital (i : Nat) : (s.release i).vital = s.vital := by
  unfold State.release
  split
  · rfl
  split
  · rfl
  · simp only [apply_ite State.vital, State.vital_mk, State.vital_eta, State.updDomain_vital, State.returnTokens_vital, ite_self]
theorem State.finish_vital (w : Waiter) (r : Result) : (s.finish w r).vital = s.vital := by
  unfold State.finish
  dsimp only
  repeat' split
  all_goals simp only [State.audit_vital, State.complete_vital]
theorem State.finishAll_vital (ws : List Waiter) (r : Result) : (s.finishAll ws r).vital = s.vital :=
  foldl_vital (fun s w => s.finish_vital w r) ws s
theorem State.releaseWaiters_vital (slot : Nat) : (s.releaseWaiters slot).vital = s.vital := by
  unfold State.releaseWaiters
  dsimp only
  repeat' split
  all_goals simp only [State.finishAll_vital]
theorem State.beginHandover_vital (die b owner : Nat) (zero : Bool) : (s.beginHandover die b owner zero).vital = s.vital := (rfl)
theorem State.beginBankMove_vital (die b st : Nat) : (s.beginBankMove die b st).vital = s.vital := (rfl)
theorem State.takeBudget_vital (w : Nat) : (s.takeBudget w).vital = s.vital := (rfl)
theorem State.badRef_vital (r : Nat) : (s.badRef r).vital = s.vital := kept (s.badRef_outside (F := eventParts) (by decide) r) State.vital
theorem State.placeJob_vital (j : CompJob) : (s.placeJob j).vital = s.vital :=
  kept (s.placeJob_outside (F := [.cxe]) (by decide) j) State.vital
theorem State.startRecovery_vital (w : Waiter) (slot : Nat) : (s.startRecovery w slot).vital = s.vital := by
  unfold State.startRecovery
  dsimp only
  repeat' split
  all_goals simp only [State.finishAll_vital, State.setJob_vital]
theorem State.bindQp_vital (q : Nat) : (s.bindQp q).vital = s.vital := (rfl)
theorem State.journalEntry_vital : s.journalEntry.vital = s.vital := (rfl)
theorem State.refreshWarning_vital : s.refreshWarning.vital = s.vital :=
  kept (s.refreshWarning_outside (F := postParts) (by decide)) State.vital
theorem State.retireDie_vital (n : Nat) : (s.retireDie n).vital = s.vital := by
  have hfold (l : List NandOp) (u : State) : (l.foldl State.program u).vital = u.vital := foldl_vital (fun s op => s.program_vital op) l u
  simp only [State.retireDie, apply_ite State.vital, State.vital_mk, State.vital_eta, State.refreshWarning_vital, State.raise_vital,
    State.journalEntry_vital, hfold, State.setDie_vital, ite_self]
theorem State.beginRun_vital (w : Waiter) (left : CMap Nat) : (s.beginRun w left).vital = s.vital := (rfl)
theorem State.updTile_vital (n : Nat) (f : Tile → Tile) : (s.updTile n f).vital = s.vital := (rfl)
theorem State.abandonStages_vital (n cls idx : Nat) : (s.abandonStages n cls idx).vital = s.vital := by
  unfold State.abandonStages
  simp only [apply_ite State.vital, State.vital_mk, State.vital_eta, ite_self]
  refine foldl_vital (fun s i => ?_) _ s
  split
  · simp only [apply_ite State.vital, State.release_vital, ite_self]
  · rfl
theorem State.abortSlices_vital (f : Slice → Bool) : (s.abortSlices f).vital = s.vital := by
  refine (foldl_vital (fun s v => ?_) _ _).trans rfl
  simp only [apply_ite State.vital, State.returnTokens_vital, State.setBank_vital, State.bump_vital, ite_self]
theorem State.requestTokens_vital (key n : Nat) : (s.requestTokens key n).vital = s.vital := (rfl)
theorem State.postWork_vital (d : Nat) : (s.postWork d).vital = s.vital := by
  simp only [State.postWork, apply_ite State.vital, State.requestTokens_vital, State.updDomain_vital, ite_self]
theorem State.assign_vital (i cls idx : Nat) : (s.assign i cls idx).vital = s.vital := by
  unfold State.assign
  dsimp only
  repeat' split
  all_goals simp only [State.vital_mk, State.vital_eta, State.abortSlices_vital, State.postWork_vital, State.requestTokens_vital]
theorem State.schedule_vital (n : Nat) : (s.schedule n).vital = s.vital := by
  unfold State.schedule
  split
  · rfl
  refine foldl_vital (fun s i => ?_) _ s
  split
  · split
    · split
      · split
        · exact s.assign_vital _ _ _
        · rfl
      · rfl
    · rfl
  · rfl
theorem State.lostRead_vital (nsid off len : Nat) : (s.lostRead nsid off len).vital = s.vital :=
  kept (s.lostRead_outside (F := eventParts) (by decide) nsid off len) State.vital
theorem State.newRecord_vital (ev : Event) : (s.newRecord ev).vital = s.vital :=
  kept (s.newRecord_outside (F := eventParts) (by decide) ev) State.vital
theorem State.reportDrops_vital : s.reportDrops.vital = s.vital := by
  unfold State.reportDrops
  split
  · rfl
  · refine foldl_vital (fun s g => ?_) (List.range 16) s
    simp only [apply_ite State.vital, State.newRecord_vital, State.bump64_vital, State.vital_mk, State.vital_eta, ite_self]
theorem State.consumeEvents_vital (evs : List Event) : (s.consumeEvents evs).vital = s.vital := by
  simp only [State.consumeEvents, State.vital_mk, State.vital_eta, State.reportDrops_vital]
theorem State.deliverEvents_vital (addr : Nat) (data : Bytes) : (s.deliverEvents addr data).vital = s.vital := by
  simp only [State.deliverEvents, State.vital_mk, State.vital_eta, apply_ite State.vital, State.emit_vital, ite_self]
theorem State.setImages_vital (kind : Nat) (m : CMap HeldImage) : (s.setImages kind m).vital = s.vital := by
  unfold State.setImages
  repeat' split
  all_goals simp only [State.vital_mk, State.vital_eta]
theorem State.closeMirror_vital (jobId dev : Nat) : (s.closeMirror jobId dev).vital = s.vital :=
  kept (s.closeMirror_outside (F := [.rma]) (by decide) jobId dev) State.vital
theorem State.toRanks_vital (j : Job) (kind : String) (words : List Nat) (data : Bytes) : (s.toRanks j kind words data).vital = s.vital :=
  (rfl)
theorem State.reissuePlan_vital (slot failed : Nat) (p : EpochPlan) (from' : Nat) :
    (s.reissuePlan slot failed p from').vital = s.vital := by
  unfold State.reissuePlan
  split
  · refine (foldl_vital (fun s d => ?_) _ _).trans (s.setJob_vital _ _)
    exact State.emit_vital _ _
  · rfl
theorem State.updEth_vital (q : Nat) (f : EthPort → EthPort) : (s.updEth q f).vital = s.vital := (rfl)
theorem State.networkSet_vital (p : Packet) : (s.networkSet p).vital = s.vital := by
  unfold State.networkSet
  dsimp only
  repeat' split
  all_goals simp only [State.vital_mk, State.vital_eta, State.updEth_vital]
theorem State.startAudit_vital (kind : Nat) (cmd : Option Waiter) (r : Result) : (s.startAudit kind cmd r).vital = s.vital := (rfl)
theorem State.serviceLane_vital (f lane : Nat) : (s.serviceLane f lane).vital = s.vital :=
  kept (s.serviceLane_outside (F := netParts) (by decide) f lane) State.vital
theorem State.servicePort_vital (f ctrl : Nat) : (s.servicePort f ctrl).vital = s.vital :=
  kept (s.servicePort_outside (F := netParts) (by decide) f ctrl) State.vital
theorem State.updPort_vital (f : Nat) (g : FabPort → FabPort) : (s.updPort f g).vital = s.vital := (rfl)
theorem State.sendRequest_vital (r : RmaRequest) (key : Nat) (data : Bytes) : (s.sendRequest r key data).vital = s.vital := (rfl)
theorem State.startSanitize_vital (action : Nat) : (s.startSanitize action).vital = s.vital :=
  (foldl_vital (fun s (w : Nat × Nat) => s.nvmePost_vital w.1 w.2 nvSanitize 0) _ _).trans rfl
theorem State.startSelftest_vital (code : Nat) : (s.startSelftest code).vital = s.vital := (rfl)
theorem State.beginDrain_vital (n : Nat) : (s.beginDrain n).vital = s.vital := (rfl)
theorem State.rejoin_vital (n : Nat) : (s.rejoin n).vital = s.vital := kept (s.rejoin_outside (F := [.tiles]) (by decide) n) State.vital
theorem State.closeWindow_vital (n : Nat) (cmd : Option Waiter) : (s.closeWindow n cmd).vital = s.vital := (rfl)
theorem State.bootRecord_vital (reason detail : Nat) : (s.bootRecord reason detail).vital = s.vital := (rfl)
theorem State.advance_vital (t : Nat) : (s.advance t).vital = s.vital := (rfl)
theorem State.markStep_vital (k : Nat) : (s.markStep k).vital = s.vital := (rfl)
theorem State.stepCount_vital : s.stepCount.vital = s.vital := by
  simp only [State.stepCount, State.vital_mk, State.vital_eta, apply_ite State.vital, State.writeCount_vital, ite_self]
theorem State.domainsOn_vital (ds : List Nat) : (s.domainsOn ds).vital = s.vital := foldl_vital (fun s d => s.updDomain_vital d _) ds s
theorem State.stepHub_vital (out : StartOut) : (s.stepHub out).vital = s.vital := by
  refine (foldl_vital (fun s m => (State.raise_vital _ _ _ _).trans (s.bump_vital _ _)) _ _).trans ?_
  simp only [apply_ite State.vital, State.vital_mk, State.vital_eta, State.domainsOn_vital, ite_self]
theorem State.emitAll_vital (os : List Output) : (s.emitAll os).vital = s.vital := (rfl)
theorem State.startLinkDie_vital (d : Nat) : (s.startLinkDie d).vital = s.vital := (rfl)
theorem State.controllerReady_vital : s.controllerReady.vital = s.vital :=
  kept (s.controllerReady_outside (F := [.nvme]) (by decide)) State.vital
theorem State.nvDone_vital (c : NvmeIn) (status result : Nat) : (s.nvDone c status result).vital = s.vital := by
  simp only [State.nvDone, State.nvmePost_vital]
theorem State.nvmeFlush_vital (c : NvmeIn) : (s.nvmeFlush c).vital = s.vital := by
  simp only [State.nvmeFlush, State.vital_mk, State.vital_eta, apply_ite State.vital, State.nvDone_vital, State.releaseFlushes_vital,
    ite_self]
theorem State.readCodeword_vital (nsid c : Nat) (o : NandOp) : (s.readCodeword nsid c o).vital = s.vital := by
  simp only [State.readCodeword, State.bump64_vital, State.nandRequest_vital]
theorem State.mediaRead_vital (nsid off len kind : Nat) : (s.mediaRead nsid off len kind).vital = s.vital :=
  (State.lostRead_vital _ nsid off len).trans (foldl_vital (fun s c => s.readCodeword_vital nsid c _) _ s)
theorem State.nvmeRead_vital (c : NvmeIn) : (s.nvmeRead c).vital = s.vital := by
  unfold State.nvmeRead
  dsimp only
  repeat' split
  all_goals simp only [State.emit_vital, State.mediaRead_vital, State.nvDone_vital]
theorem State.nvmeVerify_vital (c : NvmeIn) : (s.nvmeVerify c).vital = s.vital := by
  unfold State.nvmeVerify
  dsimp only
  repeat' split
  all_goals simp only [State.mediaRead_vital, State.nvDone_vital]
theorem State.endWrite_vital (w : WriteCmd) : (s.endWrite w).vital = s.vital := by
  simp only [State.endWrite, State.vital_mk, State.vital_eta, apply_ite State.vital, State.nvmePost_vital, State.releaseFlushes_vital,
    ite_self]
theorem State.domainsOff_vital (f : Nat → Bool) : (s.domainsOff f).vital = s.vital := (rfl)
theorem State.stepPit_vital : s.stepPit.vital = s.vital := (rfl)
theorem State.endFallback_vital : s.endFallback.vital = s.vital := by
  unfold State.endFallback
  repeat' split
  all_goals rfl
theorem State.endTrial_vital : s.endTrial.vital = s.vital := by
  simp only [State.endTrial, apply_ite State.vital, State.vital_mk, UpdBlock.writeRecord_setA, UpdBlock.writeRecord_setB,
    UpdBlock.writeRecord_window, State.vital_eta, State.raise_vital, ite_self]
theorem State.stepReady_vital : s.stepReady.vital = s.vital := by
  simp only [State.stepReady, State.vital_mk, State.vital_eta, State.endFallback_vital, State.endTrial_vital, State.writeCount_vital]
theorem State.loadServices_vital : s.loadServices.vital = s.vital := by
  simp only [State.loadServices, State.vital_mk, State.vital_eta]
theorem State.startTile_vital (n : Nat) (ok : Bool) : (s.startTile n ok).vital = s.vital := by
  simp only [State.startTile, State.vital_mk, State.vital_eta, apply_ite State.vital, State.domainsOff_vital, State.domainsOn_vital,
    State.raise_vital, ite_self]
theorem State.rebuildAudit_vital : s.rebuildAudit.vital = s.vital := by
  unfold State.rebuildAudit
  dsimp only
  repeat' split
  all_goals simp only [State.vital_mk, State.vital_eta, State.raise_vital]
theorem State.tornRecords_vital (k torn : Nat) : (s.tornRecords k torn).vital = s.vital := by
  unfold State.tornRecords
  dsimp only
  repeat' split
  all_goals simp only [State.vital_mk, State.vital_eta, State.rebuildAudit_vital]
theorem State.writeHigh_vital (path a v : Nat) : (s.writeHigh path a v).vital = s.vital :=
  kept (s.writeHigh_outside (F := highParts) (by decide) path a v) State.vital
theorem State.writeCmd_vital (path o v : Nat) : (s.writeCmd path o v).vital = s.vital :=
  kept (s.writeCmd_outside (F := .jobs :: ringParts) (by decide) path o v) State.vital
theorem State.writeEvtCtrl_vital (v : Nat) : (s.writeEvtCtrl v).vital = s.vital :=
  kept (s.writeEvtCtrl_outside (F := eventParts) (by decide) v) State.vital
theorem State.bindGo_vital (sigOk : Bool) : (s.bindGo sigOk).vital = s.vital := by
  simp only [State.bindGo, State.vital_mk, State.vital_eta, apply_ite State.vital, State.raise_vital, ite_self]
theorem State.newNonce_vital : s.newNonce.vital = s.vital := (rfl)
theorem State.writeBindCtrl_vital (v : Nat) (sigOk : Bool) : (s.writeBindCtrl v sigOk).vital = s.vital := by
  simp only [State.writeBindCtrl, State.vital_mk, State.vital_eta, apply_ite State.vital, State.bindGo_vital, State.newNonce_vital,
    ite_self]
theorem State.writeSec_vital (o v : Nat) (sigOk : Bool) : (s.writeSec o v sigOk).vital = s.vital := by
  simp only [State.writeSec, State.vital_mk, State.vital_eta, apply_ite State.vital, State.writeBindCtrl_vital, ite_self]
theorem State.writeSloe_vital (o v : Nat) : (s.writeSloe o v).vital = s.vital :=
  kept (s.writeSloe_outside (F := [.sloe]) (by decide) o v) State.vital
theorem State.writeSys_vital (o v : Nat) : (s.writeSys o v).vital = s.vital :=
  kept (s.writeSys_outside (F := [.sys]) (by decide) o v) State.vital
theorem State.auditGo_vital (v : Nat) : (s.auditGo v).vital = s.vital := by
  simp only [State.auditGo, apply_ite State.vital, State.startAudit_vital, ite_self]
theorem State.setBrm_vital (b : BrmBlock) : (s.setBrm b).vital = s.vital := (rfl)
theorem State.regInvalid_vital (path addr : Nat) : (s.regInvalid path addr).vital = s.vital :=
  kept (s.regInvalid_outside (F := eventParts) (by decide) path addr) State.vital
theorem State.writeBnkOwn_vital (path die b v : Nat) : (s.writeBnkOwn path die b v).vital = s.vital := by
  simp only [State.writeBnkOwn, apply_ite State.vital, State.beginHandover_vital, State.regInvalid_vital, ite_self]
theorem State.writeBnkState_vital (path die b v : Nat) : (s.writeBnkState path die b v).vital = s.vital := by
  simp only [State.writeBnkState, apply_ite State.vital, State.beginBankMove_vital, State.regInvalid_vital, State.setBank_vital, ite_self]
theorem State.writeBnk_vital (path die o v : Nat) : (s.writeBnk path die o v).vital = s.vital := by
  simp only [State.writeBnk, State.vital_mk, State.vital_eta, apply_ite State.vital, State.writeBnkOwn_vital, State.writeBnkState_vital,
    ite_self]
theorem State.writeTschCtrl_vital (path n v : Nat) : (s.writeTschCtrl path n v).vital = s.vital :=
  kept (s.writeTschCtrl_outside (F := .tiles :: eventParts) (by decide) path n v) State.vital
theorem State.writeMid_vital (path a v : Nat) : (s.writeMid path a v).vital = s.vital := by
  unfold State.writeMid
  split
  · split
    · exact s.writeBnk_vital _ _ _ _
    · rfl
  split
  · split
    · exact s.auditGo_vital _
    · rfl
  split
  · exact s.setBrm_vital _
  split
  · exact s.writeTschCtrl_vital _ _ _
  · rfl
theorem State.writeSnap_vital (a v : Nat) : (s.writeSnap a v).vital = s.vital :=
  kept (s.writeSnap_outside (F := [.snaps]) (by decide) a v) State.vital
theorem State.mctpRefused_vital (off value : Nat) : (s.mctpRefused off value).vital = s.vital :=
  kept (s.mctpRefused_outside (F := eventParts) (by decide) off value) State.vital
theorem State.raiseUncorrectable_vital (nsid c : Nat) : (s.raiseUncorrectable nsid c).vital = s.vital :=
  kept (s.raiseUncorrectable_outside (F := eventParts) (by decide) nsid c) State.vital
theorem State.oldestDone_vital : s.oldestDone.vital = s.vital := by
  unfold State.oldestDone
  repeat' split
  all_goals simp only [State.pieceDone_vital]
theorem State.retireBlock_vital (n block : Nat) : (s.retireBlock n block).vital = s.vital := by
  simp only [State.retireBlock, apply_ite State.vital, State.journalEntry_vital, State.retireDie_vital, State.setDie_vital, ite_self]
theorem State.measureHoldup_vital : s.measureHoldup.vital = s.vital := by
  simp only [State.measureHoldup, State.vital_mk, State.vital_eta, apply_ite State.vital, State.raise_vital, State.refreshWarning_vital,
    ite_self]
theorem State.chooseStep_vital : s.chooseStep.vital = s.vital := by
  simp only [State.chooseStep, State.vital_mk, State.vital_eta, apply_ite State.vital, ite_self]
theorem State.evaluateHeld_vital (h : Nat × Nat) : (s.evaluateHeld h).vital = s.vital :=
  kept (s.evaluateHeld_outside (F := clockParts) (by decide) h) State.vital
theorem State.noteCool_vital : s.noteCool.vital = s.vital := by
  simp only [State.noteCool, State.vital_mk, State.vital_eta, apply_ite State.vital, ite_self]
theorem State.sense_vital (i : Nat) (t : Int) : (s.sense i t).vital = s.vital := (rfl)
theorem State.latchOnly_vital (k : EvKind) (die : Nat) (detail : Bytes) : (s.latchOnly k die detail).vital = s.vital := (rfl)
theorem State.setHold_vital (jobId mhz : Nat) : (s.setHold jobId mhz).vital = s.vital :=
  kept (s.setHold_outside (F := clockParts) (by decide) jobId mhz) State.vital
theorem State.noteAsleep_vital (n : Nat) : (s.noteAsleep n).vital = s.vital :=
  kept (s.noteAsleep_outside (F := [.tiles]) (by decide) n) State.vital
theorem State.clockLost_vital (m : Nat) (used : Bool) : (s.clockLost m used).vital = s.vital :=
  kept (s.clockLost_outside (F := clockParts) (by decide) m used) State.vital
theorem State.updMonitor_vital (m : Nat) (f : ClockMon → ClockMon) : (s.updMonitor m f).vital = s.vital := (rfl)
theorem State.clockBack_vital (m : Nat) : (s.clockBack m).vital = s.vital :=
  kept (s.clockBack_outside (F := clockParts) (by decide) m) State.vital
theorem State.flowLost_vital : s.flowLost.vital = s.vital := by
  simp only [State.flowLost, State.vital_mk, State.vital_eta, apply_ite State.vital, ite_self]
theorem State.latchStop_vital : s.latchStop.vital = s.vital := (rfl)
theorem State.beginFlush_vital (kind : Nat) : (s.beginFlush kind).vital = s.vital := (rfl)
theorem State.stopFlush_vital : s.stopFlush.vital = s.vital := by
  simp only [State.stopFlush, apply_ite State.vital, State.beginFlush_vital, ite_self]
theorem State.flowBack_vital : s.flowBack.vital = s.vital := by
  simp only [State.flowBack, State.vital_mk, State.vital_eta, apply_ite State.vital, ite_self]
theorem State.addSlice_vital (n cls idx : Nat) (forRun : Bool) : (s.addSlice n cls idx forRun).vital = s.vital := (rfl)
theorem State.startEngineSlice_vital (n cls idx : Nat) : (s.startEngineSlice n cls idx).vital = s.vital := by
  simp only [State.startEngineSlice, apply_ite State.vital, State.addSlice_vital, State.postWork_vital, State.requestTokens_vital,
    ite_self]
theorem State.startRegion_vital (die b : Nat) : (s.startRegion die b).vital = s.vital := (rfl)
theorem State.poison_vital (die b row : Nat) : (s.poison die b row).vital = s.vital := by
  simp only [State.poison, State.vital_mk, State.vital_eta, State.raise_vital]
theorem State.sliceCounts_vital (key : Nat) : (s.sliceCounts key).vital = s.vital := by
  simp only [State.sliceCounts, State.vital_mk, State.vital_eta, apply_ite State.vital, State.bump64_vital, ite_self]
theorem State.sliceLeaves_vital (v : Slice) : (s.sliceLeaves v).vital = s.vital := by
  simp only [State.sliceLeaves, State.vital_mk, State.vital_eta, apply_ite State.vital, State.returnTokens_vital, State.setBank_vital,
    ite_self]
theorem State.slicePasses_vital (v : Slice) : (s.slicePasses v).vital = s.vital := by
  simp only [State.slicePasses, State.vital_mk, State.vital_eta, apply_ite State.vital, ite_self]
theorem State.sendHeld_vital (n : Nat) : (s.sendHeld n).vital = s.vital :=
  (foldl_vital (fun s (f : Forwarded) => s.sendForward_vital f.cmd n) _ _).trans rfl
theorem State.cxeCount_vital (tile inLen outLen : Nat) (o : CxeOut) : (s.cxeCount tile inLen outLen o).vital = s.vital :=
  kept (s.cxeCount_outside (F := [.counters]) (by decide) tile inLen outLen o) State.vital
theorem State.portDone_vital (f : Nat) : (s.portDone f).vital = s.vital := by
  unfold State.portDone
  repeat' split
  all_goals simp only [State.finish_vital, State.updPort_vital]
theorem State.laneDone_vital (f failed : Nat) : (s.laneDone f failed).vital = s.vital := by
  simp only [State.laneDone, State.portDone_vital, State.updPort_vital]
theorem State.portFails_vital (f : Nat) : (s.portFails f).vital = s.vital := by
  simp only [State.portFails, State.portDone_vital, State.updPort_vital]
theorem State.routeChange_vital (affected : Nat) : (s.routeChange affected).vital = s.vital :=
  kept (s.routeChange_outside (F := eventParts) (by decide) affected) State.vital
theorem State.serve_vital (sp : Nat) : (s.serve sp).vital = s.vital := kept (s.serve_outside (F := netParts) (by decide) sp) State.vital
theorem State.portUp_vital (f failed peer peerPort ver affected : Nat) (found : List Nat) :
    (s.portUp f failed peer peerPort ver affected found).vital = s.vital := by
  unfold State.portUp
  dsimp only
  repeat' split
  all_goals simp only [State.vital_mk, State.vital_eta, State.finish_vital, State.raise_vital, State.routeChange_vital,
    State.serve_vital, State.updPort_vital]
theorem State.abandonRecovery_vital (slot : Nat) : (s.abandonRecovery slot).vital = s.vital := by
  unfold State.abandonRecovery
  dsimp only
  repeat' split
  all_goals simp only [State.finishAll_vital, State.raise_vital, State.setJob_vital]
theorem State.interruptRecoveries_vital : s.interruptRecoveries.vital = s.vital :=
  foldl_vital (f := State.abandonRecovery) (fun s k => s.abandonRecovery_vital k) _ s
theorem State.mirrorDone_vital (slot : Nat) : (s.mirrorDone slot).vital = s.vital :=
  kept (s.mirrorDone_outside (F := [.jobs]) (by decide) slot) State.vital
theorem State.mirrorFailed_vital (slot : Nat) : (s.mirrorFailed slot).vital = s.vital :=
  kept (s.mirrorFailed_outside (F := .jobs :: eventParts) (by decide) slot) State.vital
theorem State.portStops_vital (f st : Nat) : (s.portStops f st).vital = s.vital :=
  kept (s.portStops_outside (F := netParts) (by decide) f st) State.vital
theorem State.scanEnds_vital (slot : Nat) (j : Job) (p : EpochPlan) (rank : Nat) : (s.scanEnds slot j p rank).vital = s.vital := by
  unfold State.scanEnds
  dsimp only
  repeat' split
  all_goals simp only [State.bump64_vital, State.emitAll_vital, State.finishAll_vital, State.setJob_vital, State.toRanks_vital]
theorem State.stopJob_vital (slot epoch step : Nat) : (s.stopJob slot epoch step).vital = s.vital := by
  unfold State.stopJob
  repeat' split
  all_goals simp only [State.setJob_vital]
theorem State.conflictOf_vital (slot : Nat) (j : Job) (epoch sample : Nat) : (s.conflictOf slot j epoch sample).vital = s.vital := by
  unfold State.conflictOf
  dsimp only
  repeat' split
  all_goals simp only [State.raise_vital, State.setJob_vital, State.stopJob_vital]
theorem State.freeHeld_vital (slot epoch sample : Nat) : (s.freeHeld slot epoch sample).vital = s.vital :=
  (foldl_vital (fun s n => s.schedule_vital n) _ _).trans rfl
theorem State.updSample_vital (i : Nat) (f : Sample → Sample) : (s.updSample i f).vital = s.vital := (rfl)
theorem State.enterStage_vital (i st : Nat) : (s.enterStage i st).vital = s.vital := by
  unfold State.enterStage
  dsimp only
  repeat' split
  all_goals simp only [State.schedule_vital, State.updSample_vital]
theorem State.addResolved_vital (slot epoch step member : Nat) : (s.addResolved slot epoch step member).vital = s.vital := (rfl)
theorem State.addReady_vital (slot : Nat) (r : ReadySlot) : (s.addReady slot r).vital = s.vital := (rfl)
theorem State.addEmpty_vital (slot epoch step bucket k sample : Nat) : (s.addEmpty slot epoch step bucket k sample).vital = s.vital := by
  unfold State.addEmpty
  repeat' split
  all_goals simp only [State.addReady_vital]
theorem State.noteConcealed_vital (i : Nat) : (s.noteConcealed i).vital = s.vital := by
  unfold State.noteConcealed
  dsimp only
  repeat' split
  all_goals simp only [State.raise_vital, State.updSample_vital]
theorem State.updWork_vital (i : Nat) (f : Work → Work) : (s.updWork i f).vital = s.vital := (rfl)
theorem State.countFrc_vital (tile : Nat) (f : Option (Nat × FrcStream)) : (s.countFrc tile f).vital = s.vital := by
  unfold State.countFrc
  repeat' split
  all_goals simp only [State.cxeCount_vital]
theorem State.restartSample_vital (i : Nat) (x : Sample) (die b row : Nat) : (s.restartSample i x die b row).vital = s.vital := by
  simp only [State.restartSample, apply_ite State.vital, State.bump_vital, State.mediaRead_vital, State.raise_vital, State.release_vital,
    State.schedule_vital, State.startRegion_vital, State.updSample_vital, ite_self]
theorem State.holdRef_vital (n key : Nat) (is : List Nat) : (s.holdRef n key is).vital = s.vital := (rfl)
theorem State.touchRef_vital (n key : Nat) : (s.touchRef n key).vital = s.vital := (rfl)
theorem State.raiseUnbound_vital (slot : Nat) (j : Job) (rank dest : Nat) : (s.raiseUnbound slot j rank dest).vital = s.vital := by
  simp only [State.raiseUnbound, apply_ite State.vital, State.raise_vital, State.setJob_vital, ite_self]
theorem State.sendRoce_vital (q : Nat) (len : Nat) (out : Output) : (s.sendRoce q len out).vital = s.vital :=
  kept (s.sendRoce_outside (F := sendParts) (by decide) q len out) State.vital
theorem State.sendData_vital (j : Job) (rc : Recipe) (r : ReadySlot) (b : Binding) : (s.sendData j rc r b).vital = s.vital := by
  simp only [State.sendData, State.sendRoce_vital]
theorem State.sendWord_vital (j : Job) (rc : Recipe) (r : ReadySlot) (b : Binding) : (s.sendWord j rc r b).vital = s.vital := by
  simp only [State.sendWord, State.sendRoce_vital]
theorem State.startCopy_vital (slot : Nat) (j : Job) (rc : Recipe) (r : ReadySlot) (b : Binding) :
    (s.startCopy slot j rc r b).vital = s.vital := by
  simp only [State.startCopy, apply_ite State.vital, State.sendData_vital, State.sendWord_vital, State.setJob_vital, ite_self]
theorem State.writeSlot_vital (slot : Nat) (j : Job) (rc : Recipe) (r : ReadySlot) (dest : Nat) :
    (s.writeSlot slot j rc r dest).vital = s.vital := by
  unfold State.writeSlot
  dsimp only
  repeat' split
  all_goals simp only [State.raiseUnbound_vital, State.startCopy_vital]
theorem State.countEmpty_vital (js index slot : Nat) : (s.countEmpty js index slot).vital = s.vital := by
  unfold State.countEmpty
  repeat' split
  all_goals simp only [State.setJob_vital]
theorem State.finishCancels_vital (slot : Nat) : (s.finishCancels slot).vital = s.vital := by
  unfold State.finishCancels
  dsimp only
  repeat' split
  all_goals simp only [State.finishAll_vital, State.setJob_vital]
theorem State.updQp_vital (q : Nat) (f : QueuePair → QueuePair) : (s.updQp q f).vital = s.vital := (rfl)
theorem State.roceHeard_vital (q : Nat) : (s.roceHeard q).vital = s.vital := by
  unfold State.roceHeard
  repeat' split
  all_goals simp only [State.bump64_vital, State.updQp_vital]
theorem State.sendRead_vital (b : Binding) : (s.sendRead b).vital = s.vital := by
  simp only [State.sendRead, State.sendRoce_vital]
theorem State.resend_vital (js : Nat) (b : Binding) : (s.resend js b).vital = s.vital := by
  unfold State.resend
  split
  · have hfold (j : Job) (cs : List SlotCopy) (s : State) : (cs.foldl (fun s c =>
        match s.readySlot j c.index c.slot with
        | some (r, rc) => (if c.phase = 1 then s.sendData j rc r b else s.sendWord j rc r b).bump64 0x00A00040 1
        | none => s) s).vital = s.vital := by
      refine foldl_vital (fun s c => ?_) cs s
      split
      · simp only [State.bump64_vital, apply_ite State.vital, State.sendData_vital, State.sendWord_vital, ite_self]
      · rfl
    dsimp only
    split
    · exact (State.bump64_vital _ _ _).trans ((State.sendRead_vital _ _).trans (hfold _ _ s))
    · exact hfold _ _ s
  · rfl
theorem State.refuseRequest_vital (q : RmaIn) (status : Nat) : (s.refuseRequest q status).vital = s.vital :=
  kept (s.refuseRequest_outside (F := eventParts) (by decide) q status) State.vital
theorem State.mirrorInterval_vital (slot : Nat) : (s.mirrorInterval slot).vital = s.vital :=
  kept (s.mirrorInterval_outside (F := .rma :: .jobs :: eventParts) (by decide) slot) State.vital
theorem State.updMirror_vital (jobId : Nat) (f : MirrorLink → MirrorLink) : (s.updMirror jobId f).vital = s.vital :=
  kept (s.updMirror_outside (F := [.jobs]) (by decide) jobId f) State.vital
theorem State.setDomain_vital (d : Nat) (on : Bool) : (s.setDomain d on).vital = s.vital := (rfl)
theorem State.setPowerState_vital (p : Nat) : (s.setPowerState p).vital = s.vital := by
  simp only [State.setPowerState, State.vital_mk, State.vital_eta, apply_ite State.vital, ite_self]
theorem State.storeFeature_vital (fid v : Nat) : (s.storeFeature fid v).vital = s.vital := (rfl)
theorem State.createQueue_vital (c : NvmeIn) : (s.createQueue c).vital = s.vital := by
  simp only [State.createQueue, State.vital_mk, State.vital_eta, apply_ite State.vital, State.nvDone_vital, ite_self]
theorem State.deleteQueue_vital (c : NvmeIn) : (s.deleteQueue c).vital = s.vital := by
  simp only [State.deleteQueue, State.vital_mk, State.vital_eta, apply_ite State.vital, State.nvDone_vital, ite_self]
theorem State.nvmeReset_vital (cc : Nat) : (s.nvmeReset cc).vital = s.vital :=
  kept (s.nvmeReset_outside (F := controllerParts) (by decide) cc) State.vital
theorem State.writeCc_vital (v : Nat) : (s.writeCc v).vital = s.vital := by
  simp only [State.writeCc, State.vital_mk, State.vital_eta, apply_ite State.vital, State.controllerReady_vital, State.nvmeReset_vital,
    ite_self]
theorem State.resetPf1_vital : s.resetPf1.vital = s.vital := (rfl)
theorem State.hostLinkDown_vital : s.hostLinkDown.vital = s.vital := (rfl)
theorem State.nvmeDeliver_vital (sq cid status result : Nat) : (s.nvmeDeliver sq cid status result).vital = s.vital :=
  kept (s.nvmeDeliver_outside (F := postParts) (by decide) sq cid status result) State.vital
theorem State.retrainLinks_vital : s.retrainLinks.vital = s.vital := by
  refine foldl_vital (fun s f => ?_) (List.range 16) s
  simp only [apply_ite State.vital, State.portStops_vital, ite_self]
theorem State.endActivation_vital (w : Waiter) : (s.endActivation w).vital = s.vital := by
  simp only [State.endActivation, State.vital_mk, State.vital_eta, apply_ite State.vital, State.endTrial_vital, State.finish_vital,
    State.measureHoldup_vital, State.retrainLinks_vital, ite_self]

end Sys2Proof.Machine
end

section
set_option Elab.async false
/-! SUPPORT. The operations that write a byte memory, a chain, a namespace or a settings image, and the reset: each keeps the canonical
form, and the mark of DECOMMISSION. -/

namespace Sys2Proof.Machine

variable {u v : Vital} {s : State}

/-! ## Maps of chains and of namespaces -/

theorem CMap.mem_of_find {α : Type} {m : CMap α} {k : Nat} {x : α} (h : m.find k = some x) : (k, x) ∈ m := by
  induction m with
  | nil => nomatch h
  | cons p m ih =>
    obtain ⟨j, y⟩ := p
    unfold CMap.find at h
    split at h
    · next hj =>
      subst hj
      obtain rfl := Option.some.inj h
      exact List.mem_cons_self
    split at h
    · nomatch h
    · exact List.mem_cons_of_mem _ (ih h)

section
variable {m : CMap Chain} (h : chainsWf m)
include h
theorem chainsWf.find {k : Nat} {c : Chain} (hc : m.find k = some c) : c.bytes.wf 0 = true := h _ (CMap.mem_of_find hc)
theorem chainsWf.put {c : Chain} (k : Nat) (hc : c.bytes.wf 0 = true) : chainsWf (m.put k c) := fun p hp => by
  rcases CMap.mem_put hp with rfl | hp
  · exact hc
  · exact h p hp
theorem chainsWf.del (k : Nat) : chainsWf (m.del k) := fun p hp => h p (CMap.mem_del hp)
end

section
variable {m : CMap Namespace} (h : spacesWf m)
include h
theorem spacesWf.find {k : Nat} {n : Namespace} (hn : m.find k = some n) : n.bytes.wf 0 = true := h _ (CMap.mem_of_find hn)
theorem spacesWf.put {n : Namespace} (k : Nat) (hn : n.bytes.wf 0 = true) : spacesWf (m.put k n) := fun p hp => by
  rcases CMap.mem_put hp with rfl | hp
  · exact hn
  · exact h p hp
theorem spacesWf.del (k : Nat) : spacesWf (m.del k) := fun p hp => h p (CMap.mem_del hp)
theorem spacesWf.upd (k : Nat) {f : Namespace → Namespace} (hf : ∀ n, n.bytes.wf 0 = true → (f n).bytes.wf 0 = true) :
    spacesWf (m.upd k f) := by
  unfold CMap.upd
  split
  next n hn => exact h.put k (hf n (h.find hn))
  next => exact h
end

/-! ## One part changed -/

namespace Vital.Keeps
variable (h : u.Keeps v)
include h
theorem decommission : u.Keeps { v with decommissioned := true } :=
  ⟨fun _ => rfl, fun hu => have hw := h.2 hu; ⟨hw.set, hw.run, hw.bodyA, hw.bodyB, hw.window, hw.sram, hw.chains, hw.spaces⟩⟩
theorem window {m : CMap Byte} (hm : v.window.wf 0 = true → m.wf 0 = true) : u.Keeps { v with window := m } :=
  ⟨h.1, fun hu => have hw := h.2 hu; ⟨hw.set, hw.run, hw.bodyA, hw.bodyB, hm hw.window, hw.sram, hw.chains, hw.spaces⟩⟩
theorem sram {m : CMap Byte} (hm : v.sram.wf 0 = true → m.wf 0 = true) : u.Keeps { v with sram := m } :=
  ⟨h.1, fun hu => have hw := h.2 hu; ⟨hw.set, hw.run, hw.bodyA, hw.bodyB, hw.window, hm hw.sram, hw.chains, hw.spaces⟩⟩
theorem chains {m : CMap Chain} (hm : chainsWf v.chains → chainsWf m) : u.Keeps { v with chains := m } :=
  ⟨h.1, fun hu => have hw := h.2 hu; ⟨hw.set, hw.run, hw.bodyA, hw.bodyB, hw.window, hw.sram, hm hw.chains, hw.spaces⟩⟩
theorem spaces {m : CMap Namespace} (hm : spacesWf v.spaces → spacesWf m) : u.Keeps { v with spaces := m } :=
  ⟨h.1, fun hu => have hw := h.2 hu; ⟨hw.set, hw.run, hw.bodyA, hw.bodyB, hw.window, hw.sram, hw.chains, hm hw.spaces⟩⟩
/-- New settings in force, and in the copy A or B of the settings image. -/
theorem settings {m a b : CMap Byte} (hm : v.Wf → m.wf 0 = true) (ha : v.Wf → a.wf 0 = true) (hb : v.Wf → b.wf 0 = true) :
    u.Keeps { v with set := m, bodyA := a, bodyB := b } :=
  ⟨h.1, fun hu => have hw := h.2 hu; ⟨hm hw, hw.run, ha hw, hb hw, hw.window, hw.sram, hw.chains, hw.spaces⟩⟩
/-- New settings in force, and at the next start. -/
theorem inForce {m : CMap Byte} (hm : v.Wf → m.wf 0 = true) : u.Keeps { v with set := m, run := m } :=
  ⟨h.1, fun hu => have hw := h.2 hu; ⟨hm hw, hm hw, hw.bodyA, hw.bodyB, hw.window, hw.sram, hw.chains, hw.spaces⟩⟩
/-- A reset: the settings of the reset in force, and an empty update window, bank memory and pools. -/
theorem reset {m : CMap Byte} (hm : m.wf 0 = true) : u.Keeps { v with set := m, run := m, window := [], sram := [], chains := [] } :=
  ⟨h.1, fun hu => have hw := h.2 hu; ⟨hm, hm, hw.bodyA, hw.bodyB, CMap.wf_nil 0, CMap.wf_nil 0, (fun _ hc => nomatch hc), hw.spaces⟩⟩
end Vital.Keeps

/-! ## The bank memory and the chains -/

section
variable (h : u.Keeps s.vital)
include h

theorem State.clearBank_keeps (die b : Nat) : u.Keeps (s.clearBank die b).vital := h.sram (fun hm => CMap.wf_filter hm _)

theorem State.writeChain_keeps (r off : Nat) (data : Bytes) : u.Keeps (s.writeChain r off data).vital := by
  unfold State.writeChain
  split
  next c hc => exact h.chains (fun hm => hm.put r (writeMem_wf (hm.find hc) off data))
  next => exact h

theorem State.markLeft_keeps (slot : Nat) : u.Keeps (s.markLeft slot).vital := by
  refine h.chains (fun hm c hc => ?_)
  obtain ⟨d, hd, rfl⟩ := List.mem_map.1 hc
  split
  · exact hm d hd
  · exact hm d hd

theorem State.addRef_keeps (r : Nat) : u.Keeps (s.addRef r).2.vital := by
  unfold State.addRef
  split
  next c hc =>
    split
    · simp only [State.bump_vital, h]
    · exact h.chains (fun hm => hm.put r (hm.find (c := c) hc))
  next => simp only [State.raise_vital, State.bump_vital, h]

/-! ## The namespaces -/

theorem State.changeUnits_keeps {f : Namespace → Namespace} (hf : ∀ n, n.bytes.wf 0 = true → (f n).bytes.wf 0 = true) (nsid off len : Nat) :
    u.Keeps (s.changeUnits nsid off len f).vital := by
  unfold State.changeUnits
  split
  next n hn =>
    rw [State.mapChange_vital]
    exact h.spaces (fun hm => hm.put nsid (hf n (hm.find hn)))
  next => exact h

theorem State.nsWrite_keeps (nsid off : Nat) (data : Bytes) : u.Keeps (s.nsWrite nsid off data).vital := by
  unfold State.nsWrite
  split
  next n hn => exact h.spaces (fun hm => hm.put nsid (writeMem_wf (hm.find hn) off data))
  next => exact h

theorem State.deallocate_keeps (nsid off len : Nat) : u.Keeps (s.deallocate nsid off len).vital :=
  State.changeUnits_keeps (s := { s with fresh := s.fresh + 1 }) h (fun _ hn => writeMem_wf (clearMem_wf hn off len) off _) nsid off len

theorem State.markBad_keeps (nsid c : Nat) : u.Keeps (s.markBad nsid c).vital :=
  h.spaces (fun hm => hm.upd nsid (fun _ hn => hn))

theorem State.losePiece_keeps (p : DirtyPiece) : u.Keeps (s.losePiece p).vital :=
  h.spaces (fun hm => hm.upd p.nsid (fun _ hn => writeMem_wf hn p.off p.old))

theorem State.repairCodeword_keeps (nsid c : Nat) : u.Keeps (s.repairCodeword nsid c).vital := by
  unfold State.repairCodeword
  split
  next n hn =>
    rw [State.program_vital, State.mapChange_vital]
    exact h.spaces (fun hm => hm.put nsid (hm.find (n := n) hn))
  next => exact h

theorem State.repairUnits_keeps (nsid off : Nat) (b : Bytes) : u.Keeps (s.repairUnits nsid off b).vital := by
  have hw : u.Keeps { s.vital with spaces := s.med.spaces.upd nsid (fun n =>
      { n.write off b with bad := n.bad.filter (fun c => !(codewords off b.length).contains c) }) } :=
    h.spaces (fun hm => hm.upd nsid (fun _ hn => writeMem_wf hn off b))
  unfold State.repairUnits
  rw [State.raise_vital, State.bump_vital, State.program_vital]
  dsimp only
  split
  · rw [State.mapChange_vital]
    exact hw
  · exact hw

theorem State.formatSpace_keeps (nsid : Nat) : u.Keeps (s.formatSpace nsid).vital := by
  unfold State.formatSpace
  split
  · rw [State.releaseFlushes_vital, State.journalEntry_vital]
    exact h.spaces (fun hm => hm.put nsid (CMap.wf_nil 0))
  · exact h

/-! ## The settings images -/

theorem State.changeSettings_keeps {f : CMap Byte → CMap Byte} (hf : ∀ m : CMap Byte, m.wf 0 = true → (f m).wf 0 = true) :
    u.Keeps (s.changeSettings f).vital := by
  unfold State.changeSettings
  simp only [apply_ite UpdBlock.setA, apply_ite UpdBlock.setB, State.vital_mk]
  split
  · exact h.settings (fun hw => hf _ hw.set) (fun hw => hw.bodyA) (fun hw => hf _ hw.set)
  · exact h.settings (fun hw => hf _ hw.set) (fun hw => hf _ hw.set) (fun hw => hw.bodyB)

theorem State.writeSetting_keeps (off : Nat) (data : Bytes) : u.Keeps (s.writeSetting off data).vital :=
  State.changeSettings_keeps h (fun _ hm => writeMem_wf hm off data)

/-! ## The update window -/

theorem State.writeUpd_keeps (o v : Nat) : u.Keeps (s.writeUpd o v).vital := by
  unfold State.writeUpd
  split
  · exact h.window (fun hm => writeMem_wf hm _ _)
  · exact h

end

end Sys2Proof.Machine
end

section
set_option Elab.async false
/-! SUPPORT. The operations that reach one of those writes: each keeps the vital parts, by the lemmas about what it calls. -/

namespace Sys2Proof.Machine

variable {u : Vital} {s : State}

section
variable (h : u.Keeps s.vital)
include h

theorem State.loseDirty_keeps : u.Keeps s.loseDirty.vital := by
  unfold State.loseDirty
  exact foldl_keeps (fun s a h => by simp only [State.losePiece_keeps, h]) _ h
theorem State.clearDies_keeps (cold : Bool) (cause : Nat) : u.Keeps (s.clearDies cold cause).vital := by
  have hd : u.Keeps (s.loseDirty.abortSelftest 2).vital := by simp only [State.abortSelftest_vital, State.loseDirty_keeps, h]
  unfold State.clearDies
  dsimp only
  rw [State.vital_mk]
  exact hd.reset defaultSettings_wf
theorem State.deviceReset_keeps (cold : Bool) (cause : Nat) : u.Keeps (s.deviceReset cold cause).vital := by
  simp only [State.deviceReset, State.vital_mk, State.vital_eta, State.clearDies_keeps, h]
theorem State.debugReset_keeps : u.Keeps s.debugReset.vital := by
  simp only [State.debugReset, State.vital_mk, State.vital_eta, State.deviceReset_keeps, State.raise_vital, h]
theorem State.activateReset_keeps : u.Keeps s.activateReset.vital := by
  simp only [State.activateReset, apply_ite State.vital, State.deviceReset_keeps, State.writeCount_vital, h, ite_self]
theorem State.poolBanks_keeps (die : Nat) (groups : List Nat) (take : Bool) : u.Keeps (s.poolBanks die groups take).vital := by
  unfold State.poolBanks
  exact foldl_keeps (fun s a h => by simp only [apply_ite State.vital, apply_ite u.Keeps, State.clearBank_keeps, State.setBank_vital, h,
    ite_self]) _ h
theorem State.endShrink_keeps (p : Nat) : u.Keeps (s.endShrink p).vital := by
  simp only [State.endShrink, apply_ite State.vital, apply_ite u.Keeps, State.poolBanks_keeps, State.setPool_vital, h, ite_self]
theorem State.poolChanged_keeps (p : Nat) : u.Keeps (s.poolChanged p).vital := by
  simp only [State.poolChanged, State.endShrink_keeps, State.levels_vital, h]
theorem State.configPool_keeps (p kind die first n cells : Nat) : u.Keeps (s.configPool p kind die first n cells).vital := by
  simp only [State.configPool, apply_ite State.vital, apply_ite u.Keeps, State.poolBanks_keeps, State.poolChanged_keeps,
    State.setPool_vital, h, ite_self]
theorem State.settingPool_keeps (j : Nat) : u.Keeps (s.settingPool j).vital := by
  simp only [State.settingPool, apply_ite State.vital, apply_ite u.Keeps, State.configPool_keeps, State.setPool_vital, h, ite_self]
theorem State.freeChain_keeps (r : Nat) : u.Keeps (s.freeChain r).vital :=
  State.poolChanged_keeps (s := { s with mem := { s.mem with chains := s.mem.chains.del r } }) (h.chains (fun hm => hm.del r)) _
theorem State.dropRefs_keeps (n : Nat) (gone : List RefFrame) : u.Keeps (s.dropRefs n gone).vital := by
  unfold State.dropRefs
  exact foldl_keeps (fun s a h => by simp only [apply_ite State.vital, apply_ite u.Keeps, State.freeChain_keeps, h, ite_self]) _ h
theorem State.trimRefs_keeps (n : Nat) : u.Keeps (s.trimRefs n).vital := by
  simp only [State.trimRefs, State.dropRefs_keeps, h]
theorem State.takeLive_keeps : u.Keeps s.takeLive.vital := by
  refine foldl_keeps (fun s t h => State.trimRefs_keeps h t) _ (foldl_keeps (fun s p h => State.settingPool_keeps h p) _ ?_)
  simp only [State.takePower_vital, State.changePartner_vital, State.takeServices_vital, State.takeKeys_vital, State.loadNetwork_vital,
    State.loadRetired_vital, State.loadBypass_vital, h]
/-- Settings in force, with each copy either the old one or these. -/
theorem State.settingsTaken_keeps {m : CMap Byte} (hm : m.wf 0 = true) (up : UpdBlock) (ha : up.setA = s.upd.setA ∨ up.setA.body = m)
    (hb : up.setB = s.upd.setB ∨ up.setB.body = m) (hw : up.window = s.upd.window) : u.Keeps { s with set := m, upd := up }.vital := by
  rw [State.vital_mk, hw]
  refine h.settings (fun _ => hm) (fun hv => ?_) (fun hv => ?_)
  · rcases ha with ha | ha
    · exact ha ▸ hv.bodyA
    · exact ha ▸ hm
  · rcases hb with hb | hb
    · exact hb ▸ hv.bodyB
    · exact hb ▸ hm
theorem State.activateSettings_keeps : u.Keeps s.activateSettings.vital := by
  have hs := State.settingsTaken_keeps h (m := settingsBody s.upd.set.data) (writeMem_wf (CMap.wf_nil 0) _ _)
  unfold State.activateSettings
  dsimp only
  split
  · refine State.takeLive_keeps (hs _ ?_ ?_ ?_)
    all_goals split
    all_goals simp only [true_or, or_true]
  · refine hs _ ?_ ?_ ?_
    all_goals split
    all_goals simp only [true_or, or_true]
theorem State.returnResv_keeps (p n : Nat) : u.Keeps (s.returnResv p n).vital := by
  simp only [State.returnResv, State.poolChanged_keeps, State.setPool_vital, h]
theorem State.endSamples_keeps (slot : Nat) : u.Keeps (s.endSamples slot).vital := by
  refine foldl_keeps (fun s x h => ?_) _ (foldl_keeps (fun s i h => ?_) _ h)
  · split
    · exact State.returnResv_keeps h _ _
    · exact h
  · split
    · split
      · rw [State.release_vital]
        exact h
      · exact h
    · exact h
theorem State.releasePlan_keeps (p : EpochPlan) : u.Keeps (s.releasePlan p).vital := by
  unfold State.releasePlan
  repeat' split
  all_goals simp only [State.freeChain_keeps, h]
theorem State.dropJob_keeps (slot : Nat) : u.Keeps (s.dropJob slot).vital := by
  unfold State.dropJob
  split
  next j _ =>
    exact State.markLeft_keeps (foldl_keeps (fun s p h => State.releasePlan_keeps h p) j.plans (State.endSamples_keeps h slot)) slot
  next => exact h
theorem State.leaveJobs_keeps : u.Keeps s.leaveJobs.vital := by
  unfold State.leaveJobs
  exact foldl_keeps (fun s a h => by simp only [State.dropJob_keeps, State.releaseWaiters_vital, h]) _ h
omit h in
theorem UpdBlock.setFwSlot_copies (b : UpdBlock) (i : Nat) (f : FwSlot) :
    (b.setFwSlot i f).setA = b.setA ∧ (b.setFwSlot i f).setB = b.setB ∧ (b.setFwSlot i f).window = b.window := by
  unfold UpdBlock.setFwSlot
  split
  · exact ⟨rfl, rfl, rfl⟩
  · exact ⟨rfl, rfl, rfl⟩
omit h in
theorem UpdBlock.recordStaged_setA (b : UpdBlock) : b.recordStaged.setA = b.setA := (b.setFwSlot_copies _ _).1
omit h in
theorem UpdBlock.recordStaged_setB (b : UpdBlock) : b.recordStaged.setB = b.setB := (b.setFwSlot_copies _ _).2.1
omit h in
theorem UpdBlock.recordStaged_window (b : UpdBlock) : b.recordStaged.window = b.window := (b.setFwSlot_copies _ _).2.2
theorem State.beginActivation_keeps (w : Waiter) : u.Keeps (s.beginActivation w).vital := by
  unfold State.beginActivation
  dsimp only
  split
  · simp only [State.vital_mk, UpdBlock.recordStaged_setA, UpdBlock.recordStaged_setB, UpdBlock.recordStaged_window, State.vital_eta,
      State.allDone_vital, State.leaveJobs_keeps, h]
  · simp only [State.vital_mk, UpdBlock.recordStaged_setA, UpdBlock.recordStaged_setB, UpdBlock.recordStaged_window, State.vital_eta, h]
theorem State.loseGroup_keeps (p die g : Nat) : u.Keeps (s.loseGroup p die g).vital := by
  simp only [State.loseGroup, State.poolBanks_keeps, State.poolChanged_keeps, State.setPool_vital, h]
theorem State.retireBank_keeps (die b : Nat) : u.Keeps (s.retireBank die b).vital :=
  State.changeSettings_keeps (s := (s.clearBank die b).setBank die b _) (State.clearBank_keeps h die b)
    (fun _ hm => writeMem_wf hm _ _)
theorem cursorStart_keeps (gen dev epoch step slot : Nat) (j : Job) {t : State} (ht : cursorStart gen dev epoch step slot j s = .inr t) :
    u.Keeps t.vital := by
  unfold cursorStart at ht
  split at ht
  · nomatch ht
  split at ht
  · nomatch ht
  split at ht
  · nomatch ht
  obtain rfl := Sum.inr.inj ht
  exact State.writeChain_keeps h _ _ _
theorem State.writeBypass_keeps (n cls : Nat) : u.Keeps (s.writeBypass n cls).vital := by
  simp only [State.writeBypass, apply_ite State.vital, apply_ite u.Keeps, State.writeSetting_keeps, h, ite_self]
theorem State.markOut_keeps (n cls idx : Nat) : u.Keeps (s.markOut n cls idx).vital := by
  simp only [State.markOut, State.abandonStages_vital, State.abortSlices_vital, State.schedule_vital, State.updTile_vital,
    State.writeBypass_keeps, h]
theorem State.allocate_keeps (p owner len : Nat) (reserved : Bool) {r : Nat × State} (hr : s.allocate p owner len reserved = some r) :
    u.Keeps r.2.vital := by
  simp only [State.allocate, Option.ite_none_left_eq_some] at hr
  obtain ⟨-, hr⟩ := hr
  split at hr
  · nomatch hr
  · obtain rfl := Option.some.inj hr
    refine State.poolChanged_keeps ?_ _
    rw [State.bump64_vital]
    have hc : ∀ c : Chain, ∀ r, c.bytes = [] → u.Keeps { s.vital with chains := s.mem.chains.put r c } := fun c r hb =>
      h.chains (fun hm => hm.put r (hb ▸ CMap.wf_nil 0))
    split
    · exact hc _ _ rfl
    · exact hc _ _ rfl
theorem State.beginPlan_keeps (w : Waiter) (slot : Nat) (j : Job) (epoch : Nat) :
    (s.beginPlan w slot j epoch).holds (fun t => u.Keeps t.vital) := by
  unfold State.beginPlan
  split
  · simp only [Own.holds_done, State.lostRead_vital, h]
  split
  · simp only [Own.holds_done, State.raise_vital, h]
  dsimp only
  split
  · simp only [Own.holds_done, State.raise_vital, State.lostRead_vital, h]
  split
  · simp only [Own.holds_run, State.setJob_vital, h]
  split
  · trivial
  next ha => simp only [Own.holds_run, State.setJob_vital, State.allocate_keeps h _ _ _ _ ha]
theorem State.haltJob_keeps (slot : Nat) : u.Keeps (s.haltJob slot).vital := by
  unfold State.haltJob
  split
  · rw [State.setJob_vital, foldl_vital (fun s t => State.schedule_vital s t)]
    exact State.endSamples_keeps h slot
  · exact h
theorem State.leaveJob_keeps (slot : Nat) : u.Keeps (s.leaveJob slot).vital := by
  unfold State.leaveJob
  split
  · rw [foldl_vital (fun s d => State.closeMirror_vital s _ d)]
    exact State.dropJob_keeps (by simp only [State.releaseWaiters_vital, State.releaseMirror_vital, h]) slot
  · exact h
theorem State.abandonPlan_keeps (slot : Nat) (p : EpochPlan) (r : Result) (lost : Option Nat) :
    u.Keeps (s.abandonPlan slot p r lost).vital := by
  unfold State.abandonPlan
  dsimp only
  repeat' split
  all_goals simp only [State.finishAll_vital, State.raise_vital, State.releasePlan_keeps, State.setJob_vital, h]
theorem State.loseDevice_keeps (slot lost : Nat) (tell : Bool) : u.Keeps (s.loseDevice slot lost tell).vital := by
  unfold State.loseDevice
  split
  · refine foldl_keeps (fun s p h => ?_) _ h
    dsimp only
    split
    · simp only [State.abandonPlan_keeps, State.toRanks_vital, h]
    · exact State.abandonPlan_keeps h _ _ _ _
  · exact h
theorem leaveStart_keeps (slot : Nat) (j : Job) {t : State} (ht : leaveStart slot j s = .inr t) : u.Keeps t.vital := by
  obtain rfl := Sum.inr.inj ht
  exact State.haltJob_keeps (State.loseDevice_keeps h _ _ _) _
omit h in
theorem eq_inr_of_ite {α β : Type} {c : Prop} [Decidable c] {a : α} {b : α ⊕ β} {t : β} (h : (if c then .inl a else b) = .inr t) :
    b = .inr t := by
  split at h
  · nomatch h
  · exact h
theorem resumeStart_keeps (epoch step slot : Nat) (j : Job) {t : State} (ht : resumeStart epoch step slot j s = .inr t) :
    u.Keeps t.vital := by
  obtain rfl := Sum.inr.inj (eq_inr_of_ite (eq_inr_of_ite ht))
  dsimp only
  rw [State.setJob_vital]
  split
  · split
    · exact State.releasePlan_keeps h _
    · exact h
  · exact h
theorem State.growPlan_keeps (slot : Nat) (p : EpochPlan) {t : State} (ht : s.growPlan slot p = some t) : u.Keeps t.vital := by
  unfold State.growPlan at ht
  split at ht
  · dsimp only at ht
    split at ht
    next ha =>
      obtain rfl := Option.some.inj ht
      rw [State.setJob_vital]
      exact State.allocate_keeps (State.releasePlan_keeps h p) _ _ _ _ ha
    next => nomatch ht
  · obtain rfl := Option.some.inj ht
    exact h
omit h in
/-- A fold that may fail: the parts are kept where it ends with a state. -/
theorem foldl_some_keeps {α : Type} {f : Option State → α → Option State}
    (hf : ∀ s a t, u.Keeps s.vital → f (some s) a = some t → u.Keeps t.vital) (hn : ∀ a, f none a = none) (l : List α) {s t : State}
    (h : u.Keeps s.vital) (ht : l.foldl f (some s) = some t) : u.Keeps t.vital := by
  induction l generalizing s with
  | nil => exact Option.some.inj ht ▸ h
  | cons a l ih =>
    rw [List.foldl_cons] at ht
    cases hs : f (some s) a with
    | none =>
      rw [hs, List.foldl_fixed' hn] at ht
      nomatch ht
    | some r => exact ih (hf s a r h hs) (hs ▸ ht)
theorem takeoverStart_keeps (failed slot : Nat) (j : Job) {t : State} (ht : takeoverStart failed slot j s = .inr t) :
    u.Keeps t.vital := by
  unfold takeoverStart at ht
  split at ht
  · nomatch ht
  split at ht
  · nomatch ht
  split at ht
  · nomatch ht
  split at ht
  · nomatch ht
  dsimp only at ht
  split at ht
  · nomatch ht
  split at ht
  · obtain rfl := Sum.inr.inj ht
    exact State.loseDevice_keeps h _ _ _
  split at ht
  next hf =>
    obtain rfl := Sum.inr.inj ht
    refine foldl_some_keeps (fun s p r h hr => ?_) (fun _ => rfl) _ ?_ hf
    · dsimp only at hr
      split at hr
      · obtain rfl := Option.some.inj hr
        exact h
      · split at hr
        next hg =>
          obtain rfl := Option.some.inj hr
          split
          · rw [State.reissuePlan_vital]
            exact State.growPlan_keeps h _ _ hg
          · exact State.growPlan_keeps h _ _ hg
        next => nomatch hr
    · exact State.loseDevice_keeps h _ _ _
  next => nomatch ht
theorem State.networkImage_keeps (p : Packet) : u.Keeps (s.networkImage p).vital := by
  simp only [State.networkImage, apply_ite State.vital, apply_ite u.Keeps, State.writeSetting_keeps, h, ite_self]
theorem State.writePoolEntry_keeps (p kind die first amount : Nat) : u.Keeps (s.writePoolEntry p kind die first amount).vital := by
  simp only [State.writePoolEntry, State.writeSetting_keeps, h]
theorem State.dropParams_keeps (slot : Nat) : u.Keeps (s.dropParams slot).vital := by
  unfold State.dropParams
  split
  · refine foldl_keeps (fun s r h => ?_) _ (s := s.setJob slot _) h
    split
    · exact State.freeChain_keeps h _
    · exact h
  · exact h
omit h in
theorem State.advanceCursor_keeps (slot n : Nat) (s : State) (h : u.Keeps s.vital) : u.Keeps (State.advanceCursor slot n s).vital := by
  induction n generalizing s with
  | zero => exact h
  | succ n ih =>
    unfold State.advanceCursor
    split
    · exact h
    · split
      · split
        · exact h
        · dsimp only
          split
          · exact h
          · exact ih _ (State.dropParams_keeps (s := (s.releasePlan _).setJob slot _) (State.releasePlan_keeps h _) slot)
      · exact h
theorem State.failStart_keeps (reason detail : Nat) : u.Keeps (s.failStart reason detail).vital := by
  unfold State.failStart
  dsimp only
  split
  · simp only [State.raise_vital, State.deviceReset_keeps, State.vital_mk, UpdBlock.writeRecord_setA, UpdBlock.writeRecord_setB,
      UpdBlock.writeRecord_window, State.vital_eta, State.writeCount_vital, State.bootRecord_vital, h]
  · simp only [State.deviceReset_keeps, State.writeCount_vital, State.bootRecord_vital, h]
theorem State.fatalStart_keeps (code : Nat) : u.Keeps (s.fatalStart code).vital := by
  simp only [State.fatalStart, apply_ite State.vital, apply_ite u.Keeps, State.failStart_keeps, h, ite_self]
theorem State.nvmeDsm_keeps (c : NvmeIn) : u.Keeps (s.nvmeDsm c).vital := by
  have hd : u.Keeps (c.ranges.foldl (fun s r => s.deallocate c.nsid r.1 r.2) s).vital :=
    foldl_keeps (fun s r h => State.deallocate_keeps h _ _ _) _ h
  unfold State.nvmeDsm
  split
  · simp only [State.nvDone_vital, h]
  · simp only [apply_ite State.vital, State.nvDone_vital, apply_ite u.Keeps, h, hd, ite_self]
theorem State.admitPiece_keeps : u.Keeps s.admitPiece.vital := by
  unfold State.admitPiece
  dsimp only
  repeat' split
  all_goals simp only [State.vital_mk, State.vital_eta, State.endWrite_vital, State.nsWrite_keeps, State.nvmePost_vital,
    State.program_vital, h]
omit h in
theorem State.admitAll_keeps (n : Nat) {s : State} (h : u.Keeps s.vital) : u.Keeps (State.admitAll n s).vital := by
  induction n generalizing s with
  | zero => exact h
  | succ n ih =>
    unfold State.admitAll
    split
    · exact h
    · split
      · exact ih (State.admitPiece_keeps h)
      · exact h
theorem State.nvmeWrite_keeps (c : NvmeIn) : u.Keeps (s.nvmeWrite c).vital := by
  unfold State.nvmeWrite
  split
  · rw [State.nvDone_vital]
    exact h
  · exact State.admitAll_keeps _ (s := { s with nvme := _ }) h
theorem State.nvmeWriteZeroes_keeps (c : NvmeIn) : u.Keeps (s.nvmeWriteZeroes c).vital := by
  have hz : u.Keeps (s.changeUnits c.nsid c.off c.len (fun n => n.zeroed c.off c.len)).vital :=
    State.changeUnits_keeps h (fun _ hn => clearMem_wf hn c.off c.len) _ _ _
  unfold State.nvmeWriteZeroes
  split
  · rw [State.nvDone_vital]
    exact h
  · dsimp only
    split
    · rw [State.nvDone_vital, State.journalFlush_vital]
      exact hz
    · rw [State.nvDone_vital]
      exact hz
theorem State.nvmeIo_keeps (c : NvmeIn) : u.Keeps (s.nvmeIo c).vital := by
  unfold State.nvmeIo
  repeat' split
  all_goals simp only [State.nvDone_vital, State.nvmeDsm_keeps, State.nvmeFlush_vital, State.nvmeRead_vital, State.nvmeVerify_vital,
    State.nvmeWrite_keeps, State.nvmeWriteZeroes_keeps, h]
theorem State.runHeld_keeps : u.Keeps s.runHeld.vital := by
  unfold State.runHeld
  exact foldl_keeps (fun s a h => by simp only [State.nvmeIo_keeps, h]) _ h
theorem State.stepMedia_keeps (out : StartOut) : u.Keeps (s.stepMedia out).1.vital := by
  unfold State.stepMedia
  split
  · exact h
  · split
    · exact h
    · refine State.runHeld_keeps ?_
      rw [State.controllerReady_vital]
      refine foldl_keeps (fun s n h => ?_) _ (foldl_keeps (fun s n h => ?_) _ h)
      · simp only [State.raise_vital, State.setDie_vital, h]
      · simp only [State.setDie_vital, h]
theorem State.stepPools_keeps : u.Keeps s.stepPools.vital := by
  unfold State.stepPools
  rw [State.startAudit_vital]
  exact foldl_keeps (fun s p h => State.settingPool_keeps h p) _ h
theorem State.stepSettings_keeps : u.Keeps s.stepSettings.1.vital := by
  have hc : ∀ c, s.upd.activeCopy = some c → s.vital.Wf → c.body.wf 0 = true := fun c hc hw => by
    unfold UpdBlock.activeCopy at hc
    split at hc
    · obtain rfl := Option.some.inj hc
      exact hw.bodyA
    · split at hc
      · obtain rfl := Option.some.inj hc
        exact hw.bodyB
      · nomatch hc
  unfold State.stepSettings
  split
  · exact h
  next c hcc =>
    simp only [State.loadServices_vital, State.loadNetwork_vital, State.loadRetired_vital, State.loadBypass_vital]
    exact h.inForce (hc c hcc)
/-! ## The parts of a start -/

omit h in
theorem State.stepFirmware_vital (s : State) (out : StartOut) : (s.stepFirmware out).1.vital = s.vital := by
  unfold State.stepFirmware
  dsimp only
  split
  · rfl
  · simp only [apply_ite State.vital, State.bootRecord_vital, State.vital_mk, State.vital_eta, ite_self]
omit h in
theorem State.stepHbm_vital (s : State) (out : StartOut) : (s.stepHbm out).1.vital = s.vital := by
  unfold State.stepHbm
  split
  · rfl
  · exact State.domainsOn_vital _ _
omit h in
theorem State.stepTiles_vital (s : State) (out : StartOut) : (s.stepTiles out).1.vital = s.vital := by
  unfold State.stepTiles
  dsimp only
  split
  all_goals exact foldl_vital (fun s n => State.startTile_vital s n _) _ _
omit h in
theorem State.stepLinks_vital (s : State) (out : StartOut) : (s.stepLinks out).1.vital = s.vital := by
  have hl (s : State) (l : List Nat) : (l.foldl State.startLinkDie s).vital = s.vital := foldl_vital (fun s d => State.startLinkDie_vital s d) l s
  have hf (s : State) : ((List.range 2).foldl (fun s d => if bit out.linkFail d then s.raise evLinkDieFail (5 + d) [] else s) s).vital = s.vital := by
    refine foldl_vital (fun s d => ?_) _ s
    split
    · exact State.raise_vital ..
    · rfl
  unfold State.stepLinks
  dsimp only
  split
  · rw [State.emitAll_vital, hl, hf]
    rfl
  · rw [hl, hf]
    rfl
theorem State.startStep_keeps (k : Nat) (out : StartOut) : u.Keeps (s.startStep k out).1.vital := by
  have hr : u.Keeps (s.tornRecords k out.torn).vital := by simp only [State.tornRecords_vital, h]
  unfold State.startStep
  split
  · exact h
  dsimp only
  split
  · split
    · simp only [State.stepHub_vital, hr]
    · exact hr
  · simp only [State.stepCount_vital, hr]
  · simp only [State.stepFirmware_vital, hr]
  · exact State.stepSettings_keeps hr
  · simp only [State.stepPit_vital, hr]
  · simp only [State.stepHbm_vital, hr]
  · simp only [State.stepTiles_vital, hr]
  · simp only [State.stepLinks_vital, hr]
  · exact State.stepMedia_keeps hr out
  · exact State.stepPools_keeps hr
  · simp only [State.stepReady_vital, hr]
  · exact hr
theorem State.revertActivation_keeps : u.Keeps s.revertActivation.vital := by
  simp only [State.revertActivation, State.raise_vital, State.deviceReset_keeps, State.vital_mk, UpdBlock.writeRecord_setA,
    UpdBlock.writeRecord_setB, UpdBlock.writeRecord_window, State.vital_eta, State.writeCount_vital, State.bootRecord_vital, h]
theorem State.writeHub_keeps (path a v : Nat) (sigOk : Bool) : u.Keeps (s.writeHub path a v sigOk).vital := by
  simp only [State.writeHub, apply_ite State.vital, apply_ite u.Keeps, State.writeCmd_vital, State.writeEvtCtrl_vital,
    State.writeSec_vital, State.writeSloe_vital, State.writeSys_vital, State.writeUpd_keeps, h, ite_self]
theorem State.writeReg_keeps (path a v : Nat) (sigOk : Bool) : u.Keeps (s.writeReg path a v sigOk).vital := by
  unfold State.writeReg State.gated
  repeat' split
  all_goals simp only [State.regInvalid_vital, State.writeSnap_vital, State.writeHub_keeps, State.writeMid_vital, State.writeHigh_vital,
    h]
theorem State.foundBad_keeps (bad : List (Nat × Nat × Bool)) : u.Keeps (s.foundBad bad).vital := by
  unfold State.foundBad
  exact foldl_keeps (fun s a h => by simp only [apply_ite State.vital, apply_ite u.Keeps, State.bump_vital, State.markBad_keeps,
    State.raise_vital, State.raiseUncorrectable_vital, State.repairCodeword_keeps, h, ite_self]) _ h
theorem State.emptyRefs_keeps (n : Nat) : u.Keeps (s.emptyRefs n).vital := by
  simp only [State.emptyRefs, State.vital_mk, State.vital_eta, State.dropRefs_keeps, h]
theorem State.emptyCache_keeps (d : Nat) : u.Keeps (s.emptyCache d).vital := by
  simp only [State.emptyCache, apply_ite State.vital, apply_ite u.Keeps, State.emptyRefs_keeps, h, ite_self]
theorem State.stopEngines_keeps : u.Keeps s.stopEngines.vital := by
  unfold State.stopEngines
  dsimp only
  rw [State.vital_mk, State.vital_eta]
  refine foldl_keeps (fun s t h => State.emptyRefs_keeps h t) _ ?_
  simp only [State.domainsOff_vital, State.finishAll_vital, State.abortSlices_vital, State.leaveJobs_keeps, h]
theorem State.endRun_keeps (r : TestRun) : u.Keeps (s.endRun r).vital := by
  simp only [State.endRun, apply_ite State.vital, apply_ite u.Keeps, State.finish_vital, State.raise_vital, State.schedule_vital,
    State.startAudit_vital, State.updTile_vital, State.writeBypass_keeps, h, ite_self]
theorem State.countRuns_keeps (key : Nat) (ok : Bool) : u.Keeps (s.countRuns key ok).vital := by
  unfold State.countRuns
  exact foldl_keeps (fun s a h => by simp only [State.endRun_keeps, h]) _ h
theorem State.engineFault_keeps (n cls idx : Nat) : u.Keeps (s.engineFault n cls idx).vital := by
  simp only [State.engineFault, apply_ite State.vital, State.markOut_keeps, State.raise_vital, h, ite_self]
theorem State.sliceFails_keeps (v : Slice) (sub col : Nat) : u.Keeps (s.sliceFails v sub col).vital := by
  simp only [State.sliceFails, State.vital_mk, State.vital_eta, apply_ite State.vital, apply_ite u.Keeps, State.bump_vital,
    State.engineFault_keeps, State.raise_vital, State.setBank_vital, State.updPort_vital, h, ite_self]
theorem State.endHandover_keeps (die b : Nat) : u.Keeps (s.endHandover die b).vital := by
  unfold State.endHandover
  dsimp only
  repeat' split
  all_goals simp only [State.clearBank_keeps, State.setBank_vital, h]
theorem State.endBankMove_keeps (die b : Nat) : u.Keeps (s.endBankMove die b).vital := by
  unfold State.endBankMove
  dsimp only
  repeat' split
  all_goals simp only [State.clearBank_keeps, State.setBank_vital, h]
theorem State.freeOwner_keeps (kind o : Nat) : u.Keeps (s.freeOwner kind o).vital := by
  unfold State.freeOwner
  exact foldl_keeps (fun s a h => by simp only [State.freeChain_keeps, h]) _ h
theorem State.auditEnds_keeps (a : Audit) : u.Keeps (s.auditEnds a).vital := by
  have hf : ∀ s : State, u.Keeps s.vital → ∀ l : List (Nat × Nat), u.Keeps (l.foldl (fun s l =>
      (s.raise evPoolLeak 4 (leBytes 2 l.1 ++ leBytes 4 l.2)).freeOwner a.kind l.1) s).vital := fun s hs l =>
    foldl_keeps (fun s l h => State.freeOwner_keeps (by simp only [State.raise_vital, h]) _ _) l hs
  unfold State.auditEnds
  dsimp only
  split
  · refine hf _ ?_ _
    exact h
  · split
    · rw [State.finish_vital, State.emit_vital]
      refine hf _ ?_ _
      exact h
    · rw [State.finish_vital]
      refine hf _ ?_ _
      exact h
theorem State.cxeWrite_keeps (p : Packet) (ws : List (Nat × Bytes)) : u.Keeps (s.cxeWrite p ws).vital := by
  unfold State.cxeWrite
  exact foldl_keeps (fun s a h => by simp only [apply_ite State.vital, apply_ite u.Keeps, State.emit_vital, State.writeChain_keeps, h,
    ite_self]) _ h
theorem State.storeRead_keeps (r : RmaRequest) (data : Bytes) : u.Keeps (s.storeRead r data).vital := by
  simp only [State.storeRead, apply_ite State.vital, apply_ite u.Keeps, State.emit_vital, State.writeChain_keeps, h, ite_self]
theorem State.endRequest_keeps (id status : Nat) (data : Bytes) : u.Keeps (s.endRequest id status data).vital := by
  unfold State.endRequest
  dsimp only
  repeat' split
  all_goals simp only [State.vital_mk, State.vital_eta, State.finish_vital, State.mirrorDone_vital, State.mirrorFailed_vital,
    State.storeRead_keeps, h]
theorem State.loseRequests_keeps (devs : List Nat) : u.Keeps (s.loseRequests devs).vital := by
  unfold State.loseRequests
  exact foldl_keeps (fun s a h => by simp only [State.endRequest_keeps, h]) _ h
theorem State.noteLost_keeps (devs : List Nat) : u.Keeps (s.noteLost devs).vital := by
  simp only [State.noteLost, State.vital_mk, State.vital_eta, State.loseRequests_keeps, h]
omit h in
theorem State.advancePlan_keeps (slot epoch n : Nat) {s : State} (h : u.Keeps s.vital) :
    u.Keeps (State.advancePlan slot epoch n s).vital := by
  induction n generalizing s with
  | zero => exact h
  | succ n ih =>
    unfold State.advancePlan
    split
    · exact h
    · split
      · exact h
      · split
        · exact h
        · exact ih (by simp only [State.emitAll_vital, State.setJob_vital, h])
        · simp only [State.finishAll_vital, State.setJob_vital, h]
        · exact State.abandonPlan_keeps h _ _ _ _
theorem State.withPlan_keeps (jobId epoch : Nat) {f : Nat → Job → EpochPlan → State} (hf : ∀ n j p, u.Keeps (f n j p).vital) :
    u.Keeps (s.withPlan jobId epoch f).vital := by
  unfold State.withPlan
  split
  · split
    · exact State.advancePlan_keeps _ _ _ (hf _ _ _)
    · exact h
  · exact h
theorem State.takeRecord_keeps (b : Bytes) {c : Bool} {t : State} (ht : s.takeRecord b = .taken c t) : u.Keeps t.vital := by
  have hi : ∀ {d : Bool} {w : State}, u.Keeps w.vital → Taken.taken d w = .taken c t → u.Keeps t.vital := fun hw e => by
    obtain ⟨-, rfl⟩ := Taken.taken.inj e
    exact hw
  unfold State.takeRecord at ht
  split at ht
  · exact hi (by simp only [State.raise_vital, h]) ht
  · split at ht
    · exact hi (by simp only [State.raise_vital, h]) ht
    · dsimp only at ht
      split at ht
      · split at ht
        · exact hi h ht
        · exact hi (by simp only [State.conflictOf_vital, h]) ht
      · split at ht
        · nomatch ht
        next ha =>
          split at ha
          · nomatch ha
          · exact hi (by simp only [State.freeHeld_vital, State.setJob_vital, State.writeChain_keeps,
              State.allocate_keeps h _ _ _ _ ha]) ht
theorem State.takeFromRing_keeps (slot : Nat) (b : Bytes) : u.Keeps (s.takeFromRing slot b).vital := by
  unfold State.takeFromRing
  split
  · exact h
  · split
    · exact h
    · split
      · exact h
      · split
        · exact h
        next ht =>
          have hk := State.takeRecord_keeps h b ht
          exact hk
theorem State.takeFromTable_keeps (i : Nat) : u.Keeps (s.takeFromTable i).vital := by
  unfold State.takeFromTable
  split
  · exact h
  · split
    · exact h
    · split
      · exact h
      next ht =>
        have hk := State.takeRecord_keeps h _ ht
        dsimp only
        split
        · rw [State.finish_vital]
          exact hk
        · exact hk
theorem State.dropSample_keeps (i : Nat) : u.Keeps (s.dropSample i).vital := by
  have hc : ∀ (l : List (Nat × Nat)) {t : State}, t.vital = s.vital →
      u.Keeps (l.foldl (fun s c => s.freeChain (cellRef c.1 c.2)) t).vital := fun l _ ht =>
    foldl_keeps (fun s c h => State.freeChain_keeps h _) l (ht ▸ h)
  unfold State.dropSample
  split
  · exact h
  next x _ =>
    have hr : { s.release i with samples := (s.release i).samples.eraseIdx i }.vital = s.vital := by
      rw [State.vital_mk, State.vital_eta, State.release_vital]
    dsimp only
    rw [State.schedule_vital]
    split
    · exact State.returnResv_keeps (hc x.chains hr) _ _
    · exact hc x.chains hr
theorem State.stopSample_keeps (i : Nat) (k : EvKind) (detail : Bytes) : u.Keeps (s.stopSample i k detail).vital := by
  unfold State.stopSample
  repeat' split
  all_goals simp only [State.dropSample_keeps, State.raise_vital, State.stopJob_vital, h]
theorem State.fetchChain_keeps (x : Sample) (pool : Nat) : u.Keeps (s.fetchChain x pool).2.vital := by
  unfold State.fetchChain
  split
  next ha => exact State.allocate_keeps h _ _ _ _ ha
  next => exact h
theorem State.takeResv_keeps (p n : Nat) : u.Keeps (s.takeResv p n).vital := by
  simp only [State.takeResv, State.poolChanged_keeps, State.setPool_vital, h]
theorem State.admitSlot_keeps (slot : Nat) (j : Job) (p : EpochPlan) (rec' : PlanRec) (c : CatRecord) (rc : Recipe) (tile : Nat) :
    u.Keeps (s.admitSlot slot j p rec' c rc tile).vital := by
  unfold State.admitSlot
  dsimp only
  generalize j.setPlan _ = j'
  have hf : ∀ (t : State) k, t.vital = s.vital → u.Keeps ((t.takeResv k (s.needCells j rc rec'.bucket c.length)).fetchChain
      (newSample slot p.epoch tile rec' c (s.needCells j rc rec'.bucket c.length)) k).2.vital := fun t k ht =>
    State.fetchChain_keeps (State.takeResv_keeps (ht ▸ h) _ _) _ _
  repeat' split
  all_goals simp only [State.stopJob_vital, State.mediaRead_vital]
  all_goals exact hf _ _ (State.setJob_vital s slot j')
theorem State.unrecoverable_keeps (i : Nat) : u.Keeps (s.unrecoverable i).vital := by
  simp only [State.unrecoverable, State.stopSample_keeps, h]
theorem State.askReplica_keeps (i : Nat) (devs : List Nat) : u.Keeps (s.askReplica i devs).vital := by
  unfold State.askReplica
  repeat' split
  all_goals simp only [State.bump_vital, State.emit_vital, State.unrecoverable_keeps, State.updSample_vital, h]
theorem State.dropMember_keeps (i : Nat) (x : Sample) : u.Keeps (s.dropMember i x).vital := by
  simp only [State.dropMember, State.vital_mk, State.vital_eta, State.addResolved_vital, State.dropSample_keeps, h]
theorem State.placeReserve_keeps (slot epoch step member k : Nat) : u.Keeps (s.placeReserve slot epoch step member k).vital := by
  unfold State.placeReserve
  repeat' split
  all_goals simp only [State.advanceCursor_keeps, State.addResolved_vital, State.dropSample_keeps, State.schedule_vital,
    State.updSample_vital, h]
theorem State.tellPlacement_keeps (slot : Nat) (j : Job) (epoch step : Nat) (r : PlanRec) (k : Nat) :
    u.Keeps (s.tellPlacement slot j epoch step r k).vital := by
  simp only [State.tellPlacement, apply_ite State.vital, apply_ite u.Keeps, State.emit_vital, State.placeReserve_keeps, h, ite_self]
theorem State.settleWith_keeps (slot : Nat) (j : Job) (rc : Recipe) (epoch step : Nat) (batch : List PlanRec) (vs : List Verdict) :
    u.Keeps (s.settleWith slot j rc epoch step batch vs).vital := by
  have ht : ∀ (reps : List (Nat × Option Nat)) (l : List PlanRec),
      u.Keeps (l.foldl (fun s r => s.tellPlacement slot j epoch step r (slotFor reps r.member)) s).vital := fun reps l =>
    foldl_keeps (fun s r h => State.tellPlacement_keeps h slot j epoch step r _) l h
  unfold State.settleWith
  refine iteInduction (motive := fun t : State => u.Keeps t.vital) (fun _ => ?_) (fun _ => ?_)
  · simp only [State.stopJob_vital, State.raise_vital, ht]
  · refine State.advanceCursor_keeps _ _ _ ?_
    rw [foldl_vital (fun s e => State.addEmpty_vital s _ _ _ _ _ _)]
    exact ht _ _
theorem State.settleBatch_keeps (slot epoch step : Nat) : u.Keeps (s.settleBatch slot epoch step).vital := by
  unfold State.settleBatch
  dsimp only
  repeat' split
  all_goals simp only [State.settleWith_keeps, h]
theorem State.takeVerdict_keeps (slot : Nat) (v : Verdict) : u.Keeps (s.takeVerdict slot v).vital := by
  simp only [State.takeVerdict, State.vital_mk, State.vital_eta, State.settleBatch_keeps, h]
theorem State.sendVerdict_keeps (slot : Nat) (v : Verdict) : u.Keeps (s.sendVerdict slot v).vital := by
  unfold State.sendVerdict
  repeat' split
  all_goals simp only [State.emit_vital, State.takeVerdict_keeps, h]
theorem State.judge_keeps (i : Nat) (scored : Bool) : u.Keeps (s.judge i scored).vital := by
  unfold State.judge
  split
  · exact h
  · dsimp only
    refine State.advanceCursor_keeps _ _ _ (State.sendVerdict_keeps ?_ _ _)
    repeat' split
    all_goals simp only [State.enterStage_vital, State.updSample_vital, State.dropMember_keeps, h]
theorem State.goStage_keeps (i t : Nat) (scored : Bool) : u.Keeps (s.goStage i t scored).vital := by
  unfold State.goStage
  repeat' split
  all_goals simp only [State.enterStage_vital, State.judge_keeps, h]
theorem State.sizeMismatch_keeps (i reason : Nat) : u.Keeps (s.sizeMismatch i reason).vital := by
  simp only [State.sizeMismatch, State.stopSample_keeps, h]
theorem State.leaveStage_keeps (i st : Nat) (scored : Bool) : u.Keeps (s.leaveStage i st scored).vital := by
  unfold State.leaveStage
  dsimp only
  repeat' split
  all_goals simp only [State.goStage_keeps, State.noteConcealed_vital, State.sizeMismatch_keeps, State.updWork_vital, h]
theorem State.unsupported_keeps (i reason : Nat) : u.Keeps (s.unsupported i reason).vital := by
  simp only [State.unsupported, State.stopSample_keeps, h]
theorem State.fetched_keeps (i : Nat) (b : Bytes) : u.Keeps (s.fetched i b).vital := by
  unfold State.fetched
  dsimp only
  repeat' split
  all_goals simp only [State.leaveStage_keeps, State.unsupported_keeps, State.updSample_vital, State.writeChain_keeps, h]
theorem State.stageFault_keeps (i : Nat) : u.Keeps (s.stageFault i).vital := by
  simp only [State.stageFault, State.stopSample_keeps, h]
theorem State.refuseStage_keeps (i : Nat) (x : Sample) : u.Keeps (s.refuseStage i x).vital := by
  simp only [State.refuseStage, apply_ite State.vital, apply_ite u.Keeps, State.release_vital, State.schedule_vital,
    State.stageFault_keeps, State.updSample_vital, h, ite_self]
theorem State.bankRefusal_keeps (i : Nat) (x : Sample) (die b : Nat) : u.Keeps (s.bankRefusal i x die b).vital := by
  simp only [State.bankRefusal, apply_ite State.vital, State.bump_vital, State.raise_vital, State.refuseStage_keeps, h, ite_self]
theorem State.finishSample_keeps (i : Nat) (x : Sample) (k index : Nat) (data : Bytes) :
    u.Keeps (s.finishSample i x k index data).vital := by
  unfold State.finishSample
  refine State.advanceCursor_keeps _ _ _ ?_
  rw [State.addResolved_vital, State.addReady_vital]
  exact State.dropSample_keeps (s := s.bump64 _ 1) h i
theorem State.packEnds_keeps (i : Nat) (x : Sample) (r : Recipe) : u.Keeps (s.packEnds i x r).vital := by
  unfold State.packEnds
  dsimp only
  repeat' split
  all_goals simp only [State.bump_vital, State.countFrc_vital, State.finishSample_keeps, State.stopSample_keeps, h]
theorem State.scoreEnds_keeps (i : Nat) (x : Sample) (r : Recipe) : u.Keeps (s.scoreEnds i x r).vital := by
  simp only [State.scoreEnds, State.bump_vital, State.bump64_vital, State.leaveStage_keeps, State.release_vital, State.updWork_vital, h]
theorem State.textEnds_keeps (i : Nat) (x : Sample) (r : Recipe) : u.Keeps (s.textEnds i x r).vital := by
  unfold State.textEnds
  dsimp only
  repeat' split
  all_goals simp only [State.bump64_vital, State.leaveStage_keeps, State.release_vital, State.sizeMismatch_keeps, State.updWork_vital, h]
theorem State.badParam_keeps (i : Nat) : u.Keeps (s.badParam i).vital := by
  simp only [State.badParam, State.stopSample_keeps, h]
theorem State.transformEnds_keeps (i : Nat) (x : Sample) (r : Recipe) : u.Keeps (s.transformEnds i x r).vital := by
  unfold State.transformEnds
  dsimp only
  repeat' split
  all_goals simp only [State.badParam_keeps, State.bump64_vital, State.leaveStage_keeps, State.release_vital, State.sizeMismatch_keeps,
    State.stopSample_keeps, State.updWork_vital, h]
theorem State.computedEnds_keeps (i : Nat) (x : Sample) (r : Recipe) : u.Keeps (s.computedEnds i x r).vital := by
  unfold State.computedEnds
  repeat' split
  all_goals simp only [State.leaveStage_keeps, State.packEnds_keeps, State.release_vital, State.scoreEnds_keeps, State.textEnds_keeps,
    State.transformEnds_keeps, h]
theorem State.decodeEnds_keeps (i : Nat) (x : Sample) (fs : List Decoded) (rate fmt : Nat) (au : List (List Int)) (caps :
    List Caption) (lost : Bool) : u.Keeps (s.decodeEnds i x fs rate fmt au caps lost).vital := by
  simp only [State.decodeEnds, State.bump64_vital, State.leaveStage_keeps, State.release_vital, State.trimRefs_keeps,
    State.updSample_vital, h]
theorem State.selectEnds_keeps (i : Nat) (fs : List Nat) (af al tf tl : Nat) (lost : Bool) :
    u.Keeps (s.selectEnds i fs af al tf tl lost).vital := by
  simp only [State.selectEnds, State.leaveStage_keeps, State.release_vital, State.updWork_vital, h]
theorem State.stageEnds_keeps (i : Nat) (x : Sample) (r : Recipe) (out : StageOut) : u.Keeps (s.stageEnds i x r out).vital := by
  unfold State.stageEnds
  repeat' split
  all_goals simp only [State.badRef_vital, State.bankRefusal_keeps, State.computedEnds_keeps, State.decodeEnds_keeps,
    State.refuseStage_keeps, State.restartSample_vital, State.selectEnds_keeps, State.sizeMismatch_keeps, State.stageFault_keeps,
    State.unsupported_keeps, h]
theorem State.insertRef_keeps (n key size : Nat) : u.Keeps (s.insertRef n key size).vital := by
  unfold State.insertRef
  dsimp only
  split
  · split
    next ha => exact State.allocate_keeps h _ _ _ _ ha
    next => exact h
  · exact h
theorem State.refDecoded_keeps (n key size : Nat) (is : List Nat) (ok : Bool) : u.Keeps (s.refDecoded n key size is ok).vital := by
  simp only [State.refDecoded, apply_ite State.vital, apply_ite u.Keeps, State.bump64_vital, State.dropRefs_keeps, State.holdRef_vital,
    State.insertRef_keeps, State.touchRef_vital, State.trimRefs_keeps, h, ite_self]
theorem State.endIfQuiet_keeps (slot : Nat) : u.Keeps (s.endIfQuiet slot).vital := by
  unfold State.endIfQuiet
  repeat' split
  all_goals simp only [State.finish_vital, State.leaveJob_keeps, h]
theorem State.writesEnded_keeps (slot : Nat) : u.Keeps (s.writesEnded slot).vital :=
  State.endIfQuiet_keeps (State.advanceCursor_keeps _ _ _ (by simp only [State.finishCancels_vital, h])) slot
theorem State.dataAcked_keeps (js : Nat) (j : Job) (c : SlotCopy) : u.Keeps (s.dataAcked js j c).vital := by
  unfold State.dataAcked
  repeat' split
  all_goals simp only [State.sendWord_vital, State.setJob_vital, State.writesEnded_keeps, h]
theorem State.stopDest_keeps (js : Nat) (b : Binding) : u.Keeps (s.stopDest js b).vital := by
  unfold State.stopDest
  dsimp only
  repeat' split
  all_goals simp only [State.raise_vital, State.setJob_vital, State.writesEnded_keeps, h]
theorem State.qpError_keeps (q : Nat) : u.Keeps (s.qpError q).vital := by
  unfold State.qpError
  exact foldl_keeps (fun s a h => by simp only [State.stopDest_keeps, h]) _ h
theorem State.serveRequest_keeps (q : RmaIn) (v : Window) : u.Keeps (s.serveRequest q v).vital := by
  simp only [State.serveRequest, apply_ite State.vital, apply_ite u.Keeps, State.bump64_vital, State.emit_vital, State.writeChain_keeps,
    h, ite_self]
theorem State.dropRef_keeps (r : Nat) : u.Keeps (s.dropRef r).vital := by
  unfold State.dropRef
  split
  next c hc =>
    split
    · exact State.freeChain_keeps h r
    · exact h.chains (fun hm => hm.put r (hm.find (c := c) hc))
  next => simp only [State.raise_vital, h]
theorem State.openMirror_keeps (jobId dev : Nat) {r : MirrorWindow × State} (hr : s.openMirror jobId dev = some r) :
    u.Keeps r.2.vital := by
  unfold State.openMirror at hr
  split at hr
  next ha =>
    obtain rfl := Option.some.inj hr
    exact State.allocate_keeps h _ _ _ _ ha
  next => nomatch hr

end

end Sys2Proof.Machine
end

section
set_option Elab.async false
/-! SUPPORT. The order in which a command is taken, checked, carried out and answered (R438): it keeps the vital parts when the
command's own effect does. -/

namespace Sys2Proof.Machine

variable {u : Vital} {s : State}

theorem State.take_vital {opcode : Nat} {x : CmdIn} {w : Waiter} {t : State} (ht : s.take opcode x = some (w, t)) : t.vital = s.vital := by
  unfold State.take at ht
  split at ht
  · nomatch ht
  · split at ht
    · split at ht
      · obtain ⟨-, rfl⟩ := Prod.mk.inj (Option.some.inj ht)
        rfl
      · nomatch ht
    · obtain ⟨-, rfl⟩ := Prod.mk.inj (Option.some.inj ht)
      rfl

section
variable {own : Waiter → CmdIn → State → Own} {w : Waiter} {x : CmdIn}

theorem State.runOwn_keeps (sp : OpSpec) (h : u.Keeps s.vital) (ho : (own w x s).holds (fun t => u.Keeps t.vital)) :
    u.Keeps (s.runOwn sp own w x).vital := by
  unfold State.runOwn
  revert ho
  cases own w x s with
  | refuse r => exact fun _ => by simp only [State.turnDown_vital, h]
  | done r t | run t | fail r t =>
    intro (ho : u.Keeps t.vital)
    simp only [apply_ite State.vital, State.complete_vital, State.audit_vital, State.raise_vital, apply_ite u.Keeps, h, ho, ite_self]
  | last r t f =>
    intro ⟨ht, hf⟩
    have ha : u.Keeps (f ((t.audit (s.auditOf w r.status)).complete w r)).vital :=
      hf _ (by simp only [State.complete_vital, State.audit_vital, ht])
    have hc : u.Keeps (f (t.complete w r)).vital := hf _ (by simp only [State.complete_vital, ht])
    simp only [apply_ite State.vital, State.complete_vital, State.raise_vital, apply_ite u.Keeps, h, ha, hc, ite_self]

variable (sp : OpSpec) (h : u.Keeps s.vital) (ho : ∀ t : State, u.Keeps t.vital → (own w x t).holds (fun t => u.Keeps t.vital))
include h ho

theorem State.accept_keeps : u.Keeps (s.accept sp own w x).vital := by
  have hn : u.Keeps (s.noteCred x).vital := by simp only [State.noteCred_vital, h]
  unfold State.accept
  split
  · simp only [State.turnDown_vital, apply_ite State.vital, State.noteCred_vital, ite_self, h]
  · dsimp only
    split
    · simp only [State.turnDown_vital, hn]
    · exact State.runOwn_keeps sp hn (ho _ hn)

theorem State.consider_keeps : u.Keeps (s.consider sp own w x).vital := by
  unfold State.consider
  split
  · exact State.accept_keeps sp h ho
  · exact h

end

/-- A command keeps the vital parts when its own effect does. -/
theorem runCommand_keeps_vital {own : Waiter → CmdIn → State → Own} (sp : OpSpec) (x : CmdIn) (h : u.Keeps s.vital)
    (ho : ∀ w, ∀ t : State, u.Keeps t.vital → (own w x t).holds (fun t => u.Keeps t.vital)) : u.Keeps (runCommand sp own x s).vital := by
  unfold runCommand
  split
  · exact h
  next w t ht =>
    have ht : u.Keeps t.vital := State.take_vital ht ▸ h
    have hr : u.Keeps (t.receipt x).vital := by simp only [State.receipt_vital, ht]
    dsimp only
    split
    · simp only [State.forward_vital, ht]
    · split
      · split
        · simp only [State.answer_vital, hr]
        · exact hr
        · simp only [State.answer_vital, hr]
        · exact State.consider_keeps sp hr (ho w)
      · exact State.consider_keeps sp hr (ho w)

/-! ## Parts that several commands share -/

theorem SecBlock.unbind_decommissioned (b : SecBlock) (slot : Nat) : (b.unbind slot).decommissioned = b.decommissioned := (rfl)

/-- Staging and its check leave the window, and the body of both copies of the settings, as they are. -/
theorem UpdBlock.stage_bodies (b : UpdBlock) (unit : Nat) (g : Staging) :
    (b.stage unit g).setA.body = b.setA.body ∧ (b.stage unit g).setB.body = b.setB.body ∧ (b.stage unit g).window = b.window := by
  unfold UpdBlock.stage
  dsimp only
  split
  · obtain ⟨ha, hb, hw⟩ := UpdBlock.setFwSlot_copies { b with staged := g.data.length, fw := g } (1 - b.slot) { data := g.data, valid := false }
    exact ⟨congrArg SetCopy.body ha, congrArg SetCopy.body hb, hw⟩
  · split
    · exact ⟨rfl, rfl, rfl⟩
    · exact ⟨rfl, rfl, rfl⟩

theorem UpdBlock.verify_bodies (b : UpdBlock) (unit : Nat) :
    (b.verify unit).setA.body = b.setA.body ∧ (b.verify unit).setB.body = b.setB.body ∧ (b.verify unit).window = b.window := by
  unfold UpdBlock.verify
  split
  · exact ⟨rfl, rfl, rfl⟩
  · exact ⟨rfl, rfl, rfl⟩

theorem MedBlock.rekeyAll_wf {m : MedBlock} : spacesWf m.rekeyAll.spaces := by
  intro n hn
  obtain ⟨p, -, rfl⟩ := List.mem_map.1 hn
  exact CMap.wf_nil 0

section
variable (h : u.Keeps s.vital)
include h

theorem State.sourceFails_keeps_vital (x : CmdIn) (nsidOff addrOff len : Nat) (r : Result) :
    (s.sourceFails x nsidOff addrOff len r).holds (fun t => u.Keeps t.vital) := by
  unfold State.sourceFails
  split
  · simp only [Own.holds_done, State.lostRead_vital, h]
  · trivial

theorem State.loadImage_keeps (kind : Nat) (sigOk : Bool) (img : Bytes) : (s.loadImage kind sigOk img).holds (fun t => u.Keeps t.vital) := by
  unfold State.loadImage
  dsimp only
  repeat' split
  all_goals simp only [Own.holds_refuse, Own.holds_done, State.setImages_vital, h]

theorem State.loadRecipe_keeps (x : CmdIn) (img : Bytes) : (s.loadRecipe x img).holds (fun t => u.Keeps t.vital) := by
  unfold State.loadRecipe
  dsimp only
  repeat' split
  all_goals simp only [Own.holds_refuse, Own.holds_done, State.lostRead_vital, State.vital_mk, State.vital_eta, h]

theorem State.startJob_keeps (p : Packet) (r : HeldRecipe) (d : Bytes) : (s.startJob p r d).holds (fun t => u.Keeps t.vital) := by
  unfold State.startJob
  dsimp only
  repeat' split
  all_goals simp only [Own.holds_refuse, Own.holds_done, State.lostRead_vital, State.setupMirror_vital, State.setJob_vital, h]

theorem State.recovery_keeps (w : Waiter) {start : Nat → Job → State → Result ⊕ State}
    (hs : ∀ n j t, start n j s = .inr t → u.Keeps t.vital) : (s.recovery w start).holds (fun t => u.Keeps t.vital) := by
  have hg : ∀ n j, (match start n j s with
      | .inl r => Own.refuse r
      | .inr t => Own.run (t.startRecovery w n)).holds (fun t => u.Keeps t.vital) := fun n j => by
    split
    · trivial
    next ht => simp only [Own.holds_run, State.startRecovery_vital, hs _ _ _ ht]
  unfold State.recovery
  split
  · trivial
  dsimp only
  split
  · trivial
  split
  · exact hg _ _
  split
  · split
    · split
      · exact h
      split
      · simp only [Own.holds_run, State.setJob_vital, h]
      · exact hg _ _
    · trivial
  · trivial

theorem ownCxe_keeps (decode : Bool) (w : Waiter) (x : CmdIn) : (ownCxe decode w x s).holds (fun t => u.Keeps t.vital) := by
  unfold ownCxe
  dsimp only
  repeat' split
  all_goals simp only [Own.holds_refuse, Own.holds_done, Own.holds_run, State.badRef_vital, State.placeJob_vital, h]

theorem ownRma_keeps (isWrite : Bool) (w : Waiter) (x : CmdIn) : (ownRma isWrite w x s).holds (fun t => u.Keeps t.vital) := by
  unfold ownRma
  dsimp only
  repeat' split
  all_goals simp only [Own.holds_refuse, Own.holds_done, Own.holds_run, Own.holds_fail, State.badRef_vital, State.sendRequest_vital, h]

end

end Sys2Proof.Machine
end

section
set_option Elab.async false
/-! SUPPORT. The own effect of each command: it keeps the vital parts. -/

namespace Sys2Proof.Machine

variable {u : Vital} {s : State}

section
variable (h : u.Keeps s.vital)
include h

theorem ownIdentify_keeps (w : Waiter) (x : CmdIn) : (ownIdentify w x s).holds (fun t => u.Keeps t.vital) := by
  unfold ownIdentify
  simp only [Own.holds_done, h]
theorem ownNetworkSet_keeps (w : Waiter) (x : CmdIn) : (ownNetworkSet w x s).holds (fun t => u.Keeps t.vital) := by
  unfold ownNetworkSet
  dsimp only
  repeat' split
  all_goals simp only [Own.holds_refuse, Own.holds_done, State.networkImage_keeps, State.networkSet_vital, h]
theorem ownPartnerSet_keeps (w : Waiter) (x : CmdIn) : (ownPartnerSet w x s).holds (fun t => u.Keeps t.vital) := by
  unfold ownPartnerSet
  dsimp only
  repeat' split
  all_goals simp only [Own.holds_refuse, Own.holds_done, State.changePartner_vital, State.writeSetting_keeps, h]
theorem ownLiveServiceSet_keeps (w : Waiter) (x : CmdIn) : (ownLiveServiceSet w x s).holds (fun t => u.Keeps t.vital) := by
  unfold ownLiveServiceSet
  dsimp only
  repeat' split
  all_goals simp only [Own.holds_refuse, Own.holds_done, State.vital_mk, State.vital_eta, State.emit_vital, State.leaveService_vital,
    State.writeSetting_keeps, h]
theorem ownLiveServiceRemove_keeps (w : Waiter) (x : CmdIn) : (ownLiveServiceRemove w x s).holds (fun t => u.Keeps t.vital) := by
  unfold ownLiveServiceRemove
  dsimp only
  repeat' split
  all_goals simp only [Own.holds_refuse, Own.holds_done, State.leaveService_vital, State.writeSetting_keeps, h]
theorem ownRecipeLoad_keeps (w : Waiter) (x : CmdIn) : (ownRecipeLoad w x s).holds (fun t => u.Keeps t.vital) := by
  unfold ownRecipeLoad
  refine Own.holds_ite_refuse (Own.holds_ite_refuse ?_)
  split
  · trivial
  refine Own.holds_ite_refuse ?_
  split
  · exact State.sourceFails_keeps_vital h x _ _ _ _
  · exact State.loadRecipe_keeps h x _
theorem ownRecipeReplace_keeps (w : Waiter) (x : CmdIn) : (ownRecipeReplace w x s).holds (fun t => u.Keeps t.vital) := by
  unfold ownRecipeReplace
  dsimp only
  repeat' split
  all_goals simp only [Own.holds_refuse, Own.holds_done, State.setJob_vital, h]
theorem ownRecipeUnload_keeps (w : Waiter) (x : CmdIn) : (ownRecipeUnload w x s).holds (fun t => u.Keeps t.vital) := by
  unfold ownRecipeUnload
  dsimp only
  repeat' split
  all_goals simp only [Own.holds_refuse, Own.holds_done, State.vital_mk, State.vital_eta, h]
theorem ownImageLoad_keeps (w : Waiter) (x : CmdIn) : (ownImageLoad w x s).holds (fun t => u.Keeps t.vital) := by
  unfold ownImageLoad
  refine Own.holds_ite_refuse ?_
  split
  · exact State.sourceFails_keeps_vital h x _ _ _ _
  · exact State.loadImage_keeps h _ _ _
theorem ownImageUnload_keeps (w : Waiter) (x : CmdIn) : (ownImageUnload w x s).holds (fun t => u.Keeps t.vital) := by
  unfold ownImageUnload
  dsimp only
  repeat' split
  all_goals simp only [Own.holds_refuse, Own.holds_done, State.setImages_vital, h]
theorem ownJobStart_keeps (w : Waiter) (x : CmdIn) : (ownJobStart w x s).holds (fun t => u.Keeps t.vital) := by
  unfold ownJobStart
  refine Own.holds_ite_refuse (Own.holds_ite_refuse (Own.holds_ite_refuse (Own.holds_ite_refuse (Own.holds_ite_refuse ?_))))
  split
  · trivial
  refine Own.holds_ite_refuse (Own.holds_ite_refuse ?_)
  split
  · trivial
  · exact State.startJob_keeps h _ _ _
theorem ownJobEnd_keeps (w : Waiter) (x : CmdIn) : (ownJobEnd w x s).holds (fun t => u.Keeps t.vital) := by
  unfold ownJobEnd
  dsimp only
  repeat' split
  all_goals simp only [Own.holds_refuse, Own.holds_done, Own.holds_run, State.haltJob_keeps, State.leaveJob_keeps, State.setJob_vital, h]
theorem ownEpochPlan_keeps (w : Waiter) (x : CmdIn) : (ownEpochPlan w x s).holds (fun t => u.Keeps t.vital) := by
  unfold ownEpochPlan
  dsimp only
  repeat' split
  all_goals simp only [Own.holds_refuse, Own.holds_done, Own.holds_run, State.beginPlan_keeps, State.setJob_vital, h]
theorem ownParamTable_keeps (w : Waiter) (x : CmdIn) : (ownParamTable w x s).holds (fun t => u.Keeps t.vital) := by
  unfold ownParamTable
  dsimp only
  split
  · trivial
  refine Own.holds_ite_refuse ?_
  split
  · exact State.sourceFails_keeps_vital h x _ _ _ _
  · exact h
theorem ownParamRing_keeps (w : Waiter) (x : CmdIn) : (ownParamRing w x s).holds (fun t => u.Keeps t.vital) := by
  unfold ownParamRing
  dsimp only
  repeat' split
  all_goals simp only [Own.holds_refuse, Own.holds_done, State.setJob_vital, h]
theorem ownJobTakeover_keeps (w : Waiter) (x : CmdIn) : (ownJobTakeover w x s).holds (fun t => u.Keeps t.vital) := by
  exact State.recovery_keeps h w (fun n j _ => takeoverStart_keeps h _ n j)
theorem ownJobResume_keeps (w : Waiter) (x : CmdIn) : (ownJobResume w x s).holds (fun t => u.Keeps t.vital) := by
  unfold ownJobResume
  split
  · split
    · trivial
    · trivial
  · exact State.recovery_keeps h w (fun n j _ => resumeStart_keeps h _ _ n j)
theorem ownJobLeave_keeps (w : Waiter) (x : CmdIn) : (ownJobLeave w x s).holds (fun t => u.Keeps t.vital) := by
  exact State.recovery_keeps h w (fun n j _ => leaveStart_keeps h n j)
theorem ownCursorReset_keeps (w : Waiter) (x : CmdIn) : (ownCursorReset w x s).holds (fun t => u.Keeps t.vital) := by
  unfold ownCursorReset
  split
  · split
    · trivial
    · trivial
  · exact State.recovery_keeps h w (fun n j _ => cursorStart_keeps h _ _ _ _ n j)
theorem ownJobQuery_keeps (w : Waiter) (x : CmdIn) : (ownJobQuery w x s).holds (fun t => u.Keeps t.vital) := by
  unfold ownJobQuery
  repeat' split
  all_goals simp only [Own.holds_refuse, Own.holds_done, h]
theorem ownPlanReissue_keeps (w : Waiter) (x : CmdIn) : (ownPlanReissue w x s).holds (fun t => u.Keeps t.vital) := by
  unfold ownPlanReissue
  dsimp only
  repeat' split
  all_goals simp only [Own.holds_refuse, Own.holds_run, State.setJob_vital, h]
theorem ownPoolConfig_keeps (w : Waiter) (x : CmdIn) : (ownPoolConfig w x s).holds (fun t => u.Keeps t.vital) := by
  unfold ownPoolConfig
  iterate 8 refine Own.holds_ite_refuse ?_
  exact State.writePoolEntry_keeps (State.configPool_keeps h _ _ _ _ _ _) _ _ _ _ _
theorem ownPoolThreshold_keeps (w : Waiter) (x : CmdIn) : (ownPoolThreshold w x s).holds (fun t => u.Keeps t.vital) := by
  unfold ownPoolThreshold
  dsimp only
  repeat' split
  all_goals simp only [Own.holds_refuse, Own.holds_done, State.setPool_vital, State.writeSetting_keeps, h]
theorem ownPoolAudit_keeps (w : Waiter) (x : CmdIn) : (ownPoolAudit w x s).holds (fun t => u.Keeps t.vital) := by
  unfold ownPoolAudit
  dsimp only
  repeat' split
  all_goals simp only [Own.holds_refuse, Own.holds_run, State.startAudit_vital, h]
theorem ownBankOwn_keeps (w : Waiter) (x : CmdIn) : (ownBankOwn w x s).holds (fun t => u.Keeps t.vital) := by
  unfold ownBankOwn
  dsimp only
  repeat' split
  all_goals simp only [Own.holds_refuse, Own.holds_done, State.beginHandover_vital, h]
theorem ownBankState_keeps (w : Waiter) (x : CmdIn) : (ownBankState w x s).holds (fun t => u.Keeps t.vital) := by
  unfold ownBankState
  dsimp only
  repeat' split
  all_goals simp only [Own.holds_refuse, Own.holds_done, State.beginBankMove_vital, h]
theorem ownBankRetire_keeps (w : Waiter) (x : CmdIn) : (ownBankRetire w x s).holds (fun t => u.Keeps t.vital) := by
  unfold ownBankRetire
  dsimp only
  repeat' split
  all_goals simp only [Own.holds_refuse, Own.holds_done, State.loseGroup_keeps, State.retireBank_keeps, h]
theorem ownNsCreate_keeps (w : Waiter) (x : CmdIn) : (ownNsCreate w x s).holds (fun t => u.Keeps t.vital) := by
  unfold ownNsCreate
  refine Own.holds_ite_refuse (Own.holds_ite_refuse (Own.holds_ite_refuse ?_))
  split
  · trivial
  · rw [Own.holds_done, State.journalEntry_vital]
    exact h.spaces (fun hm => hm.put _ (CMap.wf_nil 0))
theorem ownNsDelete_keeps (w : Waiter) (x : CmdIn) : (ownNsDelete w x s).holds (fun t => u.Keeps t.vital) := by
  unfold ownNsDelete
  refine Own.holds_ite_refuse (Own.holds_ite_refuse ?_)
  rw [Own.holds_done, State.releaseFlushes_vital, State.journalEntry_vital]
  exact h.spaces (fun hm => hm.del _)
theorem ownNsSeal_keeps (w : Waiter) (x : CmdIn) : (ownNsSeal w x s).holds (fun t => u.Keeps t.vital) := by
  unfold ownNsSeal
  dsimp only
  split
  · trivial
  next n hn =>
    split
    · trivial
    split
    · exact h
    · rw [Own.holds_done, State.journalFlush_vital, State.journalEntry_vital]
      exact h.spaces (fun hm => hm.put _ (hm.find (n := n) hn))
theorem ownReplicaSet_keeps (w : Waiter) (x : CmdIn) : (ownReplicaSet w x s).holds (fun t => u.Keeps t.vital) := by
  unfold ownReplicaSet
  dsimp only
  split
  · trivial
  next n hn =>
    split
    · trivial
    split
    · trivial
    split
    · trivial
    · rw [Own.holds_done, State.journalEntry_vital]
      exact h.spaces (fun hm => hm.put _ (hm.find (n := n) hn))
theorem ownDieRetire_keeps (w : Waiter) (x : CmdIn) : (ownDieRetire w x s).holds (fun t => u.Keeps t.vital) := by
  unfold ownDieRetire
  repeat' split
  all_goals simp only [Own.holds_refuse, Own.holds_done, State.retireDie_vital, h]
theorem ownSanitize_keeps (w : Waiter) (x : CmdIn) : (ownSanitize w x s).holds (fun t => u.Keeps t.vital) := by
  unfold ownSanitize
  dsimp only
  repeat' split
  all_goals simp only [Own.holds_refuse, Own.holds_done, State.startSanitize_vital, h]
theorem ownBudgetSet_keeps (w : Waiter) (x : CmdIn) : (ownBudgetSet w x s).holds (fun t => u.Keeps t.vital) := by
  unfold ownBudgetSet
  dsimp only
  repeat' split
  all_goals simp only [Own.holds_refuse, Own.holds_done, State.takeBudget_vital, h]
theorem ownFreqAnnounce_keeps (w : Waiter) (x : CmdIn) : (ownFreqAnnounce w x s).holds (fun t => u.Keeps t.vital) := by
  unfold ownFreqAnnounce
  dsimp only
  repeat' split
  all_goals simp only [Own.holds_refuse, Own.holds_done, State.vital_mk, State.vital_eta, h]
theorem ownRestartAfterStop_keeps (w : Waiter) (x : CmdIn) : (ownRestartAfterStop w x s).holds (fun t => u.Keeps t.vital) := by
  unfold ownRestartAfterStop
  split
  · exact h
  · rw [Own.holds_done, State.vital_mk, State.vital_eta, foldl_vital (fun s d => State.updDomain_vital s d _)]
    exact h
theorem ownSelftest_keeps (w : Waiter) (x : CmdIn) : (ownSelftest w x s).holds (fun t => u.Keeps t.vital) := by
  unfold ownSelftest
  dsimp only
  repeat' split
  all_goals simp only [Own.holds_refuse, Own.holds_done, State.abortSelftest_vital, State.startSelftest_vital, h]
theorem ownTestRun_keeps (w : Waiter) (x : CmdIn) : (ownTestRun w x s).holds (fun t => u.Keeps t.vital) := by
  unfold ownTestRun
  dsimp only
  repeat' split
  all_goals simp only [Own.holds_refuse, Own.holds_run, State.beginRun_vital, h]
theorem ownEngineBypass_keeps (w : Waiter) (x : CmdIn) : (ownEngineBypass w x s).holds (fun t => u.Keeps t.vital) := by
  unfold ownEngineBypass
  dsimp only
  repeat' split
  all_goals simp only [Own.holds_refuse, Own.holds_done, Own.holds_run, State.beginRun_vital, State.markOut_keeps, h]
theorem ownTileDrain_keeps (w : Waiter) (x : CmdIn) : (ownTileDrain w x s).holds (fun t => u.Keeps t.vital) := by
  unfold ownTileDrain
  dsimp only
  repeat' split
  all_goals simp only [Own.holds_refuse, Own.holds_done, Own.holds_run, State.beginDrain_vital, State.updTile_vital, h]
theorem ownTileRejoin_keeps (w : Waiter) (x : CmdIn) : (ownTileRejoin w x s).holds (fun t => u.Keeps t.vital) := by
  unfold ownTileRejoin
  repeat' split
  all_goals simp only [Own.holds_refuse, Own.holds_done, State.rejoin_vital, h]
theorem ownColumnRepair_keeps (w : Waiter) (x : CmdIn) : (ownColumnRepair w x s).holds (fun t => u.Keeps t.vital) := by
  unfold ownColumnRepair
  dsimp only
  repeat' split
  all_goals simp only [Own.holds_refuse, Own.holds_done, State.setBank_vital, h]
theorem ownPitClear_keeps (w : Waiter) (x : CmdIn) : (ownPitClear w x s).holds (fun t => u.Keeps t.vital) := by
  unfold ownPitClear
  split
  · exact ⟨by simp only [State.writeCount_vital, h], fun t ht => State.deviceReset_keeps ht false 3⟩
  · exact h
theorem ownCredSet_keeps (w : Waiter) (x : CmdIn) : (ownCredSet w x s).holds (fun t => u.Keeps t.vital) := by
  unfold ownCredSet
  refine Own.holds_ite_refuse (Own.holds_ite_refuse (Own.holds_ite_refuse (Own.holds_ite_refuse ?_)))
  split
  · trivial
  refine Own.holds_ite_refuse ?_
  simp only [Own.holds_done, State.vital_mk, SecBlock.unbind_decommissioned, State.vital_eta, h]
theorem ownCredClear_keeps (w : Waiter) (x : CmdIn) : (ownCredClear w x s).holds (fun t => u.Keeps t.vital) := by
  unfold ownCredClear
  refine Own.holds_ite_refuse (Own.holds_ite_refuse ?_)
  simp only [Own.holds_done, State.vital_mk, SecBlock.unbind_decommissioned, State.vital_eta, h]
theorem ownSignkeyTrust_keeps (w : Waiter) (x : CmdIn) : (ownSignkeyTrust w x s).holds (fun t => u.Keeps t.vital) := by
  unfold ownSignkeyTrust
  dsimp only
  repeat' split
  all_goals simp only [Own.holds_refuse, Own.holds_done, State.vital_mk, State.vital_eta, State.writeSetting_keeps, h]
theorem ownSignkeyRevoke_keeps (w : Waiter) (x : CmdIn) : (ownSignkeyRevoke w x s).holds (fun t => u.Keeps t.vital) := by
  unfold ownSignkeyRevoke
  dsimp only
  repeat' split
  all_goals simp only [Own.holds_refuse, Own.holds_done, State.revokeKey_vital, State.writeSetting_keeps, h]
theorem ownAuditRead_keeps (w : Waiter) (x : CmdIn) : (ownAuditRead w x s).holds (fun t => u.Keeps t.vital) := by
  unfold ownAuditRead
  dsimp only
  repeat' split
  all_goals simp only [Own.holds_refuse, Own.holds_done, State.vital_mk, State.vital_eta, State.emit_vital, h]
theorem ownDebugUnlock_keeps (w : Waiter) (x : CmdIn) : (ownDebugUnlock w x s).holds (fun t => u.Keeps t.vital) := by
  unfold ownDebugUnlock
  refine Own.holds_ite_refuse ⟨?_, fun t ht => State.debugReset_keeps ht⟩
  simp only [apply_ite State.vital, State.endFlush_vital, ite_self, h]
theorem ownDecommission_keeps (w : Waiter) (x : CmdIn) : (ownDecommission w x s).holds (fun t => u.Keeps t.vital) := by
  unfold ownDecommission
  refine Own.holds_ite_refuse (Own.holds_ite_refuse ?_)
  rw [Own.holds_done, State.raise_vital]
  refine State.writeSetting_keeps (s := { s with
      med := s.med.rekeyAll, sec := { s.sec with creds := [], signkeys := [], bindings := [], decommissioned := true } }) ?_ _ _
  exact (h.decommission.spaces (fun _ => MedBlock.rekeyAll_wf))
theorem ownUpdStage_keeps (w : Waiter) (x : CmdIn) : (ownUpdStage w x s).holds (fun t => u.Keeps t.vital) := by
  unfold ownUpdStage
  refine Own.holds_ite_refuse (Own.holds_ite_refuse (Own.holds_ite_refuse (Own.holds_ite_refuse ?_)))
  split
  · trivial
  next b _ =>
    obtain ⟨ha, hb, hw⟩ := s.upd.stage_bodies x.pkt.unit
      { data := (if x.pkt.f 20 4 = 0 then [] else (s.upd.staging x.pkt.unit).data) ++ b, started := true, verified := false }
    simp only [Own.holds_done, State.vital_mk, ha, hb, hw, State.vital_eta, h]
theorem ownUpdVerify_keeps (w : Waiter) (x : CmdIn) : (ownUpdVerify w x s).holds (fun t => u.Keeps t.vital) := by
  obtain ⟨ha, hb, hw⟩ := s.upd.verify_bodies x.pkt.unit
  unfold ownUpdVerify
  refine Own.holds_ite_refuse ?_
  split
  · trivial
  · simp only [Own.holds_done, State.vital_mk, ha, hb, hw, State.vital_eta, h]
theorem ownUpdActivate_keeps (w : Waiter) (x : CmdIn) : (ownUpdActivate w x s).holds (fun t => u.Keeps t.vital) := by
  unfold ownUpdActivate
  refine Own.holds_ite_refuse (Own.holds_ite_refuse (Own.holds_ite_refuse ?_))
  split
  · split
    · exact ⟨State.activateSettings_keeps h, fun t ht => State.activateReset_keeps ht⟩
    · exact State.activateSettings_keeps h
  split
  · refine ⟨?_, fun t ht => State.activateReset_keeps ht⟩
    simp only [State.vital_mk, UpdBlock.recordStaged_setA, UpdBlock.recordStaged_setB, UpdBlock.recordStaged_window, State.vital_eta, h]
  · exact State.beginActivation_keeps h w
theorem ownUcodeApply_keeps (w : Waiter) (x : CmdIn) : (ownUcodeApply w x s).holds (fun t => u.Keeps t.vital) := by
  unfold ownUcodeApply
  dsimp only
  repeat' split
  all_goals simp only [Own.holds_refuse, Own.holds_done, State.vital_mk, State.vital_eta, h]
theorem ownEvtRead_keeps (w : Waiter) (x : CmdIn) : (ownEvtRead w x s).holds (fun t => u.Keeps t.vital) := by
  unfold ownEvtRead
  dsimp only
  repeat' split
  all_goals simp only [Own.holds_refuse, Own.holds_done, State.consumeEvents_vital, State.deliverEvents_vital, h]
theorem ownEvtSubscribe_keeps (w : Waiter) (x : CmdIn) : (ownEvtSubscribe w x s).holds (fun t => u.Keeps t.vital) := by
  unfold ownEvtSubscribe
  dsimp only
  repeat' split
  all_goals simp only [Own.holds_refuse, Own.holds_done, State.vital_mk, State.vital_eta, h]
theorem ownTelemetryGet_keeps (w : Waiter) (x : CmdIn) : (ownTelemetryGet w x s).holds (fun t => u.Keeps t.vital) := by
  unfold ownTelemetryGet
  dsimp only
  repeat' split
  all_goals simp only [Own.holds_refuse, Own.holds_done, State.emit_vital, h]
theorem ownDestBind_keeps (w : Waiter) (x : CmdIn) : (ownDestBind w x s).holds (fun t => u.Keeps t.vital) := by
  unfold ownDestBind
  dsimp only
  repeat' split
  all_goals simp only [Own.holds_refuse, Own.holds_done, State.bindQp_vital, State.setJob_vital, h]
theorem ownSlotCancel_keeps (w : Waiter) (x : CmdIn) : (ownSlotCancel w x s).holds (fun t => u.Keeps t.vital) := by
  unfold ownSlotCancel
  dsimp only
  repeat' split
  all_goals simp only [Own.holds_refuse, Own.holds_done, Own.holds_run, State.advanceCursor_keeps, State.setJob_vital, h]
theorem ownWindowOpen_keeps (w : Waiter) (x : CmdIn) : (ownWindowOpen w x s).holds (fun t => u.Keeps t.vital) := by
  have hr : ∀ r b t, s.addRef r = (b, t) → u.Keeps t.vital := fun r b t e => by
    have ha := State.addRef_keeps h r
    rw [e] at ha
    exact ha
  unfold ownWindowOpen
  refine Own.holds_ite_refuse (Own.holds_ite_refuse (Own.holds_ite_refuse ?_))
  split
  · simp only [Own.holds_done, State.badRef_vital, h]
  refine Own.holds_ite_refuse ?_
  split
  · trivial
  refine Own.holds_ite_refuse (Own.holds_ite_refuse ?_)
  split
  next e => exact hr _ _ _ e
  next e =>
    have hk := hr _ _ _ e
    exact hk
theorem ownWindowClose_keeps (w : Waiter) (x : CmdIn) : (ownWindowClose w x s).holds (fun t => u.Keeps t.vital) := by
  unfold ownWindowClose
  repeat' split
  all_goals simp only [Own.holds_refuse, Own.holds_run, State.closeWindow_vital, h]
theorem ownWindowRekey_keeps (w : Waiter) (x : CmdIn) : (ownWindowRekey w x s).holds (fun t => u.Keeps t.vital) := by
  unfold ownWindowRekey
  dsimp only
  repeat' split
  all_goals simp only [Own.holds_refuse, Own.holds_done, State.vital_mk, State.vital_eta, h]
theorem ownPortService_keeps (w : Waiter) (x : CmdIn) : (ownPortService w x s).holds (fun t => u.Keeps t.vital) := by
  unfold ownPortService
  dsimp only
  repeat' split
  all_goals simp only [Own.holds_refuse, Own.holds_run, State.serviceLane_vital, State.servicePort_vital, State.updPort_vital, h]

end

/-- The own effect of a command keeps the vital parts. -/
def KeepsVital (own : Waiter → CmdIn → State → Own) : Prop :=
  ∀ w x s, u.Keeps s.vital → (own w x s).holds (fun t => u.Keeps t.vital)

theorem opMeanings_keepVital : ∀ m ∈ opMeanings, KeepsVital (u := u) m.2 := by
  simp only [opMeanings, List.forall_mem_cons, List.not_mem_nil, false_imp_iff, implies_true, and_true]
  exact ⟨
    fun w x _ h => ownIdentify_keeps h w x, fun w x _ h => ownNetworkSet_keeps h w x, fun w x _ h => ownPartnerSet_keeps h w x,
    fun w x _ h => ownLiveServiceSet_keeps h w x, fun w x _ h => ownLiveServiceRemove_keeps h w x,
    fun w x _ h => ownRecipeLoad_keeps h w x, fun w x _ h => ownRecipeReplace_keeps h w x, fun w x _ h => ownRecipeUnload_keeps h w x,
    fun w x _ h => ownImageLoad_keeps h w x, fun w x _ h => ownImageUnload_keeps h w x, fun w x _ h => ownJobStart_keeps h w x,
    fun w x _ h => ownJobEnd_keeps h w x, fun w x _ h => ownEpochPlan_keeps h w x, fun w x _ h => ownParamTable_keeps h w x,
    fun w x _ h => ownParamRing_keeps h w x, fun w x _ h => ownJobTakeover_keeps h w x, fun w x _ h => ownJobResume_keeps h w x,
    fun w x _ h => ownJobLeave_keeps h w x, fun w x _ h => ownCursorReset_keeps h w x, fun w x _ h => ownJobQuery_keeps h w x,
    fun w x _ h => ownPlanReissue_keeps h w x, fun w x _ h => ownPoolConfig_keeps h w x, fun w x _ h => ownPoolThreshold_keeps h w x,
    fun w x _ h => ownPoolAudit_keeps h w x, fun w x _ h => ownBankOwn_keeps h w x, fun w x _ h => ownBankState_keeps h w x,
    fun w x _ h => ownBankRetire_keeps h w x, fun w x _ h => ownCxe_keeps h _ w x, fun w x _ h => ownCxe_keeps h _ w x,
    fun w x _ h => ownNsCreate_keeps h w x, fun w x _ h => ownNsDelete_keeps h w x, fun w x _ h => ownNsSeal_keeps h w x,
    fun w x _ h => ownReplicaSet_keeps h w x, fun w x _ h => ownDieRetire_keeps h w x, fun w x _ h => ownSanitize_keeps h w x,
    fun w x _ h => ownBudgetSet_keeps h w x, fun w x _ h => ownFreqAnnounce_keeps h w x,
    fun w x _ h => ownRestartAfterStop_keeps h w x, fun w x _ h => ownSelftest_keeps h w x, fun w x _ h => ownTestRun_keeps h w x,
    fun w x _ h => ownEngineBypass_keeps h w x, fun w x _ h => ownTileDrain_keeps h w x, fun w x _ h => ownTileRejoin_keeps h w x,
    fun w x _ h => ownColumnRepair_keeps h w x, fun w x _ h => ownPitClear_keeps h w x, fun w x _ h => ownCredSet_keeps h w x,
    fun w x _ h => ownCredClear_keeps h w x, fun w x _ h => ownSignkeyTrust_keeps h w x, fun w x _ h => ownSignkeyRevoke_keeps h w x,
    fun w x _ h => ownAuditRead_keeps h w x, fun w x _ h => ownDebugUnlock_keeps h w x, fun w x _ h => ownDecommission_keeps h w x,
    fun w x _ h => ownUpdStage_keeps h w x, fun w x _ h => ownUpdVerify_keeps h w x, fun w x _ h => ownUpdActivate_keeps h w x,
    fun w x _ h => ownUcodeApply_keeps h w x, fun w x _ h => ownEvtRead_keeps h w x, fun w x _ h => ownEvtSubscribe_keeps h w x,
    fun w x _ h => ownTelemetryGet_keeps h w x, fun w x _ h => ownDestBind_keeps h w x, fun w x _ h => ownSlotCancel_keeps h w x,
    fun w x _ h => ownWindowOpen_keeps h w x, fun w x _ h => ownWindowClose_keeps h w x, fun w x _ h => ownWindowRekey_keeps h w x,
    fun w x _ h => ownRma_keeps h _ w x, fun w x _ h => ownRma_keeps h _ w x, fun w x _ h => ownPortService_keeps h w x⟩

theorem State.acceptDeferred_keeps (h : u.Keeps s.vital) (d : Deferred) : u.Keeps (s.acceptDeferred d).vital := by
  unfold State.acceptDeferred
  split
  next m hm => exact State.accept_keeps m.1 h (fun t ht => opMeanings_keepVital m (List.mem_of_find?_eq_some hm) _ _ t ht)
  next => simp only [State.complete_vital, h]

end Sys2Proof.Machine
end

section
set_option Elab.async false
/-! SUPPORT. The rows of the commands, the start, the pools, the media and the engines: each keeps the vital parts. -/

namespace Sys2Proof.Machine

variable {u : Vital} {i : Instr} {s t : State}

/-! ## Reads and writes of a register, and NVMe commands -/

theorem State.readReg_vital (s : State) (path a : Nat) : (s.readReg path a).2.vital = s.vital := by
  unfold State.readReg
  split
  · rfl
  split
  · split
    · rfl
    · rfl
  split
  · rfl
  split
  · rfl
  · rfl

theorem State.abortNamed_vital {sq cid : Nat} (ht : s.abortNamed sq cid = some t) : t.vital = s.vital := by
  unfold State.abortNamed at ht
  dsimp only at ht
  split at ht
  · obtain rfl := Option.some.inj ht
    rfl
  split at ht
  · obtain rfl := Option.some.inj ht
    rfl
  split at ht
  · obtain rfl := Option.some.inj ht
    rfl
  · nomatch ht

theorem SecBlock.spdmStep_decommissioned (b : SecBlock) (eid code : Nat) (leaf : Bytes) :
    (b.spdmStep eid code leaf).decommissioned = b.decommissioned := by
  simp only [SecBlock.spdmStep, apply_ite SecBlock.decommissioned, ite_self]

section
variable (h : u.Keeps s.vital)
include h

theorem State.gated_keeps (path a : Nat) {f : State → State} (hf : u.Keeps (f s).vital) : u.Keeps (s.gated path a f).vital := by
  unfold State.gated
  simp only [apply_ite State.vital, apply_ite u.Keeps, State.regInvalid_vital, h, hf, ite_self]

theorem State.nvmeRun_keeps (c : NvmeIn) (io : Bool) {f : State → State} (hf : ∀ s : State, u.Keeps s.vital → u.Keeps (f s).vital) :
    u.Keeps (s.nvmeRun c io f).vital := by
  unfold State.nvmeRun
  split
  · exact h
  split
  · exact h
  next v _ =>
    simp only [apply_ite State.vital, State.nvDone_vital, State.vital_mk, State.vital_eta, apply_ite u.Keeps, hf { s with nvme := v } h,
      h,
      ite_self]

/-- The row of a packet keeps the vital parts when its command does. -/
theorem keeps_of_packet {sp : OpSpec} {own : Waiter → CmdIn → State → Own} {x : CmdIn} (ho : KeepsVital (u := u) own)
    (he : (.next (runCommand sp own x s) : Host.Outcome State Fault Refusal) = .next t) : u.Keeps t.vital := by
  obtain rfl := Host.Outcome.next.inj he
  exact runCommand_keeps_vital sp x h (ho · x)

theorem keeps_of_io {op : Nat} {c : NvmeIn} (he : (.next (ioRow op c s) : Host.Outcome State Fault Refusal) = .next t) :
    u.Keeps t.vital := by
  obtain rfl := Host.Outcome.next.inj he
  exact State.nvmeRun_keeps h _ _ (fun s h => State.nvmeIo_keeps h _)

end

/-! ## The rows, family by family -/

section
variable (h : u.Keeps s.vital) (he : exec i s = .next t)
include h he

theorem exec_keeps_of_restart (hi : family i = .restart) : u.Keeps t.vital := by
  cases i
  case pitClear x => exact keeps_of_packet h (fun w x _ h => ownPitClear_keeps h w x) he
  case debugUnlock x => exact keeps_of_packet h (fun w x _ h => ownDebugUnlock_keeps h w x) he
  case updActivate x => exact keeps_of_packet h (fun w x _ h => ownUpdActivate_keeps h w x) he
  case deferredCommandAccept =>
    obtain rfl := Host.Outcome.next.inj he
    split
    · split
      · refine State.acceptDeferred_keeps ?_ _
        exact h
      · exact h
    · exact h
  case hubUnitFault =>
    obtain rfl := Host.Outcome.next.inj he
    simp only [State.fatalStart_keeps, State.leaveJobs_keeps, State.raise_vital, h]
  case mainRailLoss =>
    obtain rfl := Host.Outcome.next.inj he
    simp only [State.vital_mk, State.vital_eta, apply_ite State.vital, apply_ite u.Keeps, State.clearDies_keeps, h, ite_self]
  case mainRailsValid =>
    obtain rfl := Host.Outcome.next.inj he
    simp only [State.vital_mk, State.vital_eta, apply_ite State.vital, apply_ite u.Keeps, State.deviceReset_keeps, h, ite_self]
  case standbyRailsApply =>
    obtain rfl := Host.Outcome.next.inj he
    simp only [State.vital_mk, State.vital_eta, apply_ite State.vital, apply_ite u.Keeps, State.deviceReset_keeps, h, ite_self]
  case standbyRailsRemove =>
    obtain rfl := Host.Outcome.next.inj he
    simp only [State.vital_mk, State.vital_eta, apply_ite State.vital, apply_ite u.Keeps, State.clearDies_keeps, h, ite_self]
  case warmReset =>
    obtain rfl := Host.Outcome.next.inj he
    simp only [apply_ite State.vital, apply_ite u.Keeps, State.deviceReset_keeps, h, ite_self]
  case startStepComplete k now out =>
    obtain rfl := Host.Outcome.next.inj he
    have hk := State.startStep_keeps (s := s.advance now) h k out
    split
    · exact h
    · split
      next e =>
        rw [e] at hk
        rw [State.markStep_vital]
        exact hk
      next e =>
        rw [e] at hk
        exact State.failStart_keeps hk _ _
  case bootWatchdogExpiry =>
    obtain rfl := Host.Outcome.next.inj he
    simp only [apply_ite State.vital, apply_ite u.Keeps, State.advance_vital, State.failStart_keeps, State.revertActivation_keeps, h,
      ite_self]
  all_goals exact nomatch hi

theorem exec_keeps_of_registers (hi : family i = .registers) : u.Keeps t.vital := by
  cases i
  case registerWrite =>
    obtain rfl := Host.Outcome.next.inj he
    simp only [apply_ite State.vital, apply_ite u.Keeps, State.writeReg_keeps, h, ite_self]
  case mctpRegisterWrite =>
    obtain rfl := Host.Outcome.next.inj he
    simp only [apply_ite State.vital, apply_ite u.Keeps, State.emit_vital, State.mctpRefused_vital, State.writeReg_keeps, h, ite_self]
  case mctpRegisterRead =>
    obtain rfl := Host.Outcome.next.inj he
    simp only [apply_ite State.vital, State.emit_vital, State.regInvalid_vital, State.mctpRefused_vital, State.readReg_vital, ite_self, h]
  all_goals exact nomatch hi

theorem exec_keeps_of_device (hi : family i = .device) : u.Keeps t.vital := by
  cases i
  case identify x => exact keeps_of_packet h (fun w x _ h => ownIdentify_keeps h w x) he
  case networkSet x => exact keeps_of_packet h (fun w x _ h => ownNetworkSet_keeps h w x) he
  case partnerSet x => exact keeps_of_packet h (fun w x _ h => ownPartnerSet_keeps h w x) he
  case liveServiceSet x => exact keeps_of_packet h (fun w x _ h => ownLiveServiceSet_keeps h w x) he
  case liveServiceRemove x => exact keeps_of_packet h (fun w x _ h => ownLiveServiceRemove_keeps h w x) he
  case evtRead x => exact keeps_of_packet h (fun w x _ h => ownEvtRead_keeps h w x) he
  case evtSubscribe x => exact keeps_of_packet h (fun w x _ h => ownEvtSubscribe_keeps h w x) he
  case telemetryGet x => exact keeps_of_packet h (fun w x _ h => ownTelemetryGet_keeps h w x) he
  case portService x => exact keeps_of_packet h (fun w x _ h => ownPortService_keeps h w x) he
  case auditRead x => exact keeps_of_packet h (fun w x _ h => ownAuditRead_keeps h w x) he
  case credSet x => exact keeps_of_packet h (fun w x _ h => ownCredSet_keeps h w x) he
  case credClear x => exact keeps_of_packet h (fun w x _ h => ownCredClear_keeps h w x) he
  case signkeyTrust x => exact keeps_of_packet h (fun w x _ h => ownSignkeyTrust_keeps h w x) he
  case signkeyRevoke x => exact keeps_of_packet h (fun w x _ h => ownSignkeyRevoke_keeps h w x) he
  case decommission x => exact keeps_of_packet h (fun w x _ h => ownDecommission_keeps h w x) he
  case updStage x => exact keeps_of_packet h (fun w x _ h => ownUpdStage_keeps h w x) he
  case updVerify x => exact keeps_of_packet h (fun w x _ h => ownUpdVerify_keeps h w x) he
  case ucodeApply x => exact keeps_of_packet h (fun w x _ h => ownUcodeApply_keeps h w x) he
  all_goals exact nomatch hi

theorem exec_keeps_of_recipes (hi : family i = .recipes) : u.Keeps t.vital := by
  cases i
  case recipeLoad x => exact keeps_of_packet h (fun w x _ h => ownRecipeLoad_keeps h w x) he
  case recipeReplace x => exact keeps_of_packet h (fun w x _ h => ownRecipeReplace_keeps h w x) he
  case recipeUnload x => exact keeps_of_packet h (fun w x _ h => ownRecipeUnload_keeps h w x) he
  case imageLoad x => exact keeps_of_packet h (fun w x _ h => ownImageLoad_keeps h w x) he
  case imageUnload x => exact keeps_of_packet h (fun w x _ h => ownImageUnload_keeps h w x) he
  all_goals exact nomatch hi

theorem exec_keeps_of_jobs (hi : family i = .jobs) : u.Keeps t.vital := by
  cases i
  case jobStart x => exact keeps_of_packet h (fun w x _ h => ownJobStart_keeps h w x) he
  case jobEnd x => exact keeps_of_packet h (fun w x _ h => ownJobEnd_keeps h w x) he
  case epochPlan x => exact keeps_of_packet h (fun w x _ h => ownEpochPlan_keeps h w x) he
  case paramTable x => exact keeps_of_packet h (fun w x _ h => ownParamTable_keeps h w x) he
  case paramRing x => exact keeps_of_packet h (fun w x _ h => ownParamRing_keeps h w x) he
  case jobTakeover x => exact keeps_of_packet h (fun w x _ h => ownJobTakeover_keeps h w x) he
  case jobResume x => exact keeps_of_packet h (fun w x _ h => ownJobResume_keeps h w x) he
  case jobLeave x => exact keeps_of_packet h (fun w x _ h => ownJobLeave_keeps h w x) he
  case cursorReset x => exact keeps_of_packet h (fun w x _ h => ownCursorReset_keeps h w x) he
  case jobQuery x => exact keeps_of_packet h (fun w x _ h => ownJobQuery_keeps h w x) he
  case planReissue x => exact keeps_of_packet h (fun w x _ h => ownPlanReissue_keeps h w x) he
  case slotCancel x => exact keeps_of_packet h (fun w x _ h => ownSlotCancel_keeps h w x) he
  case destBind x => exact keeps_of_packet h (fun w x _ h => ownDestBind_keeps h w x) he
  all_goals exact nomatch hi

theorem exec_keeps_of_pools (hi : family i = .pools) : u.Keeps t.vital := by
  cases i
  case poolConfig x => exact keeps_of_packet h (fun w x _ h => ownPoolConfig_keeps h w x) he
  case poolThreshold x => exact keeps_of_packet h (fun w x _ h => ownPoolThreshold_keeps h w x) he
  case poolAudit x => exact keeps_of_packet h (fun w x _ h => ownPoolAudit_keeps h w x) he
  case bankOwn x => exact keeps_of_packet h (fun w x _ h => ownBankOwn_keeps h w x) he
  case bankState x => exact keeps_of_packet h (fun w x _ h => ownBankState_keeps h w x) he
  case bankRetire x => exact keeps_of_packet h (fun w x _ h => ownBankRetire_keeps h w x) he
  case columnRepair x => exact keeps_of_packet h (fun w x _ h => ownColumnRepair_keeps h w x) he
  case compress x => exact keeps_of_packet h (fun w x _ h => ownCxe_keeps h _ w x) he
  case decompress x => exact keeps_of_packet h (fun w x _ h => ownCxe_keeps h _ w x) he
  all_goals exact nomatch hi

theorem exec_keeps_of_media (hi : family i = .media) : u.Keeps t.vital := by
  cases i
  case nsCreate x => exact keeps_of_packet h (fun w x _ h => ownNsCreate_keeps h w x) he
  case nsDelete x => exact keeps_of_packet h (fun w x _ h => ownNsDelete_keeps h w x) he
  case nsSeal x => exact keeps_of_packet h (fun w x _ h => ownNsSeal_keeps h w x) he
  case replicaSet x => exact keeps_of_packet h (fun w x _ h => ownReplicaSet_keeps h w x) he
  case dieRetire x => exact keeps_of_packet h (fun w x _ h => ownDieRetire_keeps h w x) he
  case sanitize x => exact keeps_of_packet h (fun w x _ h => ownSanitize_keeps h w x) he
  case selftest x => exact keeps_of_packet h (fun w x _ h => ownSelftest_keeps h w x) he
  case sanitizeComplete =>
    obtain rfl := Host.Outcome.next.inj he
    split
    · simp only [State.controllerReady_vital, State.releaseFlushes_vital, State.journalFlush_vital, State.journalEntry_vital]
      exact h.spaces (fun _ => MedBlock.rekeyAll_wf)
    · exact h
  case selftestComplete =>
    obtain rfl := Host.Outcome.next.inj he
    dsimp only
    repeat' split
    all_goals simp only [State.vital_mk, State.vital_eta, State.foundBad_keeps, h]
  case nandOpComplete =>
    obtain rfl := Host.Outcome.next.inj he
    dsimp only
    repeat' split
    all_goals simp only [State.bump_vital, State.foundBad_keeps, State.oldestDone_vital, State.program_vital, State.putDie_vital,
      State.retireBlock_vital, State.setDie_vital, h]
  case dieUnresponsive =>
    obtain rfl := Host.Outcome.next.inj he
    simp only [apply_ite State.vital, apply_ite u.Keeps, State.foundBad_keeps, State.retireDie_vital, h, ite_self]
  case journalFlushTimer =>
    obtain rfl := Host.Outcome.next.inj he
    simp only [apply_ite State.vital, State.advance_vital, State.journalFlush_vital, h, ite_self]
  case checkpointTimer now =>
    obtain rfl := Host.Outcome.next.inj he
    split
    · exact foldl_keeps (fun s g h => by simp only [State.program_vital, State.vital_mk, State.vital_eta, h]) _ (s := s.advance now) h
    · exact h
  case patrolReadTimer =>
    obtain rfl := Host.Outcome.next.inj he
    simp only [apply_ite State.vital, apply_ite u.Keeps, State.bump_vital, State.bump64_vital, State.foundBad_keeps,
      State.nandRequest_vital, State.program_vital, h, ite_self]
  case foldComplete =>
    obtain rfl := Host.Outcome.next.inj he
    simp only [State.vital_mk, State.vital_eta, apply_ite State.vital, State.journalEntry_vital, State.journalFlush_vital, h, ite_self]
  case holdupSample =>
    obtain rfl := Host.Outcome.next.inj he
    exact h
  case holdupEvaluation =>
    obtain rfl := Host.Outcome.next.inj he
    simp only [State.advance_vital, State.measureHoldup_vital, h]
  case writePieceAdmit =>
    obtain rfl := Host.Outcome.next.inj he
    simp only [State.admitPiece_keeps, h]
  case replicaFetchRequest =>
    obtain rfl := Host.Outcome.next.inj he
    repeat' split
    all_goals simp only [State.emit_vital, State.mediaRead_vital, h]
  all_goals exact nomatch hi

theorem exec_keeps_of_power (hi : family i = .power) : u.Keeps t.vital := by
  cases i
  case budgetSet x => exact keeps_of_packet h (fun w x _ h => ownBudgetSet_keeps h w x) he
  case freqAnnounce x => exact keeps_of_packet h (fun w x _ h => ownFreqAnnounce_keeps h w x) he
  case currantTokenRefresh =>
    obtain rfl := Host.Outcome.next.inj he
    exact h
  case tokenGrant =>
    obtain rfl := Host.Outcome.next.inj he
    dsimp only
    repeat' split
    all_goals simp only [State.vital_mk, State.vital_eta, h]
  case clockStepEvaluation =>
    obtain rfl := Host.Outcome.next.inj he
    dsimp only
    repeat' split
    all_goals simp only [State.vital_mk, State.vital_eta, State.advance_vital, State.bump64_vital, State.chooseStep_vital,
      State.evaluateHeld_vital, h]
  case thermalLimitUpdate =>
    obtain rfl := Host.Outcome.next.inj he
    simp only [State.vital_mk, State.vital_eta, State.advance_vital, State.noteCool_vital, State.refreshWarning_vital, h]
  case peakClamp =>
    obtain rfl := Host.Outcome.next.inj he
    simp only [State.vital_mk, State.vital_eta, apply_ite State.vital, State.raise_vital, h, ite_self]
  case boostEnd =>
    obtain rfl := Host.Outcome.next.inj he
    simp only [State.vital_mk, State.vital_eta, apply_ite State.vital, State.noteCool_vital, State.raise_vital,
      State.refreshWarning_vital, State.sense_vital, h, ite_self]
  case boostCooldownStep =>
    obtain rfl := Host.Outcome.next.inj he
    simp only [State.vital_mk, State.vital_eta, apply_ite State.vital, State.advance_vital, h, ite_self]
  case boostRearm =>
    obtain rfl := Host.Outcome.next.inj he
    dsimp only
    repeat' split
    all_goals simp only [State.vital_mk, State.vital_eta, State.advance_vital, h]
  case thermtrip =>
    obtain rfl := Host.Outcome.next.inj he
    simp only [State.vital_mk, State.vital_eta, apply_ite State.vital, State.latchOnly_vital, State.sense_vital, h, ite_self]
  case prochotChange =>
    obtain rfl := Host.Outcome.next.inj he
    exact h
  case heldFreqTimeReached =>
    obtain rfl := Host.Outcome.next.inj he
    repeat' split
    all_goals simp only [State.advance_vital, State.setHold_vital, h]
  case heldModeLeft =>
    obtain rfl := Host.Outcome.next.inj he
    dsimp only
    repeat' split
    all_goals simp only [State.vital_mk, State.vital_eta, State.advance_vital, State.applyHold_vital, State.bump_vital,
      State.raise_vital, h]
  case domainIdleTimer =>
    obtain rfl := Host.Outcome.next.inj he
    simp only [apply_ite State.vital, State.advance_vital, State.updDomain_vital, h, ite_self]
  case domainPowerDownCommit =>
    obtain rfl := Host.Outcome.next.inj he
    simp only [apply_ite State.vital, apply_ite u.Keeps, State.abortSlices_vital, State.advance_vital, State.emptyCache_keeps,
      State.noteAsleep_vital, State.postWork_vital, State.updDomain_vital, h, ite_self]
  case domainWakeComplete =>
    obtain rfl := Host.Outcome.next.inj he
    simp only [State.vital_mk, State.vital_eta, apply_ite State.vital, State.returnTokens_vital, State.updDomain_vital, h, ite_self]
  case clkLoss =>
    obtain rfl := Host.Outcome.next.inj he
    simp only [apply_ite State.vital, State.advance_vital, State.bump_vital, State.clockLost_vital, State.raise_vital,
      State.updMonitor_vital, h, ite_self]
  case clkRestored =>
    obtain rfl := Host.Outcome.next.inj he
    simp only [apply_ite State.vital, State.clockBack_vital, State.raise_vital, State.updMonitor_vital, h, ite_self]
  case clkHoldoverExpiry =>
    obtain rfl := Host.Outcome.next.inj he
    repeat' split
    all_goals simp only [State.advance_vital, State.raise_vital, h]
  case pldmBudget =>
    obtain rfl := Host.Outcome.next.inj he
    simp only [apply_ite State.vital, State.takeBudget_vital, h, ite_self]
  case pmbusRead =>
    obtain rfl := Host.Outcome.next.inj he
    exact h
  case currentSensorSample =>
    obtain rfl := Host.Outcome.next.inj he
    exact h
  all_goals exact nomatch hi

theorem exec_keeps_of_stops (hi : family i = .stops) : u.Keeps t.vital := by
  cases i
  case restartAfterStop x => exact keeps_of_packet h (fun w x _ h => ownRestartAfterStop_keeps h w x) he
  case coolantStop =>
    obtain rfl := Host.Outcome.next.inj he
    simp only [apply_ite State.vital, apply_ite u.Keeps, State.flowLost_vital, State.latchStop_vital, State.stopEngines_keeps,
      State.stopFlush_vital, h, ite_self]
  case coolantFlowReturn =>
    obtain rfl := Host.Outcome.next.inj he
    simp only [State.flowBack_vital, h]
  case coolantFlushEnd =>
    obtain rfl := Host.Outcome.next.inj he
    simp only [State.vital_mk, State.vital_eta, apply_ite State.vital, apply_ite u.Keeps, State.domainsOff_vital, State.endFlush_vital,
      State.loseDirty_keeps, h, ite_self]
  case pwrFailAssert =>
    obtain rfl := Host.Outcome.next.inj he
    simp only [State.vital_mk, State.vital_eta, apply_ite State.vital, apply_ite u.Keeps, State.beginFlush_vital,
      State.stopEngines_keeps, h, ite_self]
  case holdupFlushComplete =>
    obtain rfl := Host.Outcome.next.inj he
    simp only [State.vital_mk, State.vital_eta, apply_ite State.vital, State.endFlush_vital, h, ite_self]
  all_goals exact nomatch hi

theorem exec_keeps_of_tests (hi : family i = .tests) : u.Keeps t.vital := by
  cases i
  case testRun x => exact keeps_of_packet h (fun w x _ h => ownTestRun_keeps h w x) he
  case engineBypass x => exact keeps_of_packet h (fun w x _ h => ownEngineBypass_keeps h w x) he
  case tileDrain x => exact keeps_of_packet h (fun w x _ h => ownTileDrain_keeps h w x) he
  case tileRejoin x => exact keeps_of_packet h (fun w x _ h => ownTileRejoin_keeps h w x) he
  case tschDrain =>
    obtain rfl := Host.Outcome.next.inj he
    split
    · exact State.gated_keeps h _ _ (by simp only [State.writeTschCtrl_vital, h])
    · exact h
  case tschRejoin =>
    obtain rfl := Host.Outcome.next.inj he
    split
    · exact State.gated_keeps h _ _ (by simp only [State.writeTschCtrl_vital, h])
    · exact h
  case tileDrained =>
    obtain rfl := Host.Outcome.next.inj he
    simp only [apply_ite State.vital, apply_ite u.Keeps, State.emptyRefs_keeps, State.finishAll_vital, State.updTile_vital, h, ite_self]
  case tstCtrlWrite =>
    obtain rfl := Host.Outcome.next.inj he
    exact State.gated_keeps h _ _ h
  case testSliceStart =>
    obtain rfl := Host.Outcome.next.inj he
    simp only [apply_ite State.vital, State.addSlice_vital, State.advance_vital, State.startEngineSlice_vital, State.startRegion_vital,
      h, ite_self]
  case testSliceComplete =>
    obtain rfl := Host.Outcome.next.inj he
    dsimp only
    repeat' split
    all_goals simp only [State.advance_vital, State.countRuns_keeps, State.poison_vital, State.sliceCounts_vital, State.sliceFails_keeps,
      State.sliceLeaves_vital, State.slicePasses_vital, h]
  case testDomainWakeTimer =>
    obtain rfl := Host.Outcome.next.inj he
    simp only [State.vital_mk, State.vital_eta, apply_ite State.vital, State.advance_vital, State.postWork_vital, h, ite_self]
  case engineSelfFault =>
    obtain rfl := Host.Outcome.next.inj he
    simp only [apply_ite State.vital, apply_ite u.Keeps, State.engineFault_keeps, h, ite_self]
  all_goals exact nomatch hi

end

end Sys2Proof.Machine
end

section
set_option Elab.async false
/-! SUPPORT. The rows of the network, the samples, the delivery and NVMe, and with them every step: the two invariants. -/

namespace Sys2Proof.Machine

variable {u : Vital} {i : Instr} {s t : State}

section
variable (h : u.Keeps s.vital) (he : exec i s = .next t)
include h he

theorem exec_keeps_of_security (hi : family i = .security) : u.Keeps t.vital := by
  cases i
  case spdmRequest =>
    obtain rfl := Host.Outcome.next.inj he
    split
    · exact h
    · split
      · exact h
      · simp only [apply_ite State.vital, State.emit_vital, State.vital_mk, SecBlock.spdmStep_decommissioned, State.vital_eta, ite_self,
          h]
  case secBindStart =>
    obtain rfl := Host.Outcome.next.inj he
    exact State.gated_keeps h _ _ (by simp only [State.writeBindCtrl_vital, h])
  case secBindGo =>
    obtain rfl := Host.Outcome.next.inj he
    exact State.gated_keeps h _ _ (by simp only [State.writeBindCtrl_vital, h])
  case credentialExpiry =>
    obtain rfl := Host.Outcome.next.inj he
    dsimp only
    repeat' split
    all_goals simp only [State.vital_mk, State.vital_eta, State.advance_vital, State.raise_vital, h]
  case firstTimeLock =>
    obtain rfl := Host.Outcome.next.inj he
    dsimp only
    repeat' split
    all_goals simp only [State.vital_mk, State.vital_eta, State.advance_vital, State.sendHeld_vital, h]
  case evtFatalClear =>
    obtain rfl := Host.Outcome.next.inj he
    split
    · exact State.gated_keeps h _ _ (by simp only [State.writeEvtCtrl_vital, h])
    · exact h
  case eventIrqHoldoffExpiry =>
    obtain rfl := Host.Outcome.next.inj he
    simp only [State.vital_mk, State.vital_eta, apply_ite State.vital, State.advance_vital, State.emit_vital, h, ite_self]
  case updWindowWrite =>
    obtain rfl := Host.Outcome.next.inj he
    split
    · exact State.gated_keeps h _ _ (h.window (fun hm => writeMem_wf hm _ _))
    · exact h
  all_goals exact nomatch hi

theorem exec_keeps_of_banks (hi : family i = .banks) : u.Keeps t.vital := by
  cases i
  case bnkLock =>
    obtain rfl := Host.Outcome.next.inj he
    split
    · exact State.gated_keeps h _ _ (by simp only [apply_ite State.vital, State.vital_mk, State.vital_eta, ite_self, h])
    · exact h
  case bnkOwnWrite =>
    obtain rfl := Host.Outcome.next.inj he
    split
    · exact State.gated_keeps h _ _ (by simp only [State.writeBnkOwn_vital, h])
    · exact h
  case bankHandoverComplete =>
    obtain rfl := Host.Outcome.next.inj he
    simp only [State.endHandover_keeps, h]
  case bnkStateWrite =>
    obtain rfl := Host.Outcome.next.inj he
    split
    · exact State.gated_keeps h _ _ (by simp only [State.writeBnkState_vital, h])
    · exact h
  case bankTransitionComplete =>
    obtain rfl := Host.Outcome.next.inj he
    simp only [State.endBankMove_keeps, h]
  case poolAuditGo =>
    obtain rfl := Host.Outcome.next.inj he
    exact State.gated_keeps h _ _ (by simp only [State.auditGo_vital, h])
  case leakAuditComplete =>
    obtain rfl := Host.Outcome.next.inj he
    dsimp only
    repeat' split
    all_goals simp only [State.vital_mk, State.vital_eta, State.auditEnds_keeps, h]
  case compressionJobComplete =>
    obtain rfl := Host.Outcome.next.inj he
    dsimp only
    repeat' split
    all_goals simp only [State.vital_mk, State.vital_eta, State.bump_vital, State.bump64_vital, State.cxeCount_vital,
      State.cxeWrite_keeps, State.finish_vital, State.placeJob_vital, h]
  all_goals exact nomatch hi

theorem exec_keeps_of_links (hi : family i = .links) : u.Keeps t.vital := by
  cases i
  case portTrainingComplete =>
    obtain rfl := Host.Outcome.next.inj he
    repeat' split
    all_goals simp only [State.advance_vital, State.laneDone_vital, State.portFails_vital, State.portUp_vital, State.raise_vital, h]
  case linkDown =>
    obtain rfl := Host.Outcome.next.inj he
    simp only [apply_ite State.vital, apply_ite u.Keeps, State.advance_vital, State.interruptRecoveries_vital, State.noteLost_keeps,
      State.portStops_vital, State.routeChange_vital, h, ite_self]
  case laneFail =>
    obtain rfl := Host.Outcome.next.inj he
    simp only [apply_ite State.vital, apply_ite u.Keeps, State.advance_vital, State.interruptRecoveries_vital, State.noteLost_keeps,
      State.portStops_vital, State.raise_vital, State.routeChange_vital, State.updPort_vital, h, ite_self]
  case peerLost =>
    obtain rfl := Host.Outcome.next.inj he
    simp only [apply_ite State.vital, apply_ite u.Keeps, State.advance_vital, State.noteLost_keeps, State.raise_vital,
      State.routeChange_vital, h, ite_self]
  case deviceUnreachable =>
    obtain rfl := Host.Outcome.next.inj he
    split
    · split
      · refine foldl_keeps (fun s j h => State.loseDevice_keeps ?_ _ _ _) _ ?_
        · simp only [State.raise_vital, h]
        · exact h
      · exact h
    · exact h
  all_goals exact nomatch hi

theorem exec_keeps_of_plans (hi : family i = .plans) : u.Keeps t.vital := by
  cases i
  case countEntryReceive =>
    obtain rfl := Host.Outcome.next.inj he
    exact State.withPlan_keeps h _ _ (fun n j p => by simp only [apply_ite State.vital, State.setJob_vital, ite_self, h])
  case stepEntryReceive =>
    obtain rfl := Host.Outcome.next.inj he
    exact State.withPlan_keeps h _ _ (fun n j p => by simp only [apply_ite State.vital, State.setJob_vital, ite_self, h])
  case planRecordReceive =>
    obtain rfl := Host.Outcome.next.inj he
    exact State.withPlan_keeps h _ _ (fun n j p => by simp only [apply_ite State.vital, State.setJob_vital, ite_self, h])
  case endMarkerReceive =>
    obtain rfl := Host.Outcome.next.inj he
    exact State.withPlan_keeps h _ _ (fun n j p => by simp only [apply_ite State.vital, State.setJob_vital, ite_self, h])
  case planScanComplete =>
    obtain rfl := Host.Outcome.next.inj he
    exact State.withPlan_keeps h _ _ (fun n j p => by simp only [apply_ite State.vital, State.scanEnds_vital, ite_self, h])
  case abortMessageReceive =>
    obtain rfl := Host.Outcome.next.inj he
    dsimp only
    repeat' split
    all_goals simp only [State.abandonPlan_keeps, State.setJob_vital, h]
  all_goals exact nomatch hi

theorem exec_keeps_of_samples (hi : family i = .samples) : u.Keeps t.vital := by
  cases i
  case paramRecordReceive =>
    obtain rfl := Host.Outcome.next.inj he
    simp only [apply_ite State.vital, apply_ite u.Keeps, State.takeFromRing_keeps, State.takeFromTable_keeps, h, ite_self]
  case paramMissing =>
    obtain rfl := Host.Outcome.next.inj he
    repeat' split
    all_goals simp only [State.advance_vital, State.stopSample_keeps, h]
  case sampleAdmit =>
    obtain rfl := Host.Outcome.next.inj he
    dsimp only
    repeat' split
    all_goals simp only [State.admitSlot_keeps, State.postWork_vital, h]
  case fetchReadComplete =>
    obtain rfl := Host.Outcome.next.inj he
    repeat' split
    all_goals simp only [State.askReplica_keeps, State.fetched_keeps, h]
  case replicaFetchResponse =>
    obtain rfl := Host.Outcome.next.inj he
    repeat' split
    all_goals simp only [State.askReplica_keeps, State.fetched_keeps, State.repairUnits_keeps, h]
  case stageComplete =>
    obtain rfl := Host.Outcome.next.inj he
    repeat' split
    all_goals simp only [State.stageEnds_keeps, h]
  case refFrameDecoded =>
    obtain rfl := Host.Outcome.next.inj he
    simp only [apply_ite State.vital, apply_ite u.Keeps, State.refDecoded_keeps, h, ite_self]
  case roiResult =>
    obtain rfl := Host.Outcome.next.inj he
    dsimp only
    repeat' split
    all_goals simp only [State.badParam_keeps, State.bump_vital, State.bump64_vital, State.updWork_vital, h]
  case memberVerdictReceive =>
    obtain rfl := Host.Outcome.next.inj he
    repeat' split
    all_goals simp only [State.takeVerdict_keeps, h]
  case reservePlacementReceive =>
    obtain rfl := Host.Outcome.next.inj he
    repeat' split
    all_goals simp only [State.placeReserve_keeps, h]
  all_goals exact nomatch hi

theorem exec_keeps_of_delivery (hi : family i = .delivery) : u.Keeps t.vital := by
  cases i
  case slotWriteReady =>
    obtain rfl := Host.Outcome.next.inj he
    repeat' split
    all_goals simp only [State.writeSlot_vital, h]
  case rdmaWriteAck =>
    obtain rfl := Host.Outcome.next.inj he
    dsimp only
    repeat' split
    all_goals simp only [State.bump64_vital, State.countEmpty_vital, State.dataAcked_keeps, State.roceHeard_vital, State.setJob_vital,
      State.writesEnded_keeps, h]
  case consumedWordResponse =>
    obtain rfl := Host.Outcome.next.inj he
    dsimp only
    repeat' split
    all_goals simp only [State.roceHeard_vital, State.setJob_vital, State.writesEnded_keeps, h]
  case consumedWordRead =>
    obtain rfl := Host.Outcome.next.inj he
    repeat' split
    all_goals simp only [State.advance_vital, State.sendRead_vital, State.setJob_vital, h]
  case roceAckTimeout =>
    obtain rfl := Host.Outcome.next.inj he
    split
    · dsimp only
      split
      · exact h
      · split
        · rw [foldl_vital (fun s p => State.resend_vital s _ _), State.updQp_vital]
          exact h
        · exact State.qpError_keeps h _
    · exact h
  case recoveryComplete =>
    obtain rfl := Host.Outcome.next.inj he
    dsimp only
    repeat' split
    all_goals simp only [State.advanceCursor_keeps, State.finishAll_vital, State.leaveJob_keeps, State.setJob_vital,
      State.startAudit_vital, h]
  all_goals exact nomatch hi

theorem exec_keeps_of_remote (hi : family i = .remote) : u.Keeps t.vital := by
  cases i
  case windowOpen x => exact keeps_of_packet h (fun w x _ h => ownWindowOpen_keeps h w x) he
  case windowClose x => exact keeps_of_packet h (fun w x _ h => ownWindowClose_keeps h w x) he
  case windowRekey x => exact keeps_of_packet h (fun w x _ h => ownWindowRekey_keeps h w x) he
  case rmaWrite x => exact keeps_of_packet h (fun w x _ h => ownRma_keeps h _ w x) he
  case rmaRead x => exact keeps_of_packet h (fun w x _ h => ownRma_keeps h _ w x) he
  case rmaRequestReceive =>
    obtain rfl := Host.Outcome.next.inj he
    repeat' split
    all_goals simp only [State.refuseRequest_vital, State.serveRequest_keeps, h]
  case rmaResponseReceive =>
    obtain rfl := Host.Outcome.next.inj he
    simp only [State.endRequest_keeps, h]
  case rmaViolationRemote =>
    obtain rfl := Host.Outcome.next.inj he
    simp only [State.raise_vital, h]
  case rmaTimeout =>
    obtain rfl := Host.Outcome.next.inj he
    repeat' split
    all_goals simp only [State.advance_vital, State.endRequest_keeps, h]
  case windowCloseComplete =>
    obtain rfl := Host.Outcome.next.inj he
    dsimp only
    repeat' split
    all_goals simp only [State.vital_mk, State.vital_eta, State.dropRef_keeps, State.finish_vital, h]
  case cursorMirrorTimer =>
    obtain rfl := Host.Outcome.next.inj he
    split
    · rw [foldl_vital (fun s k => State.mirrorInterval_vital s k)]
      exact h
    · exact h
  case mirrorWriteFail =>
    obtain rfl := Host.Outcome.next.inj he
    dsimp only
    repeat' split
    all_goals simp only [State.vital_mk, State.vital_eta, State.mirrorFailed_vital, h]
  case mirrorSetupReceive =>
    obtain rfl := Host.Outcome.next.inj he
    split
    · exact h
    · dsimp only
      split
      next e =>
        rw [State.emit_vital]
        exact State.openMirror_keeps (by simp only [State.closeMirror_vital, h]) _ _ e
      next => simp only [State.emit_vital, State.closeMirror_vital, h]
  case mirrorSetupReply =>
    obtain rfl := Host.Outcome.next.inj he
    simp only [State.updMirror_vital, h]
  case mirrorSetupRetry now =>
    obtain rfl := Host.Outcome.next.inj he
    split
    · refine foldl_keeps (fun s e h => ?_) _ (s := s.advance now) h
      split
      · simp only [apply_ite State.vital, State.emit_vital, State.setJob_vital, ite_self, h]
      · exact h
    · exact h
  case mirrorReleaseReceive =>
    obtain rfl := Host.Outcome.next.inj he
    simp only [apply_ite State.vital, State.closeMirror_vital, h, ite_self]
  all_goals exact nomatch hi

theorem exec_keeps_of_nvmeIo (hi : family i = .nvmeIo) : u.Keeps t.vital := by
  cases i
  case nvmeWrite =>
    exact keeps_of_io h he
  case nvmeRead =>
    exact keeps_of_io h he
  case nvmeFlush =>
    exact keeps_of_io h he
  case nvmeWriteZeroes =>
    exact keeps_of_io h he
  case nvmeDatasetManagement =>
    exact keeps_of_io h he
  case nvmeVerify =>
    exact keeps_of_io h he
  case nvmePowerStateExit =>
    obtain rfl := Host.Outcome.next.inj he
    simp only [State.vital_mk, State.vital_eta, apply_ite State.vital, apply_ite u.Keeps, State.runHeld_keeps, State.setDomain_vital, h,
      ite_self]
  all_goals exact nomatch hi

theorem exec_keeps_of_nvmeAdmin (hi : family i = .nvmeAdmin) : u.Keeps t.vital := by
  cases i
  case nvmeDoorbellWrite =>
    obtain rfl := Host.Outcome.next.inj he
    dsimp only
    repeat' split
    all_goals simp only [State.vital_mk, State.vital_eta, State.advance_vital, h]
  case nvmeAbort =>
    obtain rfl := Host.Outcome.next.inj he
    refine State.nvmeRun_keeps h _ _ (fun s h => ?_)
    dsimp only
    split
    next e => simp only [State.nvDone_vital, State.nvmePost_vital, State.abortNamed_vital e, h]
    next => simp only [State.nvDone_vital, h]
  case nvmeFormatNvm c =>
    obtain rfl := Host.Outcome.next.inj he
    refine State.nvmeRun_keeps h _ _ (fun s h => ?_)
    have hf : u.Keeps ((if c.nsid = 0xFFFFFFFF then s.med.spaces.keys else [c.nsid]).foldl State.formatSpace s).vital :=
      foldl_keeps (fun s n h => State.formatSpace_keeps h n) _ h
    simp only [apply_ite State.vital, apply_ite u.Keeps, State.nvDone_vital, h, hf, ite_self]
  case nvmeSanitize =>
    obtain rfl := Host.Outcome.next.inj he
    refine State.nvmeRun_keeps h _ _ (fun s h => ?_)
    simp only [apply_ite State.vital, State.nvDone_vital, State.startSanitize_vital, ite_self, h]
  case nvmeDeviceSelfTest =>
    obtain rfl := Host.Outcome.next.inj he
    refine State.nvmeRun_keeps h _ _ (fun s h => ?_)
    simp only [apply_ite State.vital, State.nvDone_vital, State.abortSelftest_vital, State.startSelftest_vital, ite_self, h]
  case nvmeIdentify =>
    obtain rfl := Host.Outcome.next.inj he
    refine State.nvmeRun_keeps h _ _ (fun s h => ?_)
    split
    · simp only [State.nvDone_vital, State.emit_vital, h]
    · simp only [State.nvDone_vital, h]
  case nvmeGetLogPage =>
    obtain rfl := Host.Outcome.next.inj he
    refine State.nvmeRun_keeps h _ _ (fun s h => ?_)
    split
    · simp only [State.nvDone_vital, State.emit_vital, h]
    · simp only [State.nvDone_vital, h]
  case nvmeSetFeatures c =>
    obtain rfl := Host.Outcome.next.inj he
    refine State.nvmeRun_keeps h _ _ (fun s h => ?_)
    have hf (s : State) : ((List.range 5).foldl (fun s p => s.storeFeature (0x1000 + p) (field c.data (8 * p) 4)) s).vital = s.vital :=
      foldl_vital (fun s p => State.storeFeature_vital s _ _) _ s
    simp only [apply_ite State.vital, State.nvDone_vital, State.setPowerState_vital, State.storeFeature_vital, hf, ite_self, h]
  case nvmeGetFeatures =>
    obtain rfl := Host.Outcome.next.inj he
    refine State.nvmeRun_keeps h _ _ (fun s h => ?_)
    simp only [apply_ite State.vital, State.nvDone_vital, ite_self, h]
  case nvmeAsyncEventRequest =>
    obtain rfl := Host.Outcome.next.inj he
    refine State.nvmeRun_keeps h _ _ (fun s h => ?_)
    exact h
  case nvmeKeepAlive =>
    obtain rfl := Host.Outcome.next.inj he
    refine State.nvmeRun_keeps h _ _ (fun s h => ?_)
    rw [State.nvDone_vital]
    exact h
  case nvmeCreateQueue =>
    obtain rfl := Host.Outcome.next.inj he
    refine State.nvmeRun_keeps h _ _ (fun s h => ?_)
    simp only [State.createQueue_vital, h]
  case nvmeDeleteQueue =>
    obtain rfl := Host.Outcome.next.inj he
    refine State.nvmeRun_keeps h _ _ (fun s h => ?_)
    simp only [State.deleteQueue_vital, h]
  case nvmeUnsupportedOpcode =>
    obtain rfl := Host.Outcome.next.inj he
    split
    · exact h
    · exact State.nvmeRun_keeps h _ _ (fun s h => by simp only [State.nvDone_vital, h])
  case nvmeCcWrite =>
    obtain rfl := Host.Outcome.next.inj he
    simp only [apply_ite State.vital, State.writeCc_vital, h, ite_self]
  case nvmeShutdownComplete =>
    obtain rfl := Host.Outcome.next.inj he
    simp only [State.vital_mk, State.vital_eta, apply_ite State.vital, State.sealMedia_vital, h, ite_self]
  case nvmePowerStateCommit =>
    obtain rfl := Host.Outcome.next.inj he
    dsimp only
    repeat' split
    all_goals simp only [State.vital_mk, State.vital_eta, State.advance_vital, State.setDomain_vital, h]
  all_goals exact nomatch hi

theorem exec_keeps_of_host (hi : family i = .host) : u.Keeps t.vital := by
  cases i
  case pf0Flr =>
    obtain rfl := Host.Outcome.next.inj he
    simp only [State.nvmeReset_vital, h]
  case pf1Flr =>
    obtain rfl := Host.Outcome.next.inj he
    exact h
  case perstAssert =>
    obtain rfl := Host.Outcome.next.inj he
    simp only [State.vital_mk, State.vital_eta, apply_ite State.vital, State.hostLinkDown_vital, State.resetPf1_vital, h, ite_self]
  case perstDeassert =>
    obtain rfl := Host.Outcome.next.inj he
    exact h
  case pcieLinkDown =>
    obtain rfl := Host.Outcome.next.inj he
    exact h
  case pcieLinkUp =>
    obtain rfl := Host.Outcome.next.inj he
    split
    · exact h
    · dsimp only
      rw [foldl_vital (fun s p => State.nvmeDeliver_vital s _ _ _ _)]
      exact h
  case configurationRequest =>
    obtain rfl := Host.Outcome.next.inj he
    simp only [apply_ite State.vital, State.emit_vital, h, ite_self]
  case liveActivationReady =>
    obtain rfl := Host.Outcome.next.inj he
    repeat' split
    all_goals simp only [State.advance_vital, State.endActivation_vital, h]
  all_goals exact nomatch hi

end

/-- Every row keeps the vital parts. -/
theorem exec_keeps (h : u.Keeps s.vital) (he : exec i s = .next t) : u.Keeps t.vital := by
  have ofVital (ht : t.vital = s.vital) : u.Keeps t.vital := ht ▸ h
  cases hf : family i
  case restart => exact exec_keeps_of_restart h he hf
  case registers => exact exec_keeps_of_registers h he hf
  case device => exact exec_keeps_of_device h he hf
  case recipes => exact exec_keeps_of_recipes h he hf
  case jobs => exact exec_keeps_of_jobs h he hf
  case pools => exact exec_keeps_of_pools h he hf
  case media => exact exec_keeps_of_media h he hf
  case power => exact exec_keeps_of_power h he hf
  case stops => exact exec_keeps_of_stops h he hf
  case tests => exact exec_keeps_of_tests h he hf
  case security => exact exec_keeps_of_security h he hf
  case banks => exact exec_keeps_of_banks h he hf
  case links => exact exec_keeps_of_links h he hf
  case plans => exact exec_keeps_of_plans h he hf
  case samples => exact exec_keeps_of_samples h he hf
  case delivery => exact exec_keeps_of_delivery h he hf
  case remote => exact exec_keeps_of_remote h he hf
  case nvmeIo => exact exec_keeps_of_nvmeIo h he hf
  case nvmeAdmin => exact exec_keeps_of_nvmeAdmin h he hf
  case host => exact exec_keeps_of_host h he hf
  case copies => exact ofVital (kept (exec_outside_of_copies hf he) State.vital)
  case rings => exact ofVital (kept (exec_outside_of_rings hf he) State.vital)
  case brm => exact ofVital (kept (exec_outside_of_brm hf he) State.vital)
  case fabric => exact ofVital (kept (exec_outside_of_fabric hf he) State.vital)
  case shaping => exact ofVital (kept (exec_outside_of_shaping hf he) State.vital)
  case roce => exact ofVital (kept (exec_outside_of_roce hf he) State.vital)
  case live => exact ofVital (kept (exec_outside_of_live hf he) State.vital)

/-- A step keeps the vital parts. -/
theorem step_keeps (hs : step s = .next t) : s.vital.Keeps t.vital := by
  cases hq : s.pending with
  | nil =>
    rw [step_of_nil hq] at hs
    obtain rfl := Host.Outcome.next.inj hs
    exact Vital.Keeps.refl _
  | cons c rest =>
    have he : s = { s with pending := c :: rest } := by rw [← hq]
    rw [he, step_of_cons] at hs
    exact exec_keeps (s := { s with pending := rest }) (Vital.Keeps.refl s.vital) hs

/-- Settles O39: a step keeps the mark of DECOMMISSION. -/
theorem decommissionedStays : Obligations.DecommissionedStays := by
  unfold Obligations.DecommissionedStays
  intro s t hd hs
  exact (step_keeps hs).1 hd

/-- Settles O38: a step keeps the canonical form of the byte memories. -/
theorem stepKeepsMemoryForms : Obligations.StepKeepsMemoryForms := by
  unfold Obligations.StepKeepsMemoryForms
  intro s t hw hs
  exact t.vital_wf_iff.1 ((step_keeps hs).2 (s.vital_wf_iff.2 hw))

end Sys2Proof.Machine
end
